-- ==== Sys2Proof/Word.lean ====
section
/-! DEFINITION. The native word and the other widths of the OZN1010 (R4, R30, R32).

A word is 36 bits; an address is a 32-bit word address, kept as a plain natural number once computed. -/
namespace Sys2Proof

/-- One 36-bit word: the contents of one address (R4). -/
abbrev Word := BitVec 36

/-- One 80-bit accumulator value, two's complement (R32). -/
abbrev A80 := BitVec 80

/-- A word address (R4), as the key of a table. -/
abbrev Addr := Nat

end Sys2Proof
end

