-- ==== Sys2Proof/Kinds.lean ====
section
/-! DEFINITION. The kinds of data the commands carry and the render state is made of: plain data, no behaviour. -/
namespace Sys2Proof.Machine
open Sys2Proof

/-- A sensor reading Hearth publishes (R514): die temperature in signed quarter degrees, voltage in mV, clock monitor with
its deviation in 2^-4 ppm; or a duty (0-9 for orders 1-10) that missed its interval (R517). -/
inductive Sensor where
  | temp (i : Nat) (quarter : Int)
  | volt (i mv : Nat)
  | clock (i : Nat) (present : Bool) (dev : Int)
  | late (duty : Nat)
deriving DecidableEq, Repr

/-- A sparse table: (key, value) pairs, keys strictly rising, no entry equal to what an unlisted key reads as. Ordinary
tables of the model and the memory are all held in this one form. -/
abbrev Sparse (α : Type) := List (Nat × α)

/-- A commit that waits for its period: P, and the words or names it captured (R202, R262, R325). -/
structure Pending (α : Type) where
  at' : Nat
  what : α
deriving DecidableEq, Repr

/-! ### 18: DRAM -/

/-- A request that waits in its channel's queue (R445, R446): its sender, its address, the word of a write, the lap of a delay-line word,
its class 1-5, the bits that flip in a slot before it is read, and whether it put the channel in in-order mode. -/
structure DramReq where
  src : Nat
  a : Nat
  write : Option Word
  lap : Nat
  cls : Nat
  flip : Nat
  cause : Bool
deriving DecidableEq, Repr

/-- What a slot shows once decoded (R441): bits corrected, 0-2; 0 or the KIND of DRC_ERR_ADDR that makes it uncorrectable (1 the code, 2
its ZERO field); the word and its epoch. -/
structure SlotView where
  corr : Nat
  kind : Nat
  word : Word
  epoch : Nat
deriving DecidableEq, Repr

/-- A patrol read: whether it ends a pass, and whether it is the one forced into class 2 (R460). -/
structure Patrol where
  last : Bool
  forced : Bool
deriving DecidableEq, Repr

/-! ### 20: local audio -/

/-- A frame that starts on a TDM port: the port, and the time since the latest tick in ns (R485, R486). -/
structure TdmStart where
  port : Nat
  ns : Nat
deriving DecidableEq, Repr

/-- What a TDM port drives in a frame (R483-R485): the data words, the bits on DOUT from the first bit of slot 0 on, one for each bit clock;
the bit clock, counted from the one in which FSYNC becomes active, in which that first bit falls; in master mode the level of FSYNC in each
bit clock of the frame; and whether DOUT and FSYNC change on BCLK's falling edge. -/
structure TdmOut where
  slots : List Int
  bits : List Bool
  first : Nat
  fsync : List Bool
  falling : Bool
deriving DecidableEq, Repr

/-! ### 05, 06: scene and Locator -/

/-- A scene command, parsed (R119). Object and target fields are kept as the words of their wire groups. -/
inductive SceneCmd where
  /-- OBJECT, FIELDS, its wire words. -/
  | objectSet (obj fields : Nat) (words : List Word)
  /-- OBJECT, APPEND, keyframes: period, INTERP, X, Y, Z. -/
  | keyframes (obj : Nat) (append : Bool) (kf : List (Nat × Nat × List Word))
  | targetSet (t fields : Nat) (words : List Word)
  | recall (index morph : Nat)
  | announce (on : Bool)
deriving DecidableEq, Repr

/-- A scene frame waiting to be taken: where it came from, and its bytes (R117, R121). -/
structure SceneIn where
  host : Bool
  port : Nat
  srcIp : Nat
  srcPort : Nat
  bytes : List Nat
deriving DecidableEq, Repr

/-- A frame accepted for boundary B (R120-R123). -/
structure SceneFrame where
  bnd : Nat
  host : Bool
  peer : Nat
  counter : Nat
  ackApplied : Bool
  /-- This unit was authoritative for it: it sends the acknowledgements, to this port and address. -/
  own : Bool
  port : Nat
  ip : Nat
  udp : Nat
  cmds : List SceneCmd
deriving DecidableEq, Repr

/-- The scene (05): queues, announcement mode. -/
structure Scene where
  queue : List SceneIn
  pending : List SceneFrame
  /-- The latest control-tick boundary dealt with. -/
  boundary : Nat
  /-- Causes of announcement mode in effect: the pin, the partner's pin, the command latch (R130). -/
  annPin : Bool
  annPartner : Bool
  annLatch : Bool
  /-- Pin changes that wait for their boundary E: E, of the partner, level. -/
  annWait : List (Nat × Bool × Bool)
  /-- The mode is on, and the number of ramp samples since normal: 0 normal, 64 fully announced (R131). -/
  annOn : Bool
  annK : Nat
  /-- LOC_HOST_FRAME, by word offset; written while BUSY since the submission (R125). -/
  hostFrame : Sparse Word
  hostDirty : Bool
  /-- The initial scene's OBJECT_KEYFRAMES still to apply at B0 (R128). -/
  initKf : List SceneCmd
deriving DecidableEq, Repr

/-- One slot of a gain vector (R157): feed, gain reached at the end of the previous control tick, target gain. -/
structure Slot where
  valid : Bool
  feed : Nat
  g0 : Int
  g1 : Int
deriving DecidableEq, Repr

/-- What Locator carries and hands over for one object (R150-R155, R160). -/
structure LObj where
  /-- Delay at the last period of the previous control tick and the move of this control tick: over 16 periods, or at once. -/
  d0 : Int
  delta : Int
  atOnce : Bool
  dip : Bool
  /-- Air selections of the previous and of this control tick, 64 bypass. -/
  air0 : Nat
  air : Nat
  /-- The delay target Dt. -/
  dt : Int
  /-- Delay, air absorption is off because it applies on some of the object's targets only (R150). -/
  mixedDelay : Bool
  mixedAir : Bool
deriving DecidableEq, Repr

/-- What the probe shows of one pair (R161). -/
structure LProbe where
  r : Nat
  facet : Nat
  fallback : Bool
  inside : Bool
deriving DecidableEq, Repr

/-- Locator's results for one boundary: the buffer half not yet in force (R22). -/
structure LBuf where
  bnd : Nat
  objs : Sparse LObj
  pairs : Sparse (List Slot)
  probes : Sparse LProbe
  dips : Nat
  deferred : Nat
  fallbacks : Nat
  mixed : Nat
  clamped : Nat
deriving DecidableEq, Repr

/-- Locator (06). Pairs are keyed 8 * object + target. -/
structure Loc where
  objs : Sparse LObj
  pairs : Sparse (List Slot)
  probes : Sparse LProbe
  next : Option LBuf
  /-- Pairs that failed their residue check: consecutive control ticks (R318). -/
  fails : Sparse Nat
  /-- Pairs Locator left unfinished for the coming boundary (R23). -/
  unfinished : List Nat
  /-- LOC_PROBE_SEL was written and no boundary has latched since (R161). -/
  probeArmed : Bool
deriving DecidableEq, Repr

/-! ### 07: the wavefront -/

/-- A source's or line's concealment: count k and held sample (R168, R174). -/
structure Fade where
  k : Nat
  h : Int
  /-- A missing run is in progress. -/
  lost : Bool
deriving DecidableEq, Repr

/-- One delay line (R170-R174, R456, R457). Samples by period. -/
structure Line where
  /-- The newest 512 samples, newest first; none for a period that a correction dropped (R433). -/
  head : List (Option Int)
  /-- The first period the tail holds, and its samples in period order; none where a sample is lost. -/
  tailAt : Nat
  tail : List (Option Int)
  /-- The next period to write back to DRAM. -/
  wb : Nat
  /-- Ages written since the line was last emptied (R457). -/
  fill : Nat
  /-- A jump fill requested for the window whose first period is this, and the window once filled (R173). -/
  jumpAt : Option Nat
  jump : List (Option Int)
  fade : Fade
deriving DecidableEq, Repr

/-- Meter state of a feed (R211). -/
structure Meter where
  peak : Nat
  tp : Nat
  /-- The latest metered samples, newest first, at most 12, for the true-peak filter. -/
  hist : List Int
  m : List Nat
  hold : Nat
  t : Nat
  gov : Nat
  sat : Nat
  held : Bool
  clip : Bool
deriving DecidableEq, Repr

/-- A feed's release state (R177, R178, R321-R325). -/
structure Feed where
  /-- Last released sample. -/
  rel : Int
  /-- Hold-and-ramp: the held sample and the count j; none when the rendered sample stands alone. -/
  hold : Option (Int × Nat)
  /-- The hold-and-ramp is the short one of a period correction (R433). -/
  short : Bool
  /-- Sustain count e. -/
  e : Nat
  /-- Quench causes, bit 0 CHECK, 1 SUSTAIN, 2 PAIR, 3 TABLE; a feed is quenched while it is not 0. -/
  cause : Nat
  /-- Step of the quench ramp; 64 and above is complete. -/
  qk : Nat
  /-- Step of the clear ramp; 64 is complete. -/
  ck : Nat
  meter : Meter
deriving DecidableEq, Repr

/-- A wavefront in flight: what it took at launch and what its first half computed (R162). -/
structure Flight where
  n : Nat
  /-- Every table as it stood at launch (R27, R162). -/
  shadow : Sparse Word
  /-- Mix samples (R192) and the feeds whose store saturated. -/
  mix : Sparse Int
  sat : List Nat
  /-- Feeds whose rendering fails this period: they take hold-and-ramp (R178). -/
  hold : List Nat
  /-- Feeds whose output Temper fails its residue check, and whose output line is residue-failed or starved. -/
  feedResidue : List Nat
  /-- Feeds that render a word with an uncorrectable error: quenched with cause TABLE (R330). -/
  table : List Nat
  starved : List Nat
  lineResidue : List Nat
  /-- Feeds whose mix sum overflowed on the way (R34). -/
  gov : List Nat
  /-- The wavefront renders a past period of an alignment (R187). -/
  catchup : Bool
  /-- The ramp sample of announcement mode for this period (R131). -/
  annK : Nat
  /-- A meter snapshot of this period is due (R213). -/
  snap : Bool
  taint : Bool
  /-- Feeds whose main Quench path goes wrong: the check path finds them above their ceilings (R322). -/
  checks : List Nat
  /-- The first period after a correction: every feed starts the short hold-and-ramp (R433). -/
  short : Bool
  /-- The factor, in 64ths, of the ramps that act on every feed in this period (R70, R324). -/
  factor : Nat
  /-- Temper's bank and cross-fade in force (S, FADE_LOG2, TARGET), and the feeds whose chains use records that the spec makes
  unpredictable (R162, R228, R232). -/
  cur : Nat
  fade : Option (Nat × Nat × Nat)
  torn : List Nat
deriving DecidableEq, Repr

/-- The wavefront (R48, R165-R189). -/
structure Wav where
  /-- N: the period count of the latest launched period (R48). -/
  n : Nat
  flight : Option Flight
  /-- Periods of the overruns within the latest 16 (R183). -/
  overruns : List Nat
  /-- Presence bits of the network input buffer, by SRAM word address (R166). -/
  netPresent : Sparse Bool
  /-- Lane-synthesised sources whose owner passed compare in the latest period (R165). -/
  lanePresent : Sparse Bool
  /-- Presented samples of the latest launch, by source (R168). -/
  presented : Sparse Int
  /-- Sources missing in the latest launch. -/
  missing : List Nat
  srcs : Sparse Fade
  /-- Periods launched since entry to RUN, at most 64: a source that nothing has supplied has counted down by them (R169). -/
  idle : Nat
  /-- The next wavefront is the first after a correction (R433). -/
  short : Bool
  lines : Sparse Line
  /-- The control tick of the latest missing-input log entry (R168). -/
  missTick : Option Nat
  /-- Hash of the latest released period and that period (R348). -/
  hash : Nat
  hashAt : Nat
  /-- Periods within the latest 64 that set TAINT (R351). -/
  taints : List Nat
  /-- LO word of the latest event's period, read through the latch of WAV_EVENT_0. -/
  evLo : Nat
  /-- The tick of N came while a catch-up wavefront was in flight: its launch waits for that wavefront (R20). -/
  owed : Bool
  /-- Catch-up wavefronts completed in this period, and the latest catch-up period (R187, R189). -/
  catchups : Nat
  caught : Nat
deriving DecidableEq, Repr

/-! ### 08, 09, 10: pending commits -/

/-- One captured stage entry of a route commit, its four words (R201): index word, VALUE_0, VALUE_1, the reserved word. -/
structure StageEntry where
  word0 : Word
  v0 : Word
  v1 : Word
  w3 : Word
deriving DecidableEq, Repr

/-- A bank-swap request (R230). -/
structure SwapReq where
  at' : Nat
  fade : Option Nat
  target : Nat
deriving DecidableEq, Repr

/-- Temper (09): chain states, the bank in force, swaps. -/
structure Tpr where
  cur : Nat
  /-- A running cross-fade: S, FADE_LOG2, TARGET. -/
  fade : Option (Nat × Nat × Nat)
  pend : Option SwapReq
  queued : Option SwapReq
  /-- Section states s1, s2 of object chains (16) and feed chains (32); unlisted: zero. -/
  objS : Sparse (List (Int × Int))
  feedS : Sparse (List (Int × Int))
  /-- Concealment of an object's filtered sample after a residue failure (R234). -/
  objFade : Sparse Fade
  /-- Records that a write to the bank in use or during a cross-fade left part new and part old, 0x10000 × bank + record, with the
  words of them that are new (R228). -/
  torn : Sparse Nat
  /-- The partner's latest TPR_BANK_SUM of a starting swap (R233). -/
  partnerSum : Option (Nat × Nat)
deriving DecidableEq, Repr

/-- Crucible's commits and meters (08). -/
structure Cru where
  pend : Option (Pending (List StageEntry))
  /-- A SNAP request waits for its period (R213). -/
  snapReq : Bool
deriving DecidableEq, Repr

/-! ### 14: what is forwarded (R353) -/

/-- An item the ACTIVE forwards to its partner (R353). -/
inductive FwdItem where
  | scene (bytes : List Nat)
  | routeCommit (p : Nat) (entries : List StageEntry)
  | routeCancel
  | swap (p : Nat) (ctl : Word)
  | swapCancel
  | args (pair p first : Nat) (words : List Word)
  | argsCancel (pair : Nat)
  | clear (p : Nat) (ctl : Word)
  | clearCancel
  | ready (item p ticket : Nat)
  | readyCancel (ticket : Nat)
  | handover (p : Nat)
  | bankSum (target sum : Nat)
deriving DecidableEq, Repr

/-- What the PCS of a network port finds: an error within the frame; since the frame before it, errored blocks outside frames and the RS-FEC
codewords corrected and not correctable (R386). -/
structure PcsFinds where
  inFrame : Bool
  blocks : Nat
  corrected : Nat
  uncorrected : Nat
deriving DecidableEq, Repr

/-- What the receiver of a Tongs frame finds: a good frame of a known class, or one that it drops and counts (R345, R346). -/
inductive FrameFind where
  | good
  | badCrc
  | badLength
  | otherClass (code : Nat)
deriving DecidableEq, Repr

/-- The body of a received Tongs frame, in as many fragments as it took, with what the receiver finds. -/
structure Got (α : Type) where
  find : FrameFind
  body : α
deriving DecidableEq, Repr

/-- The HEARTBEAT body (R347), field by field. -/
structure Beat where
  /-- The period reported. -/
  period : Nat
  hash : Nat
  state : Nat
  role : Nat
  taint : Bool
  sending : Bool
  aligned : Bool
  emerg : Bool
  wireOk : Bool
  histInc : Bool
  prioFail : Bool
  fwdFail : Bool
  priority : Nat
  rate : Nat
  serial : Nat
  digest : Nat
  annE : Nat
deriving DecidableEq, Repr

/-! ### 10, 11: a running lane item -/

/-- The slots of a bundle (R265). -/
inductive LSlot where
  | g | m | x | y
deriving DecidableEq, Repr

/-- A lane register that a result can land in (R238, R277, R279). Data registers by physical number (R280). -/
inductive LReg where
  | d (n : Nat) | a (n : Nat) | b (n : Nat) | l (n : Nat) | am | lc | ls | le
  | rrb
  /-- The rotation of a loop-back, applied to the value written (R279, R283). -/
  | rotate
  | im | satm
  /-- The sticky flags: 0 GOV, 1 SOV, 2 FSAT. -/
  | sticky (i : Nat)
  | pred (n : Nat)
deriving DecidableEq, Repr

/-- A result on its way (R277): where it lands, its value, the step from which it is visible, its rank among results that
land there in the same step, the higher standing over the lower (R279). -/
structure Fly where
  reg : LReg
  val : Nat
  due : Nat
  rank : Nat
deriving DecidableEq, Repr

/-- An item executing on a pair, with the registers of its lanes (R238, R240). Both lanes hold the same values (R237). -/
structure LaneRun where
  item : Nat
  /-- 0 lane-window, 1 concurrent, 2 background (R246). -/
  cls : Nat
  /-- The first word of its argument block in Y. -/
  blk : Nat
  d : Sparse Word
  acc : List (List (Nat × Int))
  a : Sparse Nat
  b : Sparse Nat
  l : Sparse Nat
  preds : Nat
  am : Nat
  lc : Nat
  ls : Nat
  le : Nat
  rrb : Nat
  im : Bool
  satm : Bool
  /-- Bit 0 GOV, 1 SOV, 2 FSAT, as MOVG reads them. -/
  sticky : Nat
  pc : Nat
  step : Nat
  fly : List Fly
  /-- Slots of the present bundle that have issued: bit 0 G, 1 M, 2 X, 3 Y. -/
  issued : Nat
  /-- Delay slots still to issue, and where the branch taken goes. -/
  delay : Nat
  target : Option Nat
  /-- The next bundle after the present one, for a loop instruction with count 0. -/
  skip : Option Nat
  /-- END (false) or YIELD (true) has issued. -/
  ending : Option Bool
  /-- Both lanes have reached the end and every compare so far has passed. -/
  agree : Bool
  /-- The present loop rotates (R283); none when no loop instruction of this run started it: it was restored by MOVS. -/
  rotates : Option Bool
  /-- The bundle at LE has issued with LC above 1: execution returns to LS (R281). -/
  loopDue : Bool
  /-- Commit buffer of a period item, newest first: word address in the lane's Y (0x10000 + w) or X (w), and the word (R257). -/
  buf : List (Nat × Word)
  /-- The outstanding crossbar load: physical register, address (R276). -/
  xld : Option (Nat × Nat)
  /-- Consecutive bundles issued with IM visible as 1 (R290). -/
  masked : Nat
  /-- A pre-emption request is outstanding (R285), and was taken. -/
  request : Bool
  taken : Bool
  /-- Bundles issued (R284). -/
  count : Nat
  /-- The graph node that runs the item, if one does (R312). -/
  node : Option Nat
deriving DecidableEq, Repr

/-- A descriptor read from the item table (R292). -/
structure Item where
  valid : Bool
  cls : Nat
  delayed : Bool
  pair : Nat
  stage : Nat
  entry : Nat
  arg : Nat
  bundles : Nat
deriving DecidableEq, Repr

/-- What became of a period item in the present period. -/
inductive ItemEnd where
  /-- Running on its home pair, or on a retry pair. -/
  | running | retrying
  | passed
  /-- Lost under R185, or by a program fault (R260). -/
  | lost
deriving DecidableEq, Repr

/-- A background item (R297): 0 IDLE, 1 READY, 2 RUNNING, 3 PREEMPTED, 4 STOPPED; `since` orders entry to the state. -/
structure BgItem where
  st : Nat
  since : Nat
  /-- Delay-list slots it still keeps until it starts (R302). -/
  slots : List Nat
  /-- READY to run again from its entry, after a compare failure or a watchdog stop (R290, R298). -/
  again : Bool
deriving DecidableEq, Repr

/-- A delay-list entry (R299). -/
structure DelayEntry where
  item : Nat
  at' : Nat
deriving DecidableEq, Repr

/-- How an UPDATE_WRITE goes at the flash: the first of its pages whose program or erase the flash reports as failed, and the pages
programmed when a further command may come first; with none the command ends before one does (R533, R534; log entry 55). -/
structure FlashRun where
  fail : Option Nat
  upTo : Option Nat
deriving DecidableEq, Repr

/-- How a VERIFY goes: the flash words that time out, and whether a further command may come before its end (R533, R535). -/
structure VerifyRun where
  timeouts : List (Nat × Nat)
  waits : Bool
deriving DecidableEq, Repr

/-- How a FUSE_ADVANCE goes: the fuses that read back blown before one does not, and those blown when a further command may come first
(R533, R539). -/
structure FuseRun where
  good : Nat
  upTo : Option Nat
deriving DecidableEq, Repr

/-- An update command in progress (R533): WRITE of `data` from page `p0` of a slot, its next page `i` and the page that fails; VERIFY of
a slot; FUSE_ADVANCE of `n` anti-rollback and `f` floor fuses, `good` of which read back blown, `i` of them so far. -/
inductive UpdJob where
  | write (slot p0 : Nat) (data : List Nat) (fail : Option Nat) (i : Nat)
  | verify (slot : Nat) (timeouts : List (Nat × Nat))
  | fuses (n f good i : Nat)
deriving DecidableEq, Repr

/-- A running cross-test (R307): home pair (or 32 + j for lanes 64 + 2j on that failed a retry, R306), its two lanes, which of them is
under test, tester lane, next chunk, lanes that mismatched with their testers. -/
structure CrossTest where
  pair : Nat
  lanes : Nat × Nat
  which : Nat
  tester : Nat
  chunk : Nat
  bad : List (Nat × Nat)
deriving DecidableEq, Repr

/-- A pair being re-formed (R308, R309): its lanes after the takeover, the new ones among them, whether the image gives their
contents (both lanes retired), and whether the copy is complete. -/
structure Rebuild where
  pair : Nat
  lanes : Nat × Nat
  new : List Nat
  reload : Bool
  copied : Bool
deriving DecidableEq, Repr

/-- Internal faults of the render path in one period, by the checker that sees them (R210, R234, R317). -/
structure RenderFaults where
  /-- Crucible banks, 0-511, whose check fails. -/
  banks : List Nat
  /-- Objects and feeds whose Temper chain fails its residue check. -/
  objs : List Nat
  feeds : List Nat
  /-- Delay lines whose read fails its check, and sources whose staging does. -/
  lines : List Nat
  srcs : List Nat
  /-- Feeds whose main Quench path goes wrong, found by the check path (R322). -/
  checks : List Nat
  /-- Words that an error has struck since the tick before, by address: in one bit, and in more than the code corrects (R328, R330). -/
  soft : List Nat
  hard : List Nat
  /-- Lane contexts, one lane of which alone raises a program fault in its next bundle (R256). -/
  lanes : List Nat
deriving DecidableEq, Repr

/-- A command to a Bellows command port: the port, and whether the one before it still runs (R305). -/
structure BelCmd where
  port : Nat
  busy : Bool
deriving DecidableEq, Repr

/-! ### 15, 16: frames on their way -/

/-- What waits in a transmit queue: an Ethernet frame without FCS, or a UDP datagram whose frame the port builds. -/
inductive TxBody where
  | raw (bytes : List Nat)
  | dgram (src : Option Nat) (ip udp : Nat) (payload : List Nat)
deriving DecidableEq, Repr

/-- One frame of a transmit queue (R382-R384): the transmit ring it came from with its descriptors, and whether its egress
timestamp is wanted. -/
structure TxFrame where
  body : TxBody
  ring : Option Nat
  descs : List Nat
  ts : Bool
deriving DecidableEq, Repr

/-- A ring-bound received frame (R378-R380): without tag and FCS; its receive timestamp; bytes already in buffers and the
descriptors they took; when its wait began. -/
structure RxFrame where
  reason : Nat
  bytes : List Nat
  sec : Nat
  ns : Nat
  frac : Nat
  tagged : Bool
  tci : Nat
  put : Nat
  descs : List Nat
  since : Nat
deriving DecidableEq, Repr

/-! ### 03, 04: what a start meets outside the chip -/

/-- What LOAD meets that the state does not decide: the flash's answers, the loops' measured bands and locks, the training and the
self-tests, and the time it took (R75, R78, R98, R416, R417, R454). -/
structure LoadEnv where
  /-- The flash answers, and its SFDP table lists a 4-byte quad read (R78). -/
  flashOk : Bool
  /-- Reads that time out: 4 KiB block of the slot, consecutive time-outs (R98). -/
  timeouts : List (Nat × Nat)
  /-- The measured band tables: 64 × loop + band, CLK_x_BAND_b as written (R416). -/
  bands : List (Nat × Word)
  /-- Loops that fail to lock: loop, code of R417. -/
  lockFail : List (Nat × Nat)
  /-- Ranks that fail full training: 2 × channel + rank, procedure of R454. -/
  train : List (Nat × Nat)
  /-- A non-lane block that fails its start-up self-test: the DETAIL that names it (R73). -/
  selfTest : Option Nat
  /-- Lanes that fail their start-up self-test (R75). -/
  lanes : List Nat
  /-- Milliseconds from reset release to the end of LOAD (R75). -/
  ms : Nat
deriving DecidableEq, Repr

/-! ### 04: the image as its checks read it -/

/-- A section-table entry (R86). -/
structure SecEntry where
  idx : Nat
  typ : Nat
  flags : Nat
  off : Nat
  len : Nat
  words : Nat
  key : Nat
  iv : List Nat
  tag : List Nat
  crc : Nat
  /-- Bytes 0x00-0x1F, the additional authenticated data (R87), and the reserved bytes. -/
  aad : List Nat
  rest : List Nat
deriving DecidableEq, Repr

/-- A record other than END: KIND, destination or parameter ID, COUNT, data. -/
structure Rec where
  kind : Nat
  dest : Nat
  count : Nat
  data : List Word
deriving DecidableEq, Repr

/-- A section whose records are parsed. -/
structure Sec' where
  e : SecEntry
  recs : List Rec
deriving DecidableEq, Repr

/-- What a verified image holds. -/
structure Image where
  bytes : List Nat
  digest : Nat
  signer : Nat
  fw : List Nat
  keys : List (Nat × Nat)
  renderDigest : Nat
  secs : List Sec'
  owner : List Word
deriving DecidableEq, Repr

end Sys2Proof.Machine
end

