-- ==== Sys2Proof/Syntax.lean ====
section
/-! DEFINITION. The commands: one constructor per row of spec/opcode_table.json, with the operands the outside gives it. -/
namespace Sys2Proof

open Sys2Proof.Machine

/-- A command or event of the OZN1010. Each constructor names its rule. What the block senses, measures or is late with is an operand of
the command that tells it (log entry 9). -/
inductive Instr where
  /-- REGISTER_WRITE (R5). A master writes a register that has no row of its own, with the access behaviour of its fields. -/
  | registerWrite (m a : Nat) (w : Word)
  /-- RC_READ (R5). A read of a register with cleared-by-read fields returns the value and then clears it. -/
  | rcRead (m a : Nat)
  /-- LATCHING_READ (R561). A read of the first word of a latched two-word pair latches its companion words. -/
  | latchingRead (m a : Nat)
  /-- PAIR_STAGE_WRITE (R40). A write to the even word of a complement pair is held in the writing master's staging register. -/
  | pairStageWrite (m a : Nat) (w : Word)
  /-- PAIR_COMMIT_WRITE (R40). A write to A + 1 commits the staged complement pair whole, or is rejected and counted. -/
  | pairCommitWrite (m a : Nat) (w : Word)
  /-- PAIR_STAGE_TIMEOUT (R41). A staged word waits 1 ms without its matching write and is discarded, counted and logged. -/
  | pairStageTimeout (m : Nat)
  /-- MAIN_RAILS_RISE (R66). The main rails rise and the device enters RESET. -/
  | mainRailsRise
  /-- MAIN_RAILS_REMOVED (R56). The main rails are lost, announced or not, and the device goes to COCOON or OFF. -/
  | mainRailsRemoved
  /-- VBAT_RISE (R66). VBAT rises with the main rails absent and the calendar starts in COCOON. -/
  | vbatRise
  /-- PORST_L (R57). A filtered low level on PORST_L performs a complete cold reset. -/
  | porstL (widthNs : Nat)
  /-- WRST_L (R58). A filtered low level on WRST_L performs a complete warm reset. -/
  | wrstL (widthNs : Nat)
  /-- RAIL_BELOW_THRESHOLD (R565). A main rail stays below its reset threshold for 10 µs and raises a cold reset. -/
  | railBelowThreshold (rail mv : Nat)
  /-- BOOT_SELF_CHECK_COMPLETE (R66). The boot ROM self-check ends and the device enters LOAD or stays in RESET. -/
  | bootSelfCheckComplete (pass otpOk rngOk : Bool)
  /-- LOAD_COMPLETE (R97). LOAD finishes its checks and enters ARMED or HOLD with a reason. -/
  | loadComplete (e : LoadEnv)
  /-- HEARTH_WATCHDOG (R61). The Hearth watchdog expires after 100 ms unserviced and restarts Hearth, or warm-resets on a second expiry within 10 s. -/
  | hearthWatchdog (sinceMs : Nat)
  /-- HEARTH_RESTART_COMPLETE (R61). A Hearth restart finishes and the waiting duties resume. -/
  | hearthRestartComplete
  /-- RETRY (R102). SYS_CMD RETRY re-runs LOAD from slot selection. -/
  | retry (m key : Nat)
  /-- CONTINUE (R77). SYS_CMD CONTINUE leaves HOLD for ARMED or clears the stop hold in ARMED. -/
  | continueCmd (m key : Nat)
  /-- STOP (R69). SYS_CMD STOP ramps every feed to zero and moves RUN to ARMED. -/
  | stop (m key : Nat)
  /-- SAFE_ENTER (R70). SYS_CMD SAFE_ENTER takes the device to SAFE. -/
  | safeEnter (m key : Nat)
  /-- SAFE_CLEAR (R70). SYS_CMD SAFE_CLEAR returns SAFE to ARMED when no cause remains. -/
  | safeClear (m key : Nat)
  /-- WARM_RESET (R61). SYS_CMD WARM_RESET performs a warm reset. -/
  | warmReset (m key : Nat)
  /-- COLD_RESET (R61). SYS_CMD COLD_RESET performs a cold reset. -/
  | coldReset (m key : Nat)
  /-- HOLD_ENTER (R66). SYS_CMD HOLD_ENTER moves ARMED to HOLD. -/
  | holdEnter (m key : Nat)
  /-- LOAD_HOST (R101). SYS_CMD LOAD_HOST verifies and loads the image staged by the host. -/
  | loadHost (m key : Nat)
  /-- SYS_MRST (R63). Setting GO in SYS_MRST resets one master and drains its transactions. -/
  | sysMrst (m : Nat) (w : Word)
  /-- MASTER_DRAIN_COMPLETE (R468). The drain of a reset master completes and the master may issue again. -/
  | masterDrainComplete (m : Nat)
  /-- RUN_ENTRY (R67). ARMED passes to RUN at the first control-tick boundary at least 2 ms after every condition holds. -/
  | runEntry (ms : Nat)
  /-- ARMED_TIMEOUT (R68). The ARMED timeout expires and the device enters RUN in free-run on XO. -/
  | armedTimeout
  /-- STOP_RAMP_COMPLETE (R69). The 64-sample ramp of STOP completes, streams stop and the stop hold is set. -/
  | stopRampComplete
  /-- PERIOD_TICK (R15). The MPLL period timer issues a tick that launches the real-time wavefront of its period. -/
  | periodTick (g : RenderFaults)
  /-- WAVEFRONT_COMPLETE (R177). The last release group is released and the wavefront completes. -/
  | wavefrontComplete (time : Nat)
  /-- WAVEFRONT_WATCHDOG (R180). At the next tick the watchdog stops an incomplete wavefront, holds unreleased feeds and drains it. -/
  | wavefrontWatchdog (groups : Nat)
  /-- CATCHUP_WAVEFRONT (R187). An aligning standby renders one past period in the slack and compares its hash. -/
  | catchupWavefront
  /-- CONTROL_TICK (R21). A control tick begins at a period that is a multiple of 16 and Locator buffers swap. -/
  | controlTick
  /-- METER_AUTO_SNAPSHOT (R213). Every AUTO control ticks an automatic meter snapshot is requested. -/
  | meterAutoSnapshot
  /-- LOCATOR_COMPLETE (R22). Locator finishes computing gain vectors, delays and air selections for the next boundary. -/
  | locatorComplete (unfinished : List Nat) (time : Nat)
  /-- JUMP_FILL_COMPLETE (R173). The DRAM controller completes a jump fill of 512 words. -/
  | jumpFillComplete (l : Nat)
  /-- HEAD_WRITE_BACK (R172). The filler writes a head sample back to DRAM before it reaches age 512. -/
  | headWriteBack (l : Nat)
  /-- TAIL_FILL (R171). The filler prefetches tail-window samples to keep the 1 ms lead. -/
  | tailFill (l : Nat)
  /-- SCENE_FRAME_TAKE (R121). The authoritative unit takes a frame from the scene queue and checks it. -/
  | sceneFrameTake
  /-- LOC_HOST_SUBMIT (R125). The host submits a scene frame written to LOC_HOST_FRAME. -/
  | locHostSubmit (m : Nat) (w : Word)
  /-- LOC_PROBE_SEL (R161). Writing the probe selection clears READY and requests a latch. -/
  | locProbeSel (w : Word)
  /-- ROUTE_CTRL_WRITE (R198). A write to a route CTRL word is held in the master's route staging register. -/
  | routeCtrlWrite (m e : Nat) (w : Word)
  /-- ROUTE_GAIN_WRITE (R198). A write to a route GAIN word commits the entry, or refuses an invalid CTRL. -/
  | routeGainWrite (m e : Nat) (w : Word)
  /-- ROUTE_STAGE_TIMEOUT (R198). A held route CTRL waits 1 ms without its GAIN write and is discarded. -/
  | routeStageTimeout (m : Nat)
  /-- DESTINATION_WRITE (R208). A feed destination word is written, or refused for a conflict. -/
  | destinationWrite (m dest : Nat) (w : Word)
  /-- ROUTE_COMMIT (R202). GO in CRU_COMMIT_CTL checks and accepts a staged route commit for period P. -/
  | routeCommit (m count : Nat)
  /-- ROUTE_COMMIT_CANCEL (R205). CANCEL in CRU_COMMIT_CTL removes a pending route commit if early enough. -/
  | routeCommitCancel (m : Nat)
  /-- ROUTE_COMMIT_APPLY (R203). A pending route commit applies its stage entries at the launch of P. -/
  | routeCommitApply
  /-- SNAP (R213). A write of SNAP requests a meter snapshot of the next period. -/
  | snap (m : Nat) (w : Word)
  /-- BANK_SWAP_REQUEST (R230). GO in TPR_SWAP_CTL checks and places a bank swap request. -/
  | bankSwapRequest (m : Nat) (ctl : Word)
  /-- BANK_SWAP_CANCEL (R233). CANCEL in TPR_SWAP_CTL removes a pending or queued swap. -/
  | bankSwapCancel (m : Nat)
  /-- BANK_SWAP_START (R231). A swap starts at its period, instantly or as a cross-fade, and bank sums are exchanged. -/
  | bankSwapStart
  /-- FADE_END (R231). A cross-fade ends after F periods and the target bank becomes current. -/
  | fadeEnd
  /-- ARGUMENT_COMMIT (R262). GO in LAN_ACOMMIT_CTL checks and accepts an argument commit. -/
  | argumentCommit (m p first count : Nat)
  /-- ARGUMENT_COMMIT_CANCEL (R262). CANCEL in LAN_ACOMMIT_CTL removes a pending argument commit. -/
  | argumentCommitCancel (m p : Nat)
  /-- ARGUMENT_COMMIT_APPLY (R262). A pending argument commit changes the argument words at the launch of P. -/
  | argumentCommitApply (p : Nat)
  /-- ITEM_DISPATCH (R294). Bellows dispatches a period item to its pair with the dispatch register values. -/
  | itemDispatch (item : Nat)
  /-- NOP (R267). A lane slot instruction that does nothing. -/
  | laneNop (p : Nat) (slot : LSlot) (rest : Nat)
  /-- MOV (R269). Lane ALU copies one data register to another. -/
  | laneMov (p dd ds g : Nat)
  /-- ADD (R269). Lane ALU adds two data registers modulo 2^36. -/
  | laneAdd (p dd ds g : Nat)
  /-- SUB (R269). Lane ALU subtracts two data registers modulo 2^36. -/
  | laneSub (p dd ds g : Nat)
  /-- ADDS (R269). Lane ALU adds with saturation, setting FSAT. -/
  | laneAdds (p dd ds g : Nat)
  /-- SUBS (R269). Lane ALU subtracts with saturation, setting FSAT. -/
  | laneSubs (p dd ds g : Nat)
  /-- AND (R269). Lane ALU bitwise AND. -/
  | laneAnd (p dd ds g : Nat)
  /-- OR (R269). Lane ALU bitwise OR. -/
  | laneOr (p dd ds g : Nat)
  /-- XOR (R269). Lane ALU bitwise XOR. -/
  | laneXor (p dd ds g : Nat)
  /-- NOT (R269). Lane ALU bitwise NOT. -/
  | laneNot (p dd ds g : Nat)
  /-- NEG (R269). Lane ALU negation. -/
  | laneNeg (p dd ds g : Nat)
  /-- ABS (R269). Lane ALU absolute value with saturation of the most negative value. -/
  | laneAbs (p dd ds g : Nat)
  /-- MIN (R269). Lane ALU signed minimum. -/
  | laneMin (p dd ds g : Nat)
  /-- MAX (R269). Lane ALU signed maximum. -/
  | laneMax (p dd ds g : Nat)
  /-- SHL (R269). Lane ALU left shift by a register amount. -/
  | laneShl (p dd ds g : Nat)
  /-- SHR (R269). Lane ALU logical right shift by a register amount. -/
  | laneShr (p dd ds g : Nat)
  /-- SAR (R269). Lane ALU arithmetic right shift by a register amount. -/
  | laneSar (p dd ds g : Nat)
  /-- SHLI (R269). Lane ALU left shift by an immediate. -/
  | laneShli (p dd imm g : Nat)
  /-- SARI (R269). Lane ALU arithmetic right shift by an immediate. -/
  | laneSari (p dd imm g : Nat)
  /-- ADDI (R269). Lane ALU adds a signed 5-bit immediate. -/
  | laneAddi (p dd imm g : Nat)
  /-- CMPEQ (R269). Lane compare for equality into a predicate. -/
  | laneCmpeq (p dd ds g : Nat)
  /-- CMPLT (R269). Lane signed less-than compare into a predicate. -/
  | laneCmplt (p dd ds g : Nat)
  /-- CMPLE (R269). Lane signed less-or-equal compare into a predicate. -/
  | laneCmple (p dd ds g : Nat)
  /-- CMPLTU (R269). Lane unsigned less-than compare into a predicate. -/
  | laneCmpltu (p dd ds g : Nat)
  /-- MOVS (R270). Lane move of a data register into a special register. -/
  | laneMovs (p dd ds g : Nat)
  /-- MOVG (R270). Lane move of a special register into a data register. -/
  | laneMovg (p dd ds g : Nat)
  /-- SETRRB (R269). Lane sets the rotating register base. -/
  | laneSetrrb (p ds g : Nat)
  /-- MASK (R269). Lane masks interrupts. -/
  | laneMask (p g : Nat)
  /-- UNMASK (R269). Lane unmasks interrupts. -/
  | laneUnmask (p g : Nat)
  /-- END (R284). Lane ends the item after its two delay slots, with the end compare. -/
  | laneEnd (p g : Nat) (agree : Bool)
  /-- YIELD (R284). A background item returns to Bellows as pre-empted. -/
  | laneYield (p g : Nat) (agree : Bool)
  /-- LDI (R268). Lane loads a zero-extended 13-bit immediate. -/
  | laneLdi (p dd imm : Nat)
  /-- BR (R271). Lane branch taken when its predicate is 1, after two delay slots. -/
  | laneBr (p g target : Nat)
  /-- BRN (R271). Lane branch taken when its predicate is 0. -/
  | laneBrn (p g target : Nat)
  /-- JR (R271). Lane jump to the bundle address in a data register. -/
  | laneJr (p g n : Nat)
  /-- LOOP (R281). Lane starts a hardware loop with an immediate count. -/
  | laneLoop (p last count : Nat)
  /-- LOOPR (R281). Lane starts a hardware loop with a register count. -/
  | laneLoopr (p last n : Nat)
  /-- RLOOP (R283). Lane starts a rotating hardware loop with an immediate count. -/
  | laneRloop (p last count : Nat)
  /-- RLOOPR (R283). Lane starts a rotating hardware loop with a register count. -/
  | laneRloopr (p last n : Nat)
  /-- LOOP_BACK (R281). The bundle at LE issues with LC above 1 and execution returns to LS, rotating if required. -/
  | laneLoopBack (p : Nat)
  /-- MAC (R272). Lane multiply-accumulate in the SR mode. -/
  | laneMac (p ra rb ac aln : Nat) (neg : Bool)
  /-- MACW (R272). Lane multiply-accumulate in WRAP mode. -/
  | laneMacw (p ra rb ac aln : Nat) (neg : Bool)
  /-- MACS (R272). Lane multiply-accumulate in SAT mode. -/
  | laneMacs (p ra rb ac aln : Nat) (neg : Bool)
  /-- MAC4V (R272). Four vector multiply-accumulates in the SR mode. -/
  | laneMac4v (p ra rb aln : Nat) (neg : Bool)
  /-- MAC4VW (R272). Four vector multiply-accumulates in WRAP mode. -/
  | laneMac4vw (p ra rb aln : Nat) (neg : Bool)
  /-- MAC4VS (R272). Four vector multiply-accumulates in SAT mode. -/
  | laneMac4vs (p ra rb aln : Nat) (neg : Bool)
  /-- MAC4S (R272). Four scalar-times-vector multiply-accumulates in the SR mode. -/
  | laneMac4s (p ra rb aln : Nat) (neg : Bool)
  /-- MAC4SW (R272). Four scalar-times-vector multiply-accumulates in WRAP mode. -/
  | laneMac4sw (p ra rb aln : Nat) (neg : Bool)
  /-- MAC4SS (R272). Four scalar-times-vector multiply-accumulates in SAT mode. -/
  | laneMac4ss (p ra rb aln : Nat) (neg : Bool)
  /-- MAC4R (R272). Four products reduced into one accumulator in the SR mode. -/
  | laneMac4r (p ra rb ac aln : Nat) (neg : Bool)
  /-- MAC4RW (R272). Four products reduced into one accumulator in WRAP mode. -/
  | laneMac4rw (p ra rb ac aln : Nat) (neg : Bool)
  /-- MAC4RS (R272). Four products reduced into one accumulator in SAT mode. -/
  | laneMac4rs (p ra rb ac aln : Nat) (neg : Bool)
  /-- MUL (R272). Lane multiply into an accumulator. -/
  | laneMul (p ra rb ac aln : Nat) (neg : Bool)
  /-- MUL4R (R272). Lane sum of four products into an accumulator. -/
  | laneMul4r (p ra rb ac aln : Nat) (neg : Bool)
  /-- CLR (R272). Lane clears an accumulator. -/
  | laneClr (p ac : Nat)
  /-- LDA (R273). Lane loads an aligned operand into an accumulator. -/
  | laneLda (p ra ac aln : Nat) (neg : Bool)
  /-- ADDA (R273). Lane adds an aligned operand to an accumulator in the SR mode. -/
  | laneAdda (p ra ac aln : Nat) (neg : Bool)
  /-- ADDAW (R273). Lane adds an aligned operand in WRAP mode. -/
  | laneAddaw (p ra ac aln : Nat) (neg : Bool)
  /-- ADDAS (R273). Lane adds an aligned operand in SAT mode. -/
  | laneAddas (p ra ac aln : Nat) (neg : Bool)
  /-- RND (R274). Lane rounds and saturates an accumulator into a data register. -/
  | laneRnd (p ra sh ac : Nat)
  /-- ACCGET (R274). Lane reads one part of an accumulator without rounding. -/
  | laneAccget (p ra part ac : Nat)
  /-- ACCPUT (R274). Lane writes one part of an accumulator. -/
  | laneAccput (p ra part ac : Nat)
  /-- LD (R275). Lane loads an X or Y word with immediate post-modification. -/
  | laneLd (p : Nat) (y : Bool) (d a mod : Nat) (corr : Bool)
  /-- ST (R275). Lane stores an X or Y word, compared between the lanes. -/
  | laneSt (p : Nat) (y : Bool) (d a mod : Nat) (agree : Bool)
  /-- LDR (R275). Lane load with register post-modification. -/
  | laneLdr (p : Nat) (y : Bool) (d a n : Nat) (corr : Bool)
  /-- STR (R275). Lane store with register post-modification. -/
  | laneStr (p : Nat) (y : Bool) (d a n : Nat) (agree : Bool)
  /-- AMOD (R244). Lane post-modifies an address register only. -/
  | laneAmod (p : Nat) (y : Bool) (a mod : Nat)
  /-- XLD (R276). A background item issues a crossbar load. -/
  | laneXld (p d a mod : Nat) (agree : Bool)
  /-- XST (R276). A background item posts a crossbar store. -/
  | laneXst (p d a mod : Nat) (agree : Bool)
  /-- XLD_ARRIVAL (R276). The data of an outstanding crossbar load arrives and waiting bundles proceed. -/
  | laneXldArrival (p fault waited : Nat)
  /-- PREEMPTION_POINT (R296). At 5,200 ns before the tick Bellows raises the pre-emption request. -/
  | preemptionPoint
  /-- PREEMPTION_ENTRY (R286). The request is taken before a bundle, the pipeline drains and the handler starts. -/
  | preemptionEntry (p : Nat) (agree : Bool)
  /-- BELLOWS_WATCHDOG (R290). A masked run reaches 2,049 bundles or the tick arrives and the background item is stopped. -/
  | bellowsWatchdog (p : Nat)
  /-- BACKGROUND_ITEM_START (R296). Bellows starts a READY or PREEMPTED background item in the slack. -/
  | backgroundItemStart (p : Nat)
  /-- READY (R300). A READY command places a DELAYED item in the delay list and returns a ticket. -/
  | ready (m : Nat) (h : BelCmd) (item : Nat)
  /-- DELAY_LIST_CANCEL (R303). A CANCEL command removes a delay-list entry or reports why not. -/
  | delayListCancel (m : Nat) (h : BelCmd) (ticket : Nat)
  /-- CROSS_TEST_CHUNK (R307). A chunk of the lane test sequence runs on a suspect lane and a pool lane. -/
  | crossTestChunk (matched : Bool)
  /-- LANE_COPY (R309). A pool lane's memories are copied from the surviving lane in the slack. -/
  | laneCopy (p : Nat)
  /-- GRAPH_START (R313). START runs a dataflow graph and fires the nodes with threshold 0. -/
  | graphStart (m count : Nat)
  /-- GRAPH_STOP (R313). STOP ends a running graph once running nodes complete. -/
  | graphStop (m : Nat)
  /-- NODE_COMPLETE (R313). A graph node completes or fails and tokens pass to its successors. -/
  | nodeComplete (k : Nat) (ok : Bool)
  /-- QUENCH_CLEAR (R325). GO in QCH_CLEAR_CTL accepts a quench-clear commit for one feed or all. -/
  | quenchClear (m : Nat) (ctl : Word)
  /-- QUENCH_CLEAR_CANCEL (R325). CANCEL in QCH_CLEAR_CTL removes a pending clear. -/
  | quenchClearCancel (m : Nat)
  /-- QUENCH_CLEAR_APPLY (R325). At P the named quenched feeds reset their count and ramp up from zero. -/
  | quenchClearApply
  /-- LATCH_CLEAR (R320). A write of 1 to a QCH_FAULT or QCH_WARN bit clears it only if its condition is absent. -/
  | latchClear (m : Nat) (isFault : Bool) (w : Word)
  /-- STATIC_CRC_CHECK (R96). Hearth rechecks each STATIC section's CRC and has a mismatch rewritten or faulted. -/
  | staticCrcCheck
  /-- SCRUB_PASS (R329). The scrubber reads a region, corrects single errors and writes them back conditionally. -/
  | scrubPass (region : Nat) (found : List (Nat × Option Word × Bool))
  /-- LATENT_TEST (R331). A checker is exercised in the slack and a failure latches LATENT_TEST. -/
  | latentTest (t : Nat) (pass : Bool)
  /-- LATENT_OVERDUE (R332). 60 s pass without a complete scrub and latent-test cycle and the warning is latched. -/
  | latentOverdue
  /-- PIN_READBACK (R333). The safety monitor compares SAFE_L and FAULT_L with their drive, latching PIN after ten mismatches. -/
  | pinReadback (safePin faultPin : Bool)
  /-- QUENCH_IN_L_FILTERED (R334). The filtered level of QUENCH_IN_L changes, low taking the device to SAFE. -/
  | quenchInLFiltered (runs : List (Bool × Nat))
  /-- EMERG_IN_FILTERED (R130). The filtered level of EMERG_IN changes and an announcement boundary E is set and shared. -/
  | emergInFiltered (runs : List (Bool × Nat))
  /-- GP_FILTERED (R334). The filtered level of a GP input changes. -/
  | gpFiltered (n : Nat) (runs : List (Bool × Nat))
  /-- PIN_STUCK (R334). An input stays at an enabled level for STUCK_S seconds and STUCK is set. -/
  | pinStuck (pin seconds : Nat)
  /-- PIN_GP_CFG (R335). A write to a GP filter configuration takes effect at the next filter step. -/
  | pinGpCfg (n : Nat) (w : Word)
  /-- RAIL (R317). A main rail stays outside its operating range for 10 µs and the device-level fault RAIL latches. -/
  | rail (rail mv : Nat)
  /-- THERMAL (R317). A die temperature comparator reads above 145 °C and THERMAL latches. -/
  | thermal (quarter : Int)
  /-- XO_LOSS (R336). The XO monitor detects XO stopped and the safety monitor latches CLOCK and enters SAFE. -/
  | xoLoss
  /-- HEARTBEAT (R352). A partner heartbeat arrives over Tongs and hashes, roles and flags are compared. -/
  | heartbeat (b : Beat) (find : FrameFind)
  /-- FORWARD (R354). A FORWARD frame arrives and the standby applies it in FWD_SEQ order and acknowledges. -/
  | forward (q : Nat) (item : FwdItem) (find : FrameFind)
  /-- FWD_ACK (R354). A forward acknowledgement arrives and the forward is no longer outstanding. -/
  | fwdAck (q : Got Nat)
  /-- FORWARD_RESEND (R354). An unacknowledged forward is resent every 10 µs. -/
  | forwardResend
  /-- FWD_FAIL (R354). A forward stays unacknowledged for 16 periods and the standby realigns. -/
  | fwdFail
  /-- FWD_GAP_TIMEOUT (R354). A gap in FWD_SEQ stays unfilled for 16 periods and the standby realigns. -/
  | fwdGapTimeout
  /-- PRESENCE (R349). A partner presence bitmap arrives and is kept for 64 periods. -/
  | presence (n : Nat) (sources : Got (List Nat))
  /-- MEND (R356). A mended packet from the partner is matched to a receive stream and merged. -/
  | mend (firstSource channels width firstPeriod samples : Nat) (payload : Got (List Nat))
  /-- ALIGN_REQ (R357). The ACTIVE receives an alignment request and answers with ALIGN_AT. -/
  | alignReq
  /-- ALIGN_AT (R357). The standby receives the alignment period and starts buffering inputs. -/
  | alignAt (p : Nat) (id : Got Nat)
  /-- SNAPSHOT (R359). A snapshot frame arrives and its words are staged. -/
  | snapshot (id offset : Nat) (ws : Got (List Word))
  /-- SNAP_DONE (R357). The standby checks and commits the snapshot and starts catch-up. -/
  | snapDone (id words : Nat) (digest : Got Nat)
  /-- ALIGN_ABORT (R360). An alignment failure is reported and the standby discards its alignment. -/
  | alignAbort (id : Nat) (code : Got Nat)
  /-- ALIGNED (R357). Sixteen equal hashes confirm alignment and the standby starts sending. -/
  | aligned
  /-- ALIGN_RETRY (R357). ALIGN_RETRY_MS after a failed attempt the standby requests alignment again. -/
  | alignRetry
  /-- TONGS_LOSS (R350). Four missed heartbeats or loss of both lanes' block lock lose Tongs. -/
  | tongsLoss
  /-- TONGS_LANE_LOCK (R344). A Tongs lane gains or loses block lock. -/
  | tongsLaneLock (k : Nat) (locked : Bool)
  /-- ROLE_WIRE_CHANGE (R343). The partner's role wire changes between ALIVE, DEAD, HOLD and FREE. -/
  | roleWireChange (samples : List Bool)
  /-- TW_PRESENT_L (R367). TW_PRESENT_L changes to show a partner fitted or absent. -/
  | twPresentL (low : Bool)
  /-- PROMOTION (R362). A standby or detached unit promotes itself to ACTIVE when its condition is met. -/
  | promotion
  /-- TWIN_HEARTBEAT_SEND (R364). Every 1 ms a network twin heartbeat is sent from each port. -/
  | twinHeartbeatSend
  /-- ROLE_DECISION (R367). On entry to ARMED a twin unit decides its role from the partner's state. -/
  | roleDecision
  /-- JOIN_WAIT_TIMEOUT (R367). JOIN_WAIT_MS passes with no partner decision and the unit becomes ACTIVE. -/
  | joinWaitTimeout
  /-- HANDOVER (R363). The HANDOVER command schedules a role exchange at period P. -/
  | handover (m : Nat)
  /-- HANDOVER_APPLY (R363). At the launch of P the roles exchange. -/
  | handoverApply
  /-- REALIGN (R357). The REALIGN command requests an alignment. -/
  | realign (m : Nat)
  /-- ABORT_ALIGN (R360). The ABORT_ALIGN command ends an alignment with code HOST. -/
  | abortAlign (m : Nat)
  /-- LINK_UP (R369). A network port's link conditions have held for 1 ms and the port comes up. -/
  | linkUp (x status : Nat)
  /-- LINK_DOWN (R369). A port loses a link condition and goes down. -/
  | linkDown (x status : Nat)
  /-- FRAME_RECEIVED (R375). A received frame is classified to a drop, a ring or a hardware path. -/
  | frameReceived (x : Nat) (pcs : PcsFinds) (fcsOk : Bool) (b : List Nat) (sec ns frac quanta : Nat)
  /-- PAUSE_EXPIRY (R385). The pause timer runs out and pausable queues are picked again. -/
  | pauseExpiry (x : Nat)
  /-- RXR_TAIL (R379). A write to a receive ring tail makes the device fetch descriptors again. -/
  | rxrTail (m x r : Nat) (w : Word)
  /-- TXR_TAIL (R384). A write to a transmit ring tail gives the device frames to send. -/
  | txrTail (m x t : Nat) (w : Word)
  /-- RING_DISABLE (R378). Clearing a ring's EN discards its waiting frames and returns HEAD to TAIL. -/
  | ringDisable (m x k : Nat)
  /-- TRANSMIT_PICK (R383). When the link is idle the scheduler picks and sends the highest eligible frame whole. -/
  | transmitPick (x : Nat) (whole : Bool) (sec ns frac quanta : Nat)
  /-- STAGING_TO_QUEUE (R402). A staged stream frame passes to queue 6 when its share has room. -/
  | stagingToQueue (x : Nat)
  /-- MAC_ADDR_HI (R374). A write to MAC_x_ADDR_HI is staged for the master. -/
  | macAddrHi (m x : Nat) (w : Word)
  /-- MAC_ADDR_LO (R374). A write to MAC_x_ADDR_LO commits the port address. -/
  | macAddrLo (m x : Nat) (w : Word)
  /-- IGMP_REPORT (R392). Hearth joins or reports the groups of valid receive entries. -/
  | igmpReport (change : Bool)
  /-- SYNC (R406). A PTP Sync is received and the servo computes the offset and steers MPLL. -/
  | sync (x dom id seqn : Nat) (twoStep : Bool) (t1 t2 : Nat) (corr : Int)
  /-- ANNOUNCE_RECEIVED (R405). A PTP Announce is received and the best master clock algorithm runs. -/
  | announceReceived (x dom rank id ip : Nat) (deadA deadB : List Nat)
  /-- DELAY_REQ (R404). A Delay_Req is sent every 2^DELAY_LOG s with an egress timestamp. -/
  | delayReq (t3 : Nat)
  /-- DELAY_RESP (R406). A Delay_Resp is received and enters the path-delay mean. -/
  | delayResp (x dom id seqn t4 : Nat) (corr : Int)
  /-- GRANDMASTER_LOST (R408). No Announce arrives for ANN_TIMEOUT intervals and the servo enters HOLDOVER. -/
  | grandmasterLost
  /-- LOCK_DECLARED (R419). A LOCKF pin reaches its threshold and lock is declared for the acquiring loops. -/
  | lockDeclared (g : Nat)
  /-- SETTLE_EXPIRY (R424). The settle time passes and the island clock returns from bypass. -/
  | settleExpiry (k : Nat) (fails : List Nat)
  /-- WORD_COMMIT (R422). A write to CLK_x_FRAC commits a new target word. -/
  | wordCommit (m k : Nat) (w : Word)
  /-- RELOCK (R424). Setting RELOCK forces a loop to relock through bypass. -/
  | relock (m k : Nat)
  /-- TRACKING_STEP (R422). Every 1 µs the effective word steps by at most 1 ppm towards its target. -/
  | trackingStep
  /-- RAMP_SEGMENT (R423). A DPLL or SPLL ramp segment ends and the next begins. -/
  | rampSegment (k : Nat) (fails : List Nat)
  /-- LOSS_OF_LOCK (R426). A loop's phase error leaves the window and the loop relocks. -/
  | lossOfLock (k : Nat)
  /-- GUARD_TRIP (R421). A clock guard trips on swallowed or missing edges and is handled as loss of lock. -/
  | guardTrip (k swallowed : Nat)
  /-- RELOCK_RETRY (R426). A relock attempt not locked within 20 ms is abandoned and retried every 1 ms. -/
  | relockRetry (k : Nat)
  /-- REFERENCE_LOCKED (R428). The configured clock source meets its lock condition. -/
  | referenceLocked
  /-- REFERENCE_LOST (R430). The clock reference is lost and MPLL enters holdover. -/
  | referenceLost
  /-- REFERENCE_RETURN (R430). The reference returns and the accumulated phase is corrected. -/
  | referenceReturn (j : Int)
  /-- PERIOD_CORRECTION (R433). At P, K periods are dropped or withheld and every feed takes a short hold-and-ramp. -/
  | periodCorrection
  /-- DRAM_WRITE (R440). A DRAM word is written by read-modify-write of its encrypted block. -/
  | dramWrite (src a : Nat) (w : Word) (lap : Nat) (clash : Bool)
  /-- DRAM_READ (R441). A DRAM word is decrypted, corrected and epoch-checked. -/
  | dramRead (src a fault lap : Nat) (clash : Bool)
  /-- TEMPERATURE_POLL (R448). Every 250 µs each die's refresh class is read and applied. -/
  | temperaturePoll (c0 c1 c2 c3 : Nat)
  /-- REFRESH_DUE (R449). A rank's refresh interval passes and a refresh is owed or issued. -/
  | refreshDue (r : Nat) (busy : Bool)
  /-- POWER_DOWN_ENTRY (R451). A rank idle for PD_NS enters power-down. -/
  | powerDownEntry (r : Nat)
  /-- DRIFT_CHECK (R452). Every 100 ms a rank is checked for drift and re-centred if needed. -/
  | driftCheck (r : Nat) (drift centred : Bool) (fails : Nat)
  /-- PATROL_READ (R460). The scrubber reads a DRAM burst, forced into class 2 after 800 ns without one. -/
  | patrolRead (a : Nat) (fault : List Nat) (last : Patrol)
  /-- CROSSBAR_TRANSACTION (R464). A master's read or write burst is routed, performed and answered with a status. -/
  | crossbarTransaction (m a : Nat) (write : Bool) (beats : List (Bool × Word))
  /-- LOCK_CLAIM (R469). A read of XBR_LOCK_i claims the lock if free. -/
  | lockClaim (ms : List Nat) (lock : Nat)
  /-- LOCK_RELEASE (R471). The owner writes RELEASE to free a lock. -/
  | lockRelease (m lock : Nat)
  /-- LOCK_FORCE (R471). Hearth writes FORCE to free a lock whoever holds it. -/
  | lockForce (m lock : Nat)
  /-- MBX_POST (R475). A write to MBX_POST_s posts the staged message to a channel. -/
  | mbxPost (k r c len peer : Nat)
  /-- MBX_ACK (R476). The receiver writes MBX_ACK_r to remove the head message of a channel. -/
  | mbxAck (m r c : Nat)
  /-- MAILBOX_MESSAGE (R478). A partner mailbox message arrives over Tongs and is placed and accepted. -/
  | mailboxMessage (c inc seqn : Nat) (ws : Got (List Word))
  /-- MAILBOX_ACCEPT (R478). The partner accepts an outbound mailbox message and it is removed from the queue. -/
  | mailboxAccept (c inc : Nat) (seqn : Got Nat)
  /-- MAILBOX_RESEND (R478). An unaccepted outbound mailbox message is resent every 10 µs. -/
  | mailboxResend (c : Nat)
  /-- MBX_DBELL_SET (R479). Hearth sets host doorbell event bits through MBX_DBELL_SET. -/
  | mbxDbellSet (m r : Nat) (w : Word)
  /-- TDM_INPUT_FRAME (R487). A TDM frame completes on DIN and is held for the stager. -/
  | tdmInputFrame (p : Nat) (fsync din : List (Bool × Bool))
  /-- TDM_OUTPUT_FRAME (R486). A TDM frame starts and carries the released samples of the previous period, or repeats. -/
  | tdmOutputFrame (p : TdmStart)
  /-- TDM_PORT_STOPPED (R488). A port has no valid frame for 4 frame times and enters STOPPED. -/
  | tdmPortStopped (p : Nat)
  /-- PDM_OUTPUT_SAMPLE (R491). A PDM decimator produces its sample for the period. -/
  | pdmOutputSample (k : Nat) (v : List (Bool × Bool))
  /-- PDM_CLOCK_STOP (R493). A PDM clock stops while its inputs are enabled. -/
  | pdmClockStop (c : Nat)
  /-- PDM_STUCK (R493). A PDM data line stays at one level for 65,536 cycles. -/
  | pdmStuck (k : Nat) (stuck : Bool)
  /-- CAPTURE_START (R498). GO in PDM_CAP_CTL checks and schedules a capture at P. -/
  | captureStart (m count : Nat)
  /-- CAPTURE_CANCEL (R499). CANCEL in PDM_CAP_CTL ends a pending or running capture. -/
  | captureCancel (m : Nat)
  /-- WRITE (R503). A host-port WRITE transaction writes consecutive words. -/
  | hpWrite (hdr : List Nat) (words : List (List Nat)) (ov : Option Nat)
  /-- READ (R503). A host-port READ transaction returns consecutive words. -/
  | hpRead (hdr : List Nat) (n : Nat) (ov : Option Nat)
  /-- WRITE_FIXED (R503). A host-port write of every word to one address. -/
  | hpWriteFixed (hdr : List Nat) (words : List (List Nat)) (ov : Option Nat)
  /-- READ_FIXED (R503). A host-port read of every word from one address. -/
  | hpReadFixed (hdr : List Nat) (n : Nat) (ov : Option Nat)
  /-- STATUS (R504). A host-port STATUS transaction returns HPT_STATUS without the crossbar. -/
  | hpStatus (hdr : List Nat)
  /-- HP_CS_L_RISE (R509). HP_CS_L rises and ends the transaction, cancelling unconfirmed reads. -/
  | hpCsLRise (inWord : Bool)
  /-- SENSOR_SAMPLE (R514). Hearth samples a sensor and publishes its reading. -/
  | sensorSample (k : Sensor)
  /-- LOG_ENTRY (R520). An event's log entry is placed in the DRAM ring, discarding if full. -/
  | logEntry
  /-- LOG_FLUSH (R521). Hearth copies log entries to flash within the bucket rate, erasing ahead. -/
  | logFlush
  /-- HTH_LOG_SEL (R522). Writing HTH_LOG_SEL starts a fetch of one log entry. -/
  | hthLogSel (m seqn : Nat)
  /-- LOG_FETCH_COMPLETE (R522). The selected entry is placed in HTH_LOG_ENTRY and READY is set. -/
  | logFetchComplete
  /-- LIFETIME_SNAPSHOT (R525). Hearth writes the whole lifetime record into the next lifetime sector. -/
  | lifetimeSnapshot
  /-- THERMAL_HISTOGRAM (R524). Once a second the hottest reading adds to the histogram and thermal cycles. -/
  | thermalHistogram
  /-- BACKUP_SECONDS_UPDATE (R526). Every 10 s Hearth updates the power-on seconds kept in Cocoon. -/
  | backupSecondsUpdate
  /-- LIF_CAL_SET_1 (R528). A host write of LIF_CAL_SET_1 sets the calendar to the staged seconds. -/
  | lifCalSet1 (m : Nat) (w : Word)
  /-- CALENDAR_DISCIPLINE (R528). Every 60 s under PTP lock Hearth aligns the calendar to PTP time. -/
  | calendarDiscipline (sec sub : Nat)
  /-- TELEMETRY_REPORT (R532). A telemetry report is taken and sent, or abandoned if late. -/
  | telemetryReport (complete : Bool)
  /-- BEGIN (R534). The BEGIN update command opens the uncommitted slot for writing. -/
  | updBegin (m key slot : Nat)
  /-- UPDATE_WRITE (R534). The update WRITE command erases and programs image bytes into the slot. -/
  | updateWrite (m key : Nat) (run : FlashRun)
  /-- VERIFY (R535). The VERIFY update command checks the slot's image. -/
  | updVerify (m key : Nat) (run : VerifyRun)
  /-- COMMIT (R536). The COMMIT update command appends a commit record for the verified slot. -/
  | updCommit (m key : Nat)
  /-- ABORT (R537). The ABORT update command ends the running command and clears the verification. -/
  | updAbort (m key : Nat)
  /-- FUSE_ADVANCE (R539). FUSE_ADVANCE blows anti-rollback and floor fuses up to the image's version. -/
  | fuseAdvance (m key : Nat) (run : FuseRun)
  /-- CHALLENGE (R553). A signed-command challenge is generated for a purpose. -/
  | challenge (m key purpose arg : Nat)
  /-- CHALLENGE_EXPIRY (R553). A challenge lapses after 60 s. -/
  | challengeExpiry
  /-- ENROLL_OWNER (R553). A signed SUBMIT enrols an owner key hash in an empty slot. -/
  | enrollOwner (m key : Nat) (fuseOk : Bool)
  /-- REVOKE_OWNER (R553). A signed SUBMIT revokes an owner slot. -/
  | revokeOwner (m key : Nat) (fuseOk : Bool)
  /-- DEBUG_OBSERVE (R554). A signed SUBMIT opens debug level OBSERVE. -/
  | debugObserve (m key : Nat)
  /-- DEBUG_FULL (R554). A vendor-signed SUBMIT blows VENDOR_DEBUGGED and cold-resets into FULL debug. -/
  | debugFull (m key : Nat) (fuseOk : Bool)
  /-- CLEAR_TAMPER (R557). A signed SUBMIT clears the tamper latches if TAMPER_IN is inactive. -/
  | clearTamper (m key : Nat)
  /-- REVOKE_VENDOR (R553). A vendor-signed SUBMIT revokes a vendor key slot. -/
  | revokeVendor (m key : Nat) (fuseOk : Bool)
  /-- HOST_IMAGE_DIS (R553). A signed SUBMIT blows the fuse that disables host images. -/
  | hostImageDis (m key : Nat) (fuseOk : Bool)
  /-- ATTESTATION (R558). GO in SEC_ATTEST_CTL produces a signed attestation report. -/
  | attestation (m slot : Nat)
  /-- TAMPER (R556). The filtered TAMPER_IN reaches its active level and the tamper latch sets. -/
  | tamper (runs : List (Bool × Nat))
  /-- CAL_STOP (R556). The calendar crystal stops for 1 s and CAL_STOP latches. -/
  | calStop
  /-- RNG_FAIL (R542). The random source fails its continuous health test. -/
  | rngFail
  /-- RESET_RELEASE (R66). The reset pins return high, the boot ROM starts, the GP_15 strap is sampled and the 20 ms HP_RDY bound begins. -/
  | resetRelease (gp15High : Bool)
  /-- VBAT_LOSS (R65). VBAT falls out of range or is removed, taking COCOON to OFF, or setting VBAT_LOW while the main rails are up. -/
  | vbatLoss
  /-- REFERENCE_EDGE (R428). A rising edge on REF_PPS_IN or REF_WCLK_IN is timestamped by the reference tracker, which steers MPLL and measures any phase jump. -/
  | referenceEdge (j : Int) (gap : Nat)
  /-- PDM_CLOCK_RETURN (R494). A stopped PDM clock returns, and its inputs restart their settle count before becoming present again. -/
  | pdmClockReturn (c : Nat)
  /-- FOLLOW_UP (R406). A PTP Follow_Up arrives with the origin time t1 of a two-step Sync, and the servo completes that exchange's offset. -/
  | followUp (x dom id seqn t1 : Nat) (corr : Int)
  /-- SNAPSHOT_STREAMED (R357). The ACTIVE finishes streaming the frozen snapshot in its slack and sends SNAP_DONE with the word count and SHA-384. -/
  | snapshotStreamed
deriving DecidableEq, Repr

end Sys2Proof
end

