-- ==== Sys2Proof/WellFormed.lean ====
section
/-! DEFINITION. Which commands are well formed: every operand that names a numbered thing (a master, an address, a lane context, a register
field, a port, a lock, a byte) names one that the spec has. The meanings are total all the same; what an operand outside these ranges does is
the model's own business, and no statement needs it. -/
namespace Sys2Proof
open Sys2Proof.Machine

/-- A master ID: 0-9, or a lane's, 0x10-0x57 (R461). -/
def isMasterId (m : Nat) : Bool := m ≤ 9 || (0x10 ≤ m && m ≤ 0x57)

/-- A word address has 32 bits (R4). -/
def isAddress (a : Nat) : Bool := a < 2 ^ 32

/-- A context of lanes: home pairs 0-31, retry pairs 32-35 (R237). -/
def isContext (p : Nat) : Bool := p < 36

/-- A list of bytes. -/
def isBytes (b : List Nat) : Bool := b.all (fun x => x < 256)

/-- A word as the host port carries it: five bytes (R43). -/
def isHostWord (b : List Nat) : Bool := b.length == 5 && isBytes b

/-- Is the command well formed? -/
def isWellFormed (i : Instr) : Bool :=
  match i with
  | .registerWrite m a _ => isMasterId m && isAddress a
  | .rcRead m a => isMasterId m && isAddress a
  | .latchingRead m a => isMasterId m && isAddress a
  | .pairStageWrite m a _ => isMasterId m && isAddress a
  | .pairCommitWrite m a _ => isMasterId m && isAddress a
  | .pairStageTimeout m => isMasterId m
  | .mainRailsRise => true
  | .mainRailsRemoved => true
  | .vbatRise => true
  | .porstL _ => true
  | .wrstL _ => true
  | .railBelowThreshold rail _ => rail < 10
  | .bootSelfCheckComplete _ _ _ => true
  | .loadComplete _ => true
  | .hearthWatchdog _ => true
  | .hearthRestartComplete => true
  | .retry m key => isMasterId m && key < 4096
  | .continueCmd m key => isMasterId m && key < 4096
  | .stop m key => isMasterId m && key < 4096
  | .safeEnter m key => isMasterId m && key < 4096
  | .safeClear m key => isMasterId m && key < 4096
  | .warmReset m key => isMasterId m && key < 4096
  | .coldReset m key => isMasterId m && key < 4096
  | .holdEnter m key => isMasterId m && key < 4096
  | .loadHost m key => isMasterId m && key < 4096
  | .sysMrst m _ => isMasterId m
  | .masterDrainComplete m => isMasterId m
  | .runEntry _ => true
  | .armedTimeout => true
  | .stopRampComplete => true
  | .periodTick _ => true
  | .wavefrontComplete _ => true
  | .wavefrontWatchdog _ => true
  | .catchupWavefront => true
  | .controlTick => true
  | .meterAutoSnapshot => true
  | .locatorComplete _ _ => true
  | .jumpFillComplete l => l < 2048
  | .headWriteBack l => l < 2048
  | .tailFill l => l < 2048
  | .sceneFrameTake => true
  | .locHostSubmit m _ => isMasterId m
  | .locProbeSel _ => true
  | .routeCtrlWrite m e _ => isMasterId m && e < 4096
  | .routeGainWrite m e _ => isMasterId m && e < 4096
  | .routeStageTimeout m => isMasterId m
  | .destinationWrite m dest _ => isMasterId m && dest < 4096
  | .routeCommit m _ => isMasterId m
  | .routeCommitCancel m => isMasterId m
  | .routeCommitApply => true
  | .snap m _ => isMasterId m
  | .bankSwapRequest m _ => isMasterId m
  | .bankSwapCancel m => isMasterId m
  | .bankSwapStart => true
  | .fadeEnd => true
  | .argumentCommit m p _ _ => isMasterId m && isContext p
  | .argumentCommitCancel m p => isMasterId m && isContext p
  | .argumentCommitApply p => isContext p
  | .itemDispatch item => item < 2048
  | .laneNop p _ rest => isContext p && rest < 32768
  | .laneMov p dd ds g => isContext p && dd < 32 && ds < 32 && g < 8
  | .laneAdd p dd ds g => isContext p && dd < 32 && ds < 32 && g < 8
  | .laneSub p dd ds g => isContext p && dd < 32 && ds < 32 && g < 8
  | .laneAdds p dd ds g => isContext p && dd < 32 && ds < 32 && g < 8
  | .laneSubs p dd ds g => isContext p && dd < 32 && ds < 32 && g < 8
  | .laneAnd p dd ds g => isContext p && dd < 32 && ds < 32 && g < 8
  | .laneOr p dd ds g => isContext p && dd < 32 && ds < 32 && g < 8
  | .laneXor p dd ds g => isContext p && dd < 32 && ds < 32 && g < 8
  | .laneNot p dd ds g => isContext p && dd < 32 && ds < 32 && g < 8
  | .laneNeg p dd ds g => isContext p && dd < 32 && ds < 32 && g < 8
  | .laneAbs p dd ds g => isContext p && dd < 32 && ds < 32 && g < 8
  | .laneMin p dd ds g => isContext p && dd < 32 && ds < 32 && g < 8
  | .laneMax p dd ds g => isContext p && dd < 32 && ds < 32 && g < 8
  | .laneShl p dd ds g => isContext p && dd < 32 && ds < 32 && g < 8
  | .laneShr p dd ds g => isContext p && dd < 32 && ds < 32 && g < 8
  | .laneSar p dd ds g => isContext p && dd < 32 && ds < 32 && g < 8
  | .laneShli p dd imm g => isContext p && dd < 32 && imm < 32 && g < 8
  | .laneSari p dd imm g => isContext p && dd < 32 && imm < 32 && g < 8
  | .laneAddi p dd imm g => isContext p && dd < 32 && imm < 32 && g < 8
  | .laneCmpeq p dd ds g => isContext p && dd < 32 && ds < 32 && g < 8
  | .laneCmplt p dd ds g => isContext p && dd < 32 && ds < 32 && g < 8
  | .laneCmple p dd ds g => isContext p && dd < 32 && ds < 32 && g < 8
  | .laneCmpltu p dd ds g => isContext p && dd < 32 && ds < 32 && g < 8
  | .laneMovs p dd ds g => isContext p && dd < 32 && ds < 32 && g < 8
  | .laneMovg p dd ds g => isContext p && dd < 32 && ds < 32 && g < 8
  | .laneSetrrb p ds g => isContext p && ds < 32 && g < 8
  | .laneMask p g => isContext p && g < 8
  | .laneUnmask p g => isContext p && g < 8
  | .laneEnd p g _ => isContext p && g < 8
  | .laneYield p g _ => isContext p && g < 8
  | .laneLdi p dd imm => isContext p && dd < 32 && imm < 8192
  | .laneBr p g target => isContext p && g < 8 && target < 8192
  | .laneBrn p g target => isContext p && g < 8 && target < 8192
  | .laneJr p g n => isContext p && g < 8 && n < 32
  | .laneLoop p last count => isContext p && last < 256 && count < 256
  | .laneLoopr p last n => isContext p && last < 256 && n < 32
  | .laneRloop p last count => isContext p && last < 256 && count < 256
  | .laneRloopr p last n => isContext p && last < 256 && n < 32
  | .laneLoopBack p => isContext p
  | .laneMac p ra rb ac aln _ => isContext p && ra < 32 && rb < 32 && ac < 4 && aln < 4
  | .laneMacw p ra rb ac aln _ => isContext p && ra < 32 && rb < 32 && ac < 4 && aln < 4
  | .laneMacs p ra rb ac aln _ => isContext p && ra < 32 && rb < 32 && ac < 4 && aln < 4
  | .laneMac4v p ra rb aln _ => isContext p && ra < 32 && rb < 32 && aln < 4
  | .laneMac4vw p ra rb aln _ => isContext p && ra < 32 && rb < 32 && aln < 4
  | .laneMac4vs p ra rb aln _ => isContext p && ra < 32 && rb < 32 && aln < 4
  | .laneMac4s p ra rb aln _ => isContext p && ra < 32 && rb < 32 && aln < 4
  | .laneMac4sw p ra rb aln _ => isContext p && ra < 32 && rb < 32 && aln < 4
  | .laneMac4ss p ra rb aln _ => isContext p && ra < 32 && rb < 32 && aln < 4
  | .laneMac4r p ra rb ac aln _ => isContext p && ra < 32 && rb < 32 && ac < 4 && aln < 4
  | .laneMac4rw p ra rb ac aln _ => isContext p && ra < 32 && rb < 32 && ac < 4 && aln < 4
  | .laneMac4rs p ra rb ac aln _ => isContext p && ra < 32 && rb < 32 && ac < 4 && aln < 4
  | .laneMul p ra rb ac aln _ => isContext p && ra < 32 && rb < 32 && ac < 4 && aln < 4
  | .laneMul4r p ra rb ac aln _ => isContext p && ra < 32 && rb < 32 && ac < 4 && aln < 4
  | .laneClr p ac => isContext p && ac < 4
  | .laneLda p ra ac aln _ => isContext p && ra < 32 && ac < 4 && aln < 4
  | .laneAdda p ra ac aln _ => isContext p && ra < 32 && ac < 4 && aln < 4
  | .laneAddaw p ra ac aln _ => isContext p && ra < 32 && ac < 4 && aln < 4
  | .laneAddas p ra ac aln _ => isContext p && ra < 32 && ac < 4 && aln < 4
  | .laneRnd p ra sh ac => isContext p && ra < 32 && sh < 32 && ac < 4
  | .laneAccget p ra part ac => isContext p && ra < 32 && part < 32 && ac < 4
  | .laneAccput p ra part ac => isContext p && ra < 32 && part < 32 && ac < 4
  | .laneLd p _ d a mod _ => isContext p && d < 32 && a < 8 && mod < 32
  | .laneSt p _ d a mod _ => isContext p && d < 32 && a < 8 && mod < 32
  | .laneLdr p _ d a n _ => isContext p && d < 32 && a < 8 && n < 32
  | .laneStr p _ d a n _ => isContext p && d < 32 && a < 8 && n < 32
  | .laneAmod p _ a mod => isContext p && a < 8 && mod < 32
  | .laneXld p d a mod _ => isContext p && d < 32 && a < 8 && mod < 32
  | .laneXst p d a mod _ => isContext p && d < 32 && a < 8 && mod < 32
  | .laneXldArrival p fault _ => isContext p && fault < 5
  | .preemptionPoint => true
  | .preemptionEntry p _ => p < 36
  | .bellowsWatchdog p => p < 36
  | .backgroundItemStart p => p < 32
  | .ready m h item => isMasterId m && h.port < 2 && item < 2048
  | .delayListCancel m h _ => isMasterId m && h.port < 2
  | .crossTestChunk _ => true
  | .laneCopy p => p < 32
  | .graphStart m _ => isMasterId m
  | .graphStop m => isMasterId m
  | .nodeComplete k _ => k < 1024
  | .quenchClear m _ => isMasterId m
  | .quenchClearCancel m => isMasterId m
  | .quenchClearApply => true
  | .latchClear m _ _ => isMasterId m
  | .staticCrcCheck => true
  | .scrubPass _ _ => true
  | .latentTest _ _ => true
  | .latentOverdue => true
  | .pinReadback _ _ => true
  | .quenchInLFiltered _ => true
  | .emergInFiltered _ => true
  | .gpFiltered n _ => n < 16
  | .pinStuck pin _ => pin < 19
  | .pinGpCfg n _ => n < 16
  | .rail rail _ => rail < 10
  | .thermal _ => true
  | .xoLoss => true
  | .heartbeat _ _ => true
  | .forward _ _ _ => true
  | .fwdAck _ => true
  | .forwardResend => true
  | .fwdFail => true
  | .fwdGapTimeout => true
  | .presence _ _ => true
  | .mend _ _ _ _ _ payload => isBytes payload.body
  | .alignReq => true
  | .alignAt _ _ => true
  | .snapshot _ _ _ => true
  | .snapDone _ _ _ => true
  | .alignAbort _ _ => true
  | .aligned => true
  | .alignRetry => true
  | .tongsLoss => true
  | .tongsLaneLock k _ => k < 2
  | .roleWireChange _ => true
  | .twPresentL _ => true
  | .promotion => true
  | .twinHeartbeatSend => true
  | .roleDecision => true
  | .joinWaitTimeout => true
  | .handover m => isMasterId m
  | .handoverApply => true
  | .realign m => isMasterId m
  | .abortAlign m => isMasterId m
  | .linkUp x _ => x < 2
  | .linkDown x _ => x < 2
  | .frameReceived x _ _ b _ _ _ _ => x < 2 && isBytes b
  | .pauseExpiry x => x < 2
  | .rxrTail m x r _ => isMasterId m && x < 2 && r < 4
  | .txrTail m x t _ => isMasterId m && x < 2 && t < 5
  | .ringDisable m x k => isMasterId m && x < 2 && k < 9
  | .transmitPick x _ _ _ _ _ => x < 2
  | .stagingToQueue x => x < 2
  | .macAddrHi m x _ => isMasterId m && x < 2
  | .macAddrLo m x _ => isMasterId m && x < 2
  | .igmpReport _ => true
  | .sync x _ _ _ _ _ _ _ => x < 2
  | .announceReceived x _ _ _ _ _ _ => x < 2
  | .delayReq _ => true
  | .delayResp x _ _ _ _ _ => x < 2
  | .grandmasterLost => true
  | .lockDeclared _ => true
  | .settleExpiry k _ => k < 4
  | .wordCommit m k _ => isMasterId m && k < 4
  | .relock m k => isMasterId m && k < 4
  | .trackingStep => true
  | .rampSegment k _ => k < 4
  | .lossOfLock k => k < 4
  | .guardTrip k _ => k < 4
  | .relockRetry k => k < 4
  | .referenceLocked => true
  | .referenceLost => true
  | .referenceReturn _ => true
  | .periodCorrection => true
  | .dramWrite _ a _ _ _ => isAddress a
  | .dramRead _ a _ _ _ => isAddress a
  | .temperaturePoll _ _ _ _ => true
  | .refreshDue r _ => r < 8
  | .powerDownEntry r => r < 8
  | .driftCheck r _ _ _ => r < 8
  | .patrolRead a _ _ => isAddress a
  | .crossbarTransaction m a _ beats => isMasterId m && isAddress a && 1 ≤ beats.length && beats.length ≤ 16 && a % 16 + beats.length ≤ 16
  | .lockClaim ms lock => ms.all isMasterId && lock < 64
  | .lockRelease m lock => isMasterId m && lock < 64
  | .lockForce m lock => isMasterId m && lock < 64
  | .mbxPost k r c _ _ => k < 3 && r < 3 && c < 16
  | .mbxAck m r c => isMasterId m && r < 3 && c < 16
  | .mailboxMessage c _ _ _ => c < 16
  | .mailboxAccept c _ _ => c < 16
  | .mailboxResend c => c < 16
  | .mbxDbellSet m r _ => isMasterId m && r < 3
  | .tdmInputFrame p _ _ => p < 8
  | .tdmOutputFrame p => p.port < 8
  | .tdmPortStopped p => p < 8
  | .pdmOutputSample k _ => k < 16
  | .pdmClockStop c => c < 4
  | .pdmStuck k _ => k < 16
  | .captureStart m _ => isMasterId m
  | .captureCancel m => isMasterId m
  | .hpWrite hdr words _ => isHostWord hdr && words.all isHostWord
  | .hpRead hdr _ _ => isHostWord hdr
  | .hpWriteFixed hdr words _ => isHostWord hdr && words.all isHostWord
  | .hpReadFixed hdr _ _ => isHostWord hdr
  | .hpStatus hdr => isHostWord hdr
  | .hpCsLRise _ => true
  | .sensorSample _ => true
  | .logEntry => true
  | .logFlush => true
  | .hthLogSel m _ => isMasterId m
  | .logFetchComplete => true
  | .lifetimeSnapshot => true
  | .thermalHistogram => true
  | .backupSecondsUpdate => true
  | .lifCalSet1 m _ => isMasterId m
  | .calendarDiscipline _ _ => true
  | .telemetryReport _ => true
  | .updBegin m key slot => isMasterId m && key < 4096 && slot < 2
  | .updateWrite m key _ => isMasterId m && key < 4096
  | .updVerify m key _ => isMasterId m && key < 4096
  | .updCommit m key => isMasterId m && key < 4096
  | .updAbort m key => isMasterId m && key < 4096
  | .fuseAdvance m key _ => isMasterId m && key < 4096
  | .challenge m key _ _ => isMasterId m && key < 4096
  | .challengeExpiry => true
  | .enrollOwner m key _ => isMasterId m && key < 4096
  | .revokeOwner m key _ => isMasterId m && key < 4096
  | .debugObserve m key => isMasterId m && key < 4096
  | .debugFull m key _ => isMasterId m && key < 4096
  | .clearTamper m key => isMasterId m && key < 4096
  | .revokeVendor m key _ => isMasterId m && key < 4096
  | .hostImageDis m key _ => isMasterId m && key < 4096
  | .attestation m slot => isMasterId m && slot < 4
  | .tamper _ => true
  | .calStop => true
  | .rngFail => true
  | .resetRelease _ => true
  | .vbatLoss => true
  | .referenceEdge _ _ => true
  | .pdmClockReturn c => c < 4
  | .followUp x _ _ _ _ _ => x < 2
  | .snapshotStreamed => true

end Sys2Proof
end

