-- ==== Sys2Proof/Decode.lean ====
section
/-! DEFINITION. Commands as words. No row of spec/opcode_table.json gives a command any bits (every row's field list is empty), so no
word spells a command. -/
namespace Sys2Proof

/-- The rows of the table that give bits: mask, pattern and the command. There are none. -/
def wordRows : List (Nat × Nat × Instr) := []

/-- The command that a word of n bits spells by the table's bits. -/
def decodeTableWord (nbits w : Nat) : Option Instr :=
  (wordRows.find? (fun r => w < 2 ^ nbits && w &&& r.1 == r.2.1)).map (fun r => r.2.2)

end Sys2Proof
end

