-- ==== Sys2Proof/Config.lean ====
section
/-! DEFINITION. What an implementation fixes and the spec leaves open.

Every `opaque` constant below is a FREE VALUE: it has no body, so no proof can lean on a value of it. The values of
outside standards that the spec only names (SHA-384, ECDSA P-384, AES-256) are uninterpreted functions too: the spec
says where they are applied and to what, not how they are computed. -/
namespace Sys2Proof.Config
open Sys2Proof

/-- A value the spec leaves open: `tag` names the rule that leaves it open, `k` is the number of free values drawn so far
(the plain counter `Free.drawn` of the state), so that each draw is a fresh value. Log entry 3. -/
opaque freeNat (tag k : Nat) : Nat

/-- A free bit, for a choice between two behaviours the spec allows. Log entry 3. -/
def freeBit (tag k : Nat) : Bool := freeNat tag k % 2 == 1

/-- A free 36-bit value. Log entry 3. -/
def freeWord (tag k : Nat) : Word := BitVec.ofNat 36 (freeNat tag k)

/-- SHA-384 of a byte string, as a 384-bit number (FIPS 180-4; R88, R541, R547). Uninterpreted. Log entry 4. -/
opaque sha384 (bytes : List Nat) : Nat

/-- The decimator of a PDM input (R491, R492): from its preset, the ratio R, its state and the bits of a period, its new state and its output
sample. The spec gives its response, not its arithmetic (log entry 90). Uninterpreted. -/
opaque pdmStep (preset r state : Nat) (bits : List Bool) : Nat × Int

/-- ECDSA P-384 verification: public key bytes, 384-bit digest, 96 signature bytes (R97, R544, R553). Uninterpreted. -/
opaque ecdsaOk (pub : List Nat) (digest : Nat) (sig : List Nat) : Bool

/-- An ECDSA P-384 signature by the device identity key over a digest (R558). Uninterpreted. -/
opaque ecdsaSign (root serial digest : Nat) : List Nat

/-- The x-coordinate of a scalar multiple of a P-384 point given as bytes; none when the point is not on the curve (R548). -/
opaque p384MulX (d : Nat) (point : List Nat) : Option (List Nat)

/-- The 97 uncompressed bytes of a scalar multiple of the generator (R547). -/
opaque p384Pub (d : Nat) : List Nat

/-- AES-256-GCM opening: key, IV, additional data, ciphertext, tag; the plaintext when the tag agrees (R87, R548). -/
opaque gcmOpen (key : Nat) (iv aad ct tag : List Nat) : Option (List Nat)

/-- AES-256-GMAC tag as 16 bytes (R118, R530, R550). -/
opaque gmac (key : Nat) (iv bytes : List Nat) : List Nat

/-- The number the firmware package's event table gives an event (R518: CODE; the table is internal to the package). -/
opaque eventCode (event : Nat) : Nat

/-- The severity 0-3 the event table gives an event (R518), where the chapter that reports it does not state one. -/
opaque eventSeverity (event : Nat) : Nat

/-- Column j of the DRAM code (R443: fixed in every device, its value not given). -/
opaque eccColumn (j : Nat) : BitVec 12

/-- The unit's 64-bit serial number (R541, written at manufacture). -/
opaque otpSerial : Nat

/-- The unit's 48-bit base MAC address (R541, written at manufacture). -/
opaque otpMacBase : Nat

/-- The unit's root secret (R541); no master can read it. -/
opaque otpRoot : Nat

/-- DIK_PUB then DIK_CERT, 193 bytes (R541). -/
opaque otpIdentity : Nat → Nat

/-- SHA-384 hashes of the two vendor keys (R541). -/
opaque otpVendorKey (k : Nat) : Nat

/-- VENDOR_FLOOR fuses blown at manufacture (R541, R546). -/
opaque otpVendorFloor0 : Nat

/-- The payload of a Delay_Req (IEEE 1588-2019; R404) of a domain with a sequence number. Uninterpreted. -/
opaque ptpDelayReq (domain seqn : Nat) : List Nat

/-- The mailbox payload, 13 words, with which the ACTIVE's Hearth tells the partner's a correction's P and K and whether it passes
through ARMED (R434: the firmware package's own message); and the correction a message carries, if it is one. Uninterpreted. -/
opaque realignWords (p : Nat) (k : Int) (viaArmed : Bool) : List Word
opaque realignOf (ws : List Word) : Option (Nat × Int × Bool)

/-- Firmware package version and stepping of the partner, where a mailbox payload of its Hearth gives them (R357; log entry 86).
Uninterpreted. -/
opaque packageOf (ws : List Word) : Option (Nat × Nat)

end Sys2Proof.Config
end

