-- ==== Sys2Proof/Machine/Arith.lean ====
section
/-! DEFINITION. Bit fields, the fixed-point formats and the rounding rules (02_formats_and_time: R29-R33, R38, R43,
R44, R50-R52; 04: R81 CRC-32).

Every computation follows one habit: read the operands as integers, compute exactly, narrow at the end by the
named rule. -/
namespace Sys2Proof.Machine
open Sys2Proof

/-- Bits hi:lo of a number. -/
def bits (w hi lo : Nat) : Nat := (w >>> lo) % 2 ^ (hi + 1 - lo)

/-- Bits hi:lo of a word (bit ranges are written hi:lo, R4). -/
def fld (w : Word) (hi lo : Nat) : Nat := bits w.toNat hi lo

/-- One bit of a word. -/
def flag (w : Word) (i : Nat) : Bool := w.getLsbD i

/-- The word with bits hi:lo replaced by the low bits of `v`. -/
def setFld (w : Word) (hi lo v : Nat) : Word :=
  let m := 2 ^ (hi + 1 - lo)
  BitVec.ofNat 36 (w.toNat - fld w hi lo * 2 ^ lo + (v % m) * 2 ^ lo)

/-- A 36-bit word from a number (its low 36 bits). -/
def wd (n : Nat) : Word := BitVec.ofNat 36 n

/-- A 36-bit word from an integer, modulo 2^36. -/
def wdI (z : Int) : Word := BitVec.ofInt 36 z

/-- 1 for true, 0 for false. -/
def b2n (b : Bool) : Nat := if b then 1 else 0

/-- The low `n` bits of `v` read as a two's-complement integer. -/
def signedN (n v : Nat) : Int :=
  let u := v % 2 ^ n
  if u < 2 ^ (n - 1) then (u : Int) else (u : Int) - 2 ^ n

/-- A field hi:lo read as a signed integer. -/
def sfld (w : Word) (hi lo : Nat) : Int := signedN (hi + 1 - lo) (fld w hi lo)

/-- The bitwise NOT of a word (R39). -/
def notW (w : Word) : Word := ~~~ w

/-- Clamp an integer to lo..hi. -/
def clampI (lo hi z : Int) : Int := if z < lo then lo else if hi < z then hi else z

/-- Clamp to the 36-bit signed range. -/
def sat36 (z : Int) : Int := clampI (-(2 ^ 35)) (2 ^ 35 - 1) z

/-- floor(a / 2^sh). -/
def floorShift (a : Int) (sh : Nat) : Int := a.fdiv (2 ^ sh)

/-- Reduce by a shift, rounding half to even (R38). -/
def roundEven (a : Int) (sh : Nat) : Int :=
  let d : Int := 2 ^ sh
  let q := a.fdiv d
  let r := a - q * d
  if 2 * r > d ∨ (2 * r = d ∧ q % 2 = 1) then q + 1 else q

/-- Round a quotient of integers half to even; a zero divisor gives 0. -/
def divRoundEven (a : Int) (d : Nat) : Int :=
  if d = 0 then 0 else
  let q := a.fdiv d
  let r := a - q * d
  if 2 * r > d ∨ (2 * r = d ∧ q % 2 = 1) then q + 1 else q

/-- Reduce by a shift, rounding half up (away from minus infinity): floor(a / 2^sh + 1/2). -/
def roundUp (a : Int) (sh : Nat) : Int := (a + 2 ^ (sh - 1)).fdiv (2 ^ sh)

/-- Saturate to 36 bits, with the flag that says it clamped. -/
def saturate36 (z : Int) : Int × Bool :=
  if z > 2 ^ 35 - 1 then (2 ^ 35 - 1, true)
  else if z < -(2 ^ 35) then (-(2 ^ 35), true) else (z, false)

/-- A store from A80 to F36 by the given shift (34 in the wavefront): half to even, then saturation (R38). -/
def storeF36 (a : Int) (sh : Nat) : Int × Bool := saturate36 (roundEven a sh)

/-- An n-bit integer sample enters F36 with its top bit at bit 31 (R31). -/
def intToF36 (n v : Nat) : Word := wdI (signedN n v * 2 ^ (32 - n))

/-- An F36 sample leaves as an n-bit integer: the store of R38 with shift 32 - n and the n-bit range (R31).
The flag says that it saturated. -/
def f36ToInt (n : Nat) (w : Word) : Int × Bool :=
  let q := roundEven w.toInt (32 - n)
  let hi : Int := 2 ^ (n - 1) - 1
  let lo : Int := -(2 ^ (n - 1))
  if q > hi then (hi, true) else if q < lo then (lo, true) else (q, false)

/-! ### Five-byte host words (R43, R44) -/

/-- The check nibble: NOT of the XOR of the nine data nibbles (R44). -/
def checkNibble (w : Word) : Nat :=
  15 - (List.range 9).foldl (fun x i => x ^^^ fld w (4 * i + 3) (4 * i)) 0

/-- The five bytes of a word on the host port (R43). -/
def wordBytes (w : Word) : List Nat :=
  [checkNibble w * 16 + fld w 35 32, fld w 31 24, fld w 23 16, fld w 15 8, fld w 7 0]

/-- A word received as five bytes; none when the check nibble is wrong (R44). -/
def bytesWord (b : List Nat) : Option Word :=
  match b with
  | [b0, b1, b2, b3, b4] =>
    let w := wd ((b0 % 16) * 2 ^ 32 + (b1 % 256) * 2 ^ 24 + (b2 % 256) * 2 ^ 16 + (b3 % 256) * 2 ^ 8 + b4 % 256)
    if b0 / 16 = checkNibble w then some w else none
  | _ => none

/-! ### Byte strings -/

/-- The value of big-endian bytes. -/
def beNat (b : List Nat) : Nat := b.foldl (fun acc x => acc * 256 + x % 256) 0

/-- `n` big-endian bytes of a value. -/
def toBytes (n v : Nat) : List Nat := (List.range n).map (fun i => (v >>> (8 * (n - 1 - i))) % 256)

/-- Bytes `at` to `at + n - 1` as a big-endian number. -/
def beAt (b : List Nat) (at' n : Nat) : Nat := beNat ((b.drop at').take n)

/-- Two 36-bit words packed to nine bytes (R84): the words in order as one big-endian bit string; an odd last word is
padded with zero bits to whole bytes. -/
def packWords : List Word → List Nat
  | [] => []
  | [w] => toBytes 5 (w.toNat * 16)
  | w :: v :: r => toBytes 9 (w.toNat * 2 ^ 36 + v.toNat) ++ packWords r

/-- One step of the reflected CRC-32 over a bit. -/
def crcBit (poly c : Nat) : Nat := if c % 2 = 1 then (c / 2) ^^^ poly else c / 2

/-- CRC-32 of IEEE 802.3 over bytes (R81): reflected polynomial 0xEDB88320, initial and final XOR 0xFFFF_FFFF. -/
def crc32 (b : List Nat) : Nat :=
  (b.foldl (fun c x => (List.range 8).foldl (fun c _ => crcBit 0xEDB88320 c) (c ^^^ (x % 256))) 0xFFFFFFFF)
    ^^^ 0xFFFFFFFF

/-! ### Time (R48-R52) -/

/-- The control tick of a period (R49). -/
def controlTickOf (n : Nat) : Nat := n / 16

/-- The period a received RTP timestamp names, C being the current period (R52). -/
def rtpPeriod (t c : Nat) : Int :=
  let d := signedN 32 ((t + (2 ^ 32 - c % 2 ^ 32)) % 2 ^ 32)
  (c : Int) + d

/-- RTP timestamp and sequence number of a packet whose first sample is period n, s samples per packet (R50). -/
def rtpStamp (n : Nat) : Nat := n % 2 ^ 32
/-- See rtpStamp (R50). -/
def rtpSeq (n s : Nat) : Nat := (n / s) % 2 ^ 16

/-- Sampling frequency by RATE code 0, 1, 2 (R65): 48, 96, 192 kHz; other codes name no rate. -/
def rateHz (rate : Nat) : Nat := if rate = 0 then 48000 else if rate = 1 then 96000 else if rate = 2 then 192000 else 0

/-- Samples per packet by packet-time code 0-3 (125, 250, 333 us, 1 ms) and RATE code (R51); 0 where no combination
is sent or received. -/
def samplesPerPacket (ptime rate : Nat) : Nat :=
  let base := if ptime = 0 then 6 else if ptime = 1 then 12 else if ptime = 2 then 16 else if ptime = 3 then 48 else 0
  if rate = 0 then base else if rate = 1 then 2 * base else 0

end Sys2Proof.Machine
end

