-- ==== Sys2Proof/Machine/Kernel.lean ====
section
/-! DEFINITION. The exact arithmetic of the render path: the A80 modes (R33-R38), Locator's roots, sines and roundings
(R114, R134, R144), the interpolation kernel (R156), biquad sections (R217), the output hash (R348), the true-peak filter
and the MS36 format (R211, R214).

The tables the spec gives by formula (S of R144, h of R156) are computed here with 128 fraction bits and then rounded as the
spec says (log entry 20). -/
namespace Sys2Proof.Machine
open Sys2Proof

/-! ### A80 (R32-R38) -/

/-- WRAP: the value modulo 2^80, two's complement (R34). -/
def wrap80 (z : Int) : Int := Int.bmod z (2 ^ 80)

/-- Is the value outside the 80-bit range? -/
def out80 (z : Int) : Bool := z < -(2 ^ 79) || 2 ^ 79 - 1 < z

/-- SAT: the nearer extreme, with SOV (R35). -/
def sat80 (z : Int) : Int × Bool :=
  if 2 ^ 79 - 1 < z then (2 ^ 79 - 1, true) else if z < -(2 ^ 79) then (-(2 ^ 79), true) else (z, false)

/-- store_f36 of an A80 value (R38). -/
def storeA (a : Int) : Int × Bool := storeF36 (wrap80 a) 34

/-- F36 × G36 enters A80 with no shift (R33). -/
def mulG (x g : Int) : Int := x * g

/-- F36 × C36 enters A80 shifted by one (R33). -/
def mulC (x c : Int) : Int := x * c * 2

/-- An F36 added without a multiply (R33). -/
def addF (x : Int) : Int := x * 2 ^ 34

/-- Scale a sample by k × 2^28 as a G36 factor and store it (R168, R321, R325). -/
def scale64 (x : Int) (k : Nat) : Int := (storeA (mulG x (k * 2 ^ 28))).1

/-! ### Locator's arithmetic (R114, R134) -/

/-- round_half_even(a, m): the nearest integer to a / m, ties to even (R114). -/
def rhe (a m : Int) : Int := divRoundEven (if m < 0 then -a else a) m.natAbs

/-- Newton's step of the integer square root, on fuel. -/
def isqrtGo (n : Nat) : Nat → Nat → Nat
  | 0, x => x
  | f + 1, x => let y := (x + n / x) / 2; if y < x then isqrtGo n f y else x

/-- isqrt: the exact floor of the square root (R134); the start lies above the root and each step falls. -/
def isqrt (n : Nat) : Nat := if n = 0 then 0 else isqrtGo n 300 (2 ^ (n.log2 / 2 + 1))

/-- sat(): the G36 range (R134). -/
def satG (z : Int) : Int := sat36 z

/-! ### Fixed point with 128 fraction bits, for the tables -/

def fxOne : Int := 2 ^ 128
/-- π with 128 fraction bits. -/
def fxPi : Int := 1069028584064966747859680373161870783301
def fxMul (a b : Int) : Int := (a * b).fdiv fxOne

/-- Taylor series of the sine: `t` the current term of order 2k+1, on fuel. -/
def fxSinGo (x2 : Int) : Nat → Nat → Int → Int → Int
  | 0, _, _, acc => acc
  | f + 1, k, t, acc => fxSinGo x2 f (k + 1) (-((fxMul t x2).fdiv ((2 * k + 2) * (2 * k + 3)))) (acc + t)

/-- sin of an angle in radians. -/
def fxSin (x : Int) : Int := fxSinGo (fxMul x x) 40 0 x 0

/-- Series of the Bessel function I0 in t = (y/2)^2. -/
def fxI0Go (t : Int) : Nat → Nat → Int → Int → Int
  | 0, _, _, acc => acc
  | f + 1, k, u, acc => fxI0Go t f (k + 1) ((fxMul u t).fdiv ((k + 1) * (k + 1))) (acc + u)
def fxI0 (t : Int) : Int := fxI0Go t 60 0 fxOne 0

/-- Nearest integer of a fixed-point value. -/
def fxRound (v : Int) : Int := (v + 2 ^ 127).fdiv fxOne

/-- S[k] = round(sin(πk ÷ 2048) × 2^34) (R144). -/
def sTab (k : Nat) : Int := fxRound (fxSin ((fxPi * k).fdiv 2048) * 2 ^ 34)

/-- sin of an angle in turns × 2^36 (R144). -/
def sinT (a : Nat) : Int :=
  let a := a % 2 ^ 36
  let q := a / 2 ^ 34
  let i := (a / 2 ^ 24) % 1024
  let w : Int := (a % 2 ^ 24 : Nat)
  let v := if q % 2 = 0 then sTab i + rhe ((sTab (i + 1) - sTab i) * w) (2 ^ 24)
           else sTab (1024 - i) - rhe ((sTab (1024 - i) - sTab (1023 - i)) * w) (2 ^ 24)
  if 2 ≤ q then -v else v

/-- cos of an angle in turns × 2^36 (R144). -/
def cosT (a : Nat) : Int := sinT (a + 2 ^ 34)

/-- Degrees with 20 fraction bits to turns × 2^36 (R144). -/
def degTurns (d : Nat) : Nat := (rhe ((d : Int) * 2 ^ 16) 360).toNat

/-- sinc(z) × K(z) at z = n / 256, rounded to C36 (R156 step 1). -/
def kern0 (n : Int) : Int :=
  let m := n.natAbs
  let sinc := if m = 0 then fxOne else
    let q := m / 256
    let sn := fxSin ((fxPi * (m % 256 : Nat)).fdiv 256)
    let num := if q % 2 = 0 then sn else -sn
    (num * fxOne * 256).fdiv (fxPi * m)
  -- K(z): I0(7 sqrt(1 - (z/4.5)^2)) / I0(7); (y/2)^2 = 12.25 (1 - z^2 / 20.25), z^2 = m^2 / 65536
  let z2 := (fxOne * (m * m : Nat) * 4).fdiv (65536 * 81)
  let t := (fxOne - z2) * 49 / 4
  let k := (fxI0 t * fxOne).fdiv (fxI0 (fxOne * 49 / 4))
  fxRound (fxMul sinc k * 2 ^ 33)

/-- h[p](j) for p = 0-256, j = -3 to 4: every phase sums to 2^33 (R156). -/
def kern (p : Nat) (j : Int) : Int :=
  let v := kern0 (j * 256 - p)
  let fix := if p ≤ 128 then (0 : Int) else 1
  if j = fix then
    let sum := ([-3, -2, -1, 0, 1, 2, 3, 4] : List Int).foldl (fun a i => a + kern0 (i * 256 - p)) 0
    v + (2 ^ 33 - sum)
  else v

/-- An eight-tap read at fraction f (Q.16); `x j` is the sample at tap j (R156). -/
def interp (f : Nat) (x : Int → Int) : Int :=
  let p := f / 256
  let w : Int := (f % 256 : Nat)
  let c (j : Int) : Int := kern p j + rhe ((kern (p + 1) j - kern p j) * w) 256
  (storeA (([-3, -2, -1, 0, 1, 2, 3, 4] : List Int).foldl (fun a j => a + mulC (x j) (c j)) 0)).1

/-! ### Biquad sections (R217) -/

/-- Coefficients b0, b1, b2, a1, a2 of a section. -/
structure Coef where
  b0 : Int
  b1 : Int
  b2 : Int
  a1 : Int
  a2 : Int
deriving DecidableEq, Repr

/-- The identity section (R217). -/
def Coef.one : Coef := { b0 := 2 ^ 33, b1 := 0, b2 := 0, a1 := 0, a2 := 0 }

/-- Interpolate every coefficient (R226, R231): step k + 1 of f. -/
def Coef.mix (a b : Coef) (k f : Nat) : Coef :=
  let g (x y : Int) : Int := x + rhe ((y - x) * (k + 1)) f
  { b0 := g a.b0 b.b0, b1 := g a.b1 b.b1, b2 := g a.b2 b.b2, a1 := g a.a1 b.a1, a2 := g a.a2 b.a2 }

/-- What a section gives: output, its new states, SOV, SAT. -/
structure BiOut where
  y : Int
  s : Int × Int
  sov : Bool
  sat : Bool
deriving DecidableEq, Repr

/-- One section of R217, every operation in SAT mode in the order written. -/
def biquad (c : Coef) (x : Int) (s : Int × Int) : BiOut :=
  let a := sat80 (mulC x c.b0 + s.1)
  let y := storeF36 a.1 34
  let t := sat80 (mulC x c.b1 - mulC y.1 c.a1)
  let s1 := sat80 (t.1 + s.2)
  let s2 := sat80 (mulC x c.b2 - mulC y.1 c.a2)
  { y := y.1, s := (s1.1, s2.1), sov := a.2 || t.2 || s1.2 || s2.2, sat := y.2 }

/-- A chain of sections (R217, R219): output, states, SOV, SAT. A section without states starts from zero. -/
def chain : List Coef → List (Int × Int) → Int → Int × List (Int × Int) × Bool × Bool
  | [], _, x => (x, [], false, false)
  | c :: cs, ss, x =>
    let o := biquad c x (ss.headD (0, 0))
    let r := chain cs ss.tail o.y
    (r.1, o.s :: r.2.1, o.sov || r.2.2.1, o.sat || r.2.2.2)

/-! ### Output hash (R348) -/

/-- The output hash of period n over the released samples in feed order (R348). -/
def outHash (n : Nat) (rel : List Int) : Nat :=
  ((n : Int) :: rel).foldl (fun h w =>
    let x := (h ^^^ (w.emod (2 ^ 64)).toNat) * 0x9e3d5a71c2b48f63 % 2 ^ 64
    x ^^^ (x / 2 ^ 31)) 0x7a3c91e50b6d24f1

/-! ### Meters (R211, R214) -/

/-- The four phases of the 48-tap filter of ITU-R BS.1770-4 Annex 2, in units of 2^-13 (PRESUMED: the standard's table; log
entry 21). -/
def tpTaps : List (List Int) := [
  [14, 90, -161, 272, -487, 1125, 7964, -838, 390, -218, 122, -68],
  [-239, 240, -424, 730, -1364, 3810, 6388, -1641, 832, -477, 271, -155],
  [-155, 271, -477, 832, -1641, 6388, 3810, -1364, 730, -424, 240, -239],
  [-68, 122, -218, 390, -838, 7964, 1125, -487, 272, -161, 90, 14]]

/-- The largest magnitude of the four phases over the latest samples, newest first (R211). -/
def truePeak (hist : List Int) : Nat :=
  (tpTaps.map (fun t =>
    (storeA (((t.zip hist).map (fun e => mulC e.2 (e.1 * 2 ^ 20))).foldl (· + ·) 0)).1.natAbs)).foldl max 0

/-- One mean-square update (R211): m + floor((x² − m) ÷ 2^SHIFT). -/
def meanSq (m : Nat) (x : Int) (sh : Nat) : Nat := ((m : Int) + floorShift (x * x - m) sh).toNat

/-- MS36: EXP in bits 35:30 and MANT in bits 29:0 (R214). -/
def ms36 (m : Nat) : Word :=
  if m < 2 ^ 30 then wd m else
    let e := m.log2 + 1 - 30
    wd (e * 2 ^ 30 + m / 2 ^ e)

end Sys2Proof.Machine
end

