-- ==== Sys2Proof/Machine/RegMap.lean ====
section
/-! DEFINITION. The address map (R559-R561), the access behaviour of every register field (R5, R8) and what every
word reads as after reset, before anything has written it. Each row of a block below is one register line of the
chapter that owns it. -/
namespace Sys2Proof.Machine
open Sys2Proof

/-- Who may write a register (the rights sentence of its chapter). `ignored`: read-only, a write is ignored (R5). -/
inductive Who where
  | any | hearth | host | loader | hearthHost | hearthHostLoader | ignored | refuse
deriving DecidableEq, Repr

/-- One register, or an indexed family of them: word address of its first, how many, the distance between two, its
reset value, and the masks of its RW, RC and W1C bits. Bits in no mask are RO, WO or W1S: they change only through
the command that owns them. -/
structure Reg where
  base : Nat
  count : Nat := 1
  stride : Nat := 1
  reset : Nat := 0
  rw : Nat := 0
  rc : Nat := 0
  w1c : Nat := 0
  who : Who := .ignored
deriving DecidableEq, Repr

/-! ### Block bases (24: Register index) -/
def SYS : Nat := 0x30000000
def WAV : Nat := 0x30010000
def LOC : Nat := 0x30020000
def CRU : Nat := 0x30030000
def TPR : Nat := 0x30040000
def BEL : Nat := 0x30050000
def QCH : Nat := 0x30060000
def TWN : Nat := 0x30070000
/-- Port A at x = 0, port B at x = 1. -/
def MAC (x : Nat) : Nat := 0x30080000 + 0x10000 * x
def STM : Nat := 0x300A0000
def CLK : Nat := 0x300B0000
def DRC : Nat := 0x300C0000
def XBR : Nat := 0x300D0000
def MBX : Nat := 0x300E0000
def TDM : Nat := 0x300F0000
def PDM : Nat := 0x30100000
def HPT : Nat := 0x30110000
def HTH : Nat := 0x30120000
def SEC : Nat := 0x30130000
def LIF : Nat := 0x30140000
def PIN : Nat := 0x30150000
/-- Lane n's control block. -/
def LAN (n : Nat) : Nat := 0x30200000 + 0x1000 * n
/-- The loop registers of loop k: 0 MPLL, 1 APLL, 2 DPLL, 3 SPLL. -/
def CLKL (k : Nat) : Nat := CLK + 0x100 + 0x40 * k

/-! ### Render tables (24) -/
def tblObject : Nat := 0x20000000
def tblTarget : Nat := 0x20010000
def tblSceneDir : Nat := 0x20011000
def tblSceneBody : Nat := 0x20012000
def tblLocator : Nat := 0x20030000
def tblRoute : Nat := 0x20080000
def tblStage : Nat := 0x20082000
def tblDest : Nat := 0x20084000
def tblMeter : Nat := 0x20090000
def tblObjChain : Nat := 0x200A0000
def tblFeedChain : Nat := 0x200A1000
def tblLineLen : Nat := 0x200C0000
def tblBank (b : Nat) : Nat := 0x20100000 + 0x60000 * b
def tblOwner : Nat := 0x201E0000
/-- X (0), Y (1) and instruction (2) memory of lane n. -/
def laneMem (n k : Nat) : Nat := 0x28000000 + 0x40000 * n + 0x10000 * k

/-! ### The registers, block by block -/

def regsSys : List Reg := [
  { base := SYS, reset := 0x0A71010A1 },
  { base := SYS + 1 },                                                        -- STATE: computed
  { base := SYS + 2, who := .hearthHost },                                    -- CMD: WO
  { base := SYS + 3, rc := 0xFF00 },
  { base := SYS + 4, reset := 0x3, rc := 0xFF000, w1c := 0x1FF, who := .any },
  { base := SYS + 5 },
  { base := SYS + 6, rw := 0x7F, who := .hearthHost },
  { base := SYS + 7 }, { base := SYS + 8 }, { base := SYS + 9 },
  { base := SYS + 0xA, count := 2 }]

def regsWav : List Reg := [
  { base := WAV, rc := 0xFFFF0000 },
  { base := WAV + 1, count := 3, rc := 0xFFFFFFFFF },
  { base := WAV + 4, count := 2 }, { base := WAV + 8, count := 5 },
  { base := WAV + 0x40, count := 64 },
  { base := WAV + 0x80, count := 32, w1c := 0xFFFFFFFF, who := .any },
  { base := WAV + 0xA0, count := 64 }]

def regsLoc : List Reg := [
  { base := LOC, reset := 0x01570000, rw := 0x1FFFFFF, who := .loader },
  { base := LOC + 1, reset := 0x00101000, rw := 0xFFFFFFFF, who := .loader },
  { base := LOC + 2, reset := 0x12C0, rw := 0xFFFFF, who := .loader },
  { base := LOC + 3, reset := 0x10000000, rw := 0xFFFFFFFFF, who := .loader },
  { base := LOC + 0x10, rc := 0xFFFF0000 },
  { base := LOC + 0x11, count := 2, rc := 0xFFFFFFFFF },
  { base := LOC + 0x20, rw := 0x1FFF, who := .any },
  { base := LOC + 0x21, count := 3 }, { base := LOC + 0x40, count := 64 },
  { base := LOC + 0x100, reset := 0x76D8, rw := 0x1FFFF, who := .any },
  { base := LOC + 0x101, count := 2 },
  { base := LOC + 0x103, rc := 0xFFFFFFFFF },
  { base := LOC + 0x104, who := .any },
  { base := LOC + 0x105, reset := 0x0003FF00, rc := 0x3FC0000 },
  { base := LOC + 0x106, count := 3 },
  { base := LOC + 0x200, count := 0x600, rw := 0xFFFFFFFFF, who := .any }]

def regsCru : List Reg := [
  { base := CRU + 1, count := 2, rc := 0xFFFFFFFFF },
  { base := CRU + 0x10, count := 2, rw := 0xFFFFFFFF, who := .hearthHostLoader },
  { base := CRU + 0x12, who := .hearthHostLoader },
  { base := CRU + 0x13, reset := 0x000FFC00, rc := 0x3FF00000 },
  { base := CRU + 0x14, count := 2 },
  { base := CRU + 0x20, reset := 0x25805C1AA, rw := 0xFFF0FFFFF, who := .any },
  { base := CRU + 0x21, reset := 0x1770, rw := 0xFFFF, who := .any },
  { base := CRU + 0x22, who := .any },
  { base := CRU + 0x23, count := 3 },
  { base := CRU + 0x1000, count := 1024, rw := 1, who := .any }]

def regsTpr : List Reg := [
  { base := TPR }, { base := TPR + 1, rc := 0xFFFFFFFFF },
  { base := TPR + 0x10, count := 2, rw := 0xFFFFFFFF, who := .hearthHostLoader },
  { base := TPR + 0x12, who := .hearthHostLoader },
  { base := TPR + 0x13, rc := 0x800000000 },
  { base := TPR + 0x14, count := 2 }, { base := TPR + 0x20, count := 2 },
  { base := TPR + 0x40, count := 32, w1c := 0xFFFFFFFF, who := .any }]

def regsBel : List Reg := [
  { base := BEL, reset := 0x40 }, { base := BEL + 1, reset := 0xFF }, { base := BEL + 2 },
  { base := BEL + 3, count := 2, rc := 0xFFFFFFFFF }, { base := BEL + 5 },
  { base := BEL + 0x10, count := 2, rw := 0xFFFFFFFF, who := .hearth },
  { base := BEL + 0x12, who := .hearth },
  { base := BEL + 0x13, rc := 0x7F0000000, who := .refuse },
  { base := BEL + 0x14, count := 2, rw := 0xFFFFFFFF, who := .host },
  { base := BEL + 0x16, who := .host },
  { base := BEL + 0x17, rc := 0x7F0000000, who := .refuse },
  { base := BEL + 0x20, rw := 0x7FF, who := .hearth },
  { base := BEL + 0x21 },
  -- items and graph nodes, four words each (R292, R312)
  { base := BEL + 0x1000, count := 2048, stride := 4, rw := 0xF3F0F1FFF, who := .loader },
  { base := BEL + 0x1001, count := 2048, stride := 4, rw := 0x3F3FFF, who := .loader },
  { base := BEL + 0x1002, count := 2048, stride := 4, who := .loader },
  { base := BEL + 0x1003, count := 2048, stride := 4, who := .loader },
  { base := BEL + 0x4000, count := 1024, stride := 4, rw := 0xFFFFFE000, who := .hearth },
  { base := BEL + 0x4001, count := 1024, stride := 4, rw := 0xBFFBFFBFF, who := .hearth },
  { base := BEL + 0x4002, count := 1024, stride := 4, rw := 0x7F7F07FF, who := .hearth },
  { base := BEL + 0x4003, count := 1024, stride := 4, rw := 0xFFFFFFFFF, who := .hearth }]

def regsQch : List Reg := [
  { base := QCH }, { base := QCH + 1, who := .hearthHost }, { base := QCH + 2, who := .hearthHost },
  { base := QCH + 3, count := 2, rc := 0xFFFFFFFFF }, { base := QCH + 5 },
  { base := QCH + 0x10, count := 2, rw := 0xFFFFFFFF, who := .hearthHostLoader },
  { base := QCH + 0x12, who := .hearthHostLoader }, { base := QCH + 0x13 },
  { base := QCH + 0x40, count := 32 }, { base := QCH + 0x400, count := 1024, rc := 0xFFFF0000 }]

def regsTwn : List Reg := [
  { base := TWN, reset := 0x0003C000 },
  { base := TWN + 1, reset := 0x807D00064, rw := 0x8FFFFFFFF, who := .hearthHost },
  { base := TWN + 2, count := 2, rw := 0xFFFFFFFF, who := .hearthHost },
  { base := TWN + 4, who := .hearthHost }, { base := TWN + 5 },
  { base := TWN + 6, count := 3, rc := 0xFFFFFFFFF }, { base := TWN + 9, count := 2 },
  { base := TWN + 0xB, count := 2 }, { base := TWN + 0xD, rc := 0xFFFF }]

/-- The registers of one MAC port (x = 0 for A, 1 for B). -/
def regsMac (x : Nat) : List Reg := [
  { base := MAC x, who := .refuse },
  { base := MAC x + 1, rw := 7, who := .hearthHostLoader },
  { base := MAC x + 2, w1c := 7, who := .any },
  { base := MAC x + 4, rw := 0xFFFF, who := .hearthHostLoader },
  { base := MAC x + 5, rw := 0xFFFFFFFF, who := .hearthHostLoader },
  { base := MAC x + 6, rw := 0xFFFFFFFF, who := .hearthHostLoader },
  { base := MAC x + 7, rw := 0x800000FFF, who := .hearthHostLoader },
  { base := MAC x + 8, reset := 0x00FAC688, rw := 0xFFFFFF, who := .hearthHostLoader },
  { base := MAC x + 9, rw := 0x1F, who := .hearthHostLoader },
  { base := MAC x + 0x40, count := 64, rw := 0x8FFFFFFFF, who := .hearthHostLoader },
  { base := MAC x + 0x100, count := 4, stride := 8, rw := 0xFFFFFFFF, who := .hearth },
  { base := MAC x + 0x101, count := 4, stride := 8, rw := 0xFFFFFFFF, who := .hearth },
  { base := MAC x + 0x102, count := 4, stride := 8, rw := 0xFFFFFFFF, who := .hearth },
  { base := MAC x + 0x103, count := 4, stride := 8, rw := 0x3FF, who := .hearth },
  { base := MAC x + 0x104, count := 4, stride := 8, who := .refuse },
  { base := MAC x + 0x105, count := 4, stride := 8, rw := 0x800000000, who := .hearth },
  { base := MAC x + 0x140, count := 5, stride := 8, rw := 0xFFFFFFFF, who := .hearth },
  { base := MAC x + 0x141, count := 5, stride := 8, rw := 0xFFFFFFFF, who := .hearth },
  { base := MAC x + 0x143, count := 5, stride := 8, rw := 0x3FF, who := .hearth },
  { base := MAC x + 0x144, count := 5, stride := 8, who := .refuse },
  { base := MAC x + 0x145, count := 5, stride := 8, rw := 0x800000000, who := .hearth },
  { base := MAC x + 0x400, count := 29, who := .refuse },
  { base := MAC x + 0x420, count := 4, who := .refuse },
  { base := MAC x + 0x424, count := 8, who := .refuse },
  { base := MAC x + 0x480, count := 2, w1c := 0xFFFFFFFF, who := .any }]

/-- The bits of each word of a receive entry, and of a transmit entry, that are not reserved (R390, R400). -/
def rxMask (j : Nat) : Nat :=
  if j = 0 then 0xF01FF107F else if j = 1 then 0x7FF else if j = 3 ∨ j = 6 then 0xFFFF else if j ≤ 9 then 0xFFFFFFFF else 0
def txMask (j : Nat) : Nat :=
  if j = 0 then 0xE01FF107F else if j = 1 then 0xFFFC else if j = 4 ∨ j = 8 then 0xFFFF else if j ≤ 10 then 0xFFFFFFFF else 0

/-- The words of a table of 128 stream entries of 16 words, with the writable bits of each. -/
def streamRows (base : Nat) (mask : Nat → Nat) : List Reg :=
  (List.range 16).map (fun j =>
    { base := base + j, count := 128, stride := 16, rw := mask j, who := .hearthHostLoader })

def regsStm : List Reg := [
  { base := STM }, { base := STM + 1, reset := 0x000F4240, rw := 0xFFFFFFFFF, who := .loader },
  { base := STM + 2, reset := 0x37F3D03E8, rw := 0xFFFFFFFFF, who := .loader },
  { base := STM + 3, count := 5 },
  { base := STM + 0x10, count := 3, rc := 0xFFFFFFFFF }, { base := STM + 0x13, rc := 0xFFF },
  { base := STM + 0x800, count := 128, rc := 0xFFFFFF }]
  -- receive and transmit entries, 16 words each (R390, R400)
  ++ streamRows (STM + 0x1000) rxMask ++ streamRows (STM + 0x2000) txMask

/-- The registers of one loop: its CTL reset, and the INT and FRAC of its nominal word (R415). -/
def regsLoop (k ctl int frac : Nat) : List Reg := [
  { base := CLKL k, reset := ctl, rw := 0x3FF13, who := .hearth },
  { base := CLKL k + 1, reset := int, rw := 0xFF, who := .hearth },
  { base := CLKL k + 2, reset := frac, rw := 0xFFFFFFFFF, who := .hearth },
  { base := CLKL k + 3, reset := frac, who := .refuse },
  { base := CLKL k + 4, rw := 0xFFFFF, who := .hearth },
  { base := CLKL k + 5, who := .refuse }]

/-- The reset weights of the ramp profile (R423). -/
def rampWeights : List Nat :=
  [512, 1536, 2560, 3584, 4608, 5632, 6656, 7680, 7680, 6656, 5632, 4608, 3584, 2560, 1536, 512]

/-- The ramp registers of DPLL or SPLL. -/
def regsRamp (k : Nat) : List Reg :=
  rampWeights.zipIdx.map (fun e =>
    { base := CLKL k + 0x10 + e.2, reset := 8 * 2 ^ 17 + e.1, rw := 0x1FFFFFF, who := .hearth })

def regsClk : List Reg := [
  { base := CLK, who := .refuse }, { base := CLK + 1, w1c := 0xFFF, who := .hearth },
  { base := CLK + 2, rc := 0xFFFFFFFFF, who := .refuse },
  { base := CLK + 3, reset := 0x00019014, rw := 0xFFFFFF, who := .hearthHost },
  { base := CLK + 4, who := .refuse }, { base := CLK + 5, count := 3, who := .refuse },
  { base := CLK + 8, rw := 3, who := .hearth },
  { base := CLK + 0x400, count := 256, who := .refuse }]
  ++ regsLoop 0 0x6400 0x7D 0xD44135547 ++ regsLoop 1 0x6410 0x7D 0xD44135547
  ++ regsRamp 2 ++ regsRamp 3 ++ regsLoop 2 0x6400 0xAA 0xA3D70A3D7 ++ regsLoop 3 0x6400 0x52 0x800000000

def regsDrc : List Reg := [
  { base := DRC, who := .refuse }, { base := DRC + 1, reset := 0x3E8, rw := 0xFFFFF, who := .hearthHost },
  { base := DRC + 2, who := .refuse }, { base := DRC + 3, count := 3, rc := 0xFFFFFFFFF, who := .refuse },
  { base := DRC + 6, count := 3, who := .refuse }, { base := DRC + 0x100, count := 52, who := .refuse }]

def regsXbr : List Reg := [
  { base := XBR, rc := 0xFFFFFFFFF }, { base := XBR + 1, count := 2 },
  { base := XBR + 0x40, count := 0x58 }, { base := XBR + 0x100, count := 64, who := .any },
  { base := XBR + 0x140, count := 64 }]

def regsMbx : List Reg := [
  { base := MBX, count := 13, rw := 0xFFFFFFFFF, who := .hearth },
  { base := MBX + 0xD, who := .hearth }, { base := MBX + 0xE },
  { base := MBX + 0x10, count := 13, rw := 0xFFFFFFFFF, who := .host },
  { base := MBX + 0x1D, who := .host }, { base := MBX + 0x1E },
  { base := MBX + 0x20, count := 13, rw := 0xFFFFFFFFF },
  { base := MBX + 0x2D }, { base := MBX + 0x2E },
  { base := MBX + 0x100, count := 0x300 },
  { base := MBX + 0x400, who := .host }, { base := MBX + 0x401 },
  { base := MBX + 0x402, w1c := 0xFFFF, who := .host },
  { base := MBX + 0x403, reset := 0xFFFFFFFF, rw := 0xFFFFFFFF, who := .host },
  { base := MBX + 0x404, who := .hearth }, { base := MBX + 0x405 },
  { base := MBX + 0x406, w1c := 0xFFFFF000, who := .hearth },
  { base := MBX + 0x407, reset := 0xFFFFFFFF, rw := 0xFFFFFFFF, who := .hearth },
  { base := MBX + 0x408, who := .hearth }, { base := MBX + 0x409 },
  { base := MBX + 0x40A, w1c := 0xFFFF0000, who := .hearth },
  { base := MBX + 0x40B, reset := 0xFFFFFFFF, rw := 0xFFFFFFFF, who := .hearth },
  { base := MBX + 0x410, who := .hearth }, { base := MBX + 0x411, count := 2, who := .refuse },
  { base := MBX + 0x420, rc := 0xFFFFFFFFF }, { base := MBX + 0x421 }]

def regsAudio : List Reg := [
  { base := TDM, count := 8, stride := 16, rw := 0xFFFFFFC00, who := .loader },
  { base := TDM + 1, count := 8, stride := 16, who := .refuse },
  { base := TDM + 2, count := 8, stride := 16, rc := 0xFFFFFFFFF, who := .refuse },
  { base := PDM, count := 4, rw := 0x800000001, who := .loader },
  { base := PDM + 0x10, count := 16, rw := 0xE0000000F, who := .loader },
  { base := PDM + 0x20, count := 16, who := .refuse },
  { base := PDM + 0x30, rc := 0xFFFFFF000, who := .refuse },
  { base := PDM + 0x100, count := 8, rw := 0x7FF, who := .hearthHost },
  { base := PDM + 0x108, reset := 0x10100000, rw := 0xFFFFFFFF, who := .hearthHost },
  { base := PDM + 0x109, reset := 1, rw := 0xFFFFFFFF, who := .hearthHost },
  { base := PDM + 0x10A, count := 2, rw := 0xFFFFFFFF, who := .hearthHost },
  { base := PDM + 0x10C, who := .hearthHost }, { base := PDM + 0x10D, who := .refuse }]

def regsHost : List Reg := [
  { base := HPT, who := .refuse }, { base := HPT + 1, rc := 0xFFFFFFFFF, who := .refuse },
  { base := HPT + 2, who := .refuse }, { base := HPT + 3, rw := 0x1FFFFFF, who := .host }]

def regsHth : List Reg := [
  { base := HTH, count := 8, rc := 0xFFF000, who := .refuse },
  { base := HTH + 0x10, count := 10, rc := 0xFFFFFF000, who := .refuse },
  { base := HTH + 0x20, count := 6, who := .refuse },
  { base := HTH + 0x30, reset := 0x578, rw := 0xFFF, who := .hearthHost },
  { base := HTH + 0x31, who := .refuse }, { base := HTH + 0x32, rc := 0x3FF, who := .refuse },
  { base := HTH + 0x40, count := 3, who := .refuse },
  { base := HTH + 0x43, reset := 2, rw := 3, who := .hearthHost },
  { base := HTH + 0x44, rc := 0xFFFFFF000, who := .refuse },
  { base := HTH + 0x48, rw := 0xFFFFFFFFF, who := .hearthHost },
  { base := HTH + 0x49, who := .refuse }, { base := HTH + 0x50, count := 8, who := .refuse },
  { base := HTH + 0x60, rw := 0xE001FFFFF, who := .hearthHost },
  { base := HTH + 0x61, count := 2, rw := 0xFFFFFFFF, who := .hearthHost },
  { base := HTH + 0x70, who := .host }, { base := HTH + 0x71, count := 2, rw := 0x1FFFFFF, who := .host },
  { base := HTH + 0x73, rc := 0xFF0000000, who := .refuse },
  { base := HTH + 0x1000, count := 0x1000, rw := 0xFFFFFFFFF, who := .host }]

def regsSec : List Reg := [
  { base := SEC, who := .refuse }, { base := SEC + 1, count := 4, who := .refuse },
  { base := SEC + 0x10, count := 8, who := .refuse }, { base := SEC + 0x18, rc := 0xFFFFFFFFF, who := .refuse },
  { base := SEC + 0x20, count := 12, who := .refuse }, { base := SEC + 0x30, who := .host },
  { base := SEC + 0x31, who := .refuse }, { base := SEC + 0x40, count := 61, rw := 0xFFFFFFFFF, who := .host },
  { base := SEC + 0x80, who := .host }, { base := SEC + 0x90, count := 8, rw := 0xFFFFFFFFF, who := .host },
  { base := SEC + 0x98, rw := 3, who := .host }, { base := SEC + 0x100, count := 96, who := .refuse },
  { base := SEC + 0x200, count := 49, who := .refuse }]

def regsLif : List Reg := [
  { base := LIF, count := 3, who := .refuse }, { base := LIF + 4, count := 2, who := .host },
  { base := LIF + 6, who := .refuse }, { base := LIF + 0x10, who := .refuse },
  { base := LIF + 0x20, count := 3, who := .refuse }, { base := LIF + 0x100, count := 30, who := .refuse },
  { base := LIF + 0x180, count := 16, who := .refuse }]

def regsPin : List Reg := [
  { base := PIN + 0x10, w1c := 0x44, who := .any }, { base := PIN + 0x11, rc := 0xFFFFFFFFF },
  { base := PIN + 0x100, count := 16, reset := 0x3E8, rw := 0xFFFFFFFFF, who := .any },
  { base := PIN + 0x120 }, { base := PIN + 0x121, rw := 0xFFFF, who := .any },
  { base := PIN + 0x122, w1c := 0xFFFF, who := .any }]

/-- Every register but those of the lane control blocks. -/
def regRows : List Reg :=
  regsSys ++ regsWav ++ regsLoc ++ regsCru ++ regsTpr ++ regsBel ++ regsQch ++ regsTwn ++ regsMac 0 ++ regsMac 1
  ++ regsStm ++ regsClk ++ regsDrc ++ regsXbr ++ regsMbx ++ regsAudio ++ regsHost ++ regsHth ++ regsSec ++ regsLif
  ++ regsPin

/-- The registers of a lane control block, by offset (10: Registers). Pair-level registers exist in the even lane's
block only. -/
def laneRows : List Reg := [
  { base := 0, who := .refuse }, { base := 1, who := .refuse }, { base := 2, rc := 0xFFFFFFFFF, who := .refuse },
  { base := 3, rw := 0xF, who := .loader }, { base := 0x10, count := 4, rw := 0xFFFFFFFF, who := .loader },
  { base := 0x20, count := 2, rw := 0xFFFFFFFF, who := .hearthHost }, { base := 0x22, who := .hearthHost },
  { base := 0x23, reset := 0x000FFC00, rc := 0x3FF00000, who := .refuse },
  { base := 0x100, count := 64, rw := 0xFFFFFFFFF, who := .loader },
  { base := 0x400, count := 0x400, rw := 0xFFFFFFFFF, who := .hearthHost }]

/-- Does a row cover an address? -/
def Reg.covers (r : Reg) (a : Nat) : Bool :=
  r.base ≤ a && (a - r.base) % r.stride == 0 && (a - r.base) / r.stride < r.count

/-- Is the address inside a lane control block (lanes 0-71)? -/
def inLaneBlock (a : Nat) : Bool := 0x30200000 ≤ a && a < 0x30248000

/-- The register at an address, where one is listed. Pair-level lane registers lie in the even lane's block. -/
def findReg (a : Nat) : Option Reg :=
  if inLaneBlock a then
    let off := a % 0x1000
    let even := ((a - 0x30200000) / 0x1000) % 2 == 0
    laneRows.find? (fun r => r.covers off && (off < 3 || even))
  else regRows.find? (fun r => r.covers a)

/-! ### Target ports (R462) -/

/-- The target ports of the crossbar (R462). -/
inductive Port where
  | hearthRam | sram | tables | lanes | regs | dram
deriving DecidableEq, Repr

/-- Is the address inside a render table (24: Render tables)? -/
def inTables (a : Nat) : Bool :=
  (0x20000000 ≤ a && a ≤ 0x200100FF) || (0x20011000 ≤ a && a ≤ 0x2001107F) || (0x20012000 ≤ a && a ≤ 0x20021FFF)
  || (0x20030000 ≤ a && a ≤ 0x20063FFF) || (0x20080000 ≤ a && a ≤ 0x200827FF)
  || (0x20084000 ≤ a && a ≤ 0x20084FFF) || (0x20090000 ≤ a && a ≤ 0x20091FFF)
  || (0x200A0000 ≤ a && a ≤ 0x200A0FFE) || (0x200A1000 ≤ a && a ≤ 0x200A17FF)
  || (0x200C0000 ≤ a && a ≤ 0x200C07FF) || (0x20100000 ≤ a && a ≤ 0x201BFFFF)
  || (0x201E0000 ≤ a && a ≤ 0x201EFFFF)

/-- The bits of a render-table word that a write changes: those of its fields. Reserved ones read as zero, POSITION is read only (R8,
R106, R108, R113, R126, R137-R142). Routes, destinations and coefficients keep to their own rules. -/
def tableMask (a : Nat) : Nat :=
  let all := 0xFFFFFFFFF
  if a < tblTarget then
    (let j := a % 64
     if 16 ≤ j ∧ j ≤ 60 then (if (j - 16) % 5 = 1 then 0x8FFFFFFFF else all)
     else [0x7FF, 0xFF, all, 0, 0, 0, 0xFFFFFFF, 0xFFFF, 0x3F, 0xFFF, 0xFF].getD j 0)
  else if a < tblSceneDir then [3, 0x3FF, 0x7FF, 0x3F, 0x3FF, 0x1F, all, all, all, all, all].getD (a % 32) 0
  else if a < tblSceneBody then (if a % 2 = 0 then 0xFFFF else 0x80003FFFF)
  else if a < tblLocator then all
  else if a < 0x20030400 then
    (let j := a % 32
     if 16 ≤ j then 0x3FF else [0x3FF, 0x73FFF, 1, 0xFFFFFFF, all, all, all, 0x1F].getD j 0)
  else if a < 0x20030800 then (if a % 32 < 24 then all else 0)
  else if a < 0x20031000 then (if a % 8 < 5 then all else 0)
  else if a < 0x20038000 then [all, all, all, 0xFFFF, 0xF3FFF].getD (a % 16) 0
  else if a < 0x20040000 then (if a % 16 = 0 then 0xF3FFFFFFF else if a % 16 < 10 then all else 0)
  else if a < 0x20050000 then 0x1FFFFF
  else if a < 0x20060000 then 0x7FF
  else if a < tblRoute then 0x3FF
  else if tblObjChain ≤ a ∧ a < tblFeedChain then 0xF3FFF
  else if tblFeedChain ≤ a ∧ a < tblLineLen then (if a % 2 = 0 then 0x3FFFFF else all)
  else if tblLineLen ≤ a ∧ a < tblBank 0 then 0x1FF
  else all

/-- Is the address inside a lane memory (R242): X, Y or instruction memory of lanes 0-71? -/
def inLaneMem (a : Nat) : Bool :=
  0x28000000 ≤ a && a < 0x29200000 &&
  (let o := a % 0x40000
   o < 0x2000 || (0x10000 ≤ o && o < 0x12000) || (0x20000 ≤ o && o < 0x24000))

/-- The target port an address is routed to; none answers DECODE (R462, R559). -/
def portOf (a : Nat) : Option Port :=
  if a ≤ 0x000FFFFF then some .hearthRam
  else if 0x10000000 ≤ a && a ≤ 0x101FFFFF then some .sram
  else if inTables a then some .tables
  else if inLaneMem a then some .lanes
  else if (0x30000000 ≤ a && a ≤ 0x3015FFFF) || inLaneBlock a then some .regs
  else if 0x40000000 ≤ a && a ≤ 0x7FFFFFFF then some .dram
  else none

/-! ### Complement pairs and reset contents -/

/-- Is the address a word of a complement pair (R39; the owning chapters list them)? -/
def isPairWord (a : Nat) : Bool :=
  (QCH + 0x800 ≤ a && a ≤ QCH + 0x803) || (QCH + 0x1000 ≤ a && a ≤ QCH + 0x17FF)
  || (PIN ≤ a && a ≤ PIN + 3) || (TWN + 0x800 ≤ a && a ≤ TWN + 0x801)
  || (CRU + 0x4000 ≤ a && a ≤ CRU + 0x401F) || (CRU + 0x4800 ≤ a && a ≤ CRU + 0x57FF)

/-- The reset value of the pair whose value word is at an even address. -/
def pairReset (a : Nat) : Nat :=
  if a = QCH + 0x802 then 0x00012C004
  else if a = PIN ∨ a = PIN + 2 then 0x3E8
  else 0

/-- An object's words at reset (R108, R113): GAIN unity, FLAGS, GROUPS, EQ_CHAIN, STATUS. -/
def objectReset (j : Nat) : Nat :=
  if j = 2 then 0x400000000 else if j = 7 then 0xFFFF else if j = 8 then 0x3E else if j = 9 then 0xFFF
  else if j = 10 then 0x20 else 0

/-- What an address reads as when nothing has written it since reset: the reset contents the chapters give; a
word of RAM with no stated reset contents (SRAM, DRAM, Hearth's own memory) is zero (log entry 2). -/
def resetWord (a : Nat) : Word :=
  if isPairWord a then
    (if a % 2 = 0 then wd (pairReset a) else notW (wd (pairReset (a - 1))))
  else if tblObject ≤ a ∧ a ≤ tblObject + 0xFFFF then wd (objectReset (a % 64))
  else if tblTarget ≤ a ∧ a ≤ tblTarget + 0xFF then
    (let j := a % 32
     wd (if j = 3 then 0x20 else if j = 5 then 0x1E else if j = 6 then 0x400000000 else 0))
  else if a = MAC 0 + 4 ∨ a = MAC 1 + 4 then wd (bits (Config.otpMacBase + (a - MAC 0) / 0x10000) 47 32)
  else if a = MAC 0 + 5 ∨ a = MAC 1 + 5 then wd (bits (Config.otpMacBase + (a - MAC 0) / 0x10000) 31 0)
  else if 0x30000000 ≤ a ∧ a ≤ 0x30247FFF then
    (match findReg a with
     | some r => wd r.reset
     | none => 0)
  else 0

end Sys2Proof.Machine
end

