-- ==== Sys2Proof/Machine/State.lean ====
section
/-! DEFINITION. The state of the OZN1010 as plain data, the reasons a step can stop, and the state right after reset.

Every addressable word (registers, tables, lane memories, shared SRAM, DRAM) lives in `State.mem`; what the spec gives the
block beside that (modes, queues, histories, ramps, in-flight work) lives in the structures below. -/
namespace Sys2Proof.Machine
open Sys2Proof

/-! ### Device states, roles (03 R65; 14 R341) -/

/-- The device states of R65. -/
inductive DevState where
  | off | cocoon | reset | load | hold | armed | run | safe
deriving DecidableEq, Repr

/-- The roles of R341; `none` outside RUN and SAFE. -/
inductive Role where
  | solo | active | standby | detached | none
deriving DecidableEq, Repr

/-- The named events a chapter reports to the event log (R518). Their CODE numbers are the firmware package's. -/
inductive Event where
  | stateChange | holdEntry | unannouncedLoss | hearthRestart | sysMaster | pairReject | pairDiscard | routeDiscard
  | refusedAccess | lockForce | lockReset | thermal | dramLimit | voltage | dutyLate | logDropped | updateDone
  | securityCommand | tamper | calStop | vbatLost | rngFail | faultLatch | warnLatch | chatter | stuck | flashFault
  | staticRewrite | sceneApplyFailed | objectLimit | overrun | retry | retryFail | compareFail | progFault | laneRetired
  | crossTest | suspectFault | residue | quench | roleDecision | divergence | alignFail | alignDone | promotion
  | handover | tongsLost | tongsUp | wireFault | dualActive | fwdFail | periodMismatch | priorityFail | linkUp
  | linkDown | ringDrop | ptpState | gmChange | lockLoss | refLost | refReturn | realign | lockDeclared | noBand
  | guardTrip | xoLoss | dramUncorr | retrainFail | forcedBurst | tdmStopped | pdmStop | pdmStuck | graphEnd
  | delayLate | commitEnd | framesLost | announceChange | bgStop | laneCopy | initialScene | annPair | freeRun | captureDone | configRefused
  | missingInput | starved
deriving DecidableEq, Repr

/-- One log entry as eight words (R518), with the two fields the ring's rules look at. -/
structure LogEntry where
  seq : Nat
  sev : Nat
  words : List Word
deriving DecidableEq, Repr

/-- A report that waits to become a log entry (R520): what the block saw, with the period and calendar of the event. -/
structure Report where
  sev : Nat
  src : Nat
  event : Event
  period : Nat
  calSec : Nat
  calSub : Nat
  d0 : Nat
  d1 : Nat
deriving DecidableEq, Repr

/-- What a command lets the outside see: responses, frames, samples. The list of the state holds those of the latest
command only. -/
inductive Out where
  /-- A crossbar response: status code of R464 and the words of a read. -/
  | resp (status : Nat) (data : List Word)
  /-- Bytes the host port drives, word by word (R43). -/
  | host (bytes : List Nat)
  /-- A frame on Tongs: traffic class, per-class sequence number, body bytes (R345, R346). -/
  | tongs (cls seq : Nat) (more : Bool) (body : List Nat)
  /-- A frame handed to a network port's transmit queue. -/
  | net (port queue : Nat) (bytes : List Nat)
  /-- A UDP datagram of the block's own: port, source UDP port (none where the spec names none), destination address and UDP port,
  payload. -/
  | udp (port : Nat) (src : Option Nat) (ip udp : Nat) (payload : List Nat)
  /-- One TDM output frame (R483-R486). -/
  | tdm (port : Nat) (frame : TdmOut)
  /-- A master's access was held back or refused by the port itself. -/
  | wait (what : Nat)
deriving DecidableEq, Repr

/-! ### 03: system -/

/-- The system block: device state, pins and supplies, the hold and reset bookkeeping (R53-R77). -/
structure Sys where
  state : DevState
  prev : DevState
  role : Role
  /-- RATE of SYS_STATE: 0, 1, 2, or 3 for none. -/
  rate : Nat
  fromCocoon : Bool
  freeRun : Bool
  /-- The stop hold of R67 condition 6. -/
  stopHold : Bool
  /-- The main rails are up. -/
  rails : Bool
  /-- Levels of PORST_L and WRST_L: true is high (released). -/
  porstHigh : Bool
  wrstHigh : Bool
  /-- The boot ROM self-check failed: the device stays in RESET (R66). -/
  bootFailed : Bool
  /-- GP_15 was low at reset release (R73, SYS_BOOT.STRAP_HOLD). -/
  strap : Bool
  /-- The latest start followed a warm reset (SYS_BOOT.WARM). -/
  warm : Bool
  /-- HP_RDY has risen since the reset (R72). -/
  rdyUp : Bool
  /-- SYS_HOLD has been read since the entry to HOLD (R71: attention). -/
  holdRead : Bool
  /-- The latest entry to SAFE was caused by a fault (R70). -/
  safeFault : Bool
  /-- The SYS_CMD command in progress (STOP through its ramp), 0 for none (R77). -/
  busyCmd : Nat
  /-- Conditions 1 and 2 of R67: clock locked, count established. -/
  condClock : Bool
  condCount : Bool
  /-- Delay lines whose tail window has been filled with its lead since the entry to LOAD (R67 condition 3). -/
  prefetched : List Nat
  /-- Steps 2, 3 and 6 of the start-up timeline that have passed since the latest reset (R75). -/
  pllDone : Bool
  dramDone : Bool
  tested : Bool
  /-- Milliseconds from reset release to the end of the latest LOAD, and cycles of the calendar's crystal since then (R75). -/
  loadMs : Nat
  cycles : Nat
  /-- Hearth is restarting (R61), and a second watchdog expiry now would be within 10 s of that restart. -/
  hearthDown : Bool
  hearthRecent : Bool
  /-- Masters in reset whose drain has not completed (R468). -/
  draining : List Nat
  /-- A main rail is outside its operating range now, by rail number of Config.rails. -/
  railsOut : List Nat
  /-- The image in use is retained in HOLD (R73 STRAP, HOST_REQUEST). -/
  imageKept : Bool
deriving DecidableEq, Repr

/-! ### 22, 23: Cocoon, OTP, flash, lifetime, log, calendar -/

/-- The Cocoon domain: what VBAT keeps (R56, R526, R527, R556). -/
structure Cocoon where
  /-- VBAT is in range. -/
  vbat : Bool
  calSec : Nat
  calSub : Nat
  /-- 0 UNSET, 1 HOST, 2 PTP (LIF_CAL_STATUS.SOURCE). -/
  calSource : Nat
  /-- An unannounced loss waits to be reported (R56). -/
  lossLatch : Bool
  /-- Backup bits 15:0 and 47:16 (R526). -/
  backupSeq : Nat
  backupSecs : Nat
  /-- Backup bits 63:48: the tamper configuration (R556). -/
  tamperCfg : Nat
  tamper : Bool
  calStop : Bool
  vbatLost : Bool
  /-- Latches set while unpowered, reported at the next powered moment (R556). -/
  unreported : Nat
deriving DecidableEq, Repr

/-- The one-time-programmable fuses that are blown in the field (R541); what is written at manufacture is in Config. -/
structure Otp where
  /-- Owner slots that were ever made ACTIVE, and those REVOKED, as bit masks over slots 0-3. -/
  ownerActive : Nat
  ownerRevoked : Nat
  /-- Hash of the owner key in each slot. -/
  ownerHash : Sparse Nat
  vendorRevoked : Nat
  /-- Blown anti-rollback fuses, 0-64. -/
  rollback : Nat
  /-- Blown VENDOR_FLOOR fuses beyond those of manufacture. -/
  floorBlown : Nat
  hostImageDis : Bool
  vendorDebugged : Bool
deriving DecidableEq, Repr

/-- The configuration flash (R79, R521, R525), by what was programmed where; what is not listed is erased (0xFF). -/
structure Flash where
  /-- Commit records: index 0-63 (sector 0 then 1, 32 records each of 128 bytes), their bytes (R81, R83). -/
  commits : Sparse (List Nat)
  /-- Slot pages: key slot * 65536 + page, 256 bytes (R534). -/
  pages : Sparse (List Nat)
  /-- Log records: position 0-244735, 64 bytes (R521). -/
  log : Sparse (List Nat)
  /-- Lifetime snapshots: sector 0-255, their bytes (R525). -/
  life : Sparse (List Nat)
deriving DecidableEq, Repr

/-- The lifetime record (R523, R524). -/
structure Life where
  /-- Count i of R523. -/
  ctr : Sparse Nat
  hist : Sparse Nat
  /-- Lanes retired, bit n for lane n (R62). -/
  retired : Nat
  /-- Lowest hottest-reading since the previous counted thermal cycle (offset by +220, R524). -/
  cycleMin : Option Nat
  snapSeq : Nat
  snapSector : Nat
  /-- POWER_ON_S at the latest snapshot, and seconds since it. -/
  snapPower : Nat
  ageSec : Nat
deriving DecidableEq, Repr

/-- The event log (R518-R522). -/
structure Log where
  reports : List Report
  ring : List LogEntry
  next : Nat
  /-- SEQ up to which every entry is in flash; oldest SEQ in flash. -/
  flashed : Option Nat
  oldest : Nat
  /-- Next record position of the log area. -/
  writePos : Nat
  tokens : Nat
  /-- A fetch is running for HTH_LOG_SEL (R522). -/
  fetching : Bool
  /-- The ring was full at the latest placement (R520). -/
  wasFull : Bool
  /-- Entries with SEVERITY at least MIN_SEV not yet in a report (R531). -/
  telemetry : List Nat
deriving DecidableEq, Repr

/-- Hearth's working state: updates, telemetry, calendar set, refusals logged this second (R464, R528-R539). -/
structure Hth where
  /-- Update: slot of BEGIN; pages programmed and sectors erased since BEGIN; verified slot and its digest, length, version. -/
  beginSlot : Option Nat
  written : List Nat
  erased : List Nat
  verified : Option Nat
  verDigest : Nat
  verLen : Nat
  verSec : Nat
  /-- The update command in progress (R533). -/
  job : Option UpdJob
  report : Nat
  /-- Calendar values latched by a read of LIF_CAL_SEC_0. -/
  calLatch : Option (Nat × Nat)
  /-- Refusals logged in the present second, refusals left out in the last one (R464). -/
  refLogged : Nat
  refSkipped : Nat
  /-- Voltage rails whose warning was logged in the present second. -/
  voltLogged : List Nat
  /-- Duties whose lateness was logged, with the seconds until it may be logged again (R517). -/
  lateLogged : Sparse Nat
  /-- Sensors sampled since reset: die temperatures 0-7, voltage monitors 16-25 (R514). -/
  sampled : List Nat
deriving DecidableEq, Repr

/-- A counter and the tag it was accepted with (R551). -/
structure Seen where
  counter : Nat
  tag : List Nat
deriving DecidableEq, Repr

/-- The security block (R541-R558). -/
structure Sec where
  /-- Debug level 0 LOCKED, 1 OBSERVE, 2 FULL. -/
  debug : Nat
  rngOk : Bool
  /-- The unwrapped entries K_e in place (R548, R549): entry number and key. -/
  keys : Sparse Nat
  /-- The outstanding challenge: nonce, purpose, argument. -/
  challenge : Option (Nat × Nat × Nat)
  /-- Highest accepted FRAME_COUNTER of each peer and the frames accepted in its window (R551). -/
  high : Sparse Nat
  window : Sparse (List Seen)
  /-- DEVICE_COUNTER of each peer (R552). -/
  device : Sparse Nat
  /-- Last COUNTER accepted from each twin SERIAL (R552). -/
  twinHigh : Sparse Nat
  /-- This unit's heartbeat COUNTER. -/
  twinOwn : Nat
deriving DecidableEq, Repr

/-! ### 19: crossbar, locks, mailboxes -/

/-- A lock that is held (R469). -/
structure Lock where
  owner : Nat
  incarn : Nat
deriving DecidableEq, Repr

/-- An outbound mailbox message for the partner (R478). -/
structure OutMsg where
  seq : Nat
  words : List Word
deriving DecidableEq, Repr

/-- A word or pair held in a master's staging register (R40, R198, R374, R417). -/
structure Staged where
  addr : Nat
  word : Word
deriving DecidableEq, Repr

/-- The crossbar, locks and mailbox channels (R461-R481). -/
structure Xbr where
  locks : Sparse Lock
  /-- Channel queues: key 16 * receiver + channel, oldest first, at most three messages of 16 words. -/
  chan : Sparse (List (List Word))
  /-- Outbound queues for the partner's receiver 2, per channel, and the next SEQ of each. -/
  outq : Sparse (List OutMsg)
  outSeq : Sparse Nat
  /-- SEQ expected from the partner on each channel, and the partner incarnation they belong to. -/
  inSeq : Sparse Nat
  /-- Staged first words per master: complement pairs, routes, MAC addresses, loop INT, calendar (R40, R198). -/
  staged : Sparse Staged
  /-- The master port each target port granted last (R467), by target port number. -/
  granted : Sparse Nat
  /-- The peer index of the network-control frame whose request is being posted (R473). -/
  postPeer : Nat
deriving DecidableEq, Repr

/-! ### 21: host port -/

/-- A speculative read the host port has issued and the host has not yet confirmed (R585). -/
structure Spec where
  addr : Nat
  status : Nat
  word : Word
  /-- Companion words a latching read captured, installed at confirmation. -/
  cap : List (Nat × Word)
  /-- The lock this read claimed (R469). -/
  claim : Option Nat
deriving DecidableEq, Repr

/-- The host port (R501-R513). -/
structure Hpt where
  /-- HP_CS_L is low: OP, next address, of the transaction in progress. -/
  active : Option (Nat × Nat)
  good : Nat
  /-- First error of the transaction in progress: code, address. -/
  err : Option (Nat × Nat)
  /-- Read-ahead, oldest first, at most 8. -/
  spec : List Spec
  /-- Words of the transaction are discarded (DATA_CHECK, OVERRUN) or the whole of it ignored (HDR_CHECK, BAD_OP). -/
  dead : Bool
  /-- The port ignores HP_SCK until HP_CS_L has been high (R510). -/
  ignore : Bool
deriving DecidableEq, Repr

/-! ### 13: integrity -/

/-- One filtered input (R334). -/
structure PinF where
  raw : Bool
  filt : Bool
  run : Nat
  unstable : Nat
  held : Nat
  chatter : Bool
  stuck : Bool
  /-- Steps until CHATTER may be logged again: at most once per second. -/
  quiet : Nat
deriving DecidableEq, Repr


/-- The safety monitor and the device-wide release ramps (R315-R336). -/
structure Qch where
  /-- Latches of QCH_FAULT and QCH_WARN as bit masks. -/
  fault : Nat
  warn : Nat
  /-- Conditions that keep a latch set (R320): RENDER, THERMAL, PIN, LATENT_TEST present now. -/
  condThermal : Bool
  condPin : Bool
  failedTests : List Nat
  /-- Consecutive read-back mismatches (R333). -/
  pinMiss : Nat
  safePin : Bool
  faultPin : Bool
  /-- Step k of the SAFE ramp, the start-up ramp and the STOP ramp; none when not running or armed (R324). A SAFE or STOP
  ramp that has completed stays at 64. -/
  rampSafe : Option Nat
  rampStart : Option Nat
  rampStop : Option Nat
  /-- The pending clear commit: feed, or none for ALL. -/
  clear : Option (Pending (Option Nat))
  /-- Seconds since, and number of, complete cycles of scrub passes and latent tests (R332); what this cycle has done. -/
  cycleDone : List Nat
  /-- Steps of the monitor's oscillator since AGE last rose (R332). -/
  ageUs : Nat
  /-- XO has stopped (R336). -/
  xoStopped : Bool
deriving DecidableEq, Repr

/-! ### 04: the image in use -/

/-- The image in use and what LOAD learned (R73, R93-R103). -/
structure Img where
  /-- 0 slot A, 1 slot B, 2 host, 3 none. -/
  slot : Nat
  secVer : Nat
  digest : Nat
  renderDigest : Nat
  /-- The section types whose STATIC flag is set, as a bit mask by section type (R95). -/
  static : Nat
  fwVersion : Nat
  fwFloor : Nat
  /-- DEVICE parameters 1-4 (R93): ARMED timeout in ms, rate code, clock source 0 PTP 1 PPS 2 WCLK 3 XO, twin. -/
  timeout : Nat
  rate : Nat
  clock : Nat
  twin : Nat
  /-- Every NETWORK and DEVICE parameter value by ID, as loaded (word 0 of it). -/
  params : Sparse Nat
  initialScene : Nat
  /-- LOAD is re-running from the flash (0) or from the staged host image (1), or is a first start (2). -/
  source : Nat
  /-- The host wrote to the staging region in HOLD, discarding the retained image (R513). -/
  stagedDiscard : Bool
  /-- The image whose steps up to 13 have passed, held for CONTINUE after the strap (R99). -/
  held : Option Image
  /-- STATIC destinations: section type, address, word as loaded, in record order: the verified plaintext copy of R96. -/
  copy : List (Nat × Nat × Word)
  /-- Lane memory words of the LANE_PROGRAMS section as loaded, with the argument commits applied since (R308): 8192 words of X, Y
  and 16384 of instruction memory per pair, by pair * 0x40000 + window offset. -/
  lanes : Sparse Word
deriving DecidableEq, Repr

/-! ### 14: twin operation -/

/-- Who waits for a forward before its ACCEPTED acknowledgement is sent (R355). -/
structure AckTo where
  peer : Nat
  counter : Nat
  period : Nat
  port : Nat
  ip : Nat
  udp : Nat
deriving DecidableEq, Repr

/-- A forward the partner has not acknowledged (R354). -/
structure FwdOut where
  seq : Nat
  item : FwdItem
  accept : Nat
  ack : Option AckTo
deriving DecidableEq, Repr

/-- One period's own hash as the unit keeps it for 64 periods (R350). -/
structure OwnHash where
  period : Nat
  hash : Nat
  taint : Bool
deriving DecidableEq, Repr

/-- The state a snapshot carries (R359), at its period: words of the tables, lane memories and delay-line history, and the state
beside them. -/
structure SnapPart where
  words : Sparse Word
  frames : List SceneFrame
  annLatch : Bool
  annOn : Bool
  annK : Nat
  annPin : Bool
  annPartner : Bool
  commit : Option (Pending (List StageEntry))
  clear : Option (Pending (Option Nat))
  args : Sparse (Pending (Nat × List Word))
  delay : Sparse DelayEntry
  gen : Sparse Nat
  mark : Sparse Nat
  lastP : Nat
  tpr : Tpr
  loc : Loc
  srcs : Sparse Fade
  idle : Nat
  rampStart : Option Nat
  lanePresent : Sparse Bool
  lines : Sparse Line
  feeds : Sparse Feed
  fwdNext : Nat
deriving DecidableEq, Repr

/-- Twin operation over Tongs (R340-R367). -/
structure Twn where
  /-- Next SEQ of each Tongs class (R345). -/
  classSeq : Sparse Nat
  /-- FWD_SEQ of the next forward, and the forwards outstanding (R354). -/
  fwdSeq : Nat
  fwdOut : List FwdOut
  /-- Next FWD_SEQ to apply (none until the first forward received since entry to RUN), forwards held above a gap, and the
  period in which the gap was first seen. -/
  fwdNext : Option Nat
  fwdHeld : Sparse FwdItem
  fwdGap : Option Nat
  fwdFail : Bool
  /-- Forwards received since the alignment was requested, with their FWD_SEQ (R357). -/
  fwdKept : List (Nat × FwdItem)
  /-- Latest partner heartbeat over Tongs; what the network heartbeat last showed: state, role, priority, serial. -/
  partner : Option Beat
  /-- The pair is PERIOD-mismatched (R350). -/
  mismatch : Bool
  /-- Own period in which Tongs came up, and in which the latest heartbeat arrived (R350). -/
  upAt : Nat
  beatAt : Nat
  /-- An alignment is to be requested as soon as the partner shows ACTIVE (R357). -/
  wantAlign : Bool
  /-- Firmware package version and stepping of the partner, once its Hearth has given them (R357). -/
  partnerFw : Option (Nat × Nat)
  net : Option (Nat × Nat × Nat × Nat)
  /-- Milliseconds since the latest valid network heartbeat. -/
  netAge : Nat
  /-- Own hashes and the partner's heartbeats of the latest 64 periods, newest first; presence bitmaps as source lists. -/
  own : List OwnHash
  beats : List Beat
  pres : List (Nat × List Nat)
  ppres : List (Nat × List Nat)
  /-- Role wire: 0 FREE, 1 HOLDS, 2 DEAD; its samples of the latest 200 us, newest first, true when low (R343). -/
  wire : Nat
  wireSeen : List Bool
  /-- The role decided in ARMED (R367), and whether both units enter RUN together from identical state. -/
  decided : Option Role
  together : Bool
  /-- A role change at the next period: a divergence swap or a lost arbitration (R352, R364). -/
  nextRole : Option Role
  /-- Equal hashes seen in CONFIRMING, or by a returning unit: one that stays ALIGNED and goes on sending while it confirms, after it
  was DETACHED or lost an arbitration (R362, R364). -/
  confirm : Nat
  returning : Bool
  /-- Was the pair aligned when this unit last knew (R364)? -/
  hint : Bool
  /-- Alignment: period of the request, snapshot number, P, snapshot words received in order. -/
  reqAt : Nat
  snapId : Nat
  alignP : Nat
  snapWords : List Word
  /-- The unit's own tables and state as the committed snapshot found them, kept until ALIGNED (R361). -/
  ownSnap : Option SnapPart
  /-- The alignment input buffer (R186): raw samples of present sources, by period. -/
  inbuf : Sparse (Sparse Int)
  /-- ACTIVE: the alignment it serves: snapshot number, P, and the state frozen at P with the lines and ages of the history. -/
  serve : Option (Nat × Nat)
  frozen : Option (SnapPart × List (Nat × Nat))
  /-- No further attempt until REALIGN or a reload (R357). -/
  noRetry : Bool
  /-- A HANDOVER waiting for its P (R363). -/
  handover : Option Nat
  /-- The latest role arbitration was won by the partner (R362). -/
  lostLast : Bool
  /-- Period in which the present dual-active interval began (R365). -/
  dualAt : Option Nat
  /-- Packets of this unit start at or after this period, and, once it stops, end by this one (R352, R357). -/
  sendFrom : Nat
  lastSend : Option Nat
  /-- HISTORY_INCOMPLETE clears at this period (R361). -/
  histUntil : Nat
deriving DecidableEq, Repr

/-! ### 20: local audio -/

/-- One TDM port (R482-R488). -/
structure TdmPort where
  /-- 0 OFF, 1 RUNNING, 2 STOPPED, 3 SYNCING. -/
  st : Nat
  /-- Complete input frames not yet used, oldest first: the data slots as F36 samples. -/
  held : List (List Int)
  /-- Consecutive valid frames while not running. -/
  good : Nat
  /-- Released periods not yet sent, oldest first, each with its count; and the frame sent last. -/
  fifo : List (Nat × List Int)
  last : List Int
deriving DecidableEq, Repr

/-- One PDM input (R490-R494). -/
structure PdmIn where
  held : List (Int × Bool)
  /-- Unsettled samples remaining. -/
  settle : Nat
  clockOk : Bool
  stuck : Bool
  /-- The decimator's state (R491). -/
  dec : Nat
  /-- STUCK has been logged in this second (R493). -/
  logged : Bool
deriving DecidableEq, Repr

/-- The local ports and the capture engine (R496-R499). -/
structure Aud where
  tdm : Sparse TdmPort
  pdm : Sparse PdmIn
  /-- A pending or running capture: P, COUNT. -/
  cap : Option (Nat × Nat)
  capRun : Bool
  /-- A running capture stops after the record of this period (R499). -/
  capStop : Bool
deriving DecidableEq, Repr

/-! ### 10-12: lanes and Bellows -/

/-- The lanes (R237-R264). -/
structure Lan where
  /-- Items executing, by context: home pairs 0-31, retry pairs 32-35. -/
  run : Sparse LaneRun
  /-- The two lanes of a retry context. -/
  retry : Sparse (Nat × Nat)
  /-- The lanes that serve a re-formed pair (R308); unlisted: 2p and 2p + 1. -/
  serve : Sparse (Nat × Nat)
  /-- Pending argument commits by pair: P, FIRST, words (R262). -/
  args : Sparse (Pending (Nat × List Word))
  /-- The item a lane ran last (LAN_STATUS_n.ITEM). -/
  last : Sparse Nat
  /-- Contexts, one lane of which alone raises a program fault in its next bundle (R256). -/
  upset : List Nat
deriving DecidableEq, Repr

/-- Bellows (R292-R314). -/
structure Bel where
  /-- The period list of the period in flight, and what became of each item. -/
  list : List Nat
  ends : Sparse ItemEnd
  bg : Sparse BgItem
  /-- Counter that orders entries to READY and PREEMPTED. -/
  order : Nat
  delay : Sparse DelayEntry
  /-- Generation of each slot ever allocated, and its mark: 1 RELEASED, 2 REMOVED. -/
  gen : Sparse Nat
  mark : Sparse Nat
  /-- Slot last allocated in each half. -/
  lastP : Nat
  lastB : Nat
  /-- Periods in which a suspect pair failed compare (R310). -/
  fails : Sparse (List Nat)
  test : Option CrossTest
  rebuild : List Rebuild
  /-- Tokens and states of the running graph live in its node words; nodes running now. -/
  nodes : List Nat
  graphStop : Bool
  /-- How the items of finished ITEM nodes ended: true passed. -/
  nodeEnds : Sparse Bool
  /-- The pre-emption point of the present period has passed: too little slack is left for a background item to start (R296). -/
  late : Bool
  /-- Pool lanes that failed a retry and await their cross-test (R306). -/
  poolSuspect : List (Nat × Nat)
  /-- The nodes of the graph, as START found them, and the lanes whose test signatures a graph's TEST found wrong (R312, R313). -/
  graph : List Nat
  faulty : List Nat
deriving DecidableEq, Repr

/-! ### 15, 16: network ports and streams -/

/-- One network port (R376-R385). -/
structure MacPort where
  /-- Frames waiting for each receive ring, oldest first; frames of each transmit queue, oldest first. -/
  rings : Sparse (List RxFrame)
  queues : Sparse (List TxFrame)
  /-- Stream frames in transmit staging (R402), oldest first. -/
  staging : List (List Nat)
  /-- Number of waits begun: orders the waiting heads (R380). -/
  waits : Nat
  /-- The latched LO words of the byte counters (R387): receive, transmit. -/
  loLatch : Nat × Nat
deriving DecidableEq, Repr

/-- A network clock exchange under way (R406): a two-step Sync waiting for its Follow_Up: sequence, t2, its correction. -/
structure PtpSync where
  seq : Nat
  t2 : Int
  corr : Int
deriving DecidableEq, Repr

/-- A master heard on the network (R405): identity, data set as one number (the lower is the better), Announce messages received,
the address of each port's messages, and the ports on which it is heard. -/
structure Master where
  id : Nat
  rank : Nat
  count : Nat
  ipA : Nat
  ipB : Nat
  onA : Bool
  onB : Bool
deriving DecidableEq, Repr

/-- The stream engine and the PTP servo (R388-R408). -/
structure Stm where
  /-- Accepted packets by stream: first period, sequence number (none for a MEND) (R394). -/
  recs : Sparse (List (Nat × Option Nat))
  /-- One more than the period in which a copy was last seen, at 3 × stream + path (0 A, 1 B, 2 MEND). -/
  seen : Sparse Nat
  /-- Payload bytes of the packet each transmit stream is collecting: its first period and the bytes so far. -/
  part : Sparse (Nat × List Nat)
  /-- The words in force, until the coming period boundary, of each stream entry whose word 0 a master has written since the latest one:
  receive entries 0-127, transmit entries from 128 on (R27, R391). -/
  inForce : Sparse (List Word)
  /-- A staging drop was logged in the present second (R402). -/
  stageLogged : Bool
  /-- The selected grandmaster, and the masters whose Announce messages were received (R405). -/
  gm : Option Nat
  masters : List Master
  /-- Syncs awaiting their Follow_Up, newest first. -/
  syncs : List PtpSync
  /-- The latest Sync's t2 - t1 - c_s, and the Delay_Req outstanding: sequence, egress t3. -/
  ms : Option Int
  req : Option (Nat × Int)
  reqSeq : Nat
  /-- Sums (t2 - t1 - c_s) + (t4 - t3 - c_d) of the latest 16 exchanges, newest first. -/
  exch : List Int
  /-- Consecutive Syncs within the lock limit and the time t2 of the first of them; consecutive Syncs beyond 4 limits. -/
  good : Nat
  goodFrom : Int
  bad : Nat
  /-- The time base was stepped since entry to LOAD (R406). -/
  stepped : Bool
deriving DecidableEq, Repr

/-! ### 17: clocks -/

/-- A correction by whole periods that waits for its P (R432, R435): K, positive to drop periods; the phase, in 1/16 ns, that is
slewed once it has taken effect; or passage through ARMED. -/
structure Realign where
  at' : Nat
  k : Int
  rest : Int
  viaArmed : Bool
deriving DecidableEq, Repr

/-- A ramp of DPLL or SPLL (R423): segments done, the word it began at, the word it goes to. -/
structure Ramp where
  seg : Nat
  start : Nat
  goal : Nat
deriving DecidableEq, Repr

/-- The clock block beside its registers (R413-R436). Words are INT × 2^36 + FRAC. -/
structure Clk where
  corr : Option Realign
  /-- Loops that have declared lock and settle (R424). -/
  settling : List Nat
  /-- The word at which each loop last declared lock (R422). -/
  lockWord : Sparse Nat
  ramp : Sparse Ramp
  /-- Phase still to be slewed out, in femtoseconds, positive when the ticks lag (R431). -/
  slew : Int
  /-- Consecutive reference edges that met the lock condition (R428). -/
  edges : Nat
  /-- A failed relock attempt was logged in the present second (R426). -/
  retryLogged : Bool
deriving DecidableEq, Repr

/-! ### 18: DRAM -/

/-- The DRAM controller beside its registers (R436-R460). Ranks are numbered 2 × channel + rank. -/
structure Dram where
  /-- Refreshes owed by each rank (R449). -/
  debt : Sparse Nat
  /-- Lap of each delay-line word (R442), by word address; unlisted: 0. -/
  laps : Sparse Nat
  /-- Requests that wait, in order of arrival; those of one channel are its queue (R445). -/
  queue : List DramReq
  /-- The open row of each bank that has one, by 8 × rank + bank (R436, R445). -/
  rows : Sparse Nat
deriving DecidableEq, Repr

/-- Reasons a step can stop with a fault. There is none: no command of the table stops the block (the spec gives every
command an effect), so the type has no value. Nobody raises it. -/
inductive Fault
deriving DecidableEq, Repr

/-- Reasons a step can be refused. -/
inductive Refusal where
  /-- Raised by an arm of exec whose command has no meaning yet. Safe: the model stops where the hardware goes on. -/
  | notModelled (mnemonic : String)
deriving DecidableEq, Repr

/-- The whole state of the block. -/
structure State where
  /-- Every addressable word, by word address (R4, R559). -/
  mem : Sparse Word
  /-- Number of free values drawn so far: the model's own counter (log entry 3); no statement rests on it. -/
  free : Nat
  /-- What the latest command let the outside see (the model's own). -/
  out : List Out
  /-- System block (03). -/
  sys : Sys
  /-- Cocoon domain (R56, R526, R527, R556). -/
  cocoon : Cocoon
  /-- Configuration flash (R79). -/
  flash : Flash
  /-- Lifetime record (R523). -/
  life : Life
  /-- Event log (R518). -/
  log : Log
  /-- Hearth's duties (22). -/
  hth : Hth
  /-- Security block (23). -/
  sec : Sec
  /-- Crossbar, locks, mailboxes (19). -/
  xbr : Xbr
  /-- Host port (21). -/
  hpt : Hpt
  /-- Safety monitor (13). -/
  qch : Qch
  /-- Filtered inputs: 0-15 GP, 16 QUENCH_IN_L, 17 EMERG_IN, 18 TAMPER_IN (R334). -/
  pins : Sparse PinF
  /-- The image in use (04). -/
  img : Img
  /-- The scene (05). -/
  scene : Scene
  /-- Locator (06). -/
  loc : Loc
  /-- The wavefront (07). -/
  wav : Wav
  /-- Release state of the feeds (07, 13); unlisted: as on entry to RUN. -/
  feeds : Sparse Feed
  /-- Crucible (08). -/
  cru : Cru
  /-- Temper (09). -/
  tpr : Tpr
  /-- The lanes (10, 11). -/
  lan : Lan
  /-- Bellows (12). -/
  bel : Bel
  /-- Local audio and capture (20). -/
  aud : Aud
  /-- Network ports A (0) and B (1) (15); unlisted: nothing waits. -/
  macs : Sparse MacPort
  /-- Stream engine and PTP servo (16). -/
  stm : Stm
  /-- Clocks (17). -/
  clk : Clk
  /-- Twin operation (14). -/
  twn : Twn
  /-- Words with an uncorrectable error, until they are next written (R330, R444). -/
  bad : List Nat
  /-- Words one of whose stored bits is wrong, until a reader or the scrubber writes them back corrected (R328). -/
  soft : List Nat
  /-- Bits of a DRAM word's slot that differ from what its latest write stored, by address; unlisted: none (R45, R443). -/
  flips : Sparse Nat
  /-- DRAM controller (18). -/
  drc : Dram
  /-- Fuses blown in the field (R541). -/
  otp : Otp
  /-- Commands waiting, first in first out. -/
  pending : List Instr
deriving DecidableEq, Repr

/-! ### The reset values of the blocks -/

/-- The system block right after reset (SYS_STATE 0x0_0000_03F2). -/
def Sys.reset : Sys :=
  { state := .reset, prev := .off, role := .none, rate := 3, fromCocoon := false, freeRun := false, stopHold := false,
    rails := true, porstHigh := true, wrstHigh := true, bootFailed := false, strap := false, warm := false,
    rdyUp := false, holdRead := false, safeFault := false, busyCmd := 0, condClock := false, condCount := false,
    prefetched := [], pllDone := false, dramDone := false, tested := false, loadMs := 0, cycles := 0,
    hearthDown := false, hearthRecent := false, draining := [],
    railsOut := [], imageKept := false }

def Cocoon.reset : Cocoon :=
  { vbat := true, calSec := 0, calSub := 0, calSource := 0, lossLatch := false, backupSeq := 0,
    backupSecs := 0, tamperCfg := 0, tamper := false, calStop := false, vbatLost := false, unreported := 0 }

def Otp.reset : Otp :=
  { ownerActive := 0, ownerRevoked := 0, ownerHash := [], vendorRevoked := 0, rollback := 0, floorBlown := 0,
    hostImageDis := false, vendorDebugged := false }

def Flash.reset : Flash := { commits := [], pages := [], log := [], life := [] }

def Life.reset : Life :=
  { ctr := [], hist := [], retired := 0, cycleMin := none, snapSeq := 0, snapSector := 0, snapPower := 0, ageSec := 0 }

def Log.reset : Log :=
  { reports := [], ring := [], next := 0, flashed := none, oldest := 0, writePos := 0, tokens := 4096,
    fetching := false, wasFull := false, telemetry := [] }

def Hth.reset : Hth :=
  { beginSlot := none, written := [], erased := [], verified := none, verDigest := 0, verLen := 0, verSec := 0,
    job := none, report := 0, calLatch := none, refLogged := 0, refSkipped := 0, voltLogged := [], lateLogged := [], sampled := [] }

def Sec.reset : Sec :=
  { debug := 0, rngOk := true, keys := [], challenge := none, high := [], window := [], device := [], twinHigh := [],
    twinOwn := 0 }

def Xbr.reset : Xbr :=
  { locks := [], chan := [], outq := [], outSeq := [], inSeq := [], staged := [], granted := [],
    postPeer := 0xFF }

def Hpt.reset : Hpt := { active := none, good := 0, err := none, spec := [], dead := false, ignore := false }

def Qch.reset : Qch :=
  { fault := 0, warn := 0, condThermal := false, condPin := false, failedTests := [], pinMiss := 0, safePin := false,
    faultPin := false, rampSafe := none, rampStart := none, rampStop := none, clear := none,
    cycleDone := [], ageUs := 0, xoStopped := false }

def Img.reset : Img :=
  { slot := 3, secVer := 0, digest := 0, renderDigest := 0, static := 0, fwVersion := 0, fwFloor := 0,
    timeout := 0, rate := 0, clock := 0, twin := 0, params := [], initialScene := 0xFFFF, source := 2,
    stagedDiscard := false, held := none, copy := [], lanes := [] }

def Scene.reset : Scene :=
  { queue := [], pending := [], boundary := 0, annPin := false, annPartner := false, annLatch := false, annWait := [],
    annOn := false, annK := 0, hostFrame := [], hostDirty := false, initKf := [] }

def Loc.reset : Loc := { objs := [], pairs := [], probes := [], next := none, fails := [], unfinished := [], probeArmed := false }

def Wav.reset : Wav :=
  { n := 0, flight := none, overruns := [], netPresent := [], lanePresent := [], presented := [], missing := [],
    srcs := [], idle := 0, short := false, lines := [], missTick := none, hash := 0, hashAt := 0, taints := [], evLo := 0, owed := false,
    catchups := 0, caught := 0 }

def Tpr.reset : Tpr :=
  { cur := 0, fade := none, pend := none, queued := none, objS := [], feedS := [], objFade := [], torn := [], partnerSum := none }

def Cru.reset : Cru := { pend := none, snapReq := false }

def Aud.reset : Aud := { tdm := [], pdm := [], cap := none, capRun := false, capStop := false }

def Lan.reset : Lan := { run := [], retry := [], serve := [], args := [], last := [], upset := [] }

def Bel.reset : Bel :=
  { list := [], ends := [], bg := [], order := 0, delay := [], gen := [], mark := [], lastP := 2047, lastB := 4095,
    fails := [], test := none, rebuild := [], nodes := [], graphStop := false, nodeEnds := [], late := false, poolSuspect := [],
    graph := [], faulty := [] }

def Twn.reset : Twn :=
  { classSeq := [], fwdSeq := 0, fwdOut := [], fwdNext := none, fwdHeld := [], fwdGap := none, fwdFail := false, fwdKept := [],
    partner := none, mismatch := false, upAt := 0, beatAt := 0, wantAlign := false, partnerFw := none, net := none, netAge := 3, own := [],
    beats := [], pres := [], ppres := [], wire := 2, wireSeen := [], decided := none,
    together := false, nextRole := none, confirm := 0, returning := false, hint := false, reqAt := 0, snapId := 0, alignP := 0, snapWords := [],
    ownSnap := none, inbuf := [], serve := none, frozen := none, noRetry := false, handover := none, lostLast := false,
    dualAt := none, sendFrom := 0, lastSend := none, histUntil := 0 }

def Dram.reset : Dram := { debt := [], laps := [], queue := [], rows := [] }

def Clk.reset : Clk :=
  { corr := none, settling := [], lockWord := [], ramp := [], slew := 0, edges := 0, retryLogged := false }

def Stm.reset : Stm :=
  { recs := [], seen := [], part := [], inForce := [], stageLogged := false, gm := none, masters := [], syncs := [], ms := none, req := none, reqSeq := 0, exch := [],
    good := 0, goodFrom := 0, bad := 0, stepped := false }

/-- The machine right after a power-on reset with the pins released: every register at its reset value, nothing in any
queue, memory listing nothing (03 R62, R65); values that the spec does not give are named in log entry 8. -/
def State.reset : State :=
  { mem := [],
    free := 0,
    out := [],
    sys := Sys.reset,
    cocoon := Cocoon.reset,
    flash := Flash.reset,
    life := Life.reset,
    log := Log.reset,
    hth := Hth.reset,
    sec := Sec.reset,
    xbr := Xbr.reset,
    hpt := Hpt.reset,
    qch := Qch.reset,
    pins := [],
    img := Img.reset,
    scene := Scene.reset,
    loc := Loc.reset,
    wav := Wav.reset,
    feeds := [],
    cru := Cru.reset,
    tpr := Tpr.reset,
    lan := Lan.reset,
    bel := Bel.reset,
    aud := Aud.reset,
    macs := [],
    stm := Stm.reset,
    clk := Clk.reset,
    twn := Twn.reset,
    bad := [],
    soft := [],
    flips := [],
    drc := Dram.reset,
    otp := Otp.reset, pending := [] }

end Sys2Proof.Machine
end

