-- ==== Sys2Proof/Machine/Locate.lean ====
section
/-! DEFINITION. What Locator computes for a control-tick boundary (06: R134-R160) and how an object moves along its keyframes
(05: R113-R116). Every function takes the tables as a reader `m : Nat → Word`, so that the same text serves the tables as they
stand and as they will stand at the boundary. -/
namespace Sys2Proof.Machine
open Sys2Proof

/-- A reader of words. -/
abbrev Rd := Nat → Word

/-- Address of word j of object o, and of target t. -/
def objW (o j : Nat) : Nat := tblObject + 64 * o + j
def tgtW (t j : Nat) : Nat := tblTarget + 32 * t + j

/-- Word j of the target descriptor (R137). -/
def tdesc (m : Rd) (t j : Nat) : Word := m (tblLocator + 32 * t + j)

/-- A P36 or G36 word as an integer. -/
def si (w : Word) : Int := w.toInt

/-- Enabled objects: those with a non-empty TARGETS mask (R108). -/
def objTargets (m : Rd) (o : Nat) : Nat := fld (m (objW o 1)) 7 0

/-- KIND of a target (R106). -/
def tgtKind (m : Rd) (t : Nat) : Nat := fld (m (tgtW t 0)) 1 0

/-- FEED_COUNT, FIRST_FEED, VEC_MAX, SPEAKER_BASE (R106). -/
def tgtFeeds (m : Rd) (t : Nat) : Nat := fld (m (tgtW t 2)) 10 0
def tgtFirst (m : Rd) (t : Nat) : Nat := fld (m (tgtW t 1)) 9 0
def tgtVec (m : Rd) (t : Nat) : Nat := fld (m (tgtW t 3)) 5 0
def tgtBase (m : Rd) (t : Nat) : Nat := fld (m (tgtW t 4)) 9 0

/-- Enabled objects and their products: the two budgets of R122. A target counts whatever its KIND (DEDUCED: log entry 17). -/
def enabledObjects (m : Rd) : List Nat := (List.range 1024).filter (fun o => objTargets m o != 0)
def products (m : Rd) : Nat :=
  ((enabledObjects m).map (fun o =>
    (((List.range 8).filter (fun t => (objTargets m o).testBit t)).map (fun t => tgtVec m t)).foldl (· + ·) 0)).foldl (· + ·) 0

/-! ### Keyframes (R113, R114) -/

/-- A keyframe slot: INTERP, period, X, Y, Z; none when not valid. -/
def kfSlot (m : Rd) (o k : Nat) : Option (Nat × Nat × List Int) :=
  let a := objW o (16 + 5 * k)
  if flag (m (a + 1)) 35 then
    some (fld (m a) 35 32, fld (m a) 31 0 * 2 ^ 32 + fld (m (a + 1)) 31 0, [si (m (a + 2)), si (m (a + 3)), si (m (a + 4))])
  else none

/-- Advance: while slot 1 is valid and K1 ≤ B the slots move down one place (R114). The slots after slot 0, on fuel. -/
def kfAdvance (b : Nat) : Nat → (Nat × Nat × List Int) → List (Nat × Nat × List Int) →
    (Nat × Nat × List Int) × List (Nat × Nat × List Int)
  | 0, k0, r => (k0, r)
  | f + 1, k0, k1 :: r => if k1.2.1 ≤ b then kfAdvance b f k1 r else (k0, k1 :: r)
  | _ + 1, k0, [] => (k0, [])

/-- Evaluate one coordinate (R114). -/
def kfCoord (interp : Nat) (p0 p1 : Int) (t d : Int) : Int :=
  let delta := p1 - p0
  if interp = 0 then p0 + rhe (delta * t) d
  else if interp = 1 then p0 + rhe (delta * (3 * t * t * d - 2 * t * t * t)) (d * d * d)
  else p0

/-- The position at B of a chain: slot 0 and the first slot above it (R114). -/
def kfPos (b : Nat) (k0 : Nat × Nat × List Int) (r : List (Nat × Nat × List Int)) : List Int :=
  match r with
  | [] => k0.2.2
  | k1 :: _ =>
    (k0.2.2.zip k1.2.2).map (fun e => kfCoord k1.1 e.1 e.2 ((b : Int) - k0.2.1) ((k1.2.1 : Int) - k0.2.1))

/-- Slots 1-8 of an object in order, as far as they are valid. -/
def kfPending (m : Rd) (o : Nat) : List (Nat × Nat × List Int) :=
  (List.range 8).filterMap (fun i => kfSlot m o (i + 1))

/-- Slot 0 of an object; one that was never written holds the position words from period 0. -/
def kfZero (m : Rd) (o : Nat) : Nat × Nat × List Int :=
  (kfSlot m o 0).getD (0, 0, [si (m (objW o 3)), si (m (objW o 4)), si (m (objW o 5))])

/-- The words of the nine slots of an object. -/
def kfWords (k0 : Nat × Nat × List Int) (r : List (Nat × Nat × List Int)) : List Word :=
  let w (k : Nat × Nat × List Int) : List Word :=
    [wd (k.1 * 2 ^ 32 + bits k.2.1 63 32), wd (2 ^ 35 + bits k.2.1 31 0)] ++ (k.2.2.take 3).map wdI
  ((k0 :: r).map w).flatten ++ List.replicate (5 * (8 - r.length)) 0

/-! ### Direction and distance (R105, R145) -/

/-- u and r of an object position on a target (R145). -/
def direction (m : Rd) (t : Nat) (p : List Int) : (Int × Int × Int) × Nat :=
  let dx := p.getD 0 0 - si (m (tgtW t 7))
  let dy := p.getD 1 0 - si (m (tgtW t 8))
  let dz := p.getD 2 0 - si (m (tgtW t 9))
  let y := (m (tgtW t 10)).toNat
  let c := cosT y
  let s := sinT y
  let vx := rhe (c * dx + s * dy) (2 ^ 34)
  let vy := rhe (c * dy - s * dx) (2 ^ 34)
  let r := isqrt (vx * vx + vy * vy + dz * dz).toNat
  if r = 0 then ((0, 2 ^ 34, 0), 0)
  else ((rhe (vx * 2 ^ 34) r, rhe (vy * 2 ^ 34) r, rhe (dz * 2 ^ 34) r), r)

/-- sgn with sgn(0) = +1 (R146). -/
def sgn1 (z : Int) : Int := if z < 0 then -1 else 1

/-- The facet-index cell of u (R146), as an address. -/
def cellOf (m : Rd) (t : Nat) (u : Int × Int × Int) : Nat :=
  let w := tdesc m t 1
  let g : Int := 2 ^ fld w 18 16
  let mm : Int := u.1.natAbs + u.2.1.natAbs + u.2.2.natAbs
  let a := rhe (u.1 * 2 ^ 34) mm
  let b := rhe (u.2.1 * 2 ^ 34) mm
  let ab := if u.2.2 < 0 then (sgn1 a * (2 ^ 34 - b.natAbs), sgn1 b * (2 ^ 34 - a.natAbs)) else (a, b)
  let i := min (g - 1) (((ab.1 + 2 ^ 34) * g).fdiv (2 ^ 35))
  let j := min (g - 1) (((ab.2 + 2 ^ 34) * g).fdiv (2 ^ 35))
  0x20040000 + fld w 13 0 + (j * g + i).toNat

/-- Candidate facets of a cell in list order (R141). -/
def candidates (m : Rd) (cell : Nat) : List Nat :=
  let w := m cell
  (List.range (fld w 20 16)).map (fun i => fld (m (0x20050000 + fld w 15 0 + i)) 10 0)

/-- The speakers of a facet (R140). -/
def facetSpeakers (m : Rd) (f : Nat) : List Nat :=
  let w := m (0x20038000 + 16 * f)
  let c := fld w 29 20
  if c = 0x3FF then [fld w 9 0, fld w 19 10] else [fld w 9 0, fld w 19 10, c]

/-- The gains g_k of a facet for u, speaker by speaker (R147). -/
def facetGains (m : Rd) (f : Nat) (u : Int × Int × Int) : List (Nat × Int) :=
  let a := 0x20038000 + 16 * f
  let pair := fld (m a) 29 20 = 0x3FF
  ((facetSpeakers m f).zipIdx).map (fun e =>
    let r := a + 1 + 3 * e.2
    (e.1, rhe (si (m r) * u.1 + si (m (r + 1)) * u.2.1 + (if pair then 0 else si (m (r + 2)) * u.2.2)) (2 ^ 30)))

/-- The smallest gain of a list. -/
def minGain (l : List (Nat × Int)) : Int := (l.map (fun e => e.2)).foldl min (2 ^ 60)

/-- The facet chosen: the first candidate that contains u, else the one whose smallest gain is largest; the flag says that
none contained it (R147). -/
def chooseFacet (m : Rd) (u : Int × Int × Int) : List Nat → Option (Nat × List (Nat × Int) × Bool)
  | [] => none
  | f :: r =>
    let g := facetGains m f u
    if -(2 ^ 10) ≤ minGain g then some (f, g, false)
    else match chooseFacet m u r with
      | none => some (f, g, true)
      | some (f', g', miss) => if !miss || minGain g < minGain g' then some (f', g', miss) else some (f, g, true)

/-! ### Gains (R148) -/

def normPower (x : List (Nat × Int)) : List (Nat × Int) :=
  let n := isqrt ((x.map (fun (e : Nat × Int) => e.2 * e.2)).foldl (fun (a b : Int) => a + b) 0).toNat
  if n = 0 then [] else x.map (fun e => (e.1, rhe (e.2 * 2 ^ 34) n))

def normAmplitude (x : List (Nat × Int)) : List (Nat × Int) :=
  let n := (x.map (·.2)).foldl (· + ·) 0
  if n = 0 then [] else x.map (fun e => (e.1, rhe (e.2 * 2 ^ 34) n))

/-- Gain of a speaker in a set, 0 when absent. -/
def gainIn (x : List (Nat × Int)) (k : Nat) : Int := ((x.find? (fun e => e.1 == k)).map (·.2)).getD 0

def blendG (x y : List (Nat × Int)) (al : Int) : List (Nat × Int) :=
  let ks := x.map (·.1) ++ (y.map (·.1)).filter (fun k => !(x.map (·.1)).contains k)
  ks.map (fun k => (k, rhe ((2 ^ 34 - al) * gainIn x k + al * gainIn y k) (2 ^ 34)))

/-- dir(k) . u (R148). -/
def dotDir (m : Rd) (k : Nat) (u : Int × Int × Int) : Int :=
  let a := 0x20031000 + 16 * k
  rhe (si (m a) * u.1 + si (m (a + 1)) * u.2.1 + si (m (a + 2)) * u.2.2) (2 ^ 34)

/-- Neighbours of a speaker (R139, R141). -/
def neighbours (m : Rd) (k : Nat) : List Nat :=
  let w := m (0x20031000 + 16 * k + 4)
  (List.range (fld w 19 16)).map (fun i => fld (m (0x20060000 + fld w 13 0 + i)) 9 0)

/-- The set of a list: first occurrences only. -/
def dedupN (l : List Nat) : List Nat := l.foldl (fun acc k => if acc.contains k then acc else acc ++ [k]) []

/-- Larger gain first, lower speaker number on a tie. -/
def gainBefore (a b : Nat × Int) : Bool := b.2 < a.2 || (b.2 == a.2 && a.1 < b.1)
def insertGain (e : Nat × Int) : List (Nat × Int) → List (Nat × Int)
  | [] => [e]
  | x :: r => if gainBefore e x then e :: x :: r else x :: insertGain e r
def sortGains (l : List (Nat × Int)) : List (Nat × Int) := l.foldl (fun acc e => insertGain e acc) []

/-- Where an effect of R109 applies to object o on target t: the object's flag bit and the target's flag bit. -/
def applies (m : Rd) (o t bo bt : Nat) : Bool := flag (m (objW o 8)) bo && flag (m (tgtW t 5)) bt
def delayApplies (m : Rd) (o t : Nat) : Bool := applies m o t 1 1
def dopplerApplies (m : Rd) (o t : Nat) : Bool := delayApplies m o t && flag (m (objW o 8)) 2
def distApplies (m : Rd) (o t : Nat) : Bool := applies m o t 3 2
def airApplies (m : Rd) (o t : Nat) : Bool := applies m o t 4 3
def insideApplies (m : Rd) (o t : Nat) : Bool := applies m o t 5 4

/-- The distance gain of target t at distance r (R138). -/
def distGain (m : Rd) (t r : Nat) : Int :=
  let ref := (tdesc m t 5).toNat
  let tb (i : Nat) : Int := si (m (0x20030400 + 32 * t + i))
  let rs := r * 2 ^ 12
  if rs < ref then tb 0
  else if ref * 2 ^ 23 ≤ rs then tb 23
  else if ref = 0 then tb 0
  else
    let i := ((List.range 23).filter (fun i => ref * 2 ^ i ≤ rs)).foldl max 0
    let base := ref * 2 ^ i
    let f := rhe (((rs : Int) - base) * 2 ^ 34) base
    tb i + rhe ((tb (i + 1) - tb i) * f) (2 ^ 34)

/-- A gain vector with what the probe shows of it. -/
structure Vec where
  gains : List (Nat × Int)
  r : Nat
  facet : Nat
  fallbacks : Nat
  inside : Bool
deriving DecidableEq, Repr

/-- The gain vector of object o on target t at its position: (speaker, gain) pairs (R148, R149). R148 normalises the panning and again what the
limit leaves; its worked example normalises once (log entry 94). -/
def gainVector (m : Rd) (o t : Nat) (p : List Int) : Vec :=
  let base := tgtBase m t
  let real (k : Nat) : Bool := base ≤ k && k < base + tgtFeeds m t
  let eligible (k : Nat) : Bool := fld (m (0x20031000 + 16 * k + 3)) 15 0 &&& fld (m (objW o 7)) 15 0 != 0
  let (u, r) := direction m t p
  match chooseFacet m u (candidates m (cellOf m t u)) with
  | none => { gains := [], r := r, facet := 0, fallbacks := 0, inside := false }
  | some (f, g, miss) =>
    let pan0 := g.filter (fun e => 0 < e.2 && real e.1 && eligible e.1)
    let near := dedupN (((facetSpeakers m f).map (neighbours m)).flatten)
    let cands := (near.filter (fun k => real k && eligible k)).map (fun k => (k, dotDir m k u))
    let pan := if pan0.isEmpty then ((sortGains cands).take 1).map (fun e => (e.1, (2 ^ 34 : Int))) else pan0
    let nfall := b2n (pan0.isEmpty && !pan.isEmpty)
    let h1 := normPower pan
    let sp := fld (m (objW o 6)) 27 0
    let cs := cosT (degTurns sp)
    let h2 := if 0 < sp ∧ cs < 2 ^ 34 - 1 then
        let set := dedupN (pan.map (·.1) ++ near.filter (fun k => real k && eligible k))
        let w := set.filterMap (fun k =>
          let cj := dotDir m k u
          if cs < cj then some (k, rhe ((cj - cs) * 2 ^ 34) (2 ^ 34 - cs)) else none)
        let al := min (2 ^ 34) (rhe ((sp : Int) * 2 ^ 34) (tdesc m t 3).toNat)
        blendG h1 (normPower w) al
      else h1
    let inR := (tdesc m t 4).toNat
    let isIn := insideApplies m o t && r < inR
    let h3 := if isIn then
        let be := rhe (((inR : Int) - r) * 2 ^ 34) inR
        let e := (dedupN ((List.range (fld (tdesc m t 7) 4 0)).map (fun i => fld (tdesc m t (16 + i)) 9 0))).filter eligible
        blendG h2 (normPower (e.map (fun k => (k, (2 ^ 34 : Int))))) be
      else h2
    let h4 := (sortGains (h3.filter (fun e => e.2 != 0))).take (tgtVec m t)
    let h5 := if flag (tdesc m t 2) 0 then normAmplitude h4 else normPower h4
    let dg := if distApplies m o t then distGain m t (if insideApplies m o t then max r inR else r) else 2 ^ 34
    let mute := flag (m (objW o 8)) 0 || flag (m (tgtW t 5)) 0
    let out := h5.map (fun e =>
      let x := satG (rhe (e.2 * dg) (2 ^ 34))
      let x := satG (rhe (x * si (m (objW o 2))) (2 ^ 34))
      let x := satG (rhe (x * si (m (tgtW t 6))) (2 ^ 34))
      (e.1, if mute then 0 else x))
    { gains := out, r := r, facet := f, fallbacks := b2n miss + nfall, inside := isIn }

/-! ### Slots (R157, R158) -/

/-- The slot's gain in the k-th period of its control tick (R158). -/
def slotGain (s : Slot) (k : Nat) : Int := s.g0 + rhe ((s.g1 - s.g0) * (k + 1)) 16

def emptySlot : Slot := { valid := false, feed := 0, g0 := 0, g1 := 0 }

/-- Put one unplaced speaker into the first free slot; none when no slot is free (R157). -/
def placeSlot (isFree : Slot → Bool) (feed : Nat) (g : Int) : List Slot → Option (List Slot)
  | [] => none
  | s :: r =>
    if isFree s then some ({ valid := true, feed := feed, g0 := 0, g1 := g } :: r)
    else (placeSlot isFree feed g r).map (s :: ·)

/-- Larger magnitude first, lower speaker (here feed) number on a tie. -/
def sortMag (l : List (Nat × Int)) : List (Nat × Int) :=
  (sortGains (l.map (fun e => (e.1, (e.2.natAbs : Int))))).map (fun e => (e.1, gainIn l e.1))

/-- Assign a new vector, by feed, to slots whose gains `g0` are those reached (R157). The number is that of the speakers
deferred. A speaker placed into a slot this tick is marked so that no other takes it. -/
def assignSlots (prev : List Slot) (new : List (Nat × Int)) (vecMax : Nat) : List Slot × Nat :=
  let prev := (prev ++ List.replicate (vecMax - prev.length) emptySlot).take (max vecMax prev.length)
  let has (f : Nat) : Bool := new.any (fun e => e.1 == f)
  let s1 := prev.map (fun s => if s.valid then { s with g1 := if has s.feed then gainIn new s.feed else 0 } else s)
  let kept := (prev.filter (·.valid)).map (·.feed)
  let unplaced := sortMag (new.filter (fun e => !kept.contains e.1))
  let step (acc : List Slot × List Nat × Nat) (e : Nat × Int) : List Slot × List Nat × Nat :=
    let free (s : Slot) : Bool := !s.valid || (s.g0 == 0 && !has s.feed)
    match placeSlot free e.1 e.2 acc.1 with
    | some l => (l, acc.2.1 ++ [e.1], acc.2.2)
    | none => (acc.1, acc.2.1, acc.2.2 + 1)
  let r := unplaced.foldl step (s1, [], 0)
  (r.1.map (fun s => if s.valid && s.g1 == 0 && s.g0 == 0 then { s with valid := false } else s), r.2.2)

/-! ### Delay, air, dips (R150-R155) -/

/-- The lead target for an effect, or none when it is off; the flag says that the effect is MIXED (R150). -/
def leadTarget (m : Rd) (o : Nat) (app : Nat → Bool) : Option Nat × Bool :=
  let ts := (List.range 8).filter (fun t => (objTargets m o).testBit t && tgtKind m t != 0)
  let on := ts.filter app
  if on.isEmpty then (none, false)
  else if on.length = ts.length then (on.head?, false) else (none, true)

/-- Length in samples of line L (R455). -/
def lineLen (m : Rd) (l : Nat) : Nat := 4096 * max 1 (fld (m (tblLineLen + l)) 8 0)

/-- The delay target, clamped to the line; the flag says that it was (R151). -/
def delayTarget (m : Rd) (o t r fs : Nat) : Int × Bool :=
  let rd := max 0 ((r : Int) - (tdesc m t 6).toNat)
  let d := 4 * 2 ^ 16 + rhe (rd * fs * 2 ^ 7) (fld (m LOC) 24 0)
  let lim : Int := ((lineLen m o : Int) - 5) * 2 ^ 16
  if lim < d then (lim, true) else (d, false)

/-- The air selection: at once when air did not apply before (64), else held with hysteresis (R152). DESIGN CHOICE (log entry 73): R152
lists "a change of TARGETS or FLAGS" among the first boundaries at which air applies; a change of them while air goes on applying is not
such a first boundary, and the hysteresis stands. -/
def airSelect (m : Rd) (prev r : Nat) : Nat :=
  let step := (m (LOC + 3)).toNat
  let direct := min 63 (if step = 0 then 63 else r / step)
  if prev = 64 then direct
  -- bounds n * STEP - STEP / 8 and (n + 1) * STEP + STEP / 8, both times 8
  else if 8 * r + step < 8 * prev * step ∨ 8 * (prev + 1) * step + step ≤ 8 * r then direct else prev

/-- The delay of an object in the k-th period of its control tick (R153, R154). -/
def objDelay (x : LObj) (k : Nat) : Int := if x.atOnce then x.d0 + x.delta else x.d0 + rhe (x.delta * (k + 1)) 16

def LObj.init : LObj :=
  { d0 := 0, delta := 0, atOnce := true, dip := false, air0 := 64, air := 64, dt := 0, mixedDelay := false, mixedAir := false }

/-- Locator's carried state of an object moved to the end of its control tick (R153). -/
def LObj.endTick (x : LObj) : LObj := { x with d0 := objDelay x 15, delta := 0, atOnce := true, air0 := x.air }

/-- A slot moved to the end of its control tick (R158). -/
def Slot.endTick (s : Slot) : Slot := { s with g0 := s.g1 }

/-- The motion of an object's delay for boundary B: `x` at the end of the previous control tick, Dt, whether every gain was
zero, the slope limit, the jump limit, whether this is the first boundary of RUN (R153, R154, R159). A dip once decided
completes: after it the object is silent and takes Dt at once. -/
def moveDelay (x : LObj) (dt : Int) (silent first : Bool) (slope jump : Nat) : LObj :=
  if first ∨ silent then { x with d0 := dt, delta := 0, atOnce := true, dip := false, dt := dt }
  else
    let diff := dt - x.d0
    if (jump : Int) * 2 ^ 16 < diff.natAbs ∨ ((x.d0 == 0) != (dt == 0)) = true then
      { x with delta := 0, atOnce := true, dip := true, dt := dt }
    else
      { x with delta := clampI (-(16 * slope)) (16 * slope) diff, atOnce := false, dip := false, dt := dt }

end Sys2Proof.Machine
end

