-- ==== Sys2Proof/Machine/Sparse.lean ====
section
/-! DEFINITION. Sparse tables in one canonical form: keys strictly rising, no entry equal to what an unlisted key reads
as. The memory is one of them. -/
namespace Sys2Proof.Machine
open Sys2Proof

/-- The value at a key; `d` says what an unlisted key reads as. -/
def sparseGet {α : Type} (d : Nat → α) : List (Nat × α) → Nat → α
  | [], k => d k
  | (j, v) :: r, k => if j = k then v else if k < j then d k else sparseGet d r k

/-- The table with a key removed, keys kept rising. -/
def sparseDrop {α : Type} : List (Nat × α) → Nat → List (Nat × α)
  | [], _ => []
  | (j, v) :: r, k => if j = k then r else if k < j then (j, v) :: r else (j, v) :: sparseDrop r k

/-- The table with an entry put at its place, keys kept rising. -/
def sparsePut {α : Type} : List (Nat × α) → Nat → α → List (Nat × α)
  | [], k, w => [(k, w)]
  | (j, v) :: r, k, w =>
    if j = k then (k, w) :: r else if k < j then (k, w) :: (j, v) :: r else (j, v) :: sparsePut r k w

/-- Write a key; writing what an unlisted key reads as removes the entry, so equal tables are equal data. -/
def sparseSet {α : Type} [DecidableEq α] (d : Nat → α) (t : List (Nat × α)) (k : Nat) (v : α) : List (Nat × α) :=
  if v = d k then sparseDrop t k else sparsePut t k v

/-- The canonical form: keys strictly rising and no entry equal to what an unlisted key reads as. -/
def sparseWf {α : Type} [DecidableEq α] (d : Nat → α) : List (Nat × α) → Bool
  | [] => true
  | [(j, v)] => decide (v ≠ d j)
  | (j, v) :: (k, w) :: r => decide (v ≠ d j) && decide (j < k) && sparseWf d ((k, w) :: r)

/-- The entry at a key, if listed. -/
def sparseFind {α : Type} (t : List (Nat × α)) (k : Nat) : Option α := (t.find? (fun e => e.1 == k)).map (·.2)

/-- The canonical form of the memory: the form every memory operation keeps. -/
def Memory.wf (m : Sparse Word) : Bool := sparseWf resetWord m

end Sys2Proof.Machine
end

