-- ==== Sys2Proof/Machine/Effects.lean ====
section
/-! DEFINITION. What a command can do to the state, said once: a list of effects. Every meaning computes the effects from
the state and one function applies them, so whatever no effect can do, no command can do (the queue of commands, and
unblowing a fuse, for two). -/
namespace Sys2Proof.Machine
open Sys2Proof

/-- A fuse blown in the field (R541). -/
inductive Fuse where
  | rollback | floor | owner (slot hash : Nat) | revokeOwner (slot : Nat) | revokeVendor (slot : Nat) | hostImageDis | vendorDebugged
deriving DecidableEq, Repr

/-- One effect on the state. -/
inductive Eff where
  /-- Store a word at its address; a word with an error is good again once written (R328, R330). -/
  | mem (a : Nat) (w : Word)
  /-- Every word whose address does not satisfy `keep` returns to its reset contents. -/
  | memKeep (keep : Nat → Bool)
  /-- Blow a fuse (R541). -/
  | fuse (f : Fuse)
  | free (v : Nat)
  | out (v : List Out)
  | sys (v : Sys)
  | cocoon (v : Cocoon)
  | flash (v : Flash)
  | life (v : Life)
  | log (v : Log)
  | hth (v : Hth)
  | sec (v : Sec)
  | xbr (v : Xbr)
  | hpt (v : Hpt)
  | qch (v : Qch)
  | pins (v : Sparse PinF)
  | img (v : Img)
  | scene (v : Scene)
  | loc (v : Loc)
  | wav (v : Wav)
  | feeds (v : Sparse Feed)
  | cru (v : Cru)
  | tpr (v : Tpr)
  | lan (v : Lan)
  | bel (v : Bel)
  | aud (v : Aud)
  | macs (v : Sparse MacPort)
  | stm (v : Stm)
  | clk (v : Clk)
  | twn (v : Twn)
  | bad (v : List Nat)
  | soft (v : List Nat)
  | flips (v : Sparse Nat)
  | drc (v : Dram)

/-- The fuses after one more is blown; a blown fuse is never unblown (R541). -/
def blow (o : Otp) (f : Fuse) : Otp :=
  match f with
  | .rollback => { o with rollback := min 64 (o.rollback + 1) }
  | .floor => { o with floorBlown := o.floorBlown + 1 }
  | .owner i h => if o.ownerActive.testBit i || o.ownerRevoked.testBit i then o else { o with ownerActive := o.ownerActive ||| 2 ^ i, ownerHash := sparseSet (fun _ => 0) o.ownerHash i h }
  | .revokeOwner i => { o with ownerRevoked := o.ownerRevoked ||| 2 ^ i }
  | .revokeVendor i => { o with vendorRevoked := o.vendorRevoked ||| 2 ^ i }
  | .hostImageDis => { o with hostImageDis := true }
  | .vendorDebugged => { o with vendorDebugged := true }

/-- Apply one effect. -/
def applyEff (s : State) (e : Eff) : State :=
  match e with
  | .mem a w => { s with mem := sparseSet resetWord s.mem a w, bad := s.bad.filter (· != a), soft := s.soft.filter (· != a), flips := sparseDrop s.flips a }
  | .memKeep k => { s with mem := s.mem.filter (fun c => k c.1), bad := s.bad.filter k, soft := s.soft.filter k, flips := s.flips.filter (fun c => k c.1) }
  | .fuse f => { s with otp := blow s.otp f }
  | .free v => { s with free := v }
  | .out v => { s with out := v }
  | .sys v => { s with sys := v }
  | .cocoon v => { s with cocoon := v }
  | .flash v => { s with flash := v }
  | .life v => { s with life := v }
  | .log v => { s with log := v }
  | .hth v => { s with hth := v }
  | .sec v => { s with sec := v }
  | .xbr v => { s with xbr := v }
  | .hpt v => { s with hpt := v }
  | .qch v => { s with qch := v }
  | .pins v => { s with pins := v }
  | .img v => { s with img := v }
  | .scene v => { s with scene := v }
  | .loc v => { s with loc := v }
  | .wav v => { s with wav := v }
  | .feeds v => { s with feeds := v }
  | .cru v => { s with cru := v }
  | .tpr v => { s with tpr := v }
  | .lan v => { s with lan := v }
  | .bel v => { s with bel := v }
  | .aud v => { s with aud := v }
  | .macs v => { s with macs := v }
  | .stm v => { s with stm := v }
  | .clk v => { s with clk := v }
  | .twn v => { s with twn := v }
  | .bad v => { s with bad := v }
  | .soft v => { s with soft := v }
  | .flips v => { s with flips := v }
  | .drc v => { s with drc := v }

/-- Apply effects in order. -/
def applyAll (es : List Eff) (s : State) : State := es.foldl applyEff s

/-- What a meaning is made of: the effects it has in a state. -/
abbrev Act := State → List Eff

/-- Acts one after the other: each sees the state the earlier ones leave. -/
def seq : List Act → Act
  | [], _ => []
  | a :: as, s => a s ++ seq as (applyAll (a s) s)

/-- One act for each element of a list, in order. -/
def each {α : Type} (l : List α) (f : α → Act) : Act := seq (l.map f)

/-- An act under a condition on the state. -/
def when (c : State → Bool) (a : Act) : Act := fun s => if c s then a s else []

/-- A choice of acts by a condition on the state. -/
def ifThen (c : State → Bool) (a b : Act) : Act := fun s => if c s then a s else b s

/-- No effect. -/
def nop : Act := fun _ => []

/-- The next state of a command: its effects, on the state with the previous command's outputs cleared. -/
def run (a : Act) (s : State) : State := applyAll (a { s with out := [] }) { s with out := [] }

/-- The outcome of a command that goes on. -/
def done (a : Act) (s : State) : Host.Outcome State Fault Refusal := .next (run a s)

/-! Updates of one block. -/

/-- Update of the block `free`. -/
def onFree (f : State → Nat → Nat) : Act := fun s => [.free (f s s.free)]
/-- Update of the block `out`. -/
def onOut (f : State → List Out → List Out) : Act := fun s => [.out (f s s.out)]
/-- Update of the block `sys`. -/
def onSys (f : State → Sys → Sys) : Act := fun s => [.sys (f s s.sys)]
/-- Update of the block `cocoon`. -/
def onCocoon (f : State → Cocoon → Cocoon) : Act := fun s => [.cocoon (f s s.cocoon)]
/-- Update of the block `flash`. -/
def onFlash (f : State → Flash → Flash) : Act := fun s => [.flash (f s s.flash)]
/-- Update of the block `life`. -/
def onLife (f : State → Life → Life) : Act := fun s => [.life (f s s.life)]
/-- Update of the block `log`. -/
def onLog (f : State → Log → Log) : Act := fun s => [.log (f s s.log)]
/-- Update of the block `hth`. -/
def onHth (f : State → Hth → Hth) : Act := fun s => [.hth (f s s.hth)]
/-- Update of the block `sec`. -/
def onSec (f : State → Sec → Sec) : Act := fun s => [.sec (f s s.sec)]
/-- Update of the block `xbr`. -/
def onXbr (f : State → Xbr → Xbr) : Act := fun s => [.xbr (f s s.xbr)]
/-- Update of the block `hpt`. -/
def onHpt (f : State → Hpt → Hpt) : Act := fun s => [.hpt (f s s.hpt)]
/-- Update of the block `qch`. -/
def onQch (f : State → Qch → Qch) : Act := fun s => [.qch (f s s.qch)]
/-- Update of the block `pins`. -/
def onPins (f : State → Sparse PinF → Sparse PinF) : Act := fun s => [.pins (f s s.pins)]
/-- Update of the block `img`. -/
def onImg (f : State → Img → Img) : Act := fun s => [.img (f s s.img)]
/-- Update of the block `scene`. -/
def onScene (f : State → Scene → Scene) : Act := fun s => [.scene (f s s.scene)]
/-- Update of the block `loc`. -/
def onLoc (f : State → Loc → Loc) : Act := fun s => [.loc (f s s.loc)]
/-- Update of the block `wav`. -/
def onWav (f : State → Wav → Wav) : Act := fun s => [.wav (f s s.wav)]
/-- Update of the block `feeds`. -/
def onFeeds (f : State → Sparse Feed → Sparse Feed) : Act := fun s => [.feeds (f s s.feeds)]
/-- Update of the block `cru`. -/
def onCru (f : State → Cru → Cru) : Act := fun s => [.cru (f s s.cru)]
/-- Update of the block `tpr`. -/
def onTpr (f : State → Tpr → Tpr) : Act := fun s => [.tpr (f s s.tpr)]
/-- Update of the block `lan`. -/
def onLan (f : State → Lan → Lan) : Act := fun s => [.lan (f s s.lan)]
/-- Update of the block `bel`. -/
def onBel (f : State → Bel → Bel) : Act := fun s => [.bel (f s s.bel)]
/-- Update of the block `aud`. -/
def onAud (f : State → Aud → Aud) : Act := fun s => [.aud (f s s.aud)]
/-- Update of the block `macs`. -/
def onMacs (f : State → Sparse MacPort → Sparse MacPort) : Act := fun s => [.macs (f s s.macs)]
/-- Update of the block `stm`. -/
def onStm (f : State → Stm → Stm) : Act := fun s => [.stm (f s s.stm)]
/-- Update of the block `clk`. -/
def onClk (f : State → Clk → Clk) : Act := fun s => [.clk (f s s.clk)]
/-- Update of the block `twn`. -/
def onTwn (f : State → Twn → Twn) : Act := fun s => [.twn (f s s.twn)]
/-- Update of the block `bad`. -/
def onBad (f : State → List Nat → List Nat) : Act := fun s => [.bad (f s s.bad)]
/-- Update of the block `flips`. -/
def onFlips (f : State → Sparse Nat → Sparse Nat) : Act := fun s => [.flips (f s s.flips)]
/-- Update of the block `soft`. -/
def onSoft (f : State → List Nat → List Nat) : Act := fun s => [.soft (f s s.soft)]
/-- Update of the block `drc`. -/
def onDrc (f : State → Dram → Dram) : Act := fun s => [.drc (f s s.drc)]

end Sys2Proof.Machine
end

