-- ==== Sys2Proof/Machine/Ops.lean ====
section
/-! DEFINITION. The named operations over words, registers, counters, doorbells, the log and the lifetime record that
every meaning is written from. -/
namespace Sys2Proof.Machine
open Sys2Proof

/-! ### Words and fields -/

/-- The word stored at an address; an unlisted address reads as its reset contents. -/
def rd (s : State) (a : Nat) : Word := sparseGet resetWord s.mem a

/-- Bits hi:lo of the word stored at an address. -/
def rdF (s : State) (a hi lo : Nat) : Nat := fld (rd s a) hi lo

/-- Store a word. -/
def poke (a : Nat) (w : Word) : Act := fun _ => [.mem a w]

/-- Replace bits hi:lo of a stored word. -/
def pokeF (a hi lo v : Nat) : Act := fun s => [.mem a (setFld (rd s a) hi lo v)]

/-- Set bits of a stored word. -/
def setBits (a m : Nat) : Act := fun s => [.mem a (rd s a ||| wd m)]

/-- Clear bits of a stored word. -/
def clrBits (a m : Nat) : Act := fun s => [.mem a (rd s a &&& ~~~ (wd m))]

/-- Add to a count in bits hi:lo, saturating at the field's largest value. -/
def bump (a hi lo n : Nat) : Act := fun s => [.mem a (setFld (rd s a) hi lo (min (2 ^ (hi + 1 - lo) - 1) (rdF s a hi lo + n)))]

/-- Store a 64-bit value over a pair of registers, _0 holding bits 63:32 (24: Two-word values). -/
def pokePair (a v : Nat) : Act := seq [poke a (wd (bits v 63 32)), poke (a + 1) (wd (bits v 31 0))]

/-- The 64-bit value a pair of registers holds. -/
def rdPair (s : State) (a : Nat) : Nat := rdF s a 31 0 * 2 ^ 32 + rdF s (a + 1) 31 0

/-- Store consecutive words. -/
def pokeList (a : Nat) (ws : List Word) : Act := fun _ => ws.zipIdx.map (fun e => .mem (a + e.2) e.1)

/-- Read consecutive words. -/
def rdList (s : State) (a n : Nat) : List Word := (List.range n).map (fun i => rd s (a + i))

/-! ### Single-bit errors in on-die memory (R242, R328) -/

/-- The lane one of whose memories a word belongs to, if any (R242). -/
def laneOfWord (a : Nat) : Option Nat :=
  if 0x28000000 ≤ a ∧ a ≤ 0x291FFFFF then some ((a - 0x28000000) / 0x40000) else none

/-- A reader corrects a word and writes it back; in a lane memory it is counted in ECC_CORR (R242, R328). No register counts it for the
other on-die memories (log entry 82). -/
def eccFix (a : Nat) : Act := seq [
  (match laneOfWord a with
   | some l => bump (LAN l + 2) 11 0 1
   | none => nop),
  onSoft fun _ l => l.filter (· != a)]

/-- Words are read: those with a single-bit error are corrected. -/
def eccRead (as : List Nat) : Act := fun s => each (as.filter (fun a => s.soft.contains a)) eccFix s

/-! ### Complement pairs (R39) -/

/-- The value of the pair whose value word is at `a`; none when its two words are not complements, or one of them is uncorrectable (R39,
R330). -/
def pairVal (s : State) (a : Nat) : Option Word :=
  if rd s (a + 1) = notW (rd s a) ∧ s.bad.contains a = false ∧ s.bad.contains (a + 1) = false then some (rd s a) else none

/-- Commit a complement pair whole (R40). -/
def pokePairVal (a : Nat) (w : Word) : Act := fun _ => [.mem a w, .mem (a + 1) (notW w)]

/-! ### Free values -/

/-- Draw a free value for the rule named by `tag` and go on with it (log entry 3). -/
def draw (tag : Nat) (k : Nat → Act) : Act := fun s =>
  .free (s.free + 1) :: k (Config.freeNat tag s.free) { s with free := s.free + 1 }

/-! ### Outputs -/

/-- Let the outside see something. -/
def emit (o : Out) : Act := fun s => [.out (s.out ++ [o])]

/-! ### Doorbells (R479) -/

/-- Set a doorbell event bit of receiver r. -/
def ring (r bit : Nat) : Act := setBits (MBX + 0x402 + 4 * r) (2 ^ bit)

/-- Host doorbell bits (R479). -/
def ringState : Act := ring 0 0
def ringFault : Act := ring 0 1
def ringLane : Act := seq [ring 0 2, ring 1 21]
def ringTwin : Act := ring 0 3
def ringClock : Act := ring 0 4
def ringHalf : Act := ring 0 5
def ringHold : Act := ring 0 7
def ringScene : Act := ring 0 8
def ringMeter : Act := ring 0 9
def ringThermal : Act := seq [ring 0 10, ring 1 22]
def ringUpdate : Act := ring 0 11

/-- Set bits of CLK_EVENT, which rings Hearth's CLOCK (R480). -/
def clkEvent (mask : Nat) : Act := seq [setBits (CLK + 1) mask, ring 1 18]

/-! ### Lifetime record (R523) -/

/-- Count i of the lifetime record. -/
def lifeGet (s : State) (i : Nat) : Nat := sparseGet (fun _ => 0) s.life.ctr i

/-- Add to count i, saturating at 2^36 - 1 (R523). -/
def life (i n : Nat) : Act := onLife fun s l =>
  { l with ctr := sparseSet (fun _ => 0) l.ctr i (min (2 ^ 36 - 1) (lifeGet s i + n)) }

/-- Raise count i to at least v (MAX_TJ). -/
def lifeMax (i v : Nat) : Act := onLife fun s l =>
  { l with ctr := sparseSet (fun _ => 0) l.ctr i (max v (lifeGet s i)) }

/-! ### Log reports (R518, R520) -/

/-- Is the period count meaningful in the present state (R518: zero outside ARMED, RUN and SAFE)? -/
def counting (s : State) : Bool := s.sys.state == .armed || s.sys.state == .run || s.sys.state == .safe

/-- Report an event with a stated severity; the report waits until it is placed in the ring (R520). -/
def reportSev (sev src : Nat) (e : Event) (d0 d1 : Nat) : Act := onLog fun s l =>
  { l with reports := l.reports ++ [
      { sev := sev, src := src, event := e, period := if counting s then s.wav.n else 0,
        calSec := if s.cocoon.calSource = 0 then 0 else s.cocoon.calSec,
        calSub := if s.cocoon.calSource = 0 then 0 else s.cocoon.calSub, d0 := d0, d1 := d1 }] }

/-- Report an event whose severity the firmware package's event table gives. -/
def report (src : Nat) (e : Event) (d0 d1 : Nat) : Act := reportSev (Config.eventSeverity e.ctorIdx) src e d0 d1

/-- Block numbers for SOURCE (R518): bits 23:16 of the block base. -/
def srcOf (base : Nat) : Nat := bits base 23 16

/-- TWN_STATUS.ALIGN (R357): 0 NONE, 1 REQUESTED, 2 SNAPSHOT, 3 CATCHUP, 4 CONFIRMING, 5 ALIGNED. -/
def align (s : State) : Nat := rdF s TWN 35 33

/-- The latest period that the render has dealt with: that of the latest tick, or of the latest catch-up wavefront (R187). -/
def renderN (s : State) : Nat :=
  if align s = 3 then
    match s.wav.flight with
    | some f => f.n
    | none => s.wav.caught
  else s.wav.n

/-! ### Tongs frames (R345, R346) -/

/-- Is Tongs up (TWN_STATUS.LINK)? -/
def tongsUp (s : State) : Bool := flag (rd s TWN) 25

/-- Priority of a class, 1 the highest (R346). -/
def tongsRank (cls : Nat) : Nat :=
  if cls = 1 then 1 else if cls ≤ 3 then 2 else cls - 1

/-- Lanes of Tongs in block lock. -/
def lanesUp (s : State) : Nat := b2n (flag (rd s TWN) 26) + b2n (flag (rd s TWN) 27)

/-- A frame of class `cls` joins those that wait: before every frame of a lower class but the first `k`, which have started (R346). -/
def queueTongs (cls : Nat) (x : Out) : Nat → List Out → List Out
  | _, [] => [x]
  | k, .tongs c q m b :: rest =>
    if k = 0 ∧ tongsRank cls < tongsRank c then x :: .tongs c q m b :: rest else .tongs c q m b :: queueTongs cls x (k - 1) rest
  | k, y :: rest => y :: queueTongs cls x k rest

/-- Hand one frame to Tongs: the class's SEQ rises by one for each frame; it waits by its class among what the command sends, and the
transmitter is empty again before the next command (R345, R346; log entry 85). -/
def tongsFrame (cls : Nat) (more : Bool) (body : List Nat) : Act := fun s =>
  let q := sparseGet (fun _ => 0) s.twn.classSeq cls
  seq [onOut fun s o => queueTongs cls (.tongs cls q more body) (lanesUp s) o,
       onTwn fun _ t => { t with classSeq := sparseSet (fun _ => 0) t.classSeq cls ((q + 1) % 2 ^ 32) }] s

/-- The fragments of a body of any length: 2,048 bytes each (R345), on fuel. -/
def fragments : Nat → List Nat → List (List Nat)
  | 0, _ => []
  | f + 1, b => if b.length ≤ 2048 then [b] else b.take 2048 :: fragments f (b.drop 2048)

/-- Hand a body to Tongs, in as many frames as it needs, all but the last with MORE (R345, R353). -/
def tongsSend (cls : Nat) (body : List Nat) : Act :=
  let fs := fragments (body.length + 1) body
  each fs.zipIdx (fun e => tongsFrame cls (e.2 + 1 < fs.length) e.1)

/-- The bytes of a Tongs frame on the wire (R345): header, body, CRC-32 over both. -/
def tongsBytes (cls seqn : Nat) (more : Bool) (body : List Nat) : List Nat :=
  let h := [cls, b2n more] ++ toBytes 2 body.length ++ toBytes 4 seqn ++ body
  h ++ toBytes 4 (crc32 h)

/-- Does a lane of Tongs hold block lock (R344)? Heartbeats and presence go out over such a lane whether or not the partner is heard. -/
def laneLocked (s : State) : Bool := rdF s TWN 27 26 != 0

/-! ### STATIC sections (R95) -/

/-- Section types whose STATIC flag guards a region (04: R95, section table). -/
def staticOf (s : State) (sec : Nat) : Bool := s.img.static.testBit sec
def secSafety : Nat := 4
def secNetwork : Nat := 5
def secStreams : Nat := 6
def secPorts : Nat := 7
def secLayouts : Nat := 8
def secEq : Nat := 9
def secRoutes : Nat := 10
def secScenes : Nat := 11
def secLanes : Nat := 12

/-! ### Staging registers (R40, R198) -/

/-- What master m has staged. -/
def stagedOf (s : State) (m : Nat) : Option Staged := sparseFind s.xbr.staged m

/-- Stage a word for master m. -/
def stage (m a : Nat) (w : Word) : Act := onXbr fun _ x => { x with staged := sparsePut x.staged m { addr := a, word := w } }

/-- Forget what master m has staged. -/
def unstage (m : Nat) : Act := onXbr fun _ x => { x with staged := sparseDrop x.staged m }

/-! ### State changes (R66) -/

/-- Move to another device state: PREV_STATE, the STATE_CHANGE doorbell, a log entry and the lifetime counts (R66, R523). -/
def setState (d : DevState) : Act := seq [
  onSys fun s y => { y with prev := s.sys.state, state := d },
  ringState,
  report (srcOf SYS) .stateChange d.ctorIdx 0,
  when (fun _ => d == .safe) (life 7 1),
  when (fun _ => d == .hold) (life 20 1)]

/-- The code of a device state in SYS_STATE (R65). -/
def devCode (d : DevState) : Nat := d.ctorIdx

/-- The code of a role in SYS_STATE.ROLE (R76). -/
def roleCode (r : Role) : Nat :=
  match r with
  | .solo => 0
  | .active => 1
  | .standby => 2
  | .detached => 3
  | .none => 0xF

/-! ### Twin events, roles and the receipt of Tongs frames (R340-R345) -/

/-- TWN_STATUS.ALIGN. -/
def setAlign (v : Nat) : Act := seq [when (fun s => align s != v) (ring 2 20), pokeF TWN 35 33 v]
/-- What a twin event does: TWIN_EVENT and a log entry. -/
def twinEvent (e : Event) (d0 d1 : Nat) : Act := seq [ringTwin, report (srcOf TWN) e d0 d1]

/-- Take a role: STATE_CHANGE and TWIN_EVENT are rung and the change is logged. -/
def setRole (r : Role) : Act := seq [
  onSys fun _ y => { y with role := r }, ringState, twinEvent .roleDecision (roleCode r) 0]

/-- A unit that stays ALIGNED and goes on sending compares hashes again as under CONFIRMING (R362, R364). -/
def confirmAgain : Act := onTwn fun _ t => { t with confirm := 0, returning := true }

/-- The wire is found DEAD while Tongs is up: counted (R343). -/
def wireFault : Act := seq [bump (TWN + 7) 23 12 1, twinEvent .wireFault 0 0]

/-- Tongs comes up; a DETACHED unit returns to STANDBY and confirms while it keeps sending (R362). -/
def tongsCame : Act := fun s =>
  if tongsUp s then [] else seq [
    pokeF TWN 25 25 1, ring 2 16, twinEvent .tongsUp 0 0,
    onTwn fun s t => { t with upAt := s.wav.n },
    when (fun s => s.twn.wire == 2 && 200 ≤ s.twn.wireSeen.length) wireFault,
    when (fun s => s.sys.role == .detached) (seq [setRole .standby, setAlign 5]),
    when (fun s => s.sys.role == .standby && align s == 5) confirmAgain] s

/-- The period count was set anew: missed heartbeats are counted from here (R350). -/
def countMoved : Act := onTwn fun s t => { t with upAt := s.wav.n, beatAt := s.wav.n }

/-- A Tongs frame arrives over a locked lane: one that fails its CRC or LENGTH, or is of another class, is dropped and counted; any good
one shows that Tongs is up (R344-R346). -/
def received (f : FrameFind) (a : Act) : Act := fun s =>
  if s.img.twin != 1 || !laneLocked s then []
  else if f = .good then seq [tongsCame, a] s
  else bump (TWN + 8) 35 24 1 s

/-! ### Fault latches (R319) -/

/-- Is a QCH_FAULT or QCH_WARN latch set? -/
def anyLatch (s : State) : Bool := s.qch.fault != 0 || s.qch.warn != 0

/-- What every latch does beside setting its bit: the FAULT doorbell, Hearth's SAFETY bit, a log entry, a lifetime count. -/
def latchReport (fault : Bool) (bit : Nat) : Act := seq [
  ringFault, ring 1 19,
  report (srcOf QCH) (if fault then .faultLatch else .warnLatch) bit 0,
  life (if fault then 8 else 9) 1]

/-- Latch warning bit `bit` of QCH_WARN; a latch already set is not latched again (R319). -/
def warn (bit : Nat) : Act := fun s =>
  if s.qch.warn.testBit bit then [] else
    seq [onQch fun _ q => { q with warn := q.warn ||| 2 ^ bit }, latchReport false bit] s

/-- Set a QCH_FAULT latch without its state change. -/
def latchFault (bit : Nat) : Act := fun s =>
  if s.qch.fault.testBit bit then [] else
    seq [onQch fun _ q => { q with fault := q.fault ||| 2 ^ bit }, latchReport true bit] s

end Sys2Proof.Machine
end

