-- ==== Sys2Proof/Machine/Items.lean ====
section
/-! DEFINITION. Work-item descriptors and argument blocks as the tables hold them (12: R292; 10: R248). -/
namespace Sys2Proof.Machine
open Sys2Proof

/-- The descriptor of item i (R292). -/
def itemOf (m : Nat → Word) (i : Nat) : Item :=
  let w0 := m (BEL + 0x1000 + 4 * i)
  let w1 := m (BEL + 0x1001 + 4 * i)
  { valid := i < 2048 && flag w0 35, cls := fld w0 34 33, delayed := flag w0 32, pair := fld w0 29 24 % 32, stage := fld w0 19 16,
    entry := fld w0 12 0, arg := fld w1 21 16, bundles := fld w1 13 0 }

/-- Word w of pair p's Y memory, and of its X memory. Both lanes hold the same words (R237); the lane that serves as the pair's
first stands for both. -/
def yW (lane w : Nat) : Nat := laneMem lane 1 + w % 8192
def xW (lane w : Nat) : Nat := laneMem lane 0 + w % 8192

/-- An argument block's header (R248): its first Y word and the ranges it declares. -/
structure Block where
  at' : Nat
  len : Nat
  code : Nat
  codeLen : Nat
  x : Nat
  xLen : Nat
  y : Nat
  yLen : Nat
deriving DecidableEq, Repr

/-- The block whose first word is Y word `a` of a lane. -/
def blockAt (m : Nat → Word) (lane a : Nat) : Block :=
  let h0 := m (yW lane a)
  let h1 := m (yW lane (a + 1))
  let h2 := m (yW lane (a + 2))
  { at' := a, len := fld h0 28 24, code := fld h0 12 0, codeLen := fld h0 23 13, x := fld h1 12 0, xLen := fld h1 25 13,
    y := fld h2 12 0, yLen := fld h2 25 13 }

/-- The blocks of a lane's argument area, in order: they start at multiples of 16 words and do not overlap; a header with LENGTH 0
is no block (R248; log entry 30). On fuel. -/
def blocksGo (m : Nat → Word) (lane : Nat) : Nat → Nat → List Block
  | 0, _ => []
  | f + 1, i =>
    if 64 ≤ i then [] else
    let b := blockAt m lane (0x1C00 + 16 * i)
    if b.len = 0 then blocksGo m lane f (i + 1) else b :: blocksGo m lane f (i + b.len)
def blocks (m : Nat → Word) (lane : Nat) : List Block := blocksGo m lane 64 0

/-- Does argument-area word a carry an argument: a word from 4 onwards of a block (R248, R262)? -/
def isArgument (bs : List Block) (a : Nat) : Bool := bs.any (fun b => b.at' + 4 ≤ a && a < b.at' + 16 * b.len)

def BgItem.init : BgItem := { st := 0, since := 0, slots := [], again := false }
/-- The state of background item i; an item never touched is IDLE. -/
def bgOf (s : State) (i : Nat) : BgItem := sparseGet (fun _ => BgItem.init) s.bel.bg i
def setBg (i : Nat) (f : BgItem → BgItem) : Act := onBel fun s b =>
  { b with bg := sparseSet (fun _ => BgItem.init) b.bg i (f (bgOf s i)) }

/-- Move background items to a state, together: entry to READY and PREEMPTED is ordered, and items that enter at the same moment tie (R297). -/
def bgStates (is : List Nat) (st : Nat) : Act := seq [
  onBel fun _ b => { b with order := b.order + 1 },
  fun s => each is (fun i => setBg i (fun b => { b with st := st, since := s.bel.order, again := false })) s]
/-- Move one background item to a state. -/
def bgState (i st : Nat) : Act := bgStates [i] st
/-- A background item runs again from its entry (R290, R298). -/
def bgAgain (i : Nat) : Act := seq [bgState i 1, setBg i fun b => { b with again := true }]

/-! ### Graph nodes (R312) -/

/-- Word j of node k, and its fields. -/
def nodeA (k j : Nat) : Nat := BEL + 0x4000 + 4 * (k % 1024) + j
def nodeKind (s : State) (k : Nat) : Nat := rdF s (nodeA k 0) 34 32
def nodeState (s : State) (k : Nat) : Nat := rdF s (nodeA k 0) 15 13
def nodeTarget (s : State) (k : Nat) : Nat := rdF s (nodeA k 2) 30 24
/-- TARGET_B, the destination of a COPY and the tester of a TEST, and PARAM bits 3:0. -/
def nodeOther (s : State) (k : Nat) : Nat := rdF s (nodeA k 2) 22 16
def nodeParam (s : State) (k : Nat) : Nat := rdF s (nodeA k 3) 3 0

/-- Valid background items of the table. -/
def bgItems (m : Nat → Word) : List Nat :=
  (List.range 2048).filter (fun i => (itemOf m i).valid && (itemOf m i).cls == 2)

end Sys2Proof.Machine
end

