-- ==== Sys2Proof/Machine/Net.lean ====
section
/-! DEFINITION. What every user of the network ports shares (15: R369, R371, R382-R384, R386; 16: R401): port state, counters,
addresses, checksums, the transmit queues. -/
namespace Sys2Proof.Machine
open Sys2Proof

/-- Is network port x up (MAC_x_STATUS.LINK, R369)? -/
def portUp (s : State) (x : Nat) : Bool := flag (rd s (MAC x)) 10

/-- The ports are off but in ARMED, RUN and SAFE (R371; in SAFE the streams keep sending, R70). -/
def portsOn (s : State) : Bool := counting s

/-- May port x receive, and may it transmit (R371)? -/
def rxOn (s : State) (x : Nat) : Bool := x < 2 && portsOn s && portUp s x && flag (rd s (MAC x + 1)) 0
def txOn (s : State) (x : Nat) : Bool := x < 2 && portsOn s && portUp s x && flag (rd s (MAC x + 1)) 1

/-- Which HALF bit a counter owns: register offset and bit (MAC_x_CNT_HALF_0 and _1). -/
def halfBit (off : Nat) : Nat × Nat := if off < 0x420 then (0x480, off - 0x400) else (0x481, off - 0x424)

/-- Count n events in the 36-bit counter at offset `off` of port x, modulo 2^36; a change of its bit 35 sets its HALF bit and
rings COUNTER_HALF (R386). -/
def cnt (x off n : Nat) : Act := fun s =>
  let old := (rd s (MAC x + off)).toNat
  let new := (old + n) % 2 ^ 36
  seq [poke (MAC x + off) (wd new),
       when (fun _ => old.testBit 35 != new.testBit 35)
         (seq [setBits (MAC x + (halfBit off).1) (2 ^ (halfBit off).2), ringHalf])] s

/-- Add to a 64-bit byte counter (R387). -/
def cntBytes (x off n : Nat) : Act := fun s => pokePair (MAC x + off) ((rdPair s (MAC x + off) + n) % 2 ^ 64) s

/-! ### Port records -/

def MacPort.init : MacPort := { rings := [], queues := [], staging := [], waits := 0, loLatch := (0, 0) }
def macOf (s : State) (x : Nat) : MacPort := sparseGet (fun _ => MacPort.init) s.macs x
def setMac (x : Nat) (f : MacPort → MacPort) : Act := onMacs fun s t =>
  sparseSet (fun _ => MacPort.init) t x (f (macOf s x))

/-- The frames of transmit queue q. -/
def txq (s : State) (x q : Nat) : List TxFrame := sparseGet (fun _ => []) (macOf s x).queues q
def setTxq (x q : Nat) (l : List TxFrame) : Act := setMac x fun p => { p with queues := sparseSet (fun _ => []) p.queues q l }

/-- Put a frame of network control or Hearth into queue q: audio, acknowledgement and heartbeat frames are discarded and counted
while the port is down or off; Hearth's wait (R369, R371). -/
def enqueue (x q : Nat) (f : TxFrame) : Act := fun s =>
  if (q = 4 ∨ q = 5 ∨ q = 7) ∧ !(portUp s x && portsOn s) then cnt x 0x41A 1 s
  else setTxq x q (txq s x q ++ [f]) s

/-- Send a UDP datagram from queue q of port x: source UDP port, none where the spec names none (log entry 70), destination. -/
def sendUdp (x q : Nat) (src : Option Nat) (ip udp : Nat) (payload : List Nat) : Act :=
  enqueue x q { body := .dgram src ip udp payload, ring := none, descs := [], ts := false }

/-! ### Addresses and headers -/

/-- The port's own Ethernet address, 48 bits (R374). -/
def macAddr (m : Nat → Word) (x : Nat) : Nat := fld (m (MAC x + 4)) 15 0 * 2 ^ 32 + fld (m (MAC x + 5)) 31 0
/-- Is an IPv4 address a multicast group? -/
def isGroup (ip : Nat) : Bool := bits ip 31 28 == 14
/-- Ethernet address of a group: 01-00-5E and the group's low 23 bits (R373). -/
def groupMac (ip : Nat) : Nat := 0x01005E000000 + ip % 2 ^ 23
def macVlan (m : Nat → Word) (x : Nat) : Bool := flag (m (MAC x + 7)) 35

/-- Ones' complement sum of 16-bit big-endian words. -/
def sum16 : List Nat → Nat
  | [] => 0
  | [a] => a * 256
  | a :: b :: r => a * 256 + b + sum16 r
/-- Fold carries, on fuel. -/
def fold16 : Nat → Nat → Nat
  | 0, n => n % 65536
  | f + 1, n => if n < 65536 then n else fold16 f (n / 65536 + n % 65536)
/-- The Internet checksum over bytes. -/
def inetSum (b : List Nat) : Nat := 65535 - fold16 8 (sum16 b)

/-- An Ethernet header, with the tag when VLAN is on, its PCP that of queue q (R382, R384). -/
def ethHeader (m : Nat → Word) (x q dst etype : Nat) : List Nat :=
  toBytes 6 dst ++ toBytes 6 (macAddr m x)
  ++ (if macVlan m x then toBytes 2 0x8100 ++ toBytes 2 (bits (m (MAC x + 8)).toNat (3 * q + 2) (3 * q) * 2 ^ 13 + fld (m (MAC x + 7)) 11 0)
      else [])
  ++ toBytes 2 etype

/-- An IPv4 packet: DSCP, TTL, protocol, addresses, options, payload; identification 0, DF set (R401). -/
def ipPacket (dscp ttl proto src dst : Nat) (opts payload : List Nat) : List Nat :=
  let ihl := 5 + opts.length / 4
  let h (c : Nat) : List Nat := [0x40 + ihl, dscp * 4] ++ toBytes 2 (4 * ihl + payload.length) ++ [0, 0, 0x40, 0, ttl, proto]
    ++ toBytes 2 c ++ toBytes 4 src ++ toBytes 4 dst ++ opts
  h (inetSum (h 0)) ++ payload

/-- A UDP datagram with its checksum (R401). -/
def udpPacket (src dst sp dp : Nat) (payload : List Nat) : List Nat :=
  let n := 8 + payload.length
  let h (c : Nat) : List Nat := toBytes 2 sp ++ toBytes 2 dp ++ toBytes 2 n ++ toBytes 2 c ++ payload
  let c := inetSum (toBytes 4 src ++ toBytes 4 dst ++ [0, 17] ++ toBytes 2 n ++ h 0)
  h (if c = 0 then 0xFFFF else c)

/-- Length of a frame on the wire's frame field, FCS included: at least 64 bytes (R384: padded to 60 before FCS). A datagram's
frame has 42 bytes of headers, 46 when tagged. -/
def txLen (m : Nat → Word) (x : Nat) (f : TxFrame) : Nat :=
  let n := match f.body with
    | .raw b => b.length
    | .dgram _ _ _ p => p.length + 42 + (if macVlan m x then 4 else 0)
  max 60 n + 4

end Sys2Proof.Machine
end

