-- ==== Sys2Proof/Machine/Keys.lean ====
section
/-! DEFINITION. Derived keys and the acknowledgement counter (23: R549, R552), and the acknowledgement frame of a scene frame
(05: R124). -/
namespace Sys2Proof.Machine
open Sys2Proof

/-- KDF of 23: the first 32 bytes of SHA-384 over key, label and context (R547). -/
def kdf (key : Nat) (label ctx : List Nat) : Nat := Config.sha384 (toBytes 32 key ++ label ++ ctx) >>> 128

/-- The peer key K_p of R549. -/
def peerKey (k0 p : Nat) : Nat := kdf k0 [0x50, 0x45, 0x45, 0x52] [p]

/-- The acknowledgement key of R549. -/
def ackKey (k0 p : Nat) : Nat := kdf (peerKey k0 p) [0x41, 0x43, 0x4B] (toBytes 8 Config.otpSerial)

/-- The twin key of a sender (R549). -/
def twinKey (k0 serial : Nat) : Nat :=
  kdf (kdf k0 [0x54, 0x57, 0x49, 0x4E] []) [0x54, 0x57, 0x48, 0x42] (toBytes 8 serial)

/-- K_0, where the derived keys are in place (SEC_STATUS.KEYS). -/
def keyZero (s : State) : Option Nat := sparseFind s.sec.keys 0

/-- The next DEVICE_COUNTER for a peer (R552). -/
def nextDevice (s : State) (p : Nat) : Nat :=
  max (sparseGet (fun _ => 0) s.sec.device p + 1) (if s.cocoon.calSource = 0 then 0 else s.cocoon.calSec * 2 ^ 20)

/-- A frame dropped for lack of keys: LOCKED_DROP of SEC_COUNT (R557). -/
def lockedDrop : Act := bump (SEC + 0x18) 23 12 1

/-- Send one acknowledgement of R124 from the scene port: its 36 bytes and the TAG under the peer's acknowledgement key; DEVICE_COUNTER
advances (R549, R552). Without the keys in place nothing can be signed: the frame is dropped and counted (R557). -/
def sendAck (port ip udp peer code index counter period : Nat) : Act := fun s =>
  match keyZero s with
  | none => lockedDrop s
  | some k0 =>
    let dc := nextDevice s peer
    let b := [0x53, 0x43, 0x41, 0x31, 1, code] ++ toBytes 2 index ++ [peer, roleCode s.sys.role, 0, 0]
      ++ toBytes 8 counter ++ toBytes 8 period ++ toBytes 8 dc
    seq [onSec fun _ k => { k with device := sparseSet (fun _ => 0) k.device peer dc },
         sendUdp port 4 (some (rdF s (LOC + 0x100) 15 0)) ip udp (b ++ Config.gmac (ackKey k0 peer) ([2, peer, 0, 0] ++ toBytes 8 dc) b)] s

end Sys2Proof.Machine
end

