-- ==== Sys2Proof/Machine/Modes.lean ====
section
/-! DEFINITION. The device-state moves that several chapters share: entry to HOLD, ARMED and SAFE, leaving RUN, the
device-level fault, and what each kind of reset keeps (03 R61-R70, R73; 13 R319; R584). -/
namespace Sys2Proof.Machine
open Sys2Proof

/-- Put a code into bits 7:0 of a commit status register, with PENDING in bit 35; each code other than PENDING and APPLIED is
logged (R206). -/
def commitStatus (a code : Nat) (pending : Bool) : Act := seq [
  pokeF a 7 0 code, pokeF a 35 35 (b2n pending),
  when (fun _ => code != 1 && code != 2) (report (srcOf a) .commitEnd code a)]

/-- Result of a host frame in LOC_HOST_RESULT: APPLIED, STATUS, COMMAND_INDEX (0x3FF for none). DISCARDS stays, and so does BUSY, which
is the submission's that is still being checked (R125). -/
def hostResult (applied : Bool) (code index : Nat) : Act := seq [
  pokeF (LOC + 0x105) 34 34 (b2n applied), pokeF (LOC + 0x105) 33 26 code,
  pokeF (LOC + 0x105) 17 8 (if index = 0xFFFF then 0x3FF else index)]

/-- Pending scene frames are lost when the device leaves RUN before their B; each with ACK_APPLIED is acknowledged with STATE by
the unit that was authoritative for it, if its port is up; a host frame shows STATE (R584). -/
def losePending : Act := fun s =>
  if s.scene.pending.isEmpty then [] else seq [
    each s.scene.pending (fun f =>
      if f.host then hostResult false 0x17 0xFFFF
      else when (fun s => f.own && f.ackApplied && portUp s f.port)
        (sendAck f.port f.ip f.udp f.peer 0x17 0xFFFF f.counter f.bnd)),
    onScene fun _ c => { c with pending := [] },
    pokeF (LOC + 0x101) 12 6 0, pokeF (LOC + 0x102) 29 17 0,
    report (srcOf LOC) .framesLost s.scene.pending.length 0, ringScene] s

/-- Commits pending when the device leaves RUN are lost: the host sees STATE and a log entry (R206, R325). -/
def loseCommits : Act := seq [
  when (fun s => s.cru.pend.isSome) (seq [onCru fun _ c => { c with pend := none }, commitStatus (CRU + 0x13) 0x0B false]),
  when (fun s => s.qch.clear.isSome) (seq [onQch fun _ q => { q with clear := none }, commitStatus (QCH + 0x13) 0x0B false]),
  -- a held swap is lost; a running fade ends at once and its TARGET is current on the next entry to RUN (R233)
  when (fun s => s.tpr.pend.isSome || s.tpr.queued.isSome || s.tpr.fade.isSome) (seq [
    onTpr fun _ t => { t with
      pend := none, queued := none, fade := none,
      cur := match t.fade with
        | some f => f.2.2
        | none => t.cur },
    pokeF (TPR + 0x13) 7 0 0x0B, report (srcOf TPR) .commitEnd 0x0B TPR])]

/-- Argument commits pending when the device leaves RUN are lost too (R206, R262). -/
def loseArgs : Act := fun s => seq [
  each s.lan.args (fun e => commitStatus (LAN (2 * e.1) + 0x23) 0x0B false),
  when (fun s => !s.lan.args.isEmpty) (onLan fun _ l => { l with args := [] })] s

/-- The delay list is emptied when the device leaves RUN: every background item becomes IDLE, or READY if it is an EVERY item; the
log gives the number of entries dropped (R305). Running background items end with it; a STOPPED item stays so until the next load
(R297; log entry 57). -/
def dropDelay : Act := fun s =>
  let n := s.bel.delay.length + (s.bel.bg.map (fun e => e.2.slots.length)).foldl (· + ·) 0
  seq [onBel fun _ b => { b with delay := [], bg := (b.bg.filter (fun e => e.2.st == 4)).map (fun e => (e.1, { e.2 with slots := [] })) },
       onLan fun _ l => { l with run := l.run.filter (fun e => e.2.cls != 2) },
       fun s => bgStates ((bgItems (rd s)).filter (fun i => !(itemOf (rd s) i).delayed && (bgOf s i).st != 4)) 1 s,
       report (srcOf BEL) .delayLate n 0] s

/-- A capture running when the device leaves RUN stops with status STATE; a pending one too (R499). -/
def stopCapture : Act := when (fun s => s.aud.cap.isSome) (seq [
  onAud fun _ a => { a with cap := none, capRun := false, capStop := false },
  pokeF (PDM + 0x10D) 7 0 0x08, report (srcOf PDM) .captureDone 8 0])

/-- An alignment is a STANDBY's in RUN: leaving RUN ends it, and one that this unit serves (R340, R357; DEDUCED: log entry 61). -/
def loseAlign : Act := seq [pokeF TWN 35 33 0, onTwn fun _ t => { t with
  confirm := 0, returning := false, hint := false, serve := none, frozen := none, snapWords := [], inbuf := [], ownSnap := none }]

/-- What leaving RUN loses (R584, R206, R233, R262, R305, R499). -/
def leaveRun : Act := seq [losePending, loseCommits, loseArgs, dropDelay, stopCapture, loseAlign]

/-- TDM ports in master mode stop as the device leaves ARMED, RUN and SAFE, each with a log entry (R488). -/
def stopMasterPorts : Act := fun s =>
  each (s.aud.tdm.filter (fun e => e.2.st == 1 && flag (rd s (TDM + 16 * e.1)) 34)) (fun e => seq [
    onAud fun _ a => { a with tdm := sparsePut a.tdm e.1 { e.2 with st := 2, good := 0, held := [], fifo := [] } },
    report (srcOf TDM) .tdmStopped e.1 2]) s

/-- Entry to HOLD with its reason, source slot and detail (R66, R73): CONFIG_HOLD rings, a log entry is written, the stop
hold is cleared (R67), the staged image length is cleared (R511), the servo is off with the ports (R407), attention waits for a read of
SYS_HOLD (R71). -/
def enterHold (reason slot detail : Nat) : Act := seq [
  setState .hold, stopMasterPorts,
  poke (SYS + 5) (wd (detail % 2 ^ 20 * 2 ^ 16 + slot % 4 * 2 ^ 8 + reason % 256)),
  poke (HPT + 3) 0,
  onSys fun _ y => { y with stopHold := false, holdRead := false, role := .none },
  onImg fun _ g => { g with stagedDiscard := false },
  pokeF STM 35 32 0,
  ringHold,
  report (srcOf SYS) .holdEntry reason detail]

/-- Leave HOLD: SYS_HOLD reads NONE outside HOLD (R73), with no DETAIL; SLOT stays the source last tried. -/
def clearHold : Act := seq [pokeF (SYS + 5) 7 0 0, pokeF (SYS + 5) 35 16 0]

/-- Every run ends but those of graph nodes, and the lanes of its retries are free again (R306). -/
def dropRuns : Act := onLan fun _ l =>
  let run := l.run.filter (fun e => e.2.node.isSome)
  { l with run := run, retry := l.retry.filter (fun e => run.any (fun r => r.1 == e.1)), upset := [] }

/-- Entry to ARMED: outputs muted, no role (R66, R71, R76); what was in flight in the render ends, and Locator starts afresh (R67,
R128). Announcement mode is in force only in RUN and SAFE: leaving them turns it off (R130, R133). -/
def enterArmed : Act := seq [
  setState .armed,
  when (fun s => s.scene.annOn) (seq [
    onScene fun _ c => { c with annOn := false, annK := 0 }, ringScene, report (srcOf LOC) .announceChange 0 0]),
  onSys fun _ y => { y with role := .none, safeFault := false },
  onTwn fun _ t => { t with decided := none, together := false, nextRole := none, handover := none },
  onWav fun _ w => { w with flight := none, owed := false, lanePresent := [] },
  dropRuns,
  onBel fun _ b => { b with list := [], ends := [] },
  onLoc fun _ c => { c with objs := [], pairs := [], probes := [], next := none, fails := [], unfinished := [] },
  onQch fun _ q => { q with rampSafe := none, rampStart := none, rampStop := none }]

/-- Entry to SAFE from ARMED or RUN (R66, R70): every feed ramps to zero from the next period boundary, from ARMED, where every feed is
muted, it stands at zero; a STOP whose ramp runs completes with REFUSED (R69). In SAFE a further cause adds to the one in force.
Elsewhere nothing moves. -/
def enterSafe (fault : Bool) : Act := fun s =>
  match s.sys.state with
  | .armed => seq [setState .safe, onSys fun _ y => { y with safeFault := fault },
                   onQch fun _ q => { q with rampSafe := some 64 }] s
  | .run => seq [leaveRun, setState .safe, onSys fun _ y => { y with safeFault := fault },
                 onQch fun _ q => { q with rampSafe := some 0 },
                 when (fun s => s.sys.busyCmd != 0)
                   (seq [pokeF (SYS + 3) 3 0 5, onSys fun _ y => { y with busyCmd := 0 }])] s
  | .safe => onSys (fun _ y => { y with safeFault := y.safeFault || fault }) s
  | _ => []

/-- A device-level fault: latched in QCH_FAULT, and the device enters SAFE from ARMED or RUN (R319). -/
def deviceFault (bit : Nat) : Act := seq [latchFault bit, enterSafe true]

/-! ### Pairs rejected or discarded (R40, R41, R327) -/

/-- A complement-pair write rejected or discarded is counted and logged (R40, R41). -/
def pairReject (m a : Nat) (discard : Bool) : Act := seq [
  bump (QCH + 4) 35 24 1, report (srcOf QCH) (if discard then .pairDiscard else .pairReject) a m]

/-- Discard what a master has staged, with nothing committed: counted and logged for a complement pair (R41), silently else: a held CTRL is
"discarded, with nothing committed", and ROUTE_REFUSED counts refused commits only (R198, R199, R374, R417). -/
def discardStaged (m : Nat) : Act := fun s =>
  match stagedOf s m with
  | none => []
  | some g => seq [unstage m,
      when (fun _ => isPairWord g.addr) (pairReject m g.addr true)] s

/-- A write by m to the words of the entry held leaves its staging; one to any other address discards it (R41, R198). -/
def keepStaged (m : Nat) (mine : Nat → Bool) : Act := fun s =>
  match stagedOf s m with
  | some g => if mine g.addr then [] else discardStaged m s
  | none => []

/-- A row in which master m writes at another address than that of what it has staged: the staged word is discarded first (R41). -/
def writing (m : Nat) (act : Act) : Act := seq [keepStaged m (fun _ => false), act]

/-! ### Locks of a master in reset (R471) -/

/-- Release every lock a master holds; each is counted in LOCK_RESET and logged (R471). -/
def releaseLocksOf (m : Nat) : Act := fun s =>
  each (s.xbr.locks.filter (fun l => l.2.owner == m)) (fun l => seq [
    onXbr fun _ x => { x with locks := sparseDrop x.locks l.1 },
    bump XBR 5 0 1, report (srcOf XBR) .lockReset l.1 m]) s

/-- Raise the incarnation count of a master, modulo 256 (R62, R63). -/
def bumpIncarn (m : Nat) : Act := pokeFInc (XBR + 0x40 + m)
where
  /-- Add one to bits 7:0, wrapping. -/
  pokeFInc (a : Nat) : Act := fun s => [.mem a (setFld (rd s a) 7 0 ((rdF s a 7 0 + 1) % 256))]

/-! ### Reset -/

/-- The causes of SYS_RESET_CAUSE, by bit. -/
def causePowerOn : Nat := 0
def causePorst : Nat := 1
def causeWrst : Nat := 2
def causeCmdCold : Nat := 3
def causeCmdWarm : Nat := 4
def causeRail : Nat := 5
def causeWdog : Nat := 6
def causeDebug : Nat := 7
def causeLoss : Nat := 8

/-- The value of a lifetime snapshot's bytes at a word index: 36-bit words from byte 20, packed as R84 gives (R525). -/
def snapWord (b : List Nat) (i : Nat) : Nat :=
  let bit := 36 * i
  let v := beAt b (20 + bit / 8) 6
  if bit % 8 = 0 then (v >>> 12) % 2 ^ 36 else (v >>> 8) % 2 ^ 36

/-- Is a snapshot valid: its mark and the CRC over bytes 0-4,091 (R525)? -/
def snapValid (b : List Nat) : Bool :=
  b.take 4 == [0x4C, 0x49, 0x46, 0x45] && b.length == 4096 && beAt b 4092 4 == crc32 (b.take 4092)

/-- The valid snapshot with the highest SNAP_SEQ (R525): sector and bytes. -/
def bestSnap (f : Flash) : Option (Nat × List Nat) :=
  (f.life.filter (fun e => snapValid e.2)).foldl
    (fun acc e => match acc with
      | none => some e
      | some a => if beAt a.2 4 8 < beAt e.2 4 8 then some e else acc) none

/-- The lifetime record as the flash gives it at a start, with the seconds Cocoon kept added (R525, R526). -/
def lifeFromFlash (s : State) : Life :=
  match bestSnap s.flash with
  | none => { Life.reset with ctr := (if s.cocoon.backupSecs = 0 then [] else [(0, s.cocoon.backupSecs)]) }
  | some (sec, b) =>
    let seqn := beAt b 4 8
    let extra := if s.cocoon.backupSeq = seqn % 2 ^ 16 then s.cocoon.backupSecs else 0
    { ctr := (List.range 30).foldl (fun t i =>
        sparseSet (fun _ => 0) t i (min (2 ^ 36 - 1) (snapWord b i + if i = 0 then extra else 0))) [],
      hist := (List.range 16).foldl (fun t i => sparseSet (fun _ => 0) t i (snapWord b (30 + i))) [],
      retired := snapWord b 46 % 2 ^ 32 + (snapWord b 47 % 2 ^ 32) * 2 ^ 32 + (snapWord b 48 % 2 ^ 8) * 2 ^ 64,
      cycleMin := s.life.cycleMin, snapSeq := seqn, snapSector := sec,
      snapPower := min (2 ^ 36 - 1) (snapWord b 0), ageSec := 0 }

/-- A log record of the flash is valid when its CRC over bytes 0-59 agrees (R521). -/
def recValid (b : List Nat) : Bool := b.length == 64 && beAt b 60 4 == crc32 (b.take 60)

/-- Word k of the eight words of a log record (R521: packed two to nine bytes). -/
def recWord (b : List Nat) (k : Nat) : Nat :=
  let bit := 36 * k
  let v := beAt b (bit / 8) 6
  if bit % 8 = 0 then (v >>> 12) % 2 ^ 36 else (v >>> 8) % 2 ^ 36

/-- The log at a start: entries not in flash are lost; SEQ continues from the highest in flash plus one; writing resumes
in the record after the last one touched (R518, R520, R521). -/
def logFromFlash (f : Flash) : Log :=
  let seqs := (f.log.filter (fun e => recValid e.2)).map (fun e => recWord e.2 1)
  match seqs with
  | [] => { Log.reset with writePos := f.log.length % 244736 }
  | q :: qs =>
    let hi := qs.foldl max q
    { Log.reset with
      next := hi + 1, flashed := some hi, oldest := qs.foldl min q,
      writePos := (((f.log.filter (fun e => recValid e.2 && recWord e.2 1 == hi)).map (·.1)).foldl max 0 + 1) % 244736 }

/-- Addresses whose words a warm reset keeps: DRAM, the RAM words no reset clears (shared SRAM, Hearth's own memory;
log entry 2), the PLL band tables, the training results, the reset causes and the incarnation counts (R61, R62). -/
def warmKeeps (a : Nat) : Bool :=
  0x40000000 ≤ a || a ≤ 0x000FFFFF || (0x10000000 ≤ a && a ≤ 0x101FFFFF)
  || (CLK + 0x400 ≤ a && a < CLK + 0x500) || a == SYS + 4 || (XBR + 0x40 ≤ a && a < XBR + 0x98)

/-- Every block that no reset keeps, at its reset value. -/
def resetBlocks : Act := fun _ =>
  [.xbr Xbr.reset, .hpt Hpt.reset, .qch Qch.reset, .img Img.reset, .wav Wav.reset, .twn Twn.reset, .scene Scene.reset,
   .loc Loc.reset, .feeds [], .cru Cru.reset, .tpr Tpr.reset, .aud Aud.reset, .macs [], .stm Stm.reset, .clk Clk.reset, .lan Lan.reset, .bel Bel.reset]

/-- A filtered input: 0-15 GP, 16 QUENCH_IN_L, 17 EMERG_IN, 18 TAMPER_IN. Unfiltered so far, it reads low (log entry 5). -/
def pinOf (s : State) (i : Nat) : PinF :=
  sparseGet (fun _ => { raw := false, filt := false, run := 0, unstable := 0, held := 0, chatter := false, stuck := false, quiet := 0 })
    s.pins i

/-- The filter of TAMPER_IN belongs to Cocoon too and outlives a reset (R556); the others start anew. -/
def keptPins (s : State) : Sparse PinF := s.pins.filter (fun e => e.1 == 18)

/-- The system block after a reset: supplies, pins and the power-up origin are no business of a reset, and a failed boot self-check
outlives all but a cold one (R66). DESIGN CHOICE (log entry 62): a reset without a release of the reset pins (a command, the
watchdog, a rail) samples no strap, and the strap sampled at an earlier release holds no longer (R73, R99). -/
def sysAfter (s : State) (warm : Bool) : Sys :=
  { Sys.reset with fromCocoon := s.sys.fromCocoon, rails := s.sys.rails, porstHigh := s.sys.porstHigh,
                   wrstHigh := s.sys.wrstHigh, railsOut := s.sys.railsOut, warm := warm,
                   bootFailed := warm && s.sys.bootFailed }

/-- The debug level a reset leaves: OBSERVE ends at a cold reset; FULL follows the blown fuse (R553, R554). -/
def debugAfter (s : State) (warm : Bool) : Nat :=
  if s.otp.vendorDebugged then 2 else if warm then s.sec.debug else 0

/-- Counters of frames already sent under a key outlive a reset, so that no counter repeats (R552 "its previous value"
is kept by the calendar bound; the block's own record is lost at a cold reset). -/
def secAfter (s : State) (warm : Bool) : Sec := { Sec.reset with debug := debugAfter s warm }

/-- The safety monitor after a reset: every latch clear, but what it senses itself goes on: the dies' temperature, and the latent tests
that have failed and not passed since (R320). -/
def qchAfter (s : State) : Qch :=
  { Qch.reset with condThermal := s.qch.condThermal, failedTests := s.qch.failedTests }

/-- The change from `before` into RESET, rung and logged like every change (R66), in what the reset leaves; the latches whose condition
outlives the reset, set again at once: RAIL, THERMAL, LATENT_TEST (R320); and the scene frames that were pending, rung and logged as lost
(R584). LOC_HOST_RESULT is back at its reset value (DEDUCED: log entry 69). -/
def intoReset (before : State) : Act := seq [
  onQch fun _ _ => qchAfter before,
  when (fun _ => !before.sys.railsOut.isEmpty) (latchFault 3),
  when (fun _ => before.qch.condThermal) (latchFault 4),
  when (fun _ => !before.qch.failedTests.isEmpty) (latchFault 7),
  when (fun _ => before.sys.state != .reset) (seq [ringState, report (srcOf SYS) .stateChange DevState.reset.ctorIdx 0]),
  when (fun _ => !before.scene.pending.isEmpty) (seq [report (srcOf LOC) .framesLost before.scene.pending.length 0, ringScene])]

/-- A complete cold reset (R62): everything returns to its reset value but Cocoon, the fuses, the flash and the lifetime
record, which is read back from its latest snapshot (R525). SYS_RESET_CAUSE is cleared, then the causes are set. -/
def coldReset (causes : List Nat) : Act := fun s => seq [
  fun s => [.memKeep (fun _ => false), .sys (sysAfter s false), .life (lifeFromFlash s), .log (logFromFlash s.flash),
            .hth Hth.reset, .pins (keptPins s), .sec (secAfter s false), .drc Dram.reset],
  resetBlocks,
  poke (SYS + 4) (wd (causes.foldl (fun m c => m ||| 2 ^ c) 0)),
  life 4 1,
  intoReset s] s

/-- A complete warm reset (R61, R62): DRAM, band tables, log and counts of causes and incarnations are kept; every
incarnation count rises; the image is loaded again. Words that masters have staged are discarded with it, and the log, which it keeps,
tells of them (R41). -/
def warmReset (causes : List Nat) : Act := fun s => seq [
  each (s.xbr.staged.map (·.1)) discardStaged,
  fun s => [.memKeep warmKeeps, .sys (sysAfter s true), .hth { Hth.reset with report := s.hth.report }, .pins (keptPins s),
            .sec (secAfter s true), .drc { Dram.reset with laps := s.drc.laps }],
  resetBlocks,
  each (List.range 0x58) bumpIncarn,
  fun s => [.mem (SYS + 4) (rd s (SYS + 4) ||| wd (causes.foldl (fun m c => m ||| 2 ^ c) 0))],
  life 5 1,
  intoReset s] s

end Sys2Proof.Machine
end

