-- ==== Sys2Proof/Machine/Package.lean ====
section
/-! DEFINITION. The constants of 25_electrical_and_package that decide what the block does or that software may ask of it:
operating ranges and reset thresholds (R563), nominal voltages (R516), the ball map (R579, R580) and the port timing a host
must keep (R573). -/
namespace Sys2Proof.Machine
open Sys2Proof

/-- A supply rail: minimum, nominal, maximum, reset threshold, in microvolt-free millivolts (R563). -/
structure Rail where
  min : Nat
  nom : Nat
  max : Nat
  thr : Nat
deriving DecidableEq, Repr

/-- The main rails in the order of R563: VDD_CORE, VDD_SRAM, VDD2, VDDQ, VDD1, VDD_SDS, VDDH_SDS, VDDIO_A, VDDIO_G at the
1.8 V level, VDDIO_G at the 3.3 V level. -/
def rails : List Rail := [
  ⟨650, 800, 850, 600⟩, ⟨776, 800, 824, 720⟩, ⟨1060, 1100, 1170, 980⟩, ⟨570, 600, 650, 520⟩,
  ⟨1700, 1800, 1950, 1550⟩, ⟨825, 850, 875, 760⟩, ⟨1140, 1200, 1260, 1050⟩, ⟨1710, 1800, 1890, 1550⟩,
  ⟨1710, 1800, 1890, 1550⟩, ⟨3135, 3300, 3465, 2850⟩]

/-- A rail by number; a number above 9 names no rail. -/
def railOf (i : Nat) : Option Rail := rails[i]?

/-- Is the voltage below the rail's reset threshold (R563)? -/
def belowThreshold (i mv : Nat) : Bool := match railOf i with
  | some r => mv < r.thr
  | none => false

/-- Is the voltage outside the rail's operating range (R563)? -/
def outOfRange (i mv : Nat) : Bool := match railOf i with
  | some r => mv < r.min || r.max < mv
  | none => false

/-- The order in which the voltage monitors of R514 number the rails: two points of VDD_CORE, then VDD_SRAM, VDD2, VDDQ,
VDD1, VDD_SDS, VDDH_SDS, VDDIO_A, VDDIO_G. -/
def monitorNominal (i mv : Nat) : Nat :=
  match i with
  | 0 => 800 | 1 => 800 | 2 => 800 | 3 => 1100 | 4 => 600 | 5 => 1800 | 6 => 850 | 7 => 1200 | 8 => 1800
  | _ => if mv * 2 < 1800 + 3300 then 1800 else 3300

/-- Is a monitor reading outside 3 % of nominal (R516)? -/
def voltWarn (i mv : Nat) : Bool :=
  let n := monitorNominal i mv
  mv * 100 < n * 97 || n * 103 < mv * 100

/-! ### The ball map (R579, R580) -/

/-- The row letters in the order of R579; row index i runs from 1 for A to 28 for AJ. -/
def ballRows : List String :=
  ["A", "B", "C", "D", "E", "F", "G", "H", "J", "K", "L", "M", "N", "P", "T", "U", "V", "W", "Y",
   "AA", "AB", "AC", "AD", "AE", "AF", "AG", "AH", "AJ"]

/-- The signal balls of R579 (VBAT included): row index, column, signal. -/
def signalBalls : List (Nat × Nat × String) :=
  [(1, 2, "NA_TX_DP"), (1, 3, "NA_TX_DN"), (1, 5, "NA_RX_DP"), (1, 6, "NA_RX_DN"),
   (1, 8, "NB_TX_DP"), (1, 9, "NB_TX_DN"), (1, 11, "NB_RX_DP"), (1, 12, "NB_RX_DN"),
   (1, 14, "NREF_DP"), (1, 15, "NREF_DN"), (1, 17, "TW_0_TX_DP"), (1, 18, "TW_0_TX_DN"),
   (1, 20, "TW_0_RX_DP"), (1, 21, "TW_0_RX_DN"), (1, 23, "TW_1_TX_DP"), (1, 24, "TW_1_TX_DN"),
   (1, 26, "TW_1_RX_DP"), (1, 27, "TW_1_RX_DN")]
  ++ (List.range 8).flatMap (fun n => [(4 + 2 * n, 1, "TDM_BCLK"), (4 + 2 * n, 2, "TDM_FSYNC"),
        (5 + 2 * n, 1, "TDM_DIN"), (5 + 2 * n, 2, "TDM_DOUT")])
  ++ [(20, 1, "XO_IN"), (20, 2, "XO_OUT"), (21, 1, "LOCKF_MEDIA"), (21, 2, "LOCKF_SYS"),
      (22, 1, "MCLK_OUT"), (22, 2, "WCLK_OUT"), (23, 1, "REF_WCLK_IN"), (23, 2, "REF_PPS_IN"),
      (24, 1, "TDIODE_A"), (24, 2, "TDIODE_K")]
  ++ (List.range 4).flatMap (fun c => (28, 2 + 5 * c, "PDM_CLK") ::
        (List.range 4).map (fun k => (28, 3 + 5 * c + k, "PDM_DAT")))
  ++ [(27, 3, "HP_SCK"), (27, 4, "HP_CS_L"), (27, 5, "HP_IO_0"), (27, 6, "HP_IO_1"), (27, 7, "HP_IO_2"),
      (27, 8, "HP_IO_3"), (27, 9, "HP_RDY"), (27, 12, "CF_SCK"), (27, 13, "CF_CS_L"), (27, 14, "CF_IO_0"),
      (27, 15, "CF_IO_1"), (27, 16, "CF_IO_2"), (27, 17, "CF_IO_3"), (27, 18, "CF_WP_L"),
      (27, 21, "TCK"), (27, 22, "TMS"), (27, 23, "TDI"), (27, 24, "TDO"), (27, 25, "TRST_L"),
      (28, 23, "PORST_L"), (28, 24, "WRST_L"), (4, 27, "SAFE_L"), (5, 27, "FAULT_L"),
      (6, 27, "QUENCH_IN_L"), (7, 27, "EMERG_IN"), (9, 27, "TW_ROLE_OUT_L"), (10, 27, "TW_ROLE_IN_L"),
      (11, 27, "TW_PRESENT_L")]
  ++ (List.range 16).map (fun k => (4 + k, 28, "GP"))
  ++ [(23, 28, "VBAT"), (24, 28, "CAL_XI"), (25, 28, "CAL_XO"), (23, 27, "TAMPER_IN")]

/-- The supply or ground name of a ball R579 does not list: the first row of R580 whose condition it meets. -/
def supplyBall (i c : Nat) : String :=
  if i ≤ 2 then "VSS"
  else if (i = 24 ∨ i = 25) ∧ c = 27 then "VSS"
  else if (i + c) % 2 = 0 then "VSS"
  else if 3 ≤ i ∧ i ≤ 4 ∧ 3 ≤ c ∧ c ≤ 26 then "VDDH_SDS"
  else if 5 ≤ i ∧ i ≤ 6 ∧ 3 ≤ c ∧ c ≤ 26 then "VDD_SDS"
  else if 7 ≤ i ∧ i ≤ 21 ∧ 7 ≤ c ∧ c ≤ 22 then "VDD_CORE"
  else if 7 ≤ i ∧ i ≤ 21 ∧ ((3 ≤ c ∧ c ≤ 6) ∨ (23 ≤ c ∧ c ≤ 26)) then "VDD_SRAM"
  else if 22 ≤ i ∧ i ≤ 26 ∧ 3 ≤ c ∧ c ≤ 8 then "VDD1"
  else if 22 ≤ i ∧ i ≤ 26 ∧ 9 ≤ c ∧ c ≤ 20 then "VDD2"
  else if 22 ≤ i ∧ i ≤ 26 ∧ 21 ≤ c ∧ c ≤ 26 then "VDDQ"
  else if 3 ≤ i ∧ i ≤ 19 ∧ 27 ≤ c then "VDDIO_G"
  else "VDDIO_A"

/-- The ball at row index i and column c (R579, R580). -/
def ballAt (i c : Nat) : String :=
  match signalBalls.find? (fun b => b.1 == i && b.2.1 == c) with
  | some b => b.2.2
  | none => supplyBall i c

/-- How many balls of the 28 x 28 array carry a name. -/
def ballCount (name : String) : Nat :=
  ((List.range 28).map (fun i => ((List.range 28).filter (fun c => ballAt (i + 1) (c + 1) == name)).length)).foldl (· + ·) 0

/-- Host-port timing a host must keep, in tenths of a nanosecond (R573): high and low time of HP_SCK, CS setup, data setup
and hold, CS hold, CS high. -/
def hostTiming : List Nat := [90, 100, 20, 20, 100, 400]

end Sys2Proof.Machine
end

