-- ==== Sys2Proof/Machine/System.lean ====
section
/-! DEFINITION. Supplies, reset pins, resets and the SYS_CMD commands (03_start_up_and_states). RUN_ENTRY and ARMED_TIMEOUT,
which touch every block, are in Run.lean. -/
namespace Sys2Proof.Machine
open Sys2Proof

/-! ### Supplies (R53-R56, R62, R65, R66) -/

/-- What a power-up reports beside the cold reset: the latched unannounced loss (R56), VBAT_LOST when the Cocoon domain was
unpowered (R556), the power cycle and the first power-up with the calendar set (R523). -/
def powerUpReports : Act := seq [
  life 2 1,
  when (fun s => s.cocoon.lossLatch) (seq [
    setBits (SYS + 4) (2 ^ causeLoss), report (srcOf SYS) .unannouncedLoss 0 0, life 3 1,
    onCocoon fun _ c => { c with lossLatch := false }]),
  when (fun s => !s.sys.fromCocoon) (seq [
    onCocoon fun _ c => { c with vbatLost := true },
    life 24 1, report (srcOf SEC) .vbatLost 0 0]),
  when (fun s => s.cocoon.unreported != 0) (fun s => seq [
    life 24 s.cocoon.unreported, report (srcOf SEC) .tamper s.cocoon.unreported 0,
    onCocoon fun _ c => { c with unreported := 0 }] s),
  fun s => if s.cocoon.calSource != 0 && lifeGet s 29 == 0 then life 29 s.cocoon.calSec s else []]

/-- The main rails rise (R66): a cold reset with POWER_ON and PORST_PIN set; FROM_COCOON says where the power-up came from
and holds until the rails next rise (R65). PORST_L is low through the rise (R54). -/
def mainRailsRise : Act := fun s =>
  if s.sys.rails then [] else seq [
    onSys fun s y => { y with rails := true, porstHigh := false, fromCocoon := s.sys.state == .cocoon, railsOut := [] },
    when (fun s => s.sys.state == .off) (onCocoon fun _ c => { c with calSec := 0, calSub := 0, calSource := 0 }),
    coldReset [causePowerOn, causePorst],
    powerUpReports] s
def execMainRailsRise (s : State) : Host.Outcome State Fault Refusal := done mainRailsRise s

/-- The main rails are removed (R66, R56): COCOON with VBAT, OFF without. Without PORST_L first it is an unannounced loss,
which Cocoon latches if VBAT is present. What is lost is what a cold reset loses. -/
def mainRailsRemoved : Act := fun s =>
  if !s.sys.rails then [] else seq [
    fun s => [.memKeep (fun _ => false), .hth Hth.reset, .pins (keptPins s), .log (logFromFlash s.flash),
              .sec Sec.reset],
    resetBlocks,
    fun s => if s.cocoon.vbat then
        (onCocoon fun _ c => { c with lossLatch := c.lossLatch || s.sys.porstHigh }) s
      else [.cocoon { Cocoon.reset with vbat := false, calSource := 0 }],
    fun s => [.sys { Sys.reset with
      rails := false, porstHigh := false, wrstHigh := s.sys.wrstHigh, prev := s.sys.state,
      state := if s.cocoon.vbat then .cocoon else .off, fromCocoon := s.sys.fromCocoon }]] s
def execMainRailsRemoved (s : State) : Host.Outcome State Fault Refusal := done mainRailsRemoved s

/-- VBAT rises: with the main rails absent the device leaves OFF for COCOON and the calendar starts from zero, unset
(R66, R527); with them present the battery is back in range. -/
def vbatRise : Act := seq [
  when (fun s => s.sys.state == .off) (seq [
    onCocoon fun _ c => { c with calSec := 0, calSub := 0, calSource := 0 },
    onSys fun _ y => { y with state := .cocoon, prev := .off }]),
  onCocoon fun _ c => { c with vbat := true },
  when (fun s => s.sys.rails) (pokeF (HTH + 0x31) 12 12 0)]
def execVbatRise (s : State) : Host.Outcome State Fault Refusal := done vbatRise s

/-- VBAT falls out of range or is removed: COCOON goes to OFF and what Cocoon kept is lost (R65); with the main rails up
Cocoon runs from them and sets VBAT_LOW (R516). -/
def vbatLoss : Act := fun s =>
  if s.sys.rails then
    seq [onCocoon fun _ c => { c with vbat := false }, pokeF (HTH + 0x31) 12 12 1] s
  else [.cocoon { Cocoon.reset with vbat := false }, .sys { s.sys with state := .off, prev := s.sys.state }]
def execVbatLoss (s : State) : Host.Outcome State Fault Refusal := done vbatLoss s

/-! ### Reset pins (R57, R58, R64) -/

/-- What a low pulse of a reset pin does by its length: below 100 ns nothing; from 1 us a complete reset; between them either,
unpredictably, never a part of one (R57, R58). -/
def pinPulse (tag widthNs : Nat) (reset : Act) : Act :=
  if widthNs < 100 then nop
  else if 1000 ≤ widthNs then reset
  else draw tag (fun v => if v % 2 = 1 then reset else nop)

/-- PORST_L low: a cold reset (R57). -/
def porstL (widthNs : Nat) : Act := fun s =>
  if !s.sys.rails then [] else
  pinPulse 57 widthNs (seq [coldReset [causePorst], onSys fun _ y => { y with porstHigh := false }]) s
def execPorstL (widthNs : Nat) (s : State) : Host.Outcome State Fault Refusal := done (porstL widthNs) s

/-- Is a cold reset in progress: PORST_L low, RESET not yet left after one, or a failed boot self-check, which only a cold reset leaves
(R64, R66)? -/
def coldInProgress (s : State) : Bool := !s.sys.porstHigh || (s.sys.state == .reset && !s.sys.warm) || s.sys.bootFailed

/-- WRST_L low: a warm reset; absorbed by a cold reset in progress, recorded only in SYS_RESET_CAUSE (R58, R64). -/
def wrstL (widthNs : Nat) : Act := fun s =>
  if !s.sys.rails then [] else
  pinPulse 58 widthNs (
    if coldInProgress s then
      seq [setBits (SYS + 4) (2 ^ causeWrst), onSys fun _ y => { y with wrstHigh := false }]
    else seq [warmReset [causeWrst], onSys fun _ y => { y with wrstHigh := false }]) s
def execWrstL (widthNs : Nat) (s : State) : Host.Outcome State Fault Refusal := done (wrstL widthNs) s

/-- The reset pins return high: the GP_15 strap is sampled before any filter runs (R335) and the boot ROM starts (R66). -/
def resetRelease (gp15High : Bool) : Act := fun s =>
  if s.sys.rails && s.sys.state == .reset then
    onSys (fun _ y => { y with porstHigh := true, wrstHigh := true, strap := !gp15High, rdyUp := false }) s
  else onSys (fun _ y => { y with porstHigh := true, wrstHigh := true }) s
def execResetRelease (gp15High : Bool) (s : State) : Host.Outcome State Fault Refusal := done (resetRelease gp15High) s

/-- A main rail stayed below its reset threshold for 10 us: a cold reset with RAIL_FAULT, which prevails over the RAIL latch
(R563, R565). A voltage not below the threshold is no such event. -/
def railBelowThreshold (rail mv : Nat) : Act := fun s =>
  if s.sys.rails && belowThreshold rail mv then
    seq [coldReset [causeRail], onSys fun _ y => { y with railsOut := (y.railsOut.erase rail) ++ [rail] }] s
  else []
def execRailBelowThreshold (rail mv : Nat) (s : State) : Host.Outcome State Fault Refusal := done (railBelowThreshold rail mv) s

/-! ### Boot (R66, R72, R541, R542) -/

/-- The boot ROM self-check ends. With the pins high and the check and the OTP redundancy good, RESET passes to LOAD and
HP_RDY rises; otherwise the device stays in RESET until a cold reset. A random source that fails its start-up tests stops
the start with SELF_TEST, detail 0x13 (R542). -/
def bootSelfCheckComplete (pass otpOk rngOk : Bool) : Act := fun s =>
  if s.sys.state != .reset || s.sys.bootFailed then [] else
  if !s.sys.porstHigh || !s.sys.wrstHigh then [] else
  if !pass || !otpOk then onSys (fun _ y => { y with bootFailed := true }) s else
  seq [setState .load,
       onSys fun _ y => { y with rdyUp := true },
       onImg fun _ g => { g with source := 2 },
       onSec fun _ c => { c with rngOk := rngOk },
       when (fun _ => !rngOk) (enterHold 0x05 3 0x13)] s
def execBootSelfCheckComplete (pass otpOk rngOk : Bool) (s : State) : Host.Outcome State Fault Refusal :=
  done (bootSelfCheckComplete pass otpOk rngOk) s

/-! ### Hearth restarts (R61) -/

/-- Number the waiting outbound messages of every channel from 0 again (R478: after a reset of either unit and after every
change of INCARN). -/
def renumberOut : Act := onXbr fun _ x => { x with
  outq := x.outq.map (fun e => (e.1, e.2.zipIdx.map (fun p => { p.1 with seq := p.2 }))),
  outSeq := x.outq.map (fun e => (e.1, e.2.length)) }

/-- The Hearth watchdog: a Hearth restart, or a warm reset when the latest restart was at most 10 s ago (R61). A restart
leaves RUN and everything rendered alone; MPLL is flagged as in holdover, Hearth's incarnation rises, its staged words are
discarded, its locks released and its doorbell masks set (R62, R468, R471, R477). -/
def hearthWatchdog (sinceMs : Nat) : Act := fun s =>
  if !s.sys.rails || s.sys.state == .reset then [] else
  if s.sys.hearthRecent && sinceMs ≤ 10000 then warmReset [causeWdog] s else
  seq [onSys fun _ y => { y with hearthDown := true, hearthRecent := true, freeRun := true },
       -- under PTP the targets stop: holdover, which the host sees as that of a lost reference (R430)
       when (fun s => s.img.clock == 0 && rdF s CLK 35 33 == 2) (seq [pokeF CLK 35 33 3, clkEvent (2 ^ 8), ringClock,
         report (srcOf CLK) .refLost 0 0, onSys fun _ y => { y with condClock := false }]),
       releaseLocksOf 0, discardStaged 0, bumpIncarn 0, renumberOut,
       bump (SYS + 4) 19 12 1, life 6 1, ringFault,
       poke (MBX + 0x407) (wd 0xFFFFFFFF), poke (MBX + 0x40B) (wd 0xFFFFFFFF),
       report 0x30 .hearthRestart 0 0] s
def execHearthWatchdog (sinceMs : Nat) (s : State) : Host.Outcome State Fault Refusal := done (hearthWatchdog sinceMs) s


/-! ### SYS_CMD (R74, R76, R77) -/

/-- The result of a command in SYS_CMD_STATUS: 2 DONE, 3 WRONG_STATE, 4 BAD_KEY, 5 REFUSED. -/
def cmdStatus (st : Nat) : Act := pokeF (SYS + 3) 3 0 st

/-- A command written to SYS_CMD by master m. From any master but Hearth and the host it is ignored and logged (R76);
while a reset pin is low it is discarded (R64); while another is BUSY it is discarded and counted (R77). -/
def sysCmd (m key code : Nat) (valid : State → Bool) (body : Act) : Act := seq [keepStaged m (fun _ => false), fun s =>
  if 1 < m then report (srcOf SYS) .sysMaster (SYS + 2) m s else
  if !s.sys.porstHigh || !s.sys.wrstHigh || !s.sys.rails then [] else
  if rdF s (SYS + 3) 3 0 = 1 then bump (SYS + 3) 15 8 1 s else
  seq [ring 1 23, pokeF (SYS + 3) 7 4 code,
       fun s => if key % 4096 != 0xC0C then cmdStatus 4 s
                else if !valid s then cmdStatus 3 s else body s] s]

/-- States in which SYS_CMD is served at all: LOAD and later. -/
def cmdState (s : State) : Bool :=
  match s.sys.state with
  | .off => false | .cocoon => false | .reset => false
  | .load => true | .hold => true | .armed => true | .run => true | .safe => true

/-- LOAD starts from slot selection; a staged host image is discarded (R74, R101, R102, R511). -/
def startRetry : Act := seq [
  poke (HPT + 3) 0, onImg fun _ g => { g with source := 0, held := none }, setState .load, clearHold, cmdStatus 2]

/-- Is the update path erasing or programming the flash (R80, R102)? -/
def flashBusy (s : State) : Bool :=
  match s.hth.job with
  | some (.write _ _ _ _ _) => true
  | _ => false

/-- RETRY re-runs LOAD from slot selection; while the update path erases or programs, it stays BUSY until that ends (R74, R102). -/
def retry (m key : Nat) : Act := sysCmd m key 1 (fun s => s.sys.state == .hold) (fun s =>
  if flashBusy s then seq [onSys fun _ y => { y with busyCmd := 1 }, cmdStatus 1] s else startRetry s)
def execRetry (m key : Nat) (s : State) : Host.Outcome State Fault Refusal := done (retry m key) s

/-- LOAD_HOST goes to LOAD with the staged image as its source; the fuse HOST_IMAGE_DIS refuses it (R74, R541). -/
def loadHost (m key : Nat) : Act := sysCmd m key 9 (fun s => s.sys.state == .hold) (fun s =>
  if s.otp.hostImageDis then cmdStatus 5 s else seq [
    onImg fun _ g => { g with source := 1, held := none }, setState .load, clearHold, cmdStatus 2] s)
def execLoadHost (m key : Nat) (s : State) : Host.Outcome State Fault Refusal := done (loadHost m key) s

/-- STOP: every feed ramps to zero over 64 samples, or goes on with a ramp that runs already; the command stays BUSY through the ramp
(R69, R77). -/
def stop (m key : Nat) : Act := sysCmd m key 3 (fun s => s.sys.state == .run) (seq [
  onQch fun _ q => { q with rampStop := some (q.rampStop.getD 0) },
  onSys fun _ y => { y with busyCmd := 3 }, cmdStatus 1])
def execStop (m key : Nat) (s : State) : Host.Outcome State Fault Refusal := done (stop m key) s

/-- SAFE_ENTER takes ARMED or RUN to SAFE with no fault (R66, R70, R77). -/
def safeEnter (m key : Nat) : Act := sysCmd m key 4 (fun s => s.sys.state == .armed || s.sys.state == .run)
  (seq [enterSafe false, cmdStatus 2])
def execSafeEnter (m key : Nat) (s : State) : Host.Outcome State Fault Refusal := done (safeEnter m key) s


/-- WARM_RESET (R61). -/
def warmResetCmd (m key : Nat) : Act := sysCmd m key 6 cmdState (warmReset [causeCmdWarm])
def execWarmReset (m key : Nat) (s : State) : Host.Outcome State Fault Refusal := done (warmResetCmd m key) s

/-- COLD_RESET (R61). -/
def coldResetCmd (m key : Nat) : Act := sysCmd m key 7 cmdState (coldReset [causeCmdCold])
def execColdReset (m key : Nat) (s : State) : Host.Outcome State Fault Refusal := done (coldResetCmd m key) s

/-- HOLD_ENTER moves ARMED to HOLD with reason HOST_REQUEST; the image is retained (R73, R77). -/
def holdEnter (m key : Nat) : Act := sysCmd m key 8 (fun s => s.sys.state == .armed) (fun s => seq [
  enterHold 0x02 s.img.slot 0, onSys fun _ y => { y with imageKept := true }, cmdStatus 2] s)
def execHoldEnter (m key : Nat) (s : State) : Host.Outcome State Fault Refusal := done (holdEnter m key) s

/-! ### SYS_MRST (R63, R468) -/

/-- The fixed masters that may be reset one at a time (R63). -/
def mrstFixed : List Nat := [0x01, 0x04, 0x05, 0x06, 0x07, 0x08, 0x09]

/-- Start the reset of a master: its incarnation rises, staged words go with nothing committed, its locks are released, and
it issues nothing until its drain completes (R62, R63, R468, R471). -/
def resetMaster (m : Nat) : Act := seq [
  releaseLocksOf m, discardStaged m, bumpIncarn m,
  onSys fun _ y => { y with draining := (y.draining.erase m) ++ [m] }]

/-- Cancel the speculative reads the host has not confirmed: a lock that one of them claimed is released as by its owner, silently
(R585). -/
def cancelSpec : Act := fun s =>
  let held := s.hpt.spec.filterMap (·.claim)
  seq [onXbr fun _ x => { x with locks := x.locks.filter (fun l => !(held.contains l.1 && l.2.owner == 1)) },
       onHpt fun _ h => { h with spec := [] }] s

/-- The field of HPT_COUNT that counts an error code (R508). -/
def hptCount (code : Nat) : Act :=
  if code = 0 then nop
  else if code ≤ 3 then bump (HPT + 1) 35 24 1
  else if code ≤ 6 then bump (HPT + 1) 11 0 1
  else bump (HPT + 1) 23 12 1

/-- The end of a transaction other than STATUS (R508): its OP, words and first error go to HPT_STATUS, HPT_ERR_ADDR and HPT_COUNT. -/
def recordTransaction (op good : Nat) (err : Option (Nat × Nat)) : Act :=
  let code := (err.map (·.1)).getD 0
  seq [pokeF HPT 35 32 code, pokeF HPT 31 28 op, pokeF HPT 23 0 (min 0xFFFFFF good), hptCount code,
       (match err with
        | some e => poke (HPT + 2) (wd (e.2 % 2 ^ 32))
        | none => nop)]

/-- A reset of the host port ends a transaction in progress with PORT_RESET, and masks the host's doorbells (R477, R479, R510). -/
def resetHostPort : Act := seq [
  cancelSpec,
  fun s => match s.hpt.active with
    | none => []
    | some t => if t.1 = 5 then [] else recordTransaction t.1 s.hpt.good (some (s.hpt.err.getD (8, t.2))) s,
  onHpt fun _ _ => { Hpt.reset with ignore := true },
  poke (MBX + 0x403) (wd 0xFFFFFFFF)]

/-- A write to SYS_MRST: with GO it starts the reset of MASTER, or is refused; while BUSY a GO is ignored (R63). The masters
it may name are fixed, but for lanes, whose pair must be a spare or retired (`lanesFree`). While a stronger reset is in progress,
a Hearth restart included, the request is absorbed; SYS_RESET_CAUSE has no bit for it (R64). -/
def sysMrstWith (lanesFree : State → Nat → Bool) (m : Nat) (w : Word) : Act := seq [keepStaged m (fun _ => false), fun s =>
  if 1 < m then report (srcOf SYS) .sysMaster (SYS + 6) m s else
  if !s.sys.rails || !s.sys.porstHigh || !s.sys.wrstHigh || s.sys.state == .reset || (flag w 35 && s.sys.hearthDown) then [] else
  let t := fld w 6 0
  if !flag w 35 then (if flag (rd s (SYS + 6)) 34 then [] else pokeF (SYS + 6) 6 0 t s) else
  if flag (rd s (SYS + 6)) 34 then [] else
  seq [ring 1 23, pokeF (SYS + 6) 6 0 t,
       fun s => if mrstFixed.contains t || (0x10 ≤ t && t ≤ 0x57 && lanesFree s (t - 0x10)) then
           seq [pokeF (SYS + 6) 35 32 12, when (fun _ => t == 1) resetHostPort, resetMaster t] s
         else pokeF (SYS + 6) 33 32 2 s] s]

/-- The drain of a reset master completes: GO and BUSY read 0, RESULT reads DONE, the master may issue again (R468). -/
def masterDrainComplete (m : Nat) : Act := seq [
  when (fun s => flag (rd s (SYS + 6)) 34 && rdF s (SYS + 6) 6 0 == m) (pokeF (SYS + 6) 35 32 1),
  onSys fun _ y => { y with draining := y.draining.erase m }]
def execMasterDrainComplete (m : Nat) (s : State) : Host.Outcome State Fault Refusal := done (masterDrainComplete m) s

/-! ### Pins the state decides (R59, R60, R71) -/

/-- Is any output ball released (high-impedance): no rails, a reset pin low, or RESET (R59)? -/
def pinsReleased (s : State) : Bool := !s.sys.rails || !s.sys.porstHigh || !s.sys.wrstHigh || s.sys.state == .reset

/-- The level SAFE_L is driven to; low also when released (R60, R71, R324). -/
def safeLDrive (s : State) (anyQuenched : Bool) : Bool := s.sys.state == .run && !anyQuenched && !pinsReleased s

/-- The level FAULT_L is driven to; low also when released (R60, R71, R319, R320). -/
def faultLDrive (s : State) : Bool :=
  !pinsReleased s && !anyLatch s &&
  (match s.sys.state with
   | .load => true
   | .hold => rdF s (SYS + 5) 7 0 == 1 || rdF s (SYS + 5) 7 0 == 2
   | .armed => true | .run => true
   | .safe => !s.sys.safeFault
   | .off => false | .cocoon => false | .reset => false)

/-- Receiver 0's interrupt and the attention of HOLD: the level HP_RDY shows outside a transaction is low (R71, R479). -/
def hostAttention (s : State) (levels : Nat) : Bool :=
  ((rdF s (MBX + 0x402) 31 0 ||| levels) &&& (2 ^ 32 - 1 - rdF s (MBX + 0x403) 31 0)) != 0
  || (s.sys.state == .hold && !s.sys.holdRead)

end Sys2Proof.Machine
end

