-- ==== Sys2Proof/Machine/Mailbox.lean ====
section
/-! DEFINITION. Locks, mailboxes and doorbells (19: R469-R481), and the complement-pair writes of the crossbar (02: R40-R42). -/
namespace Sys2Proof.Machine
open Sys2Proof

/-! ### Complement pairs (R40-R42) -/

/-- A write by master m to the even word of a pair: only staged; a further write to the same word replaces it (R40, R41).
Writing another pair first discards what was staged. -/
def pairStage (m a : Nat) (w : Word) : Act := seq [
  when (fun s => match stagedOf s m with
    | some g => g.addr != a
    | none => false) (discardStaged m),
  stage m a w]

/-- A write by master m to A + 1: the complement of the staged word commits both words in one update; anything else commits
nothing, the staged word is discarded, and the rejection is counted and logged (R40). -/
def pairCommit (m a : Nat) (w : Word) : Act := fun s =>
  match stagedOf s m with
  | some g =>
    if g.addr = a && w == notW g.word then seq [unstage m, pokePairVal a g.word] s
    else if g.addr = a then seq [unstage m, pairReject m a false] s
    else seq [discardStaged m, pairReject m a false] s
  | none => pairReject m a false s

/-- 1 ms passes without the matching write: the staged word is discarded, counted and logged (R41). -/
def pairStageTimeout (m : Nat) : Act := when (fun s => match stagedOf s m with
  | some g => isPairWord g.addr
  | none => false) (discardStaged m)
def execPairStageTimeout (m : Nat) (s : State) : Host.Outcome State Fault Refusal := done (pairStageTimeout m) s

/-! ### Locks (R469-R471) -/

/-- The word a read of a lock returns (R469). -/
def lockWord (l : Option Lock) (granted : Bool) : Word :=
  match l with
  | none => 0
  | some k => wd (b2n granted * 2 ^ 35 + 2 ^ 34 + k.owner % 64 * 2 ^ 24 + k.incarn % 256 * 2 ^ 16)

/-- The incarnation count of master m (XBR_INCARN_m). -/
def incarn (s : State) (m : Nat) : Nat := rdF s (XBR + 0x40 + m) 7 0

/-- Master m's read of XBR_LOCK_i: it claims a free lock; a held one is only reported, its own holder's too (R469). -/
def lockClaim1 (m i : Nat) : Act := fun s =>
  match sparseFind s.xbr.locks i with
  | some l => emit (.resp 0 [lockWord (some l) false]) s
  | none =>
    let l : Lock := { owner := m, incarn := incarn s m }
    seq [onXbr fun _ x => { x with locks := sparsePut x.locks i l }, emit (.resp 0 [lockWord (some l) true])] s

/-- The element of `ms` at a free index, put first; the others keep their order (R470). -/
def winnerFirst (ms : List Nat) (v : Nat) : List Nat :=
  match ms[v % ms.length]? with
  | some w => w :: ms.erase w
  | none => ms

/-- Reads of one lock by masters in the same instant: a mutual-exclusion element orders them; which comes first is
unpredictable, and exactly one of them finds the lock free (R470). -/
def lockClaim (ms : List Nat) (i : Nat) : Act :=
  match ms with
  | [] => nop
  | [m] => lockClaim1 m i
  | _ => draw 470 (fun v => each (winnerFirst ms v) (fun m => lockClaim1 m i))
def execLockClaim (ms : List Nat) (i : Nat) (s : State) : Host.Outcome State Fault Refusal := done (lockClaim ms i) s

/-- RELEASE by the owner frees the lock; from anyone else it is ignored and counted in LOCK_MISUSE (R471). -/
def lockRelease (m i : Nat) : Act := fun s =>
  match sparseFind s.xbr.locks i with
  | some l => if l.owner = m then onXbr (fun _ x => { x with locks := sparseDrop x.locks i }) s else bump XBR 11 6 1 s
  | none => bump XBR 11 6 1 s
def execLockRelease (m i : Nat) (s : State) : Host.Outcome State Fault Refusal := done (writing m (lockRelease m i)) s

/-- FORCE by Hearth frees the lock whoever holds it, logged with the owner's ID; from another master the bit is ignored (R471). -/
def lockForce (m i : Nat) : Act := fun s =>
  match sparseFind s.xbr.locks i with
  | some l => if m = 0 then
      seq [onXbr fun _ x => { x with locks := sparseDrop x.locks i }, report (srcOf XBR) .lockForce i l.owner] s else []
  | none => []
def execLockForce (m i : Nat) (s : State) : Host.Outcome State Fault Refusal := done (writing m (lockForce m i)) s

/-! ### Mailboxes (R472-R478) -/

/-- The master behind sender number 0-2 of the staging areas (R474). -/
def senderMaster (k : Nat) : Nat := if k = 0 then 0x00 else if k = 1 then 0x01 else 0x07

/-- May sender k post to channel c of receiver r (R472)? -/
def mayPost (k r c : Nat) : Bool :=
  match r with
  | 0 => k == 0
  | 1 => if c < 8 then k == 1 else if c < 12 then k == 2 else false
  | 2 => k == 0
  | _ => false

/-- The 16 words of a message: the stamp, then LENGTH payload words, then zeros (R473). -/
def message (s : State) (k len peer : Nat) : List Word :=
  [wd (senderMaster k % 64 * 2 ^ 30 + incarn s (senderMaster k) * 2 ^ 22 + peer % 256 * 2 ^ 14 + 2 ^ 13 + len),
   wd (bits s.wav.n 63 32), wd (bits s.wav.n 31 0)]
  ++ (List.range 13).map (fun j => if j < len then rd s (MBX + 0x10 * k + j) else 0)

/-- The queue of channel c of receiver r on this unit. -/
def chan (s : State) (r c : Nat) : List (List Word) := sparseGet (fun _ => []) s.xbr.chan (16 * r + c)

/-- The outbound queue for the partner's channel c. -/
def outq (s : State) (c : Nat) : List OutMsg := sparseGet (fun _ => []) s.xbr.outq c

/-- The MAILBOX body of a message (R478). -/
def mailBody (op c inc seqn : Nat) (ws : List Word) : List Nat := [op, c, inc, 0] ++ toBytes 4 seqn ++ packWords ws

/-- Send a waiting outbound message over Tongs. -/
def sendOut (c : Nat) (o : OutMsg) : Act := fun s =>
  if tongsUp s then tongsSend 0x07 (mailBody 1 c (incarn s 0) o.seq o.words) s else []

/-- A post by sender k (R475): DENIED, BAD_LENGTH, FULL or POSTED shows in MBX_POST_STATUS_k. -/
def mbxPost (k r c len peer : Nat) : Act := fun s =>
  let st (v : Nat) : Act := poke (MBX + 0x10 * k + 0xE) (wd v)
  if !mayPost k r c then st 3 s
  else if 13 < len then st 4 s
  else
    let msg := message s k len (if k = 2 then peer else 0xFF)
    if r = 2 then
      if 3 ≤ (outq s c).length then seq [st 2, bump (MBX + 0x420) 23 12 1] s else
      let o : OutMsg := { seq := sparseGet (fun _ => 0) s.xbr.outSeq c, words := msg }
      seq [onXbr fun _ x => { x with
             outq := sparseSet (fun _ => []) x.outq c (sparseGet (fun _ => []) x.outq c ++ [o]),
             outSeq := sparseSet (fun _ => 0) x.outSeq c ((o.seq + 1) % 2 ^ 32) },
           sendOut c o, st 1] s
    else
      if 3 ≤ (chan s r c).length then seq [st 2, bump (MBX + 0x420) 23 12 1] s else
      seq [onXbr fun _ x => { x with
             chan := sparseSet (fun _ => []) x.chan (16 * r + c) (sparseGet (fun _ => []) x.chan (16 * r + c) ++ [msg]) },
           st 1] s
def execMbxPost (k r c len peer : Nat) (s : State) : Host.Outcome State Fault Refusal := done (writing (senderMaster k) (mbxPost k r c len peer)) s

/-- The master that reads the channels of receiver r and acknowledges them (R476). -/
def receiverMaster (r : Nat) : Nat := if r = 0 then 1 else 0

/-- A refused access is counted, recorded in XBR_LAST_ERR and logged, at most 16 log entries a second (R464). -/
def refused (m a : Nat) (write : Bool) : Act := seq [
  bump XBR 35 24 1,
  poke (XBR + 1) (wd (2 ^ 34 + b2n write * 2 ^ 8 + m % 128)), poke (XBR + 2) (wd (a % 2 ^ 32)),
  fun s => if s.hth.refLogged < 16 then
      seq [report (srcOf XBR) .refusedAccess a s.hth.refSkipped,
           onHth fun _ h => { h with refLogged := h.refLogged + 1, refSkipped := 0 }] s
    else onHth (fun _ h => { h with refSkipped := h.refSkipped + 1 }) s]

/-- A DECODE response is counted and recorded (R464). -/
def decodeErr (m a : Nat) (write : Bool) : Act := seq [
  bump XBR 23 12 1,
  poke (XBR + 1) (wd (2 * 2 ^ 34 + b2n write * 2 ^ 8 + m % 128)), poke (XBR + 2) (wd (a % 2 ^ 32))]

/-- An ACK removes the head the receiver could read; to an empty channel it is ignored and counted; from another master it
is refused (R476). -/
def mbxAck (m r c : Nat) : Act := fun s =>
  if m != receiverMaster r then refused m (MBX + 0x400 + 4 * r) true s
  else match chan s r c with
    | [] => bump (MBX + 0x420) 35 24 1 s
    | _ :: rest => onXbr (fun _ x => { x with chan := sparseSet (fun _ => []) x.chan (16 * r + c) rest }) s
def execMbxAck (m r c : Nat) (s : State) : Host.Outcome State Fault Refusal := done (writing m (mbxAck m r c)) s

/-- The incarnation the partner sends: a change resets the expected sequence numbers, and this unit's own (R478). -/
def partnerIncarn (inc : Nat) : Act := fun s =>
  if rdF s (MBX + 0x421) 7 0 = inc % 256 then [] else
  seq [poke (MBX + 0x421) (wd (inc % 256)), onXbr fun _ x => { x with inSeq := [] }, renumberOut] s

/-- Show a pending correction: REALIGN_PENDING, its P and K (R432). -/
def showRealign (p : Nat) (k : Int) : Act := seq [pokeF CLK 29 29 1, pokePair (CLK + 5) p, poke (CLK + 7) (wdI k)]

/-- A message in which the ACTIVE's Hearth gives a correction: this unit uses it in place of its own (R434). -/
def realignFromPartner (ws : List Word) : Act := fun s =>
  if s.sys.role == .active then [] else
  match Config.realignOf (ws.drop 3) with
  | none => []
  | some (p, k, via) =>
    seq [onClk fun _ c => { c with corr := some { at' := p, k := k, rest := 0, viaArmed := via } }, showRealign p k] s

/-- A MESSAGE from the partner: placed and accepted when its SEQ is the next expected and the channel has room; accepted
again and dropped when already accepted; unanswered when the channel is full (R478). -/
def mailboxMessage (c inc seqn : Nat) (ws : Got (List Word)) : Act := received ws.find (seq [
  partnerIncarn inc,
  fun s =>
    let exp := sparseGet (fun _ => 0) s.xbr.inSeq c
    let answer : Act := fun s => tongsSend 0x07 (mailBody 2 c (incarn s 0) seqn []) s
    if seqn < exp then answer s
    else if seqn = exp && (chan s 2 c).length < 3 then
      seq [onXbr fun _ x => { x with
             chan := sparseSet (fun _ => []) x.chan (32 + c) (sparseGet (fun _ => []) x.chan (32 + c) ++ [ws.body]),
             inSeq := sparseSet (fun _ => 0) x.inSeq c (exp + 1) }, answer, realignFromPartner ws.body,
           match Config.packageOf (ws.body.drop 3) with
           | some p => onTwn fun _ t => { t with partnerFw := some p }
           | none => nop] s
    else []])
def execMailboxMessage (c inc seqn : Nat) (ws : Got (List Word)) (s : State) : Host.Outcome State Fault Refusal :=
  done (mailboxMessage c inc seqn ws) s

/-- The partner accepts an outbound message: it leaves the queue (R478). -/
def mailboxAccept (c inc : Nat) (seqn : Got Nat) : Act := received seqn.find (seq [
  partnerIncarn inc,
  onXbr fun _ x => { x with
    outq := sparseSet (fun _ => []) x.outq c ((sparseGet (fun _ => []) x.outq c).filter (fun o => o.seq != seqn.body)) }])
def execMailboxAccept (c inc : Nat) (seqn : Got Nat) (s : State) : Host.Outcome State Fault Refusal := done (mailboxAccept c inc seqn) s

/-- 10 us pass: every unaccepted outbound message of the channel is resent while Tongs is up, each counted (R478). -/
def mailboxResend (c : Nat) : Act := fun s =>
  if tongsUp s then each (outq s c) (fun o => seq [sendOut c o, bump (MBX + 0x420) 11 0 1]) s else []
def execMailboxResend (c : Nat) (s : State) : Host.Outcome State Fault Refusal := done (mailboxResend c) s

/-! ### Doorbells (R479-R481) -/

/-- Levels of receiver r: the bits that follow a channel read 1 while it holds a message (R479, R480). -/
def dbellLevels (s : State) (r : Nat) : Nat :=
  (List.range 16).foldl (fun acc c =>
    if (chan s r c).isEmpty then acc
    else if r = 0 then acc ||| 2 ^ (16 + c) else if r = 1 ∧ 12 ≤ c then acc else acc ||| 2 ^ c) 0

/-- The word MBX_DBELL_STATUS_r reads: events and levels. -/
def dbellStatus (s : State) (r : Nat) : Word := rd s (MBX + 0x402 + 4 * r) ||| wd (dbellLevels s r)

/-- Is receiver r's interrupt asserted (R479)? -/
def interrupt (s : State) (r : Nat) : Bool :=
  (dbellStatus s r &&& ~~~ (rd s (MBX + 0x403 + 4 * r))).toNat % 2 ^ 32 != 0

/-- Messages per channel in MBX_STATE_r; for r = 2 the outbound depth (R478). -/
def mbxState (s : State) (r : Nat) : Word :=
  wd ((List.range 16).foldl (fun acc c =>
    acc + (if r = 2 then (outq s c).length else (chan s r c).length) * 4 ^ c) 0)

/-- Hearth sets host doorbell bits 0-15 through MBX_DBELL_SET_0; the crossbar refuses every other such write (R481). -/
def mbxDbellSet (m r : Nat) (w : Word) : Act :=
  if m = 0 ∧ r = 0 then setBits (MBX + 0x402) (fld w 15 0) else refused m (MBX + 0x410 + r) true
def execMbxDbellSet (m r : Nat) (w : Word) (s : State) : Host.Outcome State Fault Refusal := done (writing m (mbxDbellSet m r w)) s

end Sys2Proof.Machine
end

