-- ==== Sys2Proof/Machine/Dram.lean ====
section
/-! DEFINITION. In-package DRAM (18: R436-R460; 02: R45, R46): which die a word lies on, its slot and the code, writing and reading a word
through the controller, refresh, power-down and retraining. A slot is held as the word, its lap, and the bits in which what is stored
differs from what the latest write stored (`State.flips`). Encryption is transparent: a slot is spoken of as decrypted (R439, R441). -/
namespace Sys2Proof.Machine
open Sys2Proof

/-! ### The map (R436-R438) -/

/-- Channel of a DRAM word, and its rank as 2 × channel + rank (R437). -/
def dramChan (a : Nat) : Nat := bits a 3 2
def dramRank (a : Nat) : Nat := 2 * dramChan a + bits a 13 13
/-- Its bank among the 64 of all ranks, and its row (R436, R437). -/
def dramBank (a : Nat) : Nat := 8 * dramRank a + bits a 12 10
def dramRow (a : Nat) : Nat := bits a 29 14
/-- Do two words lie in one row: the same channel, rank, bank and row (R446)? -/
def sameRow (a b : Nat) : Bool := dramBank a == dramBank b && dramRow a == dramRow b
/-- Is the word in the delay-line region (R438)? -/
def inLines (a : Nat) : Bool := 0x48000000 ≤ a && a ≤ 0x7FFFFFFF

/-- The dies accept traffic: no rank is in self-refresh (R453). -/
def dramUp (s : State) : Bool := rdF s DRC 11 4 == 0
/-- Is the word's channel marked FAILED (R454)? -/
def chanFailed (s : State) (a : Nat) : Bool := flag (rd s DRC) (32 + dramChan a)
/-- The lap a delay-line word carries (R442); every other word carries epoch 0. -/
def lapOf (s : State) (a : Nat) : Nat := sparseGet (fun _ => 0) s.drc.laps a

/-! ### Slots and the code (R45, R46, R441, R443)

A slot is DATA 35:0, CHECK 47:36, EPOCH 51:48, ZERO 63:52. -/

/-- The column of the parity-check matrix that belongs to bit b of a slot (R443). -/
def eccCol (b : Nat) : BitVec 12 := Config.eccColumn (if b < 36 then b else if b < 48 then b + 4 else b - 12)
/-- The syndrome of a pattern of slot bits: the XOR of the columns of the bits that are 1 (R443). -/
def eccSyndrome (e : Nat) : BitVec 12 := (List.range 52).foldl (fun x b => if e.testBit b then x ^^^ eccCol b else x) 0
/-- How many of a slot's coded bits a pattern holds. -/
def eccWeight (e : Nat) : Nat := ((List.range 52).filter (fun b => e.testBit b)).length
/-- The patterns of one and of two bits. -/
def eccPairs : List Nat := (List.range 52).map (2 ^ ·) ++ (List.range 52).flatMap (fun i => (List.range i).map (fun j => 2 ^ i + 2 ^ j))

/-- CHECK of a word and its epoch: the bits that bring the syndrome to zero (R440 step 2, R443). -/
def slotCheck (w : Word) (epoch : Nat) : Nat :=
  ((List.range 4096).find? (fun c => eccSyndrome (w.toNat + c * 2 ^ 36 + epoch % 16 * 2 ^ 48) == 0)).getD 0
/-- The slot as a write stores it: DATA, CHECK, EPOCH, and ZERO as zero (R45, R440). -/
def slotWritten (w : Word) (epoch : Nat) : Nat := w.toNat + slotCheck w epoch * 2 ^ 36 + epoch % 16 * 2 ^ 48
/-- The bits of a word's slot that differ from what its latest write stored. -/
def flipsOf (s : State) (a : Nat) : Nat := sparseGet (fun _ => 0) s.flips a
/-- The slot of a word as it stands. -/
def dramSlot (s : State) (a : Nat) : Nat := slotWritten (rd s a) (lapOf s a) ^^^ flipsOf s a

/-- What the decoder corrects of the bits e in which a slot differs from the one written, none where it finds an uncorrectable pattern. The
code is linear and a slot as written has syndrome zero, so the slot's syndrome is that of e. Its minimum distance of 6 corrects every
pattern of one or two bits and detects every one of three; for larger ones the syndrome decides, zero or that of a pattern of one or two
bits that is then taken for the error (R441, R443). -/
def slotFix (e : Nat) : Option Nat :=
  if eccWeight e ≤ 2 then some (e % 2 ^ 52)
  else if eccWeight e = 3 then none
  else if eccSyndrome e = 0 then some 0
  else eccPairs.find? (fun p => eccSyndrome p == eccSyndrome e)

/-- What a slot shows whose bits e have flipped: decoded, then its ZERO field tested (R441 steps 2 and 3, R46). -/
def slotView (s : State) (a e : Nat) : SlotView :=
  if e = 0 then { corr := 0, kind := 0, word := rd s a, epoch := lapOf s a } else
  match slotFix e with
  | none => { corr := 0, kind := 1, word := rd s a, epoch := lapOf s a }
  | some f =>
    let r := e ^^^ f
    { corr := eccWeight f, kind := if r / 2 ^ 52 = 0 then 0 else 2, word := rd s a ^^^ wd (r % 2 ^ 36), epoch := lapOf s a ^^^ bits r 51 48 }

/-- The latest write to a word that still waits in its channel's queue: a request that meets its row follows it (R446). -/
def queuedWrite (s : State) (a : Nat) : Option DramReq := s.drc.queue.reverse.find? (fun r => r.a == a && r.write.isSome)

/-- What a read of a word that is issued now shows. -/
def dramView (s : State) (a : Nat) : SlotView :=
  match queuedWrite s a with
  | some r => { corr := 0, kind := 0, word := r.write.getD 0, epoch := r.lap % 16 }
  | none => slotView s a (flipsOf s a)
/-- The word a reader receives, and its epoch. -/
def dramWord (s : State) (a : Nat) : Word := (dramView s a).word
def dramEpoch (s : State) (a : Nat) : Nat := (dramView s a).epoch

/-- Why no reader can have a word: 0 nothing, else the KIND of DRC_ERR_ADDR: 1 an uncorrectable pattern, 2 a ZERO field that is not zero, 3 an
epoch outside the delay lines, 4 a failed channel (R441, R442, R444, R454). -/
def dramKind (s : State) (a : Nat) : Nat :=
  if chanFailed s a then 4
  else if (dramView s a).kind ≠ 0 then (dramView s a).kind
  else if !inLines a && dramEpoch s a != 0 then 3 else 0
def dramBad (s : State) (a : Nat) : Bool := dramKind s a != 0

/-- A word of on-die memory, or of DRAM as its reader receives it. -/
def seenWord (s : State) (a : Nat) : Word := if 0x40000000 ≤ a then dramWord s a else rd s a

/-- Who may read and write a DRAM word over the crossbar (R438). Lanes (0x10-0x57) pass through their windows, which are checked
by the lane (R261). -/
def dramReadOk (m a : Nat) : Bool :=
  m == 8 ||
  (if a ≤ 0x403FFFFF then m ≤ 2
   else if a ≤ 0x407FFFFF then m == 0
   else if a ≤ 0x40FFFFFF then m ≤ 1 || (5 ≤ m && m ≤ 7)
   else if a ≤ 0x45FFFFFF then m ≤ 1
   else if a ≤ 0x47FFFFFF then m ≤ 1 || (0x10 ≤ m && m ≤ 0x57)
   else m ≤ 1)
def dramWriteOk (s : State) (m a : Nat) : Bool :=
  if a ≤ 0x403FFFFF then m == 0 || m == 2 || (m == 1 && s.sys.state == .hold)
  else if a ≤ 0x407FFFFF then m == 0
  else if a ≤ 0x40FFFFFF then m == 0 || (5 ≤ m && m ≤ 7)
  else if a ≤ 0x41FFFFFF then m == 0
  else if a ≤ 0x45FFFFFF then false
  else if a ≤ 0x47FFFFFF then m ≤ 1 || (0x10 ≤ m && m ≤ 0x57)
  else false

/-! ### Writing and reading a word (R440-R444) -/

/-- A request that is issued wakes its rank from power-down and opens its row (R445, R451). -/
def wake (a : Nat) : Act := seq [
  when (fun s => flag (rd s DRC) (12 + dramRank a)) (clrBits DRC (2 ^ (12 + dramRank a))),
  onDrc fun _ d => { d with rows := sparsePut d.rows (dramBank a) (dramRow a) }]

/-- Write a word with its lap; outside the delay lines the epoch is 0. Its slot is whole again. Writes to a failed channel are discarded
(R440, R442, R454). -/
def dramStoreSlot (a : Nat) (w : Word) (lap : Nat) : Act := fun s =>
  if chanFailed s a then [] else
  seq [wake a, poke a w,
       when (fun s => inLines a && lapOf s a != lap % 16)
         (onDrc fun _ d => { d with laps := sparseSet (fun _ => 0) d.laps a (lap % 16) })] s

/-- Does a request that arrives for a word meet the row of a queued write (R446)? -/
def meetsWrite (s : State) (a : Nat) : Bool := s.drc.queue.any (fun q => q.write.isSome && sameRow q.a a)

/-- Such a request puts its channel in in-order mode, if it is not in it (R446). -/
def enterInOrder (a : Nat) : Act := when (fun s => meetsWrite s a && !flag (rd s DRC) (20 + dramChan a)) (seq [
  setBits DRC (2 ^ (20 + dramChan a)), bump (DRC + 4) 11 0 1])

/-- The in-order mode of channel c ends once the request that caused it has issued and no queued request matches the row of another queued
write (R446). -/
def leaveInOrder (c : Nat) : Act := fun s =>
  let l := (s.drc.queue.filter (fun q => dramChan q.a == c)).zipIdx
  when (fun s => flag (rd s DRC) (20 + c) && !l.any (fun q => q.1.cause) &&
    !l.any (fun q => l.any (fun w => w.2 != q.2 && w.1.write.isSome && sameRow w.1.a q.1.a))) (clrBits DRC (2 ^ (20 + c))) s

/-- Issue the queued writes in a word's row, oldest first, in front of a request for it (R446). -/
def issueRowWrites (a : Nat) : Act := fun s =>
  if !meetsWrite s a then [] else
  let hit (q : DramReq) : Bool := q.write.isSome && sameRow q.a a
  seq [enterInOrder a,
    onDrc fun _ d => { d with queue := d.queue.filter (fun q => !hit q) },
    each (s.drc.queue.filter hit) (fun q => seq [dramStoreSlot q.a (q.write.getD 0) q.lap, emit (.resp 0 [])]),
    leaveInOrder (dramChan a)] s

/-- A word is written by a request that is issued at once (R440, R446). -/
def dramPut (a : Nat) (w : Word) (lap : Nat) : Act := seq [issueRowWrites a, dramStoreSlot a w lap]

/-- An uncorrectable error in a word: counted, UNCORR latched, and the word marked until it is rewritten (R330). Lifetime count
16, or 15 for DRAM, which also counts and records it in its own registers and logs it (R444). `kind` as DRC_ERR_ADDR gives it. -/
def uncorrectable (kind a : Nat) : Act := seq [
  bump (QCH + 4) 11 0 1, warn 2,
  life (if 0x40000000 ≤ a then 15 else 16) 1,
  when (fun _ => decide (0x40000000 ≤ a)) (seq [
    bump (DRC + 3) 11 0 1, poke (DRC + 7) (wd (kind * 2 ^ 32 + a)), report (srcOf DRC) .dramUncorr a kind]),
  when (fun _ => decide (a < 0x40000000)) (onBad fun _ l => (l.erase a) ++ [a])]

/-- The bits that have flipped in a slot by the time it is read stay flipped until the word is next written (R441, R444). -/
def strikeSlot (a flip : Nat) : Act := when (fun _ => flip % 2 ^ 64 != 0) (onFlips fun s t =>
  sparseSet (fun _ => 0) t a (flipsOf s a ^^^ (flip % 2 ^ 64)))

/-- CORR1 and CORR2 of a read (R441). -/
def countCorr (n : Nat) : Act := if n = 1 then bump (DRC + 3) 35 24 1 else if n = 2 then bump (DRC + 3) 23 12 1 else nop

/-- Read a word as its slot stands (R441): the code, the ZERO field, then the epoch against `lap`, the one that its reader expects of a
delay-line word, 0 elsewhere (R442). The counts of the read, and the word if there is one. -/
def dramLook (s : State) (a lap : Nat) : Act × Option Word :=
  let v := dramView s a
  if chanFailed s a then (uncorrectable 4 a, none)
  else if v.kind ≠ 0 then (seq [countCorr v.corr, uncorrectable v.kind a], none)
  else if v.epoch ≠ (if inLines a then lap % 16 else 0) then
    (seq [countCorr v.corr, bump (DRC + 4) 35 24 1, when (fun _ => !inLines a) (uncorrectable 3 a)], none)
  else (countCorr v.corr, some v.word)

/-- A read before which the bits `flip` have flipped in the slot. -/
def dramGet (s : State) (a flip lap : Nat) : Act × Option Word :=
  let r := dramLook (applyAll (strikeSlot a flip s) s) a lap
  (seq [strikeSlot a flip, wake a, r.1], r.2)

/-! ### Training (R452-R454) -/

/-- Mark a channel FAILED (R454). -/
def failChannel (c : Nat) : Act := seq [
  setBits DRC (2 ^ (32 + c)), ringFault, report (srcOf DRC) .retrainFail c 0]

/-- Fast retraining of a channel: `fails` attempts in succession fail; a second failure marks it FAILED (R452, R454). -/
def fastRetrain (c fails : Nat) : Act := seq [
  bump (DRC + 5) 23 12 (min 2 (fails + 1)),
  when (fun _ => 2 ≤ fails) (failChannel (c % 4))]

/-- All ranks enter self-refresh, and every row is closed (R453). -/
def selfRefresh : Act := seq [pokeF DRC 11 4 0xFF, onDrc fun _ d => { d with rows := [] }]
/-- Self-refresh ends and every channel is retrained; `fails` gives the failed attempts of each channel (R453). -/
def exitRefresh (fails : List Nat) : Act := seq [
  pokeF DRC 11 4 0, each (List.range 4) (fun c => fastRetrain c (fails.getD c 0))]

end Sys2Proof.Machine
end

