-- ==== Sys2Proof/Machine/Hearth.lean ====
section
/-! DEFINITION. Hearth: sensors, event log, lifetime record, calendar and telemetry (22: R514-R532). The update commands are in
Update.lean. -/
namespace Sys2Proof.Machine
open Sys2Proof

/-! ### Sensors (R514-R517) -/

/-- Which sensor was sampled (R514): die temperature 0-7, voltage monitor 0-9, clock monitor 0-5. -/
def tempRd (s : State) (i : Nat) : Int := sfld (rd s (HTH + i)) 11 0

/-- The highest of the eight die readings, in 0.25 degrees. -/
def hottest (s : State) : Int := (List.range 8).foldl (fun m i => max m (tempRd s i)) (tempRd s 0)

/-- The thermal warning after a sample (R515): on from the first sample at which a sensor reads at least WARN_C, off once
every sensor reads below WARN_C - HYST_C. Each change rings THERMAL and is logged. -/
def thermalWarning : Act := fun s =>
  let warnC : Int := rdF s (HTH + 0x30) 7 0
  let hyst : Int := rdF s (HTH + 0x30) 11 8
  let was := flag (rd s (HTH + 0x31)) 10
  let now := if hottest s ≥ 4 * warnC then true else if hottest s < 4 * (warnC - hyst) then false else was
  if now == was then [] else
  seq [pokeF (HTH + 0x31) 10 10 (b2n now), ringThermal, report 0x30 .thermal (b2n now) 0] s

/-- A sensor has been sampled since reset: from now on MAX and MIN stand. -/
def sampledNow (k : Nat) : Act := onHth fun _ h => { h with sampled := if h.sampled.contains k then h.sampled else h.sampled ++ [k] }

/-- A die temperature sample, signed quarter degrees (R514, R515, R523 MAX_TJ). -/
def sampleTemp (i : Nat) (v : Int) : Act := fun s =>
  let u := (v % 4096).toNat
  let first := !s.hth.sampled.contains i
  let mx := if first then v else max v (sfld (rd s (HTH + i)) 23 12)
  seq [pokeF (HTH + i) 23 12 (mx % 4096).toNat, pokeF (HTH + i) 11 0 u,
       lifeMax 28 (v + 220).toNat, sampledNow i, thermalWarning] s

/-- A voltage sample in mV (R514, R516): outside 3 % of nominal sets the rail's bit, rings FAULT and is logged at most once
a second for each rail. -/
def sampleVolt (i mv : Nat) : Act := fun s =>
  let old := rd s (HTH + 0x10 + i)
  let first := !s.hth.sampled.contains (16 + i)
  let mx := if first then mv else max mv (fld old 35 24)
  let mn := if first then mv else min mv (fld old 23 12)
  let bad := voltWarn i mv
  seq [sampledNow (16 + i), poke (HTH + 0x10 + i) (wd (mx % 4096 * 2 ^ 24 + mn % 4096 * 2 ^ 12 + mv % 4096)),
       pokeF (HTH + 0x31) i i (b2n bad),
       when (fun s => bad && !s.hth.voltLogged.contains i) (seq [
         ringFault, report 0x30 .voltage i mv,
         onHth fun _ h => { h with voltLogged := h.voltLogged ++ [i] }])] s

/-- Clamp a clock deviation to its signed 20-bit field (HTH_CLKMON_i: saturating). -/
def clkDev (v : Int) : Nat := ((clampI (-(2 ^ 19)) (2 ^ 19 - 1) v) % 2 ^ 20).toNat

/-- Hearth samples a sensor and publishes its reading; while Hearth restarts nothing is published (R514, R517). A duty that misses its
interval sets its bit of LATE, and is logged at most once a minute (R517). -/
def sensorSample (k : Sensor) : Act := fun s =>
  if s.sys.hearthDown then [] else
  match k with
  | .temp i v => if i < 8 then sampleTemp i v s else []
  | .volt i mv => if i < 10 then sampleVolt i mv s else []
  | .clock i present dev =>
    if i < 6 then poke (HTH + 0x20 + i) (wd (b2n present * 2 ^ 35 + clkDev dev)) s else []
  | .late d => if d < 10 then
      seq [setBits (HTH + 0x32) (2 ^ d),
        when (fun s => (sparseFind s.hth.lateLogged d).isNone) (seq [report 0x30 .dutyLate (d + 1) 0,
          onHth fun _ h => { h with lateLogged := sparsePut h.lateLogged d 61 }])] s else []
def execSensorSample (k : Sensor) (s : State) : Host.Outcome State Fault Refusal := done (sensorSample k) s

/-- The histogram bin of a reading in quarter degrees (R524): bin 0 below -25 C, bins of 10 C up to 115 C, bin 15 above. -/
def histBin (q : Int) : Nat :=
  if q < -100 then 0 else if q ≥ 460 then 15 else ((q + 100) / 40).toNat + 1

/-- Once a second the hottest reading adds a second to its bin, and a thermal cycle is counted when it first rises 40 C above
the lowest value since the previous counted cycle (R524). The seconds counts of R523 advance with it. -/
def thermalHistogram : Act := fun s =>
  if s.sys.hearthDown || !s.sys.rails then [] else
  let h := hottest s
  let b := histBin h
  let off : Nat := (h + 220).toNat
  seq [onLife fun _ l => { l with
         hist := sparseSet (fun _ => 0) l.hist b (min (2 ^ 36 - 1) (sparseGet (fun _ => 0) l.hist b + 1)) },
       life 0 1, when (fun s => s.sys.state == .run) (life 1 1),
       fun s => match s.life.cycleMin with
         | none => onLife (fun _ l => { l with cycleMin := some off }) s
         | some m => if m + 160 ≤ off then seq [life 23 1, onLife fun _ l => { l with cycleMin := some off }] s
                     else onLife (fun _ l => { l with cycleMin := some (min m off) }) s] s
def execThermalHistogram (s : State) : Host.Outcome State Fault Refusal := done thermalHistogram s

/-! ### The event log (R518-R522) -/

/-- The eight words of an entry (R518). -/
def logWords (seqn : Nat) (r : Report) : List Word :=
  [wd (r.sev % 4 * 2 ^ 34 + r.src % 256 * 2 ^ 16 + Config.eventCode r.event.ctorIdx % 2 ^ 16), wd seqn,
   wd (bits r.period 63 32), wd (bits r.period 31 0),
   wd (r.calSub % 2 ^ 15 * 2 ^ 16 + bits r.calSec 47 32), wd (bits r.calSec 31 0), wd r.d0, wd r.d1]

/-- The entry a full ring discards (R520): the oldest already in flash; else the oldest INFO, NOTICE, WARN; else the oldest. -/
def victim (ring : List LogEntry) (flashed : Option Nat) : Option LogEntry :=
  let inFlash (e : LogEntry) : Bool := match flashed with
    | some f => e.seq ≤ f
    | none => false
  match ring.find? inFlash with
  | some e => some e
  | none => match ring.find? (fun e => e.sev == 0) with
    | some e => some e
    | none => match ring.find? (fun e => e.sev == 1) with
      | some e => some e
      | none => match ring.find? (fun e => e.sev == 2) with
        | some e => some e
        | none => ring.head?

/-- The oldest entry in flash or ring (HTH_LOG_OLDEST). -/
def oldestSeq (l : Log) : Nat :=
  match l.flashed, l.ring with
  | some _, e :: _ => min l.oldest e.seq
  | some _, [] => l.oldest
  | none, e :: _ => e.seq
  | none, [] => 0

/-- Put the log registers at what the log holds. -/
def logRegs : Act := fun s => seq [
  poke (HTH + 0x40) (wd (s.log.next - 1)),
  poke (HTH + 0x41) (wd (s.log.flashed.getD 0)),
  poke (HTH + 0x42) (wd (oldestSeq s.log))] s

/-- Discard an entry to make room: counted; the first after a ring that was not full is itself reported (R520). -/
def logMakeRoom : Act := fun s =>
  if s.log.ring.length < 8192 then onLog (fun _ l => { l with wasFull := false }) s else
  match victim s.log.ring s.log.flashed with
  | none => []
  | some v => seq [
      onLog fun _ l => { l with ring := l.ring.filter (fun e => e.seq != v.seq), wasFull := true },
      bump (HTH + 0x44) 35 24 1,
      fun s' => if s.log.wasFull then [] else report 0x30 .logDropped v.seq 0 s'] s

/-- The oldest waiting report becomes an entry of the ring, with the next SEQ; the LOG doorbell rings for SEVERITY at least
MIN_SEV (R518-R520). While Hearth restarts, reports wait. -/
def logEntry : Act := fun s =>
  if s.sys.hearthDown then [] else
  match s.log.reports with
  | [] => []
  | r :: rest =>
    let q := s.log.next
    let loud := rdF s (HTH + 0x43) 1 0 ≤ r.sev
    seq [onLog fun _ l => { l with reports := rest },
         logMakeRoom,
         onLog fun _ l => { l with
           ring := l.ring ++ [{ seq := q, sev := r.sev, words := logWords q r }], next := q + 1,
           telemetry := if loud then l.telemetry ++ [q] else l.telemetry },
         logRegs, when (fun _ => loud) (ring 0 6)] s
def execLogEntry (s : State) : Host.Outcome State Fault Refusal := done logEntry s

/-- The 64 bytes of a flash record (R521). -/
def logRecord (ws : List Word) : List Nat :=
  let b := packWords ws ++ List.replicate 24 0xFF
  b ++ toBytes 4 (crc32 b)

/-- Records of the log area (R521). -/
def logRecords : Nat := 244736

/-- When the write point enters a sector, Hearth erases the next one, which holds the oldest entries: OLDEST advances by the
records it held, LOG_ERASES counts (R521, R540). -/
def eraseAhead : Act := fun s =>
  if s.log.writePos % 64 != 0 then [] else
  let nx := ((s.log.writePos / 64 + 1) % 3824) * 64
  let gone (k : Nat) : Bool := nx ≤ k && k < nx + 64
  let n := ((s.flash.log.filter (fun e => gone e.1)).filter (fun e => recValid e.2)).length
  seq [onFlash fun _ f => { f with log := f.log.filter (fun e => !gone e.1) },
       onLog fun _ l => { l with oldest := l.oldest + n }, life 25 1] s

/-- Hearth may erase and program the flash: in every powered state after LOAD, in which the loader holds it alone (R80, R525), and not
while it restarts (R517). -/
def flashFree (s : State) : Bool := cmdState s && s.sys.state != .load && !s.sys.hearthDown

/-- Hearth copies the next entry to flash, in SEQ order, while the bucket holds a token (R521). -/
def logFlush : Act := fun s =>
  if !flashFree s || s.log.tokens = 0 then [] else
  let after (e : LogEntry) : Bool := match s.log.flashed with
    | some f => f < e.seq
    | none => true
  match s.log.ring.find? after with
  | none => []
  | some e => seq [
      eraseAhead,
      onFlash fun s f => { f with log := sparsePut f.log s.log.writePos (logRecord e.words) },
      onLog fun _ l => { l with
        oldest := (match l.flashed with
          | none => e.seq
          | some _ => l.oldest),
        flashed := some e.seq, writePos := (l.writePos + 1) % logRecords, tokens := l.tokens - 1 },
      logRegs] s
def execLogFlush (s : State) : Host.Outcome State Fault Refusal := done logFlush s

/-- A write to HTH_LOG_SEL starts a fetch and replaces one that is running (R522). -/
def hthLogSel (m seqn : Nat) : Act :=
  if 1 < m then refused m (HTH + 0x48) true else seq [
  poke (HTH + 0x48) (wd seqn), pokeF (HTH + 0x49) 35 34 0, onLog fun _ l => { l with fetching := true }]
def execHthLogSel (m seqn : Nat) (s : State) : Host.Outcome State Fault Refusal := done (writing m (hthLogSel m seqn)) s

/-- The entry with a sequence number, from the ring or from a valid flash record (R522). -/
def findEntry (s : State) (q : Nat) : Option (List Word) :=
  match s.log.ring.find? (fun e => e.seq == q) with
  | some e => some e.words
  | none => (s.flash.log.find? (fun e => recValid e.2 && recWord e.2 1 == q)).map
      (fun e => (List.range 8).map (fun k => wd (recWord e.2 k)))

/-- The fetch completes: the entry, or FOUND 0 where it was discarded or is above HEAD, and READY (R522). -/
def logFetchComplete : Act := fun s =>
  if !s.log.fetching || s.sys.hearthDown then [] else
  let found := findEntry s (rd s (HTH + 0x48)).toNat
  seq [pokeList (HTH + 0x50) (found.getD (List.replicate 8 0)),
       pokeF (HTH + 0x49) 35 34 (if found.isSome then 3 else 2),
       onLog fun _ l => { l with fetching := false }] s
def execLogFetchComplete (s : State) : Host.Outcome State Fault Refusal := done logFetchComplete s

/-! ### The lifetime record (R523-R526) -/

/-- The 36-bit words of a snapshot in the order of R525: counts, histogram, retired lanes. -/
def snapWords (s : State) : List Word :=
  (List.range 30).map (fun i => wd (lifeGet s i))
  ++ (List.range 16).map (fun b => wd (sparseGet (fun _ => 0) s.life.hist b))
  ++ (List.range 3).map (fun r => wd (bits s.life.retired (32 * r + 31) (32 * r)))

/-- The 4,096 bytes of a snapshot (R525). -/
def snapBytes (s : State) (seqn : Nat) : List Nat :=
  let b := [0x4C, 0x49, 0x46, 0x45] ++ toBytes 8 seqn ++ toBytes 8 s.cocoon.calSec ++ packWords (snapWords s)
  let p := b ++ List.replicate (4092 - b.length) 0xFF
  p ++ toBytes 4 (crc32 p)

/-- Hearth writes the whole record into the sector after the one that holds the latest snapshot, erasing it first (R525),
and the backup bits start afresh (R526). -/
def lifetimeSnapshot : Act := seq [
  life 26 1,
  fun s =>
    let sec := if s.life.snapSeq = 0 then 0 else (s.life.snapSector + 1) % 256
    let q := s.life.snapSeq + 1
    seq [onFlash fun s f => { f with life := sparsePut f.life sec (snapBytes s q) },
         onLife fun s l => { l with snapSeq := q, snapSector := sec, snapPower := lifeGet s 0, ageSec := 0 },
         onCocoon fun _ c => { c with backupSeq := q % 2 ^ 16, backupSecs := 0 }] s]
/-- In any powered state after LOAD (R525). -/
def lifetimeSnapshotDuty : Act := when flashFree lifetimeSnapshot
def execLifetimeSnapshot (s : State) : Host.Outcome State Fault Refusal := done lifetimeSnapshotDuty s

/-- Every 10 s: the seconds of POWER_ON_S since the latest snapshot, and its SNAP_SEQ, go to the backup bits (R526). -/
def backupSecondsUpdate : Act := when (fun s => s.sys.rails && !s.sys.hearthDown) (onCocoon fun s c => { c with
  backupSeq := s.life.snapSeq % 2 ^ 16, backupSecs := (lifeGet s 0 - s.life.snapPower) % 2 ^ 32 })
def execBackupSecondsUpdate (s : State) : Host.Outcome State Fault Refusal := done backupSecondsUpdate s

/-! ### The calendar (R527, R528) -/

/-- Is the PTP state LOCKED (R407)? -/
def ptpLocked (s : State) : Bool := rdF s STM 35 32 == 3

/-- The host sets the calendar: LIF_CAL_SET_1 commits the staged seconds with fraction zero; refused while CLOCK_SOURCE is PTP
and PTP is LOCKED (R528). With nothing staged there is nothing to commit. -/
def lifCalSet1 (m : Nat) (w : Word) : Act := fun s =>
  if m != 1 then refused m (LIF + 5) true s else
  match stagedOf s m with
  | some g =>
    if g.addr != LIF + 4 then [] else
    if s.img.clock == 0 && ptpLocked s then seq [unstage m, pokeF (LIF + 6) 3 2 2] s else
    seq [unstage m,
         onCocoon fun _ c => { c with calSec := fld g.word 15 0 * 2 ^ 32 + fld w 31 0, calSub := 0, calSource := 1 },
         pokeF (LIF + 6) 3 2 1] s
  | none => []
def execLifCalSet1 (m : Nat) (w : Word) (s : State) : Host.Outcome State Fault Refusal :=
  done (seq [keepStaged m (fun y => y == LIF + 4), lifCalSet1 m w]) s

/-- Every 60 s under PTP lock: where the calendar differs by more than 100 us from PTP time, it is written (R528). -/
def calendarDiscipline (sec sub : Nat) : Act := fun s =>
  if !ptpLocked s || s.sys.hearthDown then [] else
  let d : Int := ((sec : Int) - s.cocoon.calSec) * 32768 + (sub : Int) - s.cocoon.calSub
  if d.natAbs * 1000000 ≤ 100 * 32768 then [] else
  onCocoon (fun _ c => { c with calSec := sec % 2 ^ 48, calSub := sub % 2 ^ 15, calSource := 2 }) s
def execCalendarDiscipline (sec sub : Nat) (s : State) : Host.Outcome State Fault Refusal := done (calendarDiscipline sec sub) s

/-- What each elapsed second does in Hearth and the crossbar: the minute age of the snapshot, the log bucket (R521) and the log limits
of R464, R516 and R517. -/
def secondPasses : Act := fun s => if !s.sys.rails then [] else seq [
  onLife fun _ l => { l with ageSec := l.ageSec + 1 },
  onLog fun _ l => { l with tokens := min 4096 (l.tokens + 8) },
  onHth fun _ h => { h with
    refLogged := 0, voltLogged := [],
    lateLogged := (h.lateLogged.filter (fun e => decide (1 < e.2))).map (fun e => (e.1, e.2 - 1)) },
  pokeF (DRC + 6) 23 16 (min 255 (rdF s (DRC + 6) 23 16 + 1)),
  onStm fun _ t => { t with stageLogged := false },
  onAud fun _ a => { a with pdm := a.pdm.map (fun e => (e.1, { e.2 with logged := false })) },
  onClk fun _ c => { c with retryLogged := false }] s

/-- One cycle of the 32.768 kHz crystal: the calendar advances in COCOON and in every powered state (R527). -/
def calendarTick : Act := fun s =>
  if s.sys.state == .off then [] else seq [
  onSys fun _ y => { y with cycles := y.cycles + 1 },
  fun s =>
    if s.cocoon.calSub + 1 < 32768 then onCocoon (fun _ c => { c with calSub := c.calSub + 1 }) s
    else seq [onCocoon fun _ c => { c with calSub := 0, calSec := (c.calSec + 1) % 2 ^ 48 }, secondPasses] s] s

end Sys2Proof.Machine
end

