-- ==== Sys2Proof/Machine/Pins.lean ====
section
/-! DEFINITION. The safety pins, their filters, the fault latches and the latent tests (13: R317-R320, R328-R336). EMERG_IN's
announcement is in Announce.lean. -/
namespace Sys2Proof.Machine
open Sys2Proof

/-! ### The input filter (R334) -/

/-- What a filter is configured to: FILT_US, STUCK_S and the two stuck enables. -/
structure FiltCfg where
  filt : Nat
  stuckS : Nat
  stuckLo : Bool
  stuckHi : Bool
deriving DecidableEq, Repr

/-- The configuration in a value word laid out as in the pin pairs. -/
def filtCfg (w : Word) : FiltCfg :=
  { filt := fld w 16 0, stuckS := fld w 32 17, stuckLo := flag w 33, stuckHi := flag w 34 }

/-- What a run of steps at one raw level did. -/
structure FiltOut where
  pin : PinF
  trans : Nat
  changed : Bool
  newChatter : Bool
  /-- How often STUCK was set. -/
  newStuck : Nat
deriving DecidableEq, Repr

/-- `n` filter steps during which the synchronised level is `raw` (R334): the first step may be an edge; the filtered level
follows once `run` reaches FILT_US; eight transitions without such a change set CHATTER; a filtered level held for STUCK_S
seconds at an enabled level sets STUCK, and only while it is. The steps are taken together: between two edges the counts
only grow. -/
def filterRun (c : FiltCfg) (p : PinF) (raw : Bool) (n : Nat) : FiltOut :=
  if n = 0 then { pin := p, trans := 0, changed := false, newChatter := false, newStuck := 0 } else
  let edge := raw != p.raw
  let runEnd := if edge then n - 1 else p.run + n
  let runFirst := if edge then 0 else p.run + 1
  let flips := raw != p.filt && c.filt ≤ runEnd
  let unst1 := if edge then p.unstable + 1 else p.unstable
  let flipsFirst := flips && c.filt ≤ runFirst
  let chat := p.chatter || (8 ≤ unst1 && !flipsFirst)
  let held := if flips then (if c.filt ≤ runFirst then n else runEnd - c.filt + 1) else p.held + n
  let filt := if flips then raw else p.filt
  let isStuck (level : Bool) (h : Nat) : Bool := c.stuckS != 0 && c.stuckS * 1000000 ≤ h && (if level then c.stuckHi else c.stuckLo)
  let stuck := isStuck filt held
  -- before the filtered level changes, the steps of the run count for the old one
  let before := flips && isStuck p.filt (p.held + (n - held))
  let log := chat && !p.chatter && p.quiet == 0
  { pin := { raw := raw, filt := filt, run := runEnd, unstable := if flips then 0 else unst1, held := held,
             chatter := chat, stuck := stuck, quiet := (if log then 1000001 else p.quiet) - n },
    trans := b2n edge, changed := flips, newChatter := log,
    newStuck := b2n (before && !p.stuck) + b2n (stuck && (flips || !p.stuck)) }

/-- The configuration pair of QUENCH_IN_L (16) or EMERG_IN (17): a pair that fails its check makes the filter run at 1 us
(R327). GP inputs take PIN_GP_CFG_n, TAMPER_IN the Cocoon bits with FILT in units of 10 us (R556), or, in COCOON, of
crystal steps rounded up. -/
def pinCfg (s : State) (i : Nat) : FiltCfg :=
  let oneUs : FiltCfg := { filt := 1, stuckS := 0, stuckLo := false, stuckHi := false }
  if i < 16 then filtCfg (rd s (PIN + 0x100 + i))
  else if i = 16 then (match pairVal s PIN with
    | some w => filtCfg w
    | none => oneUs)
  else if i = 17 then (match pairVal s (PIN + 2) with
    | some w => filtCfg w
    | none => oneUs)
  else
    let us := 10 * (s.cocoon.tamperCfg % 2 ^ 13)
    { filt := if s.sys.state == .cocoon then (us * 32768 + 999999) / 1000000 else us,
      stuckS := 0, stuckLo := false, stuckHi := false }

/-- Is the filter time of the input one the spec allows (R334: 1-100,000 us; R556: 1-10,000 units)? Outside it a GP input's
filtered level is unpredictable. -/
def filtOk (c : FiltCfg) : Bool := 1 ≤ c.filt && c.filt ≤ 100000

/-- Run the filter of input i over `n` steps at a level, and report chatter and stuck (R334). A GP input whose FILT_US is
out of range takes a free filtered level, and nothing else is touched (13: PIN_GP_CFG_n). -/
def stepPin (i : Nat) (raw : Bool) (n : Nat) : Act := fun s =>
  let c := pinCfg s i
  let o := filterRun c (pinOf s i) raw n
  let put (p : PinF) : Act := onPins fun _ t => sparsePut t i p
  seq [
    (if i < 16 && !filtOk c then draw 334 (fun v => put { o.pin with filt := v % 2 == 1 }) else put o.pin),
    when (fun _ => i == 16) (bump (PIN + 0x11) 35 18 o.trans),
    when (fun _ => i == 17) (bump (PIN + 0x11) 17 0 o.trans),
    when (fun _ => o.newChatter) (report (srcOf PIN) .chatter i 0),
    each (List.range o.newStuck) (fun _ => report (srcOf PIN) .stuck i 0)] s

/-- The timer of R332 in the safety monitor: the steps of QUENCH_IN_L's filter, which never pauses while the device is powered, are the
steps of the monitor's oscillator (DEDUCED: log entry 81). AGE rises every second, and at 60 s LATENT_OVERDUE latches. -/
def monitorTime (n : Nat) : Act := fun s =>
  let t := s.qch.ageUs + n
  let age := min 255 (rdF s (QCH + 5) 23 16 + t / 1000000)
  if !s.sys.rails then [] else seq [
    onQch fun _ q => { q with ageUs := t % 1000000 },
    when (fun _ => 1000000 ≤ t) (seq [pokeF (QCH + 5) 23 16 age, when (fun _ => 60 ≤ age) (warn 3)])] s

/-- E: the second control-tick boundary after a change seen while n is the latest launched count (R130). -/
def annBoundary (n : Nat) : Nat := (n / 16 + 1) * 16 + 16

/-- `n` steps of an input at one level, and what its filtered level does: QUENCH_IN_L low brings ARMED or RUN to SAFE with no fault (R66,
R70, R333); a change of EMERG_IN takes effect at E, which goes to the partner in the next heartbeat (R130, R347). Their configuration pairs
are checked in every step: a failing one is a device-level fault PIN_PAIR, or the warning ANN_PAIR, and the filter runs at 1 us (R326,
R327). -/
def pinSteps (i : Nat) (raw : Bool) (n : Nat) : Act := fun s =>
  let old := (pinOf s i).filt
  seq [
    when (fun s => i == 16 && n != 0 && (pairVal s PIN).isNone) (seq [bump (QCH + 3) 11 0 n, deviceFault 8]),
    when (fun s => i == 17 && n != 0 && (pairVal s (PIN + 2)).isNone) (seq [bump (QCH + 3) 11 0 n, warn 1]),
    stepPin i raw n,
    when (fun s => i == 16 && !(pinOf s 16).filt) (enterSafe false),
    when (fun _ => i == 16) (monitorTime n),
    when (fun s => i == 17 && (pinOf s 17).filt != old) (onScene fun s c =>
      { c with annWait := c.annWait ++ [(annBoundary s.wav.n, false, (pinOf s 17).filt)] })] s

/-- Steps at successive levels, oldest first: each run is a level and a number of steps. -/
def stepPins (i : Nat) (runs : List (Bool × Nat)) : Act := each runs (fun r => pinSteps i r.1 r.2)

/-- QUENCH_IN_L over a history of levels. -/
def quenchInLFiltered (runs : List (Bool × Nat)) : Act := seq [
  stepPins 16 runs,
  when (fun s => !(pinOf s 16).filt) (enterSafe false)]
def execQuenchInLFiltered (runs : List (Bool × Nat)) (s : State) : Host.Outcome State Fault Refusal :=
  done (quenchInLFiltered runs) s

/-- A GP input over a history of levels (R334). -/
def gpFiltered (n : Nat) (runs : List (Bool × Nat)) : Act := if n < 16 then stepPins n runs else nop
def execGpFiltered (n : Nat) (runs : List (Bool × Nat)) (s : State) : Host.Outcome State Fault Refusal := done (gpFiltered n runs) s

/-- Time passes at an unchanged level of input i: STUCK is set once STUCK_S seconds have been held at an enabled level (R334). -/
def pinStuck (i seconds : Nat) : Act := fun s => if i < 18 then pinSteps i (pinOf s i).raw (seconds * 1000000) s else []
def execPinStuck (i seconds : Nat) (s : State) : Host.Outcome State Fault Refusal := done (pinStuck i seconds) s

/-- A write to PIN_GP_CFG_n takes effect at the next step; the run count carries on, so the filtered level may follow at that
very step (R335). The row names no master (log entry 93). -/
def pinGpCfg (n : Nat) (w : Word) : Act := fun s =>
  if 16 ≤ n then [] else seq [poke (PIN + 0x100 + n) w, stepPin n (pinOf s n).raw 1] s
def execPinGpCfg (n : Nat) (w : Word) (s : State) : Host.Outcome State Fault Refusal := done (pinGpCfg n w) s

/-! ### Device-level faults from outside the render path (R317, R333, R336) -/

/-- A main rail outside its operating range for 10 us: RAIL latches and the device enters SAFE (R317, R563, R565). A reading
inside the range ends the condition (R320). -/
def rail (i mv : Nat) : Act := fun s =>
  if outOfRange i mv then
    seq [onSys fun _ y => { y with railsOut := (y.railsOut.erase i) ++ [i] }, deviceFault 3] s
  else onSys (fun _ y => { y with railsOut := y.railsOut.erase i }) s
def execRail (i mv : Nat) (s : State) : Host.Outcome State Fault Refusal := done (rail i mv) s

/-- The die temperature comparators: above 145 C THERMAL latches; at or below it the condition is gone (R317, R320). Quarter
degrees. -/
def thermalCmp (quarter : Int) : Act :=
  if 580 < quarter then seq [onQch fun _ q => { q with condThermal := true }, deviceFault 4]
  else onQch fun _ q => { q with condThermal := false }
def execThermal (quarter : Int) (s : State) : Host.Outcome State Fault Refusal := done (thermalCmp quarter) s

/-- While XO stands still there is no media clock: no tick and no wavefront (R336). -/
def clocked (a : Act) : Act := when (fun s => !s.qch.xoStopped) a

/-- XO stops: CLOCK latches, SAFE_L and FAULT_L go low, the TDM outputs are forced low, and ARMED or RUN is SAFE at once with
no ramp rendered: every feed is at zero, since no wavefront runs (R336). -/
def xoLoss : Act := seq [
  latchFault 5,
  onQch fun _ q => { q with xoStopped := true },
  when (fun s => s.sys.state == .armed || s.sys.state == .run) (seq [
    enterSafe true, onQch fun _ q => { q with rampSafe := some 64 }]),
  when (fun s => s.sys.state == .safe) (onSys fun _ y => { y with safeFault := true })]
def execXoLoss (s : State) : Host.Outcome State Fault Refusal := done xoLoss s

/-- Feeds that are quenched. -/
def quenchedCount (s : State) : Nat := (s.feeds.filter (fun e => e.2.cause != 0)).length

/-- ANY_QUENCHED, which holds SAFE_L low: from the start of a quench ramp on, which for SUSTAIN is the period after the quench (R323,
R324). -/
def anyQuenched (s : State) : Bool := s.feeds.any (fun e => e.2.cause != 0 && e.2.qk != 0)

/-- Every 10 us the levels of SAFE_L and FAULT_L are compared with what is driven; ten consecutive mismatches latch PIN (R333). -/
def pinReadback (safePin faultPin : Bool) : Act := fun s =>
  let bad := !pinsReleased s &&
    (safePin != safeLDrive s (anyQuenched s) || faultPin != faultLDrive s)
  let n := if bad then s.qch.pinMiss + 1 else 0
  seq [onQch fun _ q => { q with safePin := safePin, faultPin := faultPin, pinMiss := min n 10, condPin := bad },
       when (fun _ => 10 ≤ n) (deviceFault 6)] s
def execPinReadback (safePin faultPin : Bool) (s : State) : Host.Outcome State Fault Refusal :=
  done (pinReadback safePin faultPin) s

/-! ### Clearing latches (R320) -/

/-- Is the condition of RENDER present: three overruns in 16 periods, a suspect pair of R310, a Locator pair of R318? -/
def condRender (s : State) : Bool :=
  3 ≤ (s.wav.overruns.filter (fun k => s.wav.n < k + 16)).length
  || s.bel.fails.any (fun e => 3 ≤ (e.2.filter (fun k => s.wav.n < k + 16)).length)
  || s.loc.fails.any (fun e => 3 ≤ e.2)
/-- Does an announcement pair, or the EMERG_IN pair, fail its check? -/
def condAnnPair (s : State) : Bool :=
  (pairVal s (PIN + 2)).isNone || (List.range 16).any (fun i => (pairVal s (CRU + 0x4000 + 2 * i)).isNone)
  || (List.range 2048).any (fun i => (pairVal s (CRU + 0x4800 + 2 * i)).isNone)
/-- Is a feed quenched with cause CHECK, PAIR or TABLE? -/
def condFeedCheck (s : State) : Bool := s.feeds.any (fun e => e.2.cause &&& 13 != 0)

/-- Is the condition of QCH_FAULT bit b present (R320)? A rail or a die that its row reports out of range is so until that row says otherwise
(DEDUCED: log entry 95). -/
def faultPresent (s : State) (b : Nat) : Bool :=
  match b with
  | 0 => condRender s
  | 1 => s.qch.fault.testBit 1
  | 2 => (pairVal s (QCH + 0x800)).isNone || (pairVal s (QCH + 0x802)).isNone
  | 3 => !s.sys.railsOut.isEmpty
  | 4 => s.qch.condThermal
  | 5 => s.qch.fault.testBit 5
  | 6 => s.qch.condPin
  | 7 => !s.qch.failedTests.isEmpty
  | 8 => (pairVal s PIN).isNone
  | _ => false

/-- Is the condition of QCH_WARN bit b present (R320)? UNCORR records a past error: the first write clears it. -/
def warnPresent (s : State) (b : Nat) : Bool :=
  match b with
  | 0 => condFeedCheck s
  | 1 => condAnnPair s
  | 3 => 60 ≤ rdF s (QCH + 5) 23 16
  | _ => false

/-- The bits of a mask whose condition is absent, and how many are refused. -/
def clearable (present : Nat → Bool) (set mask n : Nat) : Nat × Nat :=
  (List.range n).foldl (fun acc b =>
    if mask.testBit b && set.testBit b then (if present b then (acc.1, acc.2 + 1) else (acc.1 ||| 2 ^ b, acc.2)) else acc) (0, 0)

/-- A write of 1 to QCH_FAULT or QCH_WARN bits: each latch clears only if its condition is absent; a write that leaves one set
is counted in CLEAR_REFUSED (R320). Only Hearth and the host may write them. -/
def latchClear (m : Nat) (isFault : Bool) (w : Word) : Act := fun s =>
  if 1 < m then refused m (QCH + (if isFault then 1 else 2)) true s else
  let mask := fld w 31 0
  if isFault then
    let c := clearable (faultPresent s) s.qch.fault mask 9
    seq [onQch fun _ q => { q with fault := q.fault - c.1 },
         when (fun _ => c.2 != 0) (bump (QCH + 4) 23 12 1)] s
  else
    let c := clearable (warnPresent s) s.qch.warn mask 4
    seq [onQch fun _ q => { q with warn := q.warn - c.1 },
         when (fun _ => c.2 != 0) (bump (QCH + 4) 23 12 1)] s
def execLatchClear (m : Nat) (isFault : Bool) (w : Word) (s : State) : Host.Outcome State Fault Refusal :=
  done (writing m (latchClear m isFault w)) s

/-! ### Scrubbing and latent tests (R328-R332) -/

/-- The parts of a complete cycle (R332): scrub regions 0-3, the DRAM patrol of R460 as 4 (R329), and the eight latent
tests of R331 as 8-15. -/
def cycleParts : List Nat := [0, 1, 2, 3, 4, 8, 9, 10, 11, 12, 13, 14, 15]

/-- A part of the cycle is done; with every part done the cycle is complete: AGE starts again and CYCLES rises (R332). -/
def cyclePart (p : Nat) : Act := fun s =>
  let d := (s.qch.cycleDone.erase p) ++ [p]
  if cycleParts.all (fun x => d.contains x) then
    seq [onQch fun _ q => { q with cycleDone := [], ageUs := 0 },
         poke (QCH + 5) (wd ((rdF s (QCH + 5) 15 0 + 1) % 2 ^ 16))] s
  else onQch (fun _ q => { q with cycleDone := d }) s

/-- Is a word in a region of R329: 0 the table SRAM with every complement pair, 1 the lane memories, 2 shared SRAM (the delay windows have
no addresses)? Region 3, the STATIC sections, is STATIC_CRC_CHECK's, and DRAM the patrol's. -/
def inRegion (region a : Nat) : Bool :=
  match region with
  | 0 => (0x20000000 ≤ a && a < 0x28000000) || isPairWord a
  | 1 => (laneOfWord a).isSome
  | 2 => 0x10000000 ≤ a && a < 0x10200000
  | _ => false

/-- The scrubber's pass over a region (R329): each found error is the address of a word of the region, with the corrected word for a single
error, or none for an uncorrectable one. A corrected word is written back, and counted as R328 says, only if no master wrote the word
meanwhile (`raced`), in which case the master's word stands. Words that an earlier error struck in one bit are corrected too. -/
def scrubPass (region : Nat) (found : List (Nat × Option Word × Bool)) : Act := seq [
  each (found.filter (fun e => inRegion region e.1)) (fun e =>
    match e.2.1 with
    | some w => if e.2.2 then nop else seq [eccFix e.1, poke e.1 w]
    | none => uncorrectable 1 e.1),
  fun s => eccRead (s.soft.filter (inRegion region)) s,
  when (fun _ => region < 3) (cyclePart region)]
def execScrubPass (region : Nat) (found : List (Nat × Option Word × Bool)) (s : State) : Host.Outcome State Fault Refusal :=
  done (scrubPass region found) s

/-- A latent test of R331 runs: a failure latches LATENT_TEST; the latch's condition ends when every failed test has passed
again (R320, R331). -/
def latentTest (t : Nat) (pass : Bool) : Act :=
  if pass then seq [onQch fun _ q => { q with failedTests := q.failedTests.erase t }, cyclePart (8 + t)]
  else seq [onQch fun _ q => { q with failedTests := (q.failedTests.erase t) ++ [t] }, deviceFault 7]
def execLatentTest (t : Nat) (pass : Bool) (s : State) : Host.Outcome State Fault Refusal := done (latentTest t pass) s

/-- 60 s pass without a complete cycle: the warning LATENT_OVERDUE (R332). -/
def latentOverdue : Act := seq [
  fun s => pokeF (QCH + 5) 23 16 (max 60 (rdF s (QCH + 5) 23 16)) s, warn 3]
def execLatentOverdue (s : State) : Host.Outcome State Fault Refusal := done latentOverdue s

end Sys2Proof.Machine
end

