-- ==== Sys2Proof/Machine/Security.lean ====
section
/-! DEFINITION. Signed commands, tamper latches, replay windows and attestation (23: R541-R558). -/
namespace Sys2Proof.Machine
open Sys2Proof

/-! ### Keys (R547, R549) -/

/-- The order n of P-384. -/
def p384Order : Nat :=
  0xFFFFFFFFFFFFFFFFFFFFFFFFFFFFFFFFFFFFFFFFFFFFFFFFC7634D81F4372DDF581A0DB248B0A77AECEC196ACCC52973

/-- The root secret as derivations see it: zero once VENDOR_DEBUGGED is blown (R554). -/
def rootSecret (s : State) : Nat := if s.otp.vendorDebugged then 0 else Config.otpRoot

/-- Hash of the owner key in slot i. -/
def ownerHash (s : State) (i : Nat) : Nat := sparseGet (fun _ => 0) s.otp.ownerHash i

/-- The scalar d_s of an owner slot (R547). -/
def ownerScalar (s : State) (slot : Nat) : Nat :=
  let d := Config.sha384 (toBytes 32 (rootSecret s) ++ [0x4F, 0x57, 0x4E, 0x45, 0x52, 0x2D, 0x45, 0x4E, 0x43]
    ++ toBytes 48 (ownerHash s slot)) % p384Order
  if d = 0 then 1 else d

/-! ### Counters (R551, R552) -/

/-- The floor F: calendar seconds times 2^20, or 0 while the calendar is unset (R551). -/
def counterFloor (s : State) : Nat := if s.cocoon.calSource = 0 then 0 else s.cocoon.calSec * 2 ^ 20

/-- The upper bound of R551: while the calendar is set, below (seconds + 2) times 2^20. -/
def counterBelow (s : State) (c : Nat) : Bool :=
  s.cocoon.calSource == 0 || c < (s.cocoon.calSec + 2) * 2 ^ 20

/-- What the replay rule says of a frame's counter and tag (R551). -/
inductive Replay where
  | fresh | copy | bad
deriving DecidableEq, Repr

/-- Step 5 of R409: fresh, a copy of an accepted frame, or a failure (R551). -/
def replayCheck (s : State) (p c : Nat) (tag : List Nat) : Replay :=
  let h := sparseGet (fun _ => 0) s.sec.high p
  let w := sparseGet (fun _ => []) s.sec.window p
  match w.find? (fun x => x.counter == c) with
  | some x => if x.tag == tag then .copy else .bad
  | none =>
    if (h < c || h < c + 64) && counterFloor s < c && counterBelow s c then .fresh else .bad

/-- Record an accepted counter: H_p rises to it, and the window keeps H_p - 63 to H_p (R551). -/
def replayAccept (p c : Nat) (tag : List Nat) : Act := onSec fun _ k =>
  let h := max c (sparseGet (fun _ => 0) k.high p)
  ({ k with
    high := sparseSet (fun _ => 0) k.high p h,
    window := sparseSet (fun _ => []) k.window p
      (((sparseGet (fun _ => []) k.window p) ++ [({ counter := c, tag := tag } : Seen)]).filter (fun x => h < x.counter + 64)) } : Sec)

/-- On entry to RUN every H_p is reset to F and the windows are emptied (R551). -/
def replayReset : Act := onSec fun s k =>
  { k with high := (List.range 256).foldl (fun t p => sparseSet (fun _ => 0) t p (counterFloor s)) [], window := [] }

/-! ### Challenges (R542, R553) -/

/-- The 48 challenge bytes (R553). -/
def challengeBytes (nonce purpose arg : Nat) : List Nat :=
  toBytes 32 nonce ++ toBytes 8 Config.otpSerial ++ [purpose % 256, arg % 256] ++ List.replicate 6 0

/-- Four bytes to a word, most significant first, in bits 31:0 (R511). -/
def packBytes (b : List Nat) (n : Nat) : List Word := (List.range n).map (fun i => wd (beAt (b ++ [0, 0, 0, 0]) (4 * i) 4))

/-- Result of a security command in SEC_CMD_STATUS (R555), with its log entry (R553). -/
def secStatus (code : Nat) : Act := seq [poke (SEC + 0x31) (wd code), report (srcOf SEC) .securityCommand code 0]

/-- CHALLENGE: a fresh nonce from the random source; it replaces the old challenge (R553). Without a healthy random source the
request is not served: REFUSED; one that is served shows DONE (DESIGN CHOICE: log entry 91; R542). -/
def challenge (m key purpose arg : Nat) : Act := fun s =>
  if m != 1 then refused m (SEC + 0x30) true s else
  if key % 4096 != 0xC0C then secStatus 9 s else
  if !s.sec.rngOk then secStatus 7 s else
  draw 553 (fun v =>
    let nonce := v % 2 ^ 256
    seq [onSec fun _ k => { k with challenge := some (nonce, purpose % 16, arg % 256) },
         pokeList (SEC + 0x20) (packBytes (challengeBytes nonce (purpose % 16) arg) 12), secStatus 2]) s
def execChallenge (m key purpose arg : Nat) (s : State) : Host.Outcome State Fault Refusal := done (writing m (challenge m key purpose arg)) s

/-- The challenge lapses after 60 s (R553). -/
def challengeExpiry : Act := onSec fun _ k => { k with challenge := none }
def execChallengeExpiry (s : State) : Host.Outcome State Fault Refusal := done challengeExpiry s

/-- Is owner slot i ACTIVE, EMPTY? -/
def ownerIsActive (s : State) (i : Nat) : Bool := s.otp.ownerActive.testBit i && !s.otp.ownerRevoked.testBit i
def ownerIsEmpty (s : State) (i : Nat) : Bool := !s.otp.ownerActive.testBit i && !s.otp.ownerRevoked.testBit i

/-- The response bytes the host wrote to SEC_RESP_k (R553). -/
def respBytes (s : State) : List Nat := (List.range 61).flatMap (fun k => toBytes 4 (rdF s (SEC + 0x40 + k) 31 0))

/-- Is the signer allowed for a purpose (R553)? For ENROLL_OWNER with every slot EMPTY no signer is needed. -/
def signerOk (s : State) (purpose : Nat) (hash : Nat) : Bool :=
  if purpose = 4 ∨ purpose = 6 then
    (List.range 2).any (fun v => Config.otpVendorKey v == hash && !s.otp.vendorRevoked.testBit v)
  else (List.range 4).any (fun i => ownerIsActive s i && ownerHash s i == hash)

/-- ENROLL_OWNER needs no signature while every owner slot is EMPTY (R553). -/
def noSigner (s : State) (purpose : Nat) : Bool := purpose == 1 && (List.range 4).all (fun i => ownerIsEmpty s i)

/-- The states a purpose is allowed in (R553). -/
def purposeState (s : State) (purpose : Nat) : Bool :=
  match purpose with
  | 3 => true
  | 5 => true
  | 4 => s.sys.state == .hold
  | _ => s.sys.state == .hold || s.sys.state == .armed

/-- Is VDD1 within its operating range (R539)? Rail 4. -/
def vdd1Ok (s : State) : Bool := !s.sys.railsOut.contains 4

/-- Clear the tamper latches, if TAMPER_IN is inactive at that moment (R557). -/
def clearTamperEffect : Act := onCocoon fun _ c => { c with tamper := false, calStop := false, vbatLost := false }

/-- The slot and pin conditions of a purpose (R553, R557). -/
def purposeCond (s : State) (purpose arg : Nat) : Bool :=
  match purpose with
  | 1 => arg < 4 && ownerIsEmpty s arg && vdd1Ok s
  | 2 => arg < 4 && (List.range 4).any (fun i => i != arg && ownerIsActive s i) && vdd1Ok s
  | 3 => true
  | 4 => vdd1Ok s
  | 5 => (pinOf s 18).filt != s.cocoon.tamperCfg.testBit 14
  | 6 => arg < 2 && !s.otp.vendorRevoked.testBit (1 - arg) && vdd1Ok s
  | 7 => vdd1Ok s
  | _ => false

/-- Does a purpose blow a fuse? -/
def blowsFuse (purpose : Nat) : Bool := purpose != 3 && purpose != 5

/-- The effect of an accepted command (R553, R554, R557). -/
def purposeEffect (purpose arg argHash : Nat) : Act :=
  match purpose with
  | 1 => fun _ => [.fuse (.owner arg argHash)]
  | 2 => fun _ => [.fuse (.revokeOwner arg)]
  | 3 => onSec fun _ k => { k with debug := max k.debug 1 }
  | 4 => seq [fun _ => [.fuse .vendorDebugged], coldReset [causeDebug]]
  | 5 => clearTamperEffect
  | 6 => fun _ => [.fuse (.revokeVendor arg)]
  | 7 => fun _ => [.fuse .hostImageDis]
  | _ => nop

/-- SUBMIT: it consumes the challenge whatever its result; the checks follow the codes of R555 in order (DESIGN CHOICE: log entry 91), and
a SUBMIT that is not DONE is counted in CMD_FAIL (R553, R555). `fuseOk`: a blown fuse reads back blown. -/
def submit (m key : Nat) (fuseOk : Bool) : Act := fun s =>
  let fail (c : Nat) : Act := seq [onSec fun _ k => { k with challenge := none }, bump (SEC + 0x18) 35 24 1, secStatus c]
  if m != 1 then refused m (SEC + 0x30) true s else
  if key % 4096 != 0xC0C then fail 9 s else
  match s.sec.challenge with
  | none => fail 3 s
  | some (nonce, purpose, arg) =>
    let r := respBytes s
    let pub := r.take 97
    let argHash := (r.drop 100).take 48
    let digest := Config.sha384 (challengeBytes nonce purpose arg ++ argHash)
    if !noSigner s purpose && !signerOk s purpose (Config.sha384 pub) then fail 4 s
    else if !noSigner s purpose && !Config.ecdsaOk pub digest ((r.drop 148).take 96) then fail 5 s
    else if !purposeState s purpose then fail 6 s
    else if !purposeCond s purpose arg then fail 7 s
    else if blowsFuse purpose && !fuseOk then fail 8 s
    else seq [onSec fun _ k => { k with challenge := none }, secStatus 2, purposeEffect purpose arg (beNat argHash)] s

/-- ENROLL_OWNER: the SUBMIT that answers a challenge of purpose 1 (R553). -/
def execEnrollOwner (m key : Nat) (fuseOk : Bool) (s : State) : Host.Outcome State Fault Refusal := done (writing m (submit m key fuseOk)) s
/-- REVOKE_OWNER: purpose 2 (R553). -/
def execRevokeOwner (m key : Nat) (fuseOk : Bool) (s : State) : Host.Outcome State Fault Refusal := done (writing m (submit m key fuseOk)) s
/-- DEBUG_OBSERVE: purpose 3 (R553, R554); no fuse is blown. -/
def execDebugObserve (m key : Nat) (s : State) : Host.Outcome State Fault Refusal := done (writing m (submit m key true)) s
/-- DEBUG_FULL: purpose 4 (R554). -/
def execDebugFull (m key : Nat) (fuseOk : Bool) (s : State) : Host.Outcome State Fault Refusal := done (writing m (submit m key fuseOk)) s
/-- CLEAR_TAMPER: purpose 5 (R557). -/
def execClearTamper (m key : Nat) (s : State) : Host.Outcome State Fault Refusal := done (writing m (submit m key true)) s
/-- REVOKE_VENDOR: purpose 6 (R553). -/
def execRevokeVendor (m key : Nat) (fuseOk : Bool) (s : State) : Host.Outcome State Fault Refusal := done (writing m (submit m key fuseOk)) s
/-- HOST_IMAGE_DIS: purpose 7 (R553). -/
def execHostImageDis (m key : Nat) (fuseOk : Bool) (s : State) : Host.Outcome State Fault Refusal := done (writing m (submit m key fuseOk)) s

/-! ### Tamper (R556, R557) -/

/-- A Cocoon latch sets: counted in TAMPER_EVENTS and logged, at the next powered moment where unpowered (R556). -/
def tamperEvent (e : Event) : Act := fun s =>
  if s.sys.rails then seq [life 24 1, report (srcOf SEC) e 0 0] s
  else onCocoon (fun _ c => { c with unreported := c.unreported + 1 }) s

/-- A filtered level equal to LEVEL sets the TAMPER latch (R556). With LOCKOUT, a latch set in RUN erases every derived key (R557). -/
def tamperLatch : Act := when (fun s => (pinOf s 18).filt == s.cocoon.tamperCfg.testBit 14 && !s.cocoon.tamper) (seq [
  onCocoon fun _ c => { c with tamper := true }, tamperEvent .tamper,
  when (fun s => s.cocoon.tamperCfg.testBit 13 && s.sys.state == .run) (onSec fun _ k => { k with keys := [] })])

/-- TAMPER_IN over a history of levels, while ARMED is 1: every step whose filtered level is LEVEL latches (R556). Within a run of one
level the filtered level changes at most once, so the levels before and after it are all it takes. -/
def tamper (runs : List (Bool × Nat)) : Act := fun s =>
  if !s.cocoon.tamperCfg.testBit 15 || s.sys.state == .off then [] else
  each runs (fun r => when (fun _ => r.2 != 0) (seq [tamperLatch, stepPins 18 [r], tamperLatch])) s
def execTamper (runs : List (Bool × Nat)) (s : State) : Host.Outcome State Fault Refusal := done (tamper runs) s

/-- The calendar crystal stops for 1 s: CAL_STOP latches (R556). -/
def calStop : Act := fun s =>
  if s.sys.state == .off || s.cocoon.calStop then [] else
  seq [onCocoon fun _ c => { c with calStop := true }, tamperEvent .calStop] s
def execCalStop (s : State) : Host.Outcome State Fault Refusal := done calStop s

/-- The random source fails its continuous health test: requests that need randomness stop; a FAULT log entry and doorbell, no
latch, and rendering goes on (R542). -/
def rngFail : Act := seq [
  onSec fun _ k => { k with rngOk := false }, reportSev 3 (srcOf SEC) .rngFail 0 0, ringFault]
def execRngFail (s : State) : Host.Outcome State Fault Refusal := done rngFail s

/-! ### Attestation (R558) and the registers of 23 -/

/-- The latches of report byte 6 and SEC_STATUS.LATCH: TAMPER, CAL_STOP, VBAT_LOST, LOCKOUT, VENDOR_DEBUGGED. -/
def latchBits (s : State) : Nat :=
  b2n s.cocoon.tamper + 2 * b2n s.cocoon.calStop + 4 * b2n s.cocoon.vbatLost
  + 8 * b2n (s.cocoon.tamperCfg.testBit 13) + 16 * b2n s.otp.vendorDebugged

/-- SEC_STATUS. -/
def secStatusWord (s : State) : Word :=
  wd (s.sec.debug % 4 * 2 ^ 34 + b2n s.sec.rngOk * 2 ^ 33 + b2n (keyZero s).isSome * 2 ^ 32 + latchBits s * 2 ^ 27)

/-- OWNER state of a slot: 0 EMPTY, 1 ACTIVE, 2 REVOKED. -/
def ownerState (s : State) (i : Nat) : Nat :=
  if s.otp.ownerRevoked.testBit i then 2 else if s.otp.ownerActive.testBit i then 1 else 0

/-- SEC_OWNER_i. -/
def secOwnerWord (s : State) (i : Nat) : Word := wd (ownerState s i * 2 ^ 34 + ownerHash s i >>> 352)

/-- VENDOR_FLOOR: blown floor fuses times 4,096 (R545). -/
def vendorFloor (s : State) : Nat := (Config.otpVendorFloor0 + s.otp.floorBlown) * 4096

/-- Bytes 0-287 of the report (R558). -/
def attestBytes (s : State) (slot : Nat) : List Nat :=
  [0x41, 0x54, 0x54, 0x31, slot, s.sec.debug, latchBits s, 0xA1] ++ toBytes 8 Config.otpSerial
  ++ toBytes 2 s.img.fwVersion ++ toBytes 2 (vendorFloor s) ++ [s.otp.rollback, s.img.secVer]
  ++ [(List.range 4).foldl (fun a i => a + ownerState s i * 4 ^ i) 0, s.img.slot]
  ++ toBytes 4 (rdF s (SYS + 8) 31 0) ++ List.replicate 4 0
  ++ (List.range 8).flatMap (fun k => toBytes 4 (rdF s (SEC + 0x90 + k) 31 0))
  ++ toBytes 48 s.img.digest ++ toBytes 48 s.img.renderDigest ++ toBytes 8 s.cocoon.calSec
  ++ toBytes 8 (if counting s then s.wav.n else 0)
  ++ (Config.p384Pub (ownerScalar s slot)).take 97 ++ List.replicate 15 0

/-- GO in SEC_ATTEST_CTL: the report, signed with the device identity key, and DONE (R558). It needs the random source (R542). -/
def attestation (m slot : Nat) : Act := fun s =>
  if m != 1 then refused m (SEC + 0x98) true s else
  if !s.sec.rngOk then poke (SEC + 0x98) (wd (slot % 4)) s else
  let b := attestBytes s (slot % 4)
  let rep := b ++ Config.ecdsaSign Config.otpRoot Config.otpSerial (Config.sha384 b)
  seq [pokeList (SEC + 0x100) (packBytes rep 96), poke (SEC + 0x98) (wd (2 ^ 34 + slot % 4)), bump (SEC + 0x18) 11 0 1] s
def execAttestation (m slot : Nat) (s : State) : Host.Outcome State Fault Refusal := done (writing m (attestation m slot)) s

end Sys2Proof.Machine
end

