-- ==== Sys2Proof/Machine/Forward.lean ====
section
/-! DEFINITION. What the change requests share: who may make them, the forwarding of accepted changes to the partner (14:
R353-R355) and the period checks of every commit (08: R202 steps 1-5, R205). -/
namespace Sys2Proof.Machine
open Sys2Proof

/-- Is this a unit of a twin pair (DEVICE parameter TWIN, R93)? -/
def isTwin (s : State) : Bool := s.img.twin == 1

/-- The authoritative unit: SOLO, ACTIVE, or DETACHED for its own changes (R120, R202 step 2). -/
def authoritative (s : State) : Bool := s.sys.role == .solo || s.sys.role == .active || s.sys.role == .detached

/-- Does the partner's latest heartbeat show it in RUN (R355)? -/
def partnerRuns (s : State) : Bool := match s.twn.partner with
  | some b => b.state == DevState.run.ctorIdx
  | none => false

/-- The partner's filtered EMERG_IN as last reported; it stands while Tongs is lost (R130, R366; log entry 71). -/
def partnerPin (s : State) : Bool := match s.twn.partner with
  | some b => b.emerg
  | none => false

/-- Does an accepted change go to the partner: from the ACTIVE while Tongs is up (14: Roles)? -/
def forwards (s : State) : Bool := isTwin s && s.sys.role == .active && tongsUp s

/-- Is a forward needed before the ACCEPTED acknowledgement (R355)? -/
def forwardNeeded (s : State) : Bool := forwards s && partnerRuns s && !s.twn.fwdFail

/-- KIND of an item (R353). -/
def fwdKind : FwdItem → Nat
  | .scene _ => 1
  | .routeCommit _ _ => 2
  | .routeCancel => 3
  | .swap _ _ => 4
  | .swapCancel => 5
  | .args _ _ _ _ => 6
  | .argsCancel _ => 7
  | .clear _ _ => 8
  | .clearCancel => 9
  | .ready _ _ _ => 10
  | .readyCancel _ => 11
  | .handover _ => 12
  | .bankSum _ _ => 13

/-- The bytes of an item: 64-bit periods, 32-bit numbers, and words packed as R84 packs them (the packing is DEDUCED; log
entry 22). -/
def fwdItemBytes : FwdItem → List Nat
  | .scene b => b
  | .routeCommit p es => toBytes 8 p ++ toBytes 4 es.length ++ packWords ((es.map (fun e => [e.word0, e.v0, e.v1, e.w3])).flatten)
  | .swap p c => toBytes 8 p ++ packWords [c]
  | .args pr p f ws => toBytes 4 pr ++ toBytes 8 p ++ toBytes 4 f ++ toBytes 4 ws.length ++ packWords ws
  | .argsCancel pr => toBytes 4 pr
  | .clear p c => toBytes 8 p ++ packWords [c]
  | .ready i p t => toBytes 4 i ++ toBytes 8 p ++ toBytes 4 t
  | .readyCancel t => toBytes 4 t
  | .handover p => toBytes 8 p
  | .bankSum t v => toBytes 4 t ++ packWords [wd v]
  | _ => []

/-- The FORWARD body (R353). -/
def fwdBody (f : FwdOut) : List Nat :=
  toBytes 4 f.seq ++ [fwdKind f.item, 0, 0, 0] ++ toBytes 8 f.accept ++ fwdItemBytes f.item

/-- Forward an accepted change: numbered, sent, and outstanding until acknowledged (R353, R354). Nothing is forwarded by a
unit that is not ACTIVE with Tongs up. -/
def forward (item : FwdItem) (ack : Option AckTo) : Act := when forwards (fun s =>
  let f : FwdOut := { seq := s.twn.fwdSeq, item := item, accept := s.wav.n, ack := ack }
  seq [tongsSend 2 (fwdBody f),
       onTwn fun _ t => { t with fwdSeq := (t.fwdSeq + 1) % 2 ^ 32, fwdOut := t.fwdOut ++ [f] }] s)

/-- The checks of R202, steps 1-5, for a change submitted in period C for period P: the status code, or the P in force.
`held` says that step 3 finds a commit pending. -/
def commitCheck (s : State) (held : Bool) (p : Nat) : Nat ⊕ Nat :=
  let c := s.wav.n
  let p := if s.sys.role == .solo && p == 0 then c + 32 else p
  if s.sys.state != .run then .inl 0x0B
  else if !authoritative s then .inl 0x06
  else if held then .inl 0x07
  else if p < c + 32 then .inl 0x03
  else if c + 2 ^ 24 < p then .inl 0x04
  else .inr p

/-- The outcome of a CANCEL (R205, R233): NOT_ACTIVE on a STANDBY, whatever it holds; on any other unit NONE_PENDING, TOO_LATE, or 0x08
CANCELLED. -/
def cancelCheck (s : State) (pend : Option Nat) : Nat :=
  if s.sys.role == .standby then 0x06
  else match pend with
    | none => 0x0A
    | some p => if s.wav.n + 32 ≤ p then 0x08 else 0x09

/-- Is a source number in a reserved range (R47)?. -/
def sourceReserved (c : Nat) : Bool := (0x510 ≤ c && c ≤ 0x5FF) || 0x680 ≤ c

end Sys2Proof.Machine
end

