-- ==== Sys2Proof/Machine/Audio.lean ====
section
/-! DEFINITION. The local audio ports and the capture engine (20: R482-R499; 07: R165; 08: R207-R209 for TDM). -/
namespace Sys2Proof.Machine
open Sys2Proof

/-! ### TDM (R482-R488) -/

def TdmPort.init : TdmPort := { st := 0, held := [], good := 0, fifo := [], last := [] }
def tdmOf (s : State) (p : Nat) : TdmPort := sparseGet (fun _ => TdmPort.init) s.aud.tdm p
def setTdm (p : Nat) (f : TdmPort → TdmPort) : Act := onAud fun s a =>
  { a with tdm := sparseSet (fun _ => TdmPort.init) a.tdm p (f (tdmOf s p)) }

/-- TDM_n_CFG and its fields (R483, R485). -/
def tdmCfg (m : Rd) (p : Nat) : Word := m (TDM + 16 * p)
def tdmEn (m : Rd) (p : Nat) : Bool := flag (tdmCfg m p) 35
def tdmMaster (m : Rd) (p : Nat) : Bool := flag (tdmCfg m p) 34
def tdmWidth (m : Rd) (p : Nat) : Nat := if fld (tdmCfg m p) 29 28 = 0 then 16 else if fld (tdmCfg m p) 29 28 = 1 then 24 else 32
def tdmSlots (m : Rd) (p : Nat) : Nat := fld (tdmCfg m p) 24 19

/-- Ports that take part: enabled, in ARMED, RUN or SAFE, with XO running (R488, R336). -/
def tdmLive (s : State) (p : Nat) : Bool := p < 8 && tdmEn (rd s) p && counting s && !s.qch.xoStopped

/-- A slip of a port: its own count and SLIP (R165). -/
def slipIn (p : Nat) : Act := seq [bump (TDM + 16 * p + 2) 35 24 1, bump (WAV + 3) 11 0 1]
def slipOut (p : Nat) : Act := bump (TDM + 16 * p + 2) 23 12 1

/-- A port's change of state writes a log entry (R488). -/
def tdmState (p st : Nat) : Act := fun s =>
  if (tdmOf s p).st = st then [] else
  seq [setTdm p fun t => { t with st := st }, report (srcOf TDM) .tdmStopped p st] s

/-- FRAME_SLOTS, and the framing bits BCLK_INV, FS_INV, FS_PULSE, DELAY (R482, R484). -/
def tdmFrameSlots (m : Rd) (p : Nat) : Nat := 2 ^ fld (tdmCfg m p) 27 25
def tdmBclkInv (m : Rd) (p : Nat) : Bool := flag (tdmCfg m p) 33
def tdmFsInv (m : Rd) (p : Nat) : Bool := flag (tdmCfg m p) 32
def tdmFsPulse (m : Rd) (p : Nat) : Bool := flag (tdmCfg m p) 31
def tdmDelay (m : Rd) (p : Nat) : Nat := b2n (flag (tdmCfg m p) 30)

/-- A line's level at the edge of BCLK on which it is sampled, of its levels at the rising and at the falling edge (R484). -/
def tdmSampled (m : Rd) (p : Nat) (e : Bool × Bool) : Bool := if tdmBclkInv m p then e.2 else e.1

/-- Is a frame, told by FSYNC's levels from one start to the next, of the right length: active at its start, 32 × FRAME_SLOTS bit clocks
long, with no other start within (R484, R488)? -/
def tdmFrameOk (m : Rd) (p : Nat) (fsync : List (Bool × Bool)) : Bool :=
  let act := fsync.map (fun e => tdmSampled m p e != tdmFsInv m p)
  act.headD false && act.length == 32 * tdmFrameSlots m p && !(act.dropWhile (· == true)).contains true

/-- The data words of a frame on DIN: slot i's WIDTH bits, most significant first, left-justified in its 32, the first bit of slot 0 in the
frame's first bit clock or, with DELAY, in its second (R483, R484). -/
def tdmWords (m : Rd) (p : Nat) (din : List (Bool × Bool)) : List Nat :=
  let bs := (din.map (tdmSampled m p)).drop (tdmDelay m p)
  (List.range (tdmSlots m p)).map (fun i => ((bs.drop (32 * i)).take (tdmWidth m p)).foldl (fun a b => 2 * a + b2n b) 0)

/-- A port that returns to RUNNING flushes its output FIFO (R13, R488). -/
def tdmRuns (p : Nat) : Act := fun s =>
  if (tdmOf s p).st = 1 then [] else seq [setTdm p fun t => { t with fifo := [] }, tdmState p 1] s

/-- TDM_INPUT_FRAME: a frame completes on DIN: the levels of FSYNC and DIN at the rising and falling edge of each bit clock, those of FSYNC
up to the next start. A target-mode frame of the wrong length is discarded and counted (R488). A running port holds the frame for the
stager, in its FIFO of four (R13, R487); a port that is not running returns to RUNNING after four valid frames in a row, a master port at
once. -/
def tdmInputFrame (p : Nat) (fsync din : List (Bool × Bool)) : Act := fun s =>
  if !tdmLive s p then [] else
  if !tdmFrameOk (rd s) p fsync && !tdmMaster (rd s) p then
    seq [bump (TDM + 16 * p + 2) 11 0 1, setTdm p fun t => { t with good := 0 }] s
  else
    let fr := (tdmWords (rd s) p din).map (fun v => (intToF36 (tdmWidth (rd s) p) v).toInt)
    seq [setTdm p fun t => { t with good := min 4 (t.good + 1) },
         fun s => if tdmMaster (rd s) p || 4 ≤ (tdmOf s p).good then tdmRuns p s else [],
         fun s => if (tdmOf s p).st != 1 then [] else
           seq [when (fun s => 4 ≤ (tdmOf s p).held.length)
                  (seq [setTdm p fun t => { t with held := t.held.drop 1 }, slipIn p]),
                setTdm p fun t => { t with held := t.held ++ [fr] }] s] s
def execTdmInputFrame (p : Nat) (fsync din : List (Bool × Bool)) (s : State) : Host.Outcome State Fault Refusal :=
  done (tdmInputFrame p fsync din) s

/-- A data word in its slot on DOUT: WIDTH bits, most significant first, then zeros (R483). -/
def tdmSlotBits (w : Nat) (v : Int) : List Bool :=
  (List.range 32).map (fun j => j < w && (v % 2 ^ w).toNat.testBit (w - 1 - j))

/-- What the port drives for a frame of data words: slots past SLOTS carry zero; FSYNC, in master mode, is active for the first half of the
frame or for one bit clock (R482-R485). -/
def tdmDrives (m : Rd) (p : Nat) (slots : List Int) : TdmOut :=
  let n := tdmFrameSlots m p
  { slots := slots,
    bits := (List.range n).flatMap (fun i => tdmSlotBits (tdmWidth m p) (slots.getD i 0)),
    first := tdmDelay m p,
    fsync := if tdmMaster m p then (List.range (32 * n)).map (fun k => decide (k < (if tdmFsPulse m p then 1 else 16 * n)) != tdmFsInv m p)
             else [],
    falling := !tdmBclkInv m p }

/-- The frame that starts now carries a released period below `before`: the oldest that no frame has sent; of two waiting the older is
discarded, with none the last frame is repeated, each counted in SLIP_OUT (R486, R487). -/
def tdmSend (p before : Nat) : Act := fun s =>
  let t := tdmOf s p
  let ready := t.fifo.filter (fun e => e.1 < before)
  match ready.getLast? with
  | none => seq [slipOut p,
      emit (.tdm p (tdmDrives (rd s) p (if t.last.isEmpty then List.replicate (tdmSlots (rd s) p) 0 else t.last)))] s
  | some fr => seq [
      each (List.range (ready.length - 1)) (fun _ => slipOut p),
      setTdm p fun t => { t with fifo := t.fifo.filter (fun e => before ≤ e.1), last := fr.2 },
      emit (.tdm p (tdmDrives (rd s) p fr.2))] s

/-- TDM_OUTPUT_FRAME: a frame starts `ns` after the latest tick, that of period n. From 100 ns on it is a frame of n, which may carry
released samples up to those of n - 1; before, one of n - 1; in the same instant a target port's frame is either (R486). In ARMED the frame
carries zeros (R71). A port that is not running sends none: its DOUT is frozen (R488). -/
def tdmOutputFrame (f : TdmStart) : Act := fun s =>
  if !tdmLive s f.port || (tdmOf s f.port).st != 1 then []
  else if s.sys.state == .armed then emit (.tdm f.port (tdmDrives (rd s) f.port (List.replicate (tdmSlots (rd s) f.port) 0))) s
  else if tdmMaster (rd s) f.port || 100 < f.ns then tdmSend f.port s.wav.n s
  else if f.ns < 100 then tdmSend f.port (s.wav.n - 1) s
  else draw 486 (fun v => fun s => tdmSend f.port (s.wav.n - v % 2) s) s
def execTdmOutputFrame (p : TdmStart) (s : State) : Host.Outcome State Fault Refusal := done (tdmOutputFrame p) s

/-- TDM_PORT_STOPPED: no valid frame for four frame times: the target port stops, its sources go missing and its output FIFO
is flushed (R488, R13). -/
def tdmPortStopped (p : Nat) : Act := fun s =>
  if !tdmLive s p then [] else
  seq [tdmState p 2, setTdm p fun t => { t with good := 0, held := [], fifo := [] }] s
def execTdmPortStopped (p : Nat) (s : State) : Host.Outcome State Fault Refusal := done (tdmPortStopped p) s

/-- The valid destination words by channel or slot they name: kind, unit, channel, feed (R207). -/
structure Dest where
  kind : Nat
  unit : Nat
  chan : Nat
  feed : Nat
deriving DecidableEq, Repr

/-- A destination word (R207). -/
def destOf (w : Word) (feed : Nat) : Dest :=
  { kind := fld w 34 32, unit := fld w 14 8, chan := fld w 5 0, feed := feed }
/-- Every valid destination of the table. -/
def destMap (m : Rd) : List Dest :=
  (List.range 4096).filterMap (fun i =>
    let w := m (tblDest + i)
    if flag w 35 then some (destOf w (i / 4)) else none)

/-- The frame of a port for a released period: the n-bit samples of the feeds that name its slots (R209, R31), and the feeds
that clipped. -/
def tdmFrame (m : Rd) (ds : List Dest) (rel : Nat → Int) (p : Nat) : List Int × List Nat :=
  let w := tdmWidth m p
  let one (i : Nat) : Int × List Nat :=
    match ds.find? (fun d => d.kind == 1 && d.unit == p && d.chan == i) with
    | none => (0, [])
    | some d => let v := f36ToInt w (wdI (rel d.feed)); (v.1, if v.2 then [d.feed] else [])
  let l := (List.range (tdmSlots m p)).map one
  (l.map (·.1), (l.map (·.2)).flatten)

/-- Hand the released period n to the TDM ports that run, whose FIFOs hold four; the FIFO of a stopped port is frozen (R13, R26, R177). -/
def tdmRelease (ds : List Dest) (n : Nat) (rel : Nat → Int) : Act := fun s =>
  each ((List.range 8).filter (fun p => tdmLive s p && (tdmOf s p).st == 1)) (fun p =>
    setTdm p fun t => { t with fifo := (t.fifo ++ [(n, (tdmFrame (rd s) ds rel p).1)]).drop (t.fifo.length + 1 - 4) }) s

/-- Feeds whose conversion for a TDM slot saturates (R209). -/
def tdmClips (s : State) (ds : List Dest) (rel : Nat → Int) : List Nat :=
  (((List.range 8).filter (fun p => tdmLive s p)).map (fun p => (tdmFrame (rd s) ds rel p).2)).flatten

/-! ### PDM (R490-R494) -/

def PdmIn.init : PdmIn := { held := [], settle := 0, clockOk := true, stuck := false, dec := 0, logged := false }
def pdmOf (s : State) (k : Nat) : PdmIn := sparseGet (fun _ => PdmIn.init) s.aud.pdm k
def setPdm (k : Nat) (f : PdmIn → PdmIn) : Act := onAud fun s a =>
  { a with pdm := sparseSet (fun _ => PdmIn.init) a.pdm k (f (pdmOf s k)) }

def pdmCfg (m : Rd) (k : Nat) : Word := m (PDM + 0x10 + k)
def pdmPreset (m : Rd) (k : Nat) : Nat := fld (pdmCfg m k) 3 0
/-- Is the input in use: enabled, with a preset that is not OFF (R492)? -/
def pdmEn (m : Rd) (k : Nat) : Bool := flag (pdmCfg m k) 35 && pdmPreset m k != 0

/-- The Settle count of a preset (R492). -/
def settleOf (preset : Nat) : Nat := if preset = 1 then 80 else if preset = 2 then 24 else if preset = 3 then 2048 else 0

/-- Does the clock of an input run: enabled, in ARMED, RUN or SAFE, and not stopped (R490, R493)? -/
def pdmRuns (s : State) (k : Nat) : Bool := flag (rd s (PDM + k / 4)) 35 && counting s && (pdmOf s k).clockOk
/-- The decimation ratio of an input's clock (R490). -/
def pdmRatio (m : Rd) (k : Nat) : Nat := if flag (m (PDM + k / 4)) 0 then 32 else 64
/-- The bits of an input from its data line's levels at the rising and falling edges of its clock: EDGE chooses, INVERT exchanges (R490,
R491). -/
def pdmBits (m : Rd) (k : Nat) (l : List (Bool × Bool)) : List Bool :=
  l.map (fun e => (if flag (pdmCfg m k) 34 then e.2 else e.1) != flag (pdmCfg m k) 33)

/-- PDM_OUTPUT_SAMPLE: the decimator of input k turns the bits of a period, told by the line's levels at the edges of its clock, into a
sample (R491; log entry 90). An unsettled sample counts the settle count down and is marked (R494); the FIFO holds four (R13). -/
def pdmOutputSample (k : Nat) (line : List (Bool × Bool)) : Act := fun s =>
  if 16 ≤ k || !pdmEn (rd s) k || !pdmRuns s k then [] else
  let p := pdmOf s k
  let o := Config.pdmStep (pdmPreset (rd s) k) (pdmRatio (rd s) k) p.dec (pdmBits (rd s) k line)
  seq [when (fun _ => 4 ≤ p.held.length) (bump (WAV + 3) 11 0 1),
       setPdm k fun p => { p with held := (if 4 ≤ p.held.length then p.held.drop 1 else p.held) ++ [(sat36 o.2, p.settle == 0)],
                                  settle := p.settle - 1, dec := o.1 }] s
def execPdmOutputSample (k : Nat) (v : List (Bool × Bool)) (s : State) : Host.Outcome State Fault Refusal :=
  done (pdmOutputSample k v) s

/-- PDM_CLOCK_STOP: clock c stops; the inputs it serves go missing and CLOCK_STOP is counted (R493). -/
def pdmClockStop (c : Nat) : Act := fun s =>
  let ks := (List.range 4).map (fun i => 4 * c + i)
  if 4 ≤ c || !ks.any (pdmEn (rd s)) then [] else
  seq [bump (PDM + 0x30) 35 24 1, report (srcOf PDM) .pdmStop c 0,
       each (ks.filter (pdmEn (rd s))) (fun k => setPdm k fun p => { p with clockOk := false, held := [] })] s
def execPdmClockStop (c : Nat) (s : State) : Host.Outcome State Fault Refusal := done (pdmClockStop c) s

/-- PDM_CLOCK_RETURN: the inputs of clock c settle anew (R494). -/
def pdmClockReturn (c : Nat) : Act := fun s =>
  let ks := (List.range 4).map (fun i => 4 * c + i)
  if 4 ≤ c then [] else
  each (ks.filter (fun k => !(pdmOf s k).clockOk)) (fun k =>
    setPdm k fun p => { p with clockOk := true, settle := settleOf (pdmPreset (rd s) k) }) s
def execPdmClockReturn (c : Nat) (s : State) : Host.Outcome State Fault Refusal := done (pdmClockReturn c) s

/-- PDM_STUCK: a line has stayed at one level for 65,536 cycles, counted; or (stuck = false) makes its first transition after that, which
clears STUCK and is logged at most once a second (R493). Its samples stay present. -/
def pdmStuck (k : Nat) (stuck : Bool) : Act := fun s =>
  if 16 ≤ k || (pdmOf s k).stuck == stuck then [] else
  seq [when (fun _ => stuck) (bump (PDM + 0x30) 23 12 1),
       when (fun s => !stuck && !(pdmOf s k).logged) (report (srcOf PDM) .pdmStuck k 0),
       setPdm k fun p => { p with stuck := stuck, logged := p.logged || !stuck }] s
def execPdmStuck (k : Nat) (stuck : Bool) (s : State) : Host.Outcome State Fault Refusal := done (pdmStuck k stuck) s

/-- The ports on entry to ARMED: master ports run at once, target ports synchronise, what was released before is sent no more (R69); enabled
PDM inputs settle (R488, R494). -/
def audioArmed : Act := seq [
  fun s => each ((List.range 8).filter (fun p => tdmEn (rd s) p)) (fun p =>
    seq [setTdm p fun t => { t with st := if t.st = 0 then 3 else t.st, fifo := [], last := [] },
         fun s => if tdmMaster (rd s) p then tdmState p 1 s else []]) s,
  fun s => each ((List.range 16).filter (fun k => pdmEn (rd s) k)) (fun k =>
    setPdm k fun p => { p with settle := settleOf (pdmPreset (rd s) k), held := [] }) s]

/-! ### What a tick takes (R165) -/

/-- One port's or input's queue at a tick: the oldest of the newest two, what stays, and how many slips. -/
def takeOldest {α : Type} (q : List α) : Option α × List α × Nat :=
  let q2 := q.drop (q.length - 2)
  (q2.head?, q2.drop 1, (q.length - q2.length) + (if q2.isEmpty then 1 else 0))

/-- The samples of the local ports present at a tick: source and sample. -/
def localInputs (s : State) : List (Nat × Int) :=
  ((List.range 8).filter (fun p => tdmEn (rd s) p)).flatMap (fun p =>
    match (takeOldest (tdmOf s p).held).1 with
    | some fr => if (tdmOf s p).st = 1 then fr.zipIdx.map (fun e => (0x400 + 32 * p + e.2, e.1)) else []
    | none => [])
  ++ ((List.range 16).filter (fun k => pdmEn (rd s) k)).filterMap (fun k =>
    match (takeOldest (pdmOf s k).held).1 with
    | some (v, settled) => if settled && (pdmOf s k).clockOk then some (0x500 + k, v) else none
    | none => none)

/-- The frames a tick uses and discards; slips are counted from RUN on (log entry 27). -/
def takeLocal (count : Bool) : Act := fun s => seq [
  each ((List.range 8).filter (fun p => tdmEn (rd s) p)) (fun p => seq [
    each (List.range (if count then (takeOldest (tdmOf s p).held).2.2 else 0)) (fun _ => slipIn p),
    setTdm p fun t => { t with held := (takeOldest t.held).2.1 }]),
  each ((List.range 16).filter (fun k => pdmEn (rd s) k)) (fun k => seq [
    when (fun _ => count) (bump (WAV + 3) 11 0 (takeOldest (pdmOf s k).held).2.2),
    setPdm k fun p => { p with held := (takeOldest p.held).2.1 }])] s

/-! ### The capture engine (R496-R499) -/

/-- PDM_CAP_STATUS.STATUS. -/
def capStatus (code : Nat) : Act := pokeF (PDM + 0x10D) 7 0 code

/-- CAPTURE_START: GO in PDM_CAP_CTL (R498). `m` is Hearth or the host. -/
def captureStart (m count : Nat) : Act := fun s =>
  if 1 < m then refused m (PDM + 0x10C) true s else
  let c := s.wav.n
  let p := rdPair s (PDM + 0x10A)
  let align := rdF s TWN 35 33
  let base := rdF s (PDM + 0x108) 31 0
  let len := rdF s (PDM + 0x109) 31 0
  let bad := count = 0 || 8 < count || (List.range count).any (fun i => sourceReserved (rdF s (PDM + 0x100 + i) 10 0))
    || base < 0x10100000 || len = 0 || 524288 < len || 0x101FFFFF < base + len * (count + 1) - 1
  if s.sys.state != .run || (align != 0 && align != 5) then capStatus 8 s
  else if s.aud.cap.isSome then capStatus 7 s
  else if p < c + 32 then capStatus 4 s
  else if c + 2 ^ 24 < p then capStatus 5 s
  else if bad then capStatus 6 s
  else seq [capStatus 1, pokeF (PDM + 0x10D) 28 8 0,
            onAud fun _ a => { a with cap := some (p, count), capRun := false, capStop := false }] s
def execCaptureStart (m count : Nat) (s : State) : Host.Outcome State Fault Refusal := done (writing m (captureStart m count)) s

/-- CAPTURE_CANCEL: a pending capture ends at once, a running one after the record of this period (R499). -/
def captureCancel (m : Nat) : Act := fun s =>
  if 1 < m then refused m (PDM + 0x10C) true s else
  match s.aud.cap with
  | none => capStatus 10 s
  | some _ =>
    if s.aud.capRun && s.wav.flight.isSome then onAud (fun _ a => { a with capStop := true }) s
    else seq [onAud fun _ a => { a with cap := none, capRun := false }, capStatus 9, report (srcOf PDM) .captureDone 9 0] s
def execCaptureCancel (m : Nat) (s : State) : Host.Outcome State Fault Refusal := done (writing m (captureCancel m)) s

/-- The record of period n (R497): the presented samples of the channels and the flag word. -/
def captureRecord (n : Nat) (presented : Nat → Int) (missing : List Nat) (unsettled : List Nat) : Act := fun s =>
  match s.aud.cap with
  | none => []
  | some (p, count) =>
    if n < p then [] else
    let i := n - p
    let len := rdF s (PDM + 0x109) 31 0
    let base := rdF s (PDM + 0x108) 31 0
    let srcs := (List.range count).map (fun c => rdF s (PDM + 0x100 + c) 10 0)
    let bitsOf (l : List Nat) : Nat := (srcs.zipIdx.map (fun e => if l.contains e.1 then 2 ^ e.2 else 0)).foldl (· + ·) 0
    let ws := srcs.map (fun c => wdI (presented c)) ++ [wd (bitsOf missing + bitsOf unsettled * 2 ^ 8)]
    seq [pokeList (base + i * (count + 1)) ws,
         pokeF (PDM + 0x10D) 28 8 (i + 1),
         (if len ≤ i + 1 then seq [onAud fun _ a => { a with cap := none, capRun := false, capStop := false },
                                   capStatus 3, ringMeter, report (srcOf PDM) .captureDone 3 0]
          else if s.aud.capStop then seq [onAud fun _ a => { a with cap := none, capRun := false, capStop := false },
                                          capStatus 9, report (srcOf PDM) .captureDone 9 0]
          else seq [onAud fun _ a => { a with capRun := true }, capStatus 2])] s

end Sys2Proof.Machine
end

