-- ==== Sys2Proof/Machine/SceneCmds.lean ====
section
/-! DEFINITION. Scene commands as data: parsing (05: R118, R119, R126), the checks on their fields (R121 step 7), and what they
do to the tables at a boundary (R115, R116, R119, R122, R127, R128). The tables under change are an overlay of words over the
memory: the same functions serve Locator, which works ahead, and the boundary itself. -/
namespace Sys2Proof.Machine
open Sys2Proof

/-! ### Parsing (R119) -/

/-- A wire word of five bytes; none when its high nibble is not zero. -/
def wireWord (b : List Nat) : Option Word :=
  match b with
  | [a, b1, b2, b3, b4] => if 16 ≤ a then none else some (wd (beNat [a, b1, b2, b3, b4]))
  | _ => none

/-- `n` wire words filling the bytes exactly. -/
def wireWords : Nat → List Nat → Option (List Word)
  | 0, b => if b.isEmpty then some [] else none
  | n + 1, b => match wireWord (b.take 5), wireWords n (b.drop 5) with
    | some w, some ws => some (w :: ws)
    | _, _ => none

/-- Wire words of OBJECT_SET FIELDS bit i, and of TARGET_SET. -/
def objFieldWords (i : Nat) : Nat := if i = 3 then 3 else 1
def tgtFieldWords (i : Nat) : Nat := if i = 1 then 3 else 1

/-- Number of words a FIELDS mask brings. -/
def fieldWords (n : Nat) (sz : Nat → Nat) (fields : Nat) : Nat :=
  (((List.range n).filter (fun i => fields.testBit i)).map sz).foldl (· + ·) 0

/-- `n` keyframes of 27 bytes. -/
def parseKf : Nat → List Nat → Option (List (Nat × Nat × List Word))
  | 0, b => if b.isEmpty then some [] else none
  | n + 1, b =>
    match wireWords 3 ((b.drop 12).take 15), parseKf n (b.drop 27) with
    | some ws, some r =>
      if 27 ≤ b.length ∧ (b.drop 9).take 3 = [0, 0, 0] then some ((beAt b 0 8, b.getD 8 0, ws) :: r) else none
    | _, _ => none

/-- One command; none is a FORMAT error (R119). DESIGN CHOICE (log entry 23): the spec's list of FORMAT failures and that of RANGE both
leave out COUNT outside 1-8, MODE and STATE above 1, and FIELDS that are zero or have upper bits set; all are taken as FORMAT. -/
def parseCmd (op : Nat) (b : List Nat) : Option SceneCmd :=
  if op = 0x0001 then
    let f := beAt b 2 2
    if 4 ≤ b.length ∧ f ≠ 0 ∧ f < 256 then
      (wireWords (fieldWords 8 objFieldWords f) (b.drop 4)).map (SceneCmd.objectSet (beAt b 0 2) f)
    else none
  else if op = 0x0002 then
    let n := b.getD 3 0
    if 4 ≤ b.length ∧ 1 ≤ n ∧ n ≤ 8 ∧ b.getD 2 0 ≤ 1 then
      (parseKf n (b.drop 4)).map (SceneCmd.keyframes (beAt b 0 2) (b.getD 2 0 == 1))
    else none
  else if op = 0x0010 then
    let f := beAt b 2 2
    if 4 ≤ b.length ∧ b.getD 1 0 = 0 ∧ f ≠ 0 ∧ f < 16 then
      (wireWords (fieldWords 4 tgtFieldWords f) (b.drop 4)).map (SceneCmd.targetSet (b.getD 0 0) f)
    else none
  else if op = 0x0020 then
    if b.length = 4 ∧ b.getD 1 0 = 0 then some (.recall (b.getD 0 0) (beAt b 2 2)) else none
  else if op = 0x0030 then
    if b.length = 4 ∧ b.drop 1 = [0, 0, 0] ∧ b.getD 0 0 ≤ 1 then some (.announce (b.getD 0 0 == 1)) else none
  else none

/-- Commands back to back, on fuel; none is a FORMAT error with the index of the command at fault. -/
def parseCmds : Nat → Nat → List Nat → Nat ⊕ List SceneCmd
  | 0, i, b => if b.isEmpty then .inr [] else .inl i
  | f + 1, i, b =>
    if b.isEmpty then .inr []
    else if b.length < 4 then .inl i
    else
      let n := beAt b 2 2
      if b.length < 4 + n then .inl i
      else match parseCmd (beAt b 0 2) ((b.drop 4).take n) with
        | none => .inl i
        | some c => match parseCmds f (i + 1) (b.drop (4 + n)) with
          | .inl j => .inl j
          | .inr r => .inr (c :: r)

/-- A frame from MAGIC to the end of its commands, parsed (R118). `host`: PEER is 0xFF (R125). -/
structure SceneHdr where
  flags : Nat
  peer : Nat
  counter : Nat
  applyAt : Nat
  cmds : List SceneCmd
deriving DecidableEq, Repr

/-- The frame, or the index of the command at fault (0xFFFF for none) (R118, R119). -/
def parseFrame (host : Bool) (b : List Nat) : Nat ⊕ SceneHdr :=
  let body := b.drop 32
  if b.length < 36 ∨ b.take 5 ≠ [0x53, 0x43, 0x4E, 0x31, 1] ∨ 4 ≤ b.getD 5 0 ∨ b.getD 7 0 = 0
      ∨ beAt b 24 4 ≠ body.length ∨ 8144 < body.length ∨ (b.drop 28).take 4 ≠ [0, 0, 0, 0]
      ∨ (b.getD 6 0 == 0xFF) ≠ host then .inl 0xFFFF
  else match parseCmds body.length 0 body with
    | .inl i => .inl i
    | .inr cs => if cs.length = b.getD 7 0 then
        .inr { flags := b.getD 5 0, peer := b.getD 6 0, counter := beAt b 8 8, applyAt := beAt b 16 8, cmds := cs }
      else .inl 0xFFFF

/-! ### Field checks (R106, R108, R121 step 7) -/

/-- The groups of a FIELDS mask with their words. -/
def fieldGroups (n : Nat) (sz : Nat → Nat) (fields : Nat) (ws : List Word) : List (Nat × List Word) :=
  (((List.range n).filter (fun i => fields.testBit i)).foldl
    (fun (acc : List (Nat × List Word) × List Word) i => (acc.1 ++ [(i, acc.2.take (sz i))], acc.2.drop (sz i))) ([], ws)).1

/-- Is a value of an OBJECT_SET group in the range of R108? -/
def objValueOk (i : Nat) (ws : List Word) : Bool :=
  let v := (ws.headD 0).toNat
  match i with
  | 0 => v < 0x800 && !sourceReserved v
  | 1 => v < 256
  | 4 => v ≤ 0x0B400000
  | 5 => v < 2 ^ 16
  | 6 => v < 64
  | 7 => v < 4096
  | _ => true

/-- Is a value of a TARGET_SET group in the range of R106? -/
def tgtValueOk (i : Nat) (ws : List Word) : Bool := i != 3 || (ws.headD 0).toNat < 32

/-- The words of a stored scene's bytes (R125, R126), and its commands; none when the directory entry is not VALID or the bytes
do not parse. -/
def storedScene (m : Rd) (i : Nat) : Option (List SceneCmd) :=
  if 64 ≤ i then none else
  let w := m (tblSceneDir + 2 * i + 1)
  if flag w 35 then
    let n := fld w 17 0
    let st := fld (m (tblSceneDir + 2 * i)) 15 0
    let b := (((List.range ((n + 3) / 4)).map (fun k => toBytes 4 (fld (m (tblSceneBody + st + k)) 31 0))).flatten).take n
    match parseCmds b.length 0 b with
    | .inr cs => some cs
    | .inl _ => none
  else none

/-- The chain of an object at B: slot 0 and what is left above it (R114). -/
def chainAt (m : Rd) (o b : Nat) : (Nat × Nat × List Int) × List (Nat × Nat × List Int) :=
  kfAdvance b 9 (kfZero m o) (kfPending m o)

/-- Keyframes of a command against R115: the new chain, or RANGE (0x11) or KEYFRAME_FULL (0x15). DESIGN CHOICE (log entry 67): slot 0 is
the start of a segment and no segment ends there; its INTERP, which R115 and R116 leave open, is written as 2, HOLD. -/
def applyKf (m : Rd) (o b : Nat) (append : Bool) (kf : List (Nat × Nat × List Word)) :
    Nat ⊕ ((Nat × Nat × List Int) × List (Nat × Nat × List Int)) :=
  let c := chainAt m o b
  let pos := kfPos b c.1 c.2
  let base := if append then c.2 else []
  let last := (base.map (fun k => k.2.1)).foldl max b
  let new : List (Nat × Nat × List Int) := kf.map (fun k => (k.2.1, k.1, k.2.2.map si))
  let rising := (new.foldl (fun (acc : Bool × Nat) k => (acc.1 && acc.2 < k.2.1 && k.2.1 ≤ b + 2 ^ 24, k.2.1)) (true, last)).1
  if !rising || new.any (fun k => 2 < k.1) then .inl 0x11
  else if 8 < base.length + new.length then .inl 0x15
  else .inr ((2, b, pos), base ++ new)

/-- Step 7 of R121 for one command against the tables: 0, RANGE, KEYFRAME_FULL or SCENE_INDEX. -/
def cmdCheck (m : Rd) (b : Nat) (c : SceneCmd) : Nat :=
  match c with
  | .objectSet o f ws =>
    if o < 1024 && (fieldGroups 8 objFieldWords f ws).all (fun g => objValueOk g.1 g.2) then 0 else 0x11
  | .keyframes o ap kf => if 1024 ≤ o then 0x11 else match applyKf m o b ap kf with
    | .inl e => e
    | .inr _ => 0
  | .targetSet t f ws =>
    if t < 8 && (fieldGroups 4 tgtFieldWords f ws).all (fun g => tgtValueOk g.1 g.2) then 0 else 0x11
  | .recall i mo => if (storedScene m i).isNone then 0x1A else if 4096 < mo then 0x11 else 0
  | .announce _ => 0

/-! ### Applying (R115, R116, R119, R127) -/

/-- Words under change, newest first, over the memory. -/
abbrev Tab := List (Nat × Word)

/-- Read through an overlay. -/
def tabRd (m : Rd) (t : Tab) : Rd := fun a => match t.find? (fun e => e.1 == a) with
  | some e => e.2
  | none => m a

/-- Put consecutive words into an overlay. -/
def tabPut (a : Nat) (ws : List Word) (t : Tab) : Tab :=
  (ws.zipIdx.map (fun e => (a + e.2, e.1))).reverse ++ t

/-- One group of OBJECT_SET (R116, R119): a POSITION is a jump, slot 0 becomes (B, position) and every other slot invalid. -/
def objGroup (o b i : Nat) (ws : List Word) (t : Tab) : Tab :=
  match i with
  | 0 => tabPut (objW o 0) ws t
  | 1 => tabPut (objW o 1) ws t
  | 2 => tabPut (objW o 2) ws t
  | 3 => tabPut (objW o 3) ws (tabPut (objW o 16) (kfWords (2, b, ws.map si) []) t)
  | 4 => tabPut (objW o 6) ws t
  | 5 => tabPut (objW o 7) ws t
  | 6 => tabPut (objW o 8) ws t
  | _ => tabPut (objW o 9) ws t

/-- One group of TARGET_SET. -/
def tgtGroup (k i : Nat) (ws : List Word) (t : Tab) : Tab :=
  match i with
  | 0 => tabPut (tgtW k 6) ws t
  | 1 => tabPut (tgtW k 7) ws t
  | 2 => tabPut (tgtW k 10) ws t
  | _ => tabPut (tgtW k 5) ws t

/-- A command other than a recall: the tables it leaves, or the code that fails its frame. With `morph` > 0 a POSITION becomes
a REPLACE trajectory with one LINEAR keyframe at B + 16 morph (R127). -/
def applyCmd (m : Rd) (b morph : Nat) (t : Tab) (c : SceneCmd) : Nat ⊕ Tab :=
  match c with
  | .objectSet o f ws =>
    let gs := fieldGroups 8 objFieldWords f ws
    if morph = 0 then .inr (gs.foldl (fun t g => objGroup o b g.1 g.2 t) t)
    else
      let t1 := (gs.filter (fun g => g.1 != 3)).foldl (fun t g => objGroup o b g.1 g.2 t) t
      match gs.find? (fun g => g.1 == 3) with
      | none => .inr t1
      | some g => match applyKf (tabRd m t1) o b false [(b + 16 * morph, 0, g.2)] with
        | .inl e => .inl e
        | .inr k => .inr (tabPut (objW o 16) (kfWords k.1 k.2) t1)
  | .keyframes o ap kf => match applyKf (tabRd m t) o b ap kf with
    | .inl e => .inl e
    | .inr k => .inr (tabPut (objW o 16) (kfWords k.1 k.2) t)
  | .targetSet k f ws => .inr ((fieldGroups 4 tgtFieldWords f ws).foldl (fun t g => tgtGroup k g.1 g.2 t) t)
  | _ => .inr t

/-- Is the command OBJECT_KEYFRAMES? -/
def isKf : SceneCmd → Bool
  | .keyframes _ _ _ => true
  | _ => false

/-- The tables that an initial scene's commands other than OBJECT_KEYFRAMES leave (R128). -/
def initialTab (m : Rd) (cs : List SceneCmd) : Tab :=
  (cs.filter (fun c => !isKf c)).foldl (fun t c => match applyCmd m 0 0 t c with
    | .inl _ => t
    | .inr t' => t') []

/-- Commands in order. -/
def applyCmds (m : Rd) (b morph : Nat) : Tab → List SceneCmd → Nat ⊕ Tab
  | t, [] => .inr t
  | t, c :: r => match applyCmd m b morph t c with
    | .inl e => .inl e
    | .inr t' => applyCmds m b morph t' r

/-- A frame's commands in order, recalls expanded at their place (R120, R127): the tables, or the code and the index of the
failing command. A recalled scene is read at B; one that is no longer valid there fails the frame (DESIGN CHOICE: log entry 16). -/
def applyFrame (m : Rd) (b : Nat) : Nat → Tab → List SceneCmd → (Nat × Nat) ⊕ Tab
  | _, t, [] => .inr t
  | i, t, c :: r =>
    let out := match c with
      | .recall k mo => (match storedScene (tabRd m t) k with
        | some cs => applyCmds m b mo t cs
        | none => .inl 0x1A)
      | _ => applyCmd m b 0 t c
    match out with
    | .inl e => .inl (e, i)
    | .inr t' => applyFrame m b (i + 1) t' r

/-- Step 7 of R121: the first failing command of a frame, its code and index. Each command is checked against the tables as the frame's
earlier commands will leave them at B. -/
def cmdsCheck (m : Rd) (b : Nat) : Nat → Tab → List SceneCmd → Option (Nat × Nat)
  | _, _, [] => none
  | i, t, c :: r =>
    if cmdCheck (tabRd m t) b c ≠ 0 then some (cmdCheck (tabRd m t) b c, i)
    else match applyFrame m b i t [c] with
      | .inl e => some e
      | .inr t' => cmdsCheck m b (i + 1) t' r

/-- The announcement latch a frame leaves, if it changes it (R130). -/
def frameAnnounce (cs : List SceneCmd) : Option Bool :=
  cs.foldl (fun acc c => match c with
    | .announce on => some on
    | _ => acc) none

/-- The product budget at B: targets removed at B still count until B + 16 (R112, R122). -/
def productsAt (old new : Rd) : Nat :=
  ((List.range 1024).map (fun o =>
    (((List.range 8).filter (fun t => (objTargets old o ||| objTargets new o).testBit t)).map (fun t => tgtVec new t)).foldl
      (· + ·) 0)).foldl (· + ·) 0

/-- OBJECT_LIMIT, while the QCH_LIMITS pair passes its check (R122, R327). -/
def objectLimit (m : Rd) : Option Nat :=
  if m (QCH + 0x801) = notW (m (QCH + 0x800)) then some (fld (m (QCH + 0x800)) 10 0) else none

/-- Does the scene that B will have keep both budgets (R122)? -/
def budgetsOk (old new : Rd) : Bool :=
  match objectLimit new with
  | none => false
  | some l => (enabledObjects new).length ≤ l && productsAt old new ≤ 65536

/-- What a boundary makes of the scene: the tables, each frame's code and command index, the announcement latch, initial
keyframe commands refused (R128). -/
structure SceneOut where
  tab : Tab
  results : List (SceneFrame × Nat × Nat)
  latch : Option Bool
  initFails : Nat

/-- Advance every object to B: its slots, POSITION and STATUS (R108, R114). PENDING counts every valid slot from 1 on (DEDUCED: log entry
15). -/
def advanceObjects (m : Rd) (b : Nat) (t : Tab) : Tab :=
  (List.range 1024).foldl (fun t o =>
    let r := tabRd m t
    if (kfSlot r o 0).isNone && (kfSlot r o 1).isNone then t else
    let c := chainAt r o b
    let seg := match c.2 with
      | [] => 2
      | k :: _ => k.1
    tabPut (objW o 16) (kfWords c.1 c.2)
      (tabPut (objW o 10) [wd (seg % 16 * 16 + c.2.length)] (tabPut (objW o 3) ((kfPos b c.1 c.2).map wdI) t))) t

/-- The scene at boundary B: initial keyframes at B0, then each frame for B in order of acceptance, each checked against what
the earlier ones left (R122), then every object's position. -/
def sceneAt (m : Rd) (b : Nat) (initKf : List SceneCmd) (frames : List SceneFrame) : SceneOut :=
  let t0 := initKf.foldl (fun (acc : Tab × Nat) c => match applyCmd m b 0 acc.1 c with
    | .inl _ => (acc.1, acc.2 + 1)
    | .inr t => (t, acc.2)) ([], 0)
  let step (acc : SceneOut) (f : SceneFrame) : SceneOut :=
    match applyFrame m b 0 acc.tab f.cmds with
    | .inl (e, i) => { acc with results := acc.results ++ [(f, e, i)] }
    | .inr t =>
      if budgetsOk m (tabRd m t) then
        { acc with tab := t, results := acc.results ++ [(f, 0x01, 0xFFFF)],
                   latch := match frameAnnounce f.cmds with
                     | some l => some l
                     | none => acc.latch }
      else { acc with results := acc.results ++ [(f, 0x14, 0xFFFF)] }
  let r := frames.foldl step { tab := t0.1, results := [], latch := none, initFails := t0.2 }
  { r with tab := advanceObjects m b r.tab }

end Sys2Proof.Machine
end

