-- ==== Sys2Proof/Machine/Scene.lean ====
section
/-! DEFINITION. Taking scene frames (05: R120, R121, R123-R125), the announcement's causes (R130), and the initial scene on
entry to ARMED (R128). What a boundary does is in Control.lean. -/
namespace Sys2Proof.Machine
open Sys2Proof

/-- The boundary of a frame: the first multiple of 16 at or after APPLY_AT; 0 on a SOLO unit selects the first at or after
C + 32 (R120, R121). -/
def frameBoundary (s : State) (applyAt : Nat) : Nat :=
  let p := if applyAt = 0 then s.wav.n + 32 else applyAt
  (p + 15) / 16 * 16

/-- Commands waiting in the pending queue. -/
def pendingCmds (s : State) : Nat := (s.scene.pending.map (fun f => f.cmds.length)).foldl (· + ·) 0

/-- The checks of R121 in order: a failure code with the index of its command, or the boundary and the parsed frame. DESIGN CHOICE (log
entry 68): the spec does not say against which slots step 7 holds keyframes; they are the tables as they stand at the take, advanced to B,
with the frame's own earlier commands applied, and without the frames already pending. The check of R122 at B has the last word. -/
def takeCheck (s : State) (f : SceneIn) : (Nat × Nat) ⊕ (Nat × SceneHdr) :=
  if s.sys.state != .run then .inl (0x17, 0xFFFF)
  else if !authoritative s then .inl (0x19, 0xFFFF)
  else match parseFrame f.host f.bytes with
    | .inl i => .inl (0x10, i)
    | .inr h =>
      let b := frameBoundary s h.applyAt
      if h.applyAt = 0 ∧ s.sys.role ≠ .solo then .inl (0x18, 0xFFFF)
      else if b < s.wav.n + 32 then .inl (0x12, 0xFFFF)
      else if s.wav.n + 2 ^ 24 < b then .inl (0x13, 0xFFFF)
      else match cmdsCheck (rd s) b 0 [] h.cmds with
        | some (c, i) => .inl (c, i)
        | none =>
          if 64 ≤ s.scene.pending.length ∨ 4096 < pendingCmds s + h.cmds.length then .inl (0x16, 0xFFFF)
          else .inr (b, h)

/-- Show the pending queue in its registers. -/
def showPending : Act := fun s => seq [
  pokeF (LOC + 0x101) 12 6 s.scene.pending.length, pokeF (LOC + 0x102) 29 17 (pendingCmds s)] s

/-- Accept a frame for its boundary: queued, counted, forwarded by the ACTIVE; its ACCEPTED acknowledgement waits for the
partner where a forward is needed (R121, R123, R124, R355). -/
def acceptFrame (f : SceneIn) (b : Nat) (h : SceneHdr) : Act := fun s =>
  let wait := forwardNeeded s
  let ackTo : AckTo := { peer := h.peer, counter := h.counter, period := b, port := f.port, ip := f.srcIp, udp := f.srcPort }
  let wantAck := !f.host && h.flags % 2 == 1
  seq [
    onScene fun _ c => { c with pending := c.pending ++ [
      { bnd := b, host := f.host, peer := h.peer, counter := h.counter, ackApplied := h.flags / 2 % 2 == 1, own := true,
        port := f.port, ip := f.srcIp, udp := f.srcPort, cmds := h.cmds }] },
    showPending,
    bump (LOC + 0x103) 35 24 1,
    forward (.scene f.bytes) (if wait && wantAck then some ackTo else none),
    when (fun _ => f.host) (seq [pokeF (LOC + 0x105) 35 35 0, hostResult false 0x00 0xFFFF]),
    when (fun _ => wantAck && !wait) (sendAck f.port f.srcIp f.srcPort h.peer 0x00 0xFFFF h.counter b)] s

/-- Reject a frame: nothing changes but the count, the acknowledgement (none from a STANDBY) and the doorbell of R133 for
QUEUE_FULL and LATE. -/
def rejectFrame (f : SceneIn) (code index : Nat) : Act := fun s =>
  let wantAck := !f.host && f.bytes.getD 5 0 % 2 == 1 && s.sys.role != .standby
  seq [
    bump (LOC + 0x103) 23 12 1,
    when (fun _ => f.host) (seq [pokeF (LOC + 0x105) 35 35 0, hostResult false code index]),
    when (fun _ => wantAck) (sendAck f.port f.srcIp f.srcPort (f.bytes.getD 6 0) code index (beAt f.bytes 8 8) 0),
    when (fun _ => code == 0x16 || code == 0x12) (seq [ringScene, report (srcOf LOC) .sceneApplyFailed code index])] s

/-- Take one frame (R121). -/
def takeFrame (f : SceneIn) : Act := fun s =>
  match takeCheck s f with
  | .inl (c, i) => rejectFrame f c i s
  | .inr (b, h) => acceptFrame f b h s

/-- The authoritative unit takes the oldest frame of the scene queue (R121). A host frame whose LOC_HOST_FRAME was written
while BUSY carries free contents (R125); it is checked all the same. -/
def sceneFrameTake : Act := fun s =>
  match s.scene.queue with
  | [] => []
  | f :: r =>
    seq [onScene (fun _ c => { c with queue := r }),
         (if f.host && s.scene.hostDirty then
            draw 125 (fun v => takeFrame { f with bytes := toBytes f.bytes.length v })
          else takeFrame f),
         when (fun _ => f.host) (onScene fun _ c => { c with hostDirty := false })] s
def execSceneFrameTake (s : State) : Host.Outcome State Fault Refusal := done sceneFrameTake s

/-- The bytes of LOC_HOST_FRAME, four to a word (R125). -/
def hostFrameBytes (s : State) (n : Nat) : List Nat :=
  (((List.range ((n + 3) / 4)).map (fun k => toBytes 4 (fld (sparseGet (fun _ => 0) s.scene.hostFrame k) 31 0))).flatten).take n

/-- A write to LOC_HOST_SUBMIT: the frame is queued to be taken like any other, BUSY until it is; a submission made while
BUSY is discarded and counted (R121, R125). The chapter names no master that may not write it (log entry 24). -/
def locHostSubmit (_m : Nat) (w : Word) : Act := fun s =>
  if flag (rd s (LOC + 0x105)) 35 then bump (LOC + 0x105) 25 18 1 s else
  seq [pokeF (LOC + 0x105) 35 35 1,
       onScene fun s c => { c with hostDirty := false, queue := c.queue ++ [
         { host := true, port := 0, srcIp := 0, srcPort := 0, bytes := hostFrameBytes s (fld w 12 0) }] }] s
def execLocHostSubmit (m : Nat) (w : Word) (s : State) : Host.Outcome State Fault Refusal := done (writing m (locHostSubmit m w)) s

/-! ### The announcement's causes (R130) -/

/-- EMERG_IN over a history of levels (R130, R334). -/
def emergInFiltered (runs : List (Bool × Nat)) : Act := stepPins 17 runs
def execEmergInFiltered (runs : List (Bool × Nat)) (s : State) : Host.Outcome State Fault Refusal := done (emergInFiltered runs) s

/-! ### The initial scene (R128) -/

/-- On every entry to ARMED, the commands of the initial scene other than OBJECT_KEYFRAMES take effect on the tables; its
OBJECT_KEYFRAMES wait for B0. -/
def initialScene : Act := fun s =>
  match storedScene (rd s) s.img.initialScene with
  | none => onScene (fun _ c => { c with initKf := [] }) s
  | some cs => seq [
      fun _ => (initialTab (rd s) cs).reverse.map (fun e => Eff.mem e.1 e.2),
      onScene fun _ c => { c with initKf := cs.filter isKf },
      report (srcOf LOC) .initialScene s.img.initialScene 0] s

/-- Entry to ARMED, with the initial scene and the local ports (R66, R128, R488, R494). -/
def armedEntry : Act := seq [enterArmed, initialScene, audioArmed]

/-- SAFE_CLEAR: refused while QUENCH_IN_L is low or any QCH_FAULT bit is set (R70, R320); else SAFE passes to ARMED. -/
def safeClear (m key : Nat) : Act := sysCmd m key 5 (fun s => s.sys.state == .safe) (fun s =>
  if !(pinOf s 16).filt || s.qch.fault != 0 then cmdStatus 5 s else seq [armedEntry, cmdStatus 2] s)
def execSafeClear (m key : Nat) (s : State) : Host.Outcome State Fault Refusal := done (safeClear m key) s

end Sys2Proof.Machine
end

