-- ==== Sys2Proof/Machine/Locator.lean ====
section
/-! DEFINITION. Locator's work for a boundary (06: R150-R161; 01: R22, R23) and the boundary itself: frames applied, keyframes
advanced, the double buffer swapped, announcement changes, probes and hold decay (R21, R122, R131, R161, R211, R318). -/
namespace Sys2Proof.Machine
open Sys2Proof

/-- The next control-tick boundary after the latest launched period (R49). -/
def nextBoundary (s : State) : Nat := (renderN s / 16 + 1) * 16

/-- Carried state of an object, and the slots of a pair. -/
def objOf (s : State) (o : Nat) : LObj := sparseGet (fun _ => LObj.init) s.loc.objs o
def slotsOf (s : State) (k : Nat) : List Slot := sparseGet (fun _ => []) s.loc.pairs k

/-- The initial scene's keyframes due at the coming boundary: that is B0 of RUN, none in SAFE (R128). -/
def initDue (s : State) : List SceneCmd := if s.sys.state == .safe then [] else s.scene.initKf

/-- The scene as boundary B will have it (R22, R122). -/
def sceneFor (s : State) (b : Nat) : SceneOut :=
  sceneAt (rd s) b (initDue s) (s.scene.pending.filter (fun f => f.bnd == b))

/-- Position of an object as its table words give it. -/
def posOf (m : Rd) (o : Nat) : List Int := [si (m (objW o 3)), si (m (objW o 4)), si (m (objW o 5))]

/-- What Locator finds for one object at a boundary: its motion and air, its pairs, its probes, and the counts. `gone` names
the pairs left unfinished (R23, R160). DESIGN CHOICE (log entry 75): the spec does not say whether the facet fallbacks of a pair left
unfinished count; they do. -/
def locObject (s : State) (m : Rd) (first : Bool) (gone : List Nat) (acc : LBuf) (o : Nat) : LBuf :=
  let x := (objOf s o).endTick
  let prev (t : Nat) : List Slot := (slotsOf s (8 * o + t)).map Slot.endTick
  let ts := (List.range 8).filter (fun t => (objTargets m o).testBit t && tgtKind m t != 0)
  let silent := (List.range 8).all (fun t => (prev t).all (fun sl => sl.g0 == 0))
  let p := posOf m o
  let vecs : List (Nat × Vec) := ts.map (fun t => (t, gainVector m o t p))
  let vr (t : Nat) : Nat := ((vecs.find? (fun e => e.1 == t)).map (fun e => e.2.r)).getD 0
  let dl := leadTarget m o (delayApplies m o)
  let al := leadTarget m o (airApplies m o)
  let fs := rateHz s.sys.rate
  let dt : Int × Bool := match dl.1 with
    | none => (0, false)
    | some t => if gone.contains (8 * o + t) then (x.d0, false) else delayTarget m o t (vr t) fs
  let dop := match dl.1 with
    | some t => dopplerApplies m o t
    | none => false
  let slope := if dop then fld (m (LOC + 1)) 15 0 else fld (m (LOC + 1)) 31 16
  let mv := moveDelay x dt.1 silent first slope (fld (m (LOC + 2)) 19 0)
  let air := match al.1 with
    | none => 64
    | some t => airSelect m x.air (vr t)
  let obj : LObj := { mv with air0 := x.air, air := air, mixedDelay := dl.2, mixedAir := al.2 }
  let pair (acc : Sparse (List Slot) × Nat) (t : Nat) : Sparse (List Slot) × Nat :=
    let k := 8 * o + t
    if gone.contains k then (sparseSet (fun _ => []) acc.1 k (prev t), acc.2) else
    let new := match vecs.find? (fun e => e.1 == t) with
      | none => []
      | some e => if mv.dip then [] else e.2.gains.map (fun g => (tgtFirst m t + (g.1 - tgtBase m t), g.2))
    let r := assignSlots (if first then [] else prev t) new (if ts.contains t then tgtVec m t else (prev t).length)
    (sparseSet (fun _ => []) acc.1 k (if r.1.all (· == emptySlot) then [] else r.1), acc.2 + r.2)
  let prs := (List.range 8).foldl pair (acc.pairs, 0)
  { acc with
    objs := sparseSet (fun _ => LObj.init) acc.objs o obj,
    pairs := prs.1,
    probes := vecs.foldl (fun t e => sparsePut t (8 * o + e.1)
      { r := e.2.r, facet := e.2.facet, fallback := e.2.fallbacks != 0, inside := e.2.inside }) acc.probes,
    dips := acc.dips + b2n mv.dip,
    deferred := acc.deferred + prs.2,
    fallbacks := acc.fallbacks + (vecs.map (fun e => e.2.fallbacks)).foldl (· + ·) 0,
    mixed := acc.mixed + b2n (dl.2 || al.2),
    clamped := acc.clamped + b2n dt.2 }

/-- Objects that Locator works on: enabled ones and those with state carried from an earlier tick. -/
def locWork (s : State) (m : Rd) : List Nat :=
  (List.range 1024).filter (fun o => objTargets m o != 0 || (sparseFind s.loc.objs o).isSome
    || (List.range 8).any (fun t => (sparseFind s.loc.pairs (8 * o + t)).isSome))

/-- Does Locator read the table word at `a` for the pairs of target t (R137-R141)? The lists of facets and of neighbours serve every
target (log entry 83). -/
def readsFor (m : Rd) (t a : Nat) : Bool :=
  let o := a - tblLocator
  if tblTarget ≤ a ∧ a < tblTarget + 256 then (a - tblTarget) / 32 == t
  else if a < tblLocator ∨ tblRoute ≤ a then false
  else if o < 0x100 then o / 32 == t
  else if o < 0x800 then (o - 0x400) / 32 == t
  else if o < 0x1000 then false
  else if o < 0x8000 then
    (let k := (o - 0x1000) / 16
     tgtBase m t ≤ k && k < tgtBase m t + tgtFeeds m t + fld (tdesc m t 0) 9 0)
  else if o < 0x10000 then fld (m (tblLocator + 0x8000 + 16 * ((o - 0x8000) / 16))) 34 32 == t
  else if o < 0x20000 then
    (let c := o - 0x10000
     fld (tdesc m t 1) 13 0 ≤ c && c < fld (tdesc m t 1) 13 0 + 4 ^ fld (tdesc m t 1) 18 16)
  else true

/-- Targets for whose pairs Locator reads a word with an uncorrectable error (R330). -/
def badTargets (s : State) : List Nat :=
  if s.bad.isEmpty then [] else
  (List.range 8).filter (fun t => tgtKind (rd s) t != 0 && s.bad.any (readsFor (rd s) t))

/-- Pairs that such a word of a STATIC section leaves unfinished, as a failed check does (R23, R330). -/
def badPairs (s : State) : List Nat :=
  if staticOf s secLayouts then (badTargets s).flatMap (fun t => (List.range 1024).map (fun o => 8 * o + t)) else []

/-- Everything Locator computes for boundary B (R22, R134, R160). -/
def locBuffer (s : State) (b : Nat) (gone : List Nat) : LBuf :=
  let m := tabRd (rd s) (sceneFor s b).tab
  (locWork s m).foldl (locObject s m (s.sys.state != .run && s.sys.state != .safe) gone)
    { bnd := b, objs := [], pairs := [], probes := [], dips := 0, deferred := 0, fallbacks := 0, mixed := 0, clamped := 0 }

/-! ### Delay lines (R170-R174, R456, R457) -/

def Line.init : Line :=
  { head := [], tailAt := 0, tail := [], wb := 0, fill := 0, jumpAt := none, jump := [],
    fade := { k := 64, h := 0, lost := false } }
def lineOf (s : State) (l : Nat) : Line := sparseGet (fun _ => Line.init) s.wav.lines l
def setLine (l : Nat) (f : Line → Line) : Act := onWav fun s w =>
  { w with lines := sparseSet (fun _ => Line.init) w.lines l (f (lineOf s l)) }

/-- First word of a line's region in DRAM (R456). -/
def lineStart (m : Rd) (l : Nat) : Nat :=
  0x48000000 + ((List.range l).map (lineLen m)).foldl (· + ·) 0

/-- Where a line's sample of period N lies in DRAM (R456). -/
def lineAddr (m : Rd) (l p : Nat) : Nat := lineStart m l + p % lineLen m l

/-- The sample of period p of a line, from its head or from DRAM; none when its word is uncorrectable or carries another lap than
that of p (R171, R172, R442, R457). -/
def lineSample (s : State) (l p : Nat) : Option Int :=
  let x := lineOf s l
  let age := renderN s - p
  if renderN s < p || x.fill ≤ age then some 0
  else match x.head[age]? with
    | some v => v
    | none =>
      let a := lineAddr (rd s) l p
      if dramBad s a || dramEpoch s a != p / max 1 (lineLen (rd s) l) % 16 then none else some (si (dramWord s a))

/-- The delay a line is read at in period n, in whole samples: the object's, or the feed's ALIGN (R153, R235). A boundary's first read
is at the delay that Locator has computed for it. -/
def lineDelay (s : State) (l n : Nat) : Nat :=
  if l < 1024 then
    (let x := match s.loc.next with
       | some b => if b.bnd = n then sparseGet (fun _ => LObj.init) b.objs l else objOf s l
       | none => objOf s l
     (objDelay x (n % 16)).toNat / 2 ^ 16)
  else fld (rd s (tblFeedChain + 2 * (l - 1024) + 1)) 35 16

/-- A window of 512 samples from a first period on; a period not yet rendered has none. -/
def windowFrom (s : State) (l p : Nat) : List (Option Int) :=
  (List.range 512).map (fun i => if p + i ≤ renderN s then lineSample s l (p + i) else none)

/-- The window filler's reads of DRAM for such a window, each by address and lap: the samples that neither the head nor the present tail
holds (R24, R171, R457). -/
def windowReads (s : State) (l p : Nat) : List (Nat × Nat) :=
  let x := lineOf s l
  ((List.range 512).filter (fun i => p + i ≤ renderN s && renderN s - (p + i) < x.fill && x.head.length ≤ renderN s - (p + i)
    && !(x.tailAt ≤ p + i && p + i < x.tailAt + x.tail.length))).map
    (fun i => (lineAddr (rd s) l (p + i), (p + i) / max 1 (lineLen (rd s) l)))

/-- What those reads count: corrections, uncorrectable words, wrong epochs (R441, R444). -/
def countReads (s : State) (l p : Nat) : Act :=
  each (windowReads s l p) (fun e s => if dramBad s e.1 || flipsOf s e.1 != 0 || dramEpoch s e.1 != e.2 % 16 then (dramLook s e.1 e.2).1 s else [])

/-- Words of the full lead of R24: 1 ms at the greatest slope, and the taps of a read (R171). -/
def leadWords (s : State) : Nat := rateHz s.sys.rate * 3 / 2000 + 8

/-- Does a window from period p hold the full lead: every sample of it that has been rendered (R24, R174)? -/
def holdsLead (s : State) (p : Nat) (w : List (Option Int)) : Bool :=
  ((w.take (leadWords s)).zipIdx).all (fun e => e.1.isSome || renderN s < p + e.2)

/-- TAIL_FILL: the window filler sets a line's tail ahead of its read position; once it holds the full lead the line counts as fed again
(R24, R171, R174). The window starts at the oldest tap of the present read, which no later read goes behind (log entry 25). -/
def tailFill (l : Nat) : Act := fun s =>
  if 2048 ≤ l || !dramUp s then [] else
  let p := renderN s - (lineDelay s l (renderN s) + 4)
  let w := windowFrom s l p
  seq [countReads s l p, setLine l fun x => { x with tailAt := p, tail := w },
       when (fun _ => holdsLead s p w) (seq [
         setLine l fun x => { x with fade := { x.fade with lost := false } },
         clrBits (WAV + 0xA0 + l / 32) (2 ^ (l % 32)),
         onSys fun _ y => { y with prefetched := if y.prefetched.contains l then y.prefetched else y.prefetched ++ [l] }])] s
def execTailFill (l : Nat) (s : State) : Host.Outcome State Fault Refusal := done (tailFill l) s

/-- HEAD_WRITE_BACK: head samples not yet in DRAM are written to the line's region, each with its lap (R172, R442, R456). -/
def headWriteBack (l : Nat) : Act := fun s =>
  if 2048 ≤ l || !dramUp s then [] else
  let x := lineOf s l
  let todo := (List.range x.head.length).filter (fun age => x.wb ≤ renderN s - age && age ≤ renderN s)
  seq [each todo (fun age s => match x.head.getD age none with
         | some v => dramPut (lineAddr (rd s) l (renderN s - age)) (wdI v) ((renderN s - age) / max 1 (lineLen (rd s) l) % 16) s
         | none => []),
       setLine l fun x => { x with wb := renderN s + 1 }] s
def execHeadWriteBack (l : Nat) (s : State) : Host.Outcome State Fault Refusal := done (headWriteBack l) s

/-- JUMP_FILL_COMPLETE: the 512 words around a line's new target are in place for the boundary that uses them (R173). -/
def jumpFillComplete (l : Nat) : Act := fun s =>
  if !dramUp s then [] else
  match (lineOf s l).jumpAt with
  | none => []
  | some p => seq [countReads s l p, setLine l (fun x => { x with jump := windowFrom s l p }), bump (DRC + 5) 11 0 1] s
def execJumpFillComplete (l : Nat) (s : State) : Host.Outcome State Fault Refusal := done (jumpFillComplete l) s

/-- A target that starts a dip, or lies more than 256 samples from the read position, requests a jump fill around the
position at the boundary (R173). -/
def jumpRequests (b : Nat) (buf : LBuf) : Act := fun s =>
  each buf.objs (fun e =>
    let d := e.2.dt.toNat / 2 ^ 16
    if e.2.dip || 256 * 2 ^ 16 < (e.2.dt - objDelay (objOf s e.1) (renderN s % 16)).natAbs then
      setLine e.1 (fun x => { x with jumpAt := some (b - d - 256), jump := [] })
    else nop) s

/-- LOCATOR_COMPLETE: the results for the next boundary stand in the inactive half (R22); `unfinished` are the pairs, 8 ×
object + target, that an internal fault kept from finishing (R23, R317); `time` the work in 10 ns. -/
def locatorComplete (unfinished : List Nat) (time : Nat) : Act := fun s =>
  if !counting s then [] else
  let b := nextBoundary s
  let gone := unfinished ++ (badPairs s).filter (fun k => (objTargets (rd s) (k / 8)).testBit (k % 8))
  let buf := locBuffer s b gone
  let t := min 0xFFFF time
  seq [onLoc fun _ c => { c with next := some buf, unfinished := gone },
       jumpRequests b buf,
       fun s => pokeF (LOC + 0x10) 31 16 (max t (rdF s (LOC + 0x10) 31 16)) s,
       pokeF (LOC + 0x10) 15 0 t] s
def execLocatorComplete (unfinished : List Nat) (time : Nat) (s : State) : Host.Outcome State Fault Refusal :=
  done (locatorComplete unfinished time) s

/-! ### The boundary -/

/-- The result of one frame at B: counts, acknowledgement, host result, doorbell (R122, R124, R133). -/
def frameResult (b : Nat) (r : SceneFrame × Nat × Nat) : Act :=
  let f := r.1
  seq [
    (if r.2.1 = 1 then
      (if f.host then hostResult true 1 0xFFFF else
        when (fun s => f.own && f.ackApplied && s.sys.role != .standby)
          (sendAck f.port f.ip f.udp f.peer 1 0xFFFF f.counter b))
    else seq [
      bump (LOC + 0x103) 11 0 1, ringScene, report (srcOf LOC) .sceneApplyFailed r.2.1 r.2.2,
      (if f.host then hostResult false r.2.1 r.2.2 else
        when (fun s => f.own && f.ackApplied && s.sys.role != .standby)
          (sendAck f.port f.ip f.udp f.peer r.2.1 r.2.2 f.counter b))]),
    when (fun _ => r.2.1 == 1) (pokePair (LOC + 0x106) b)]

/-- The causes of announcement mode at boundary b, with the changes that fall due (R130). -/
def annDue (b : Nat) (latch : Option Bool) : Act := onScene fun _ c =>
  let due := c.annWait.filter (fun e => e.1 ≤ b)
  ({ c with
    annWait := c.annWait.filter (fun e => b < e.1),
    annPin := (due.filter (fun e => !e.2.1)).foldl (fun _ e => e.2.2) c.annPin,
    annPartner := (due.filter (fun e => e.2.1)).foldl (fun _ e => e.2.2) c.annPartner,
    annLatch := latch.getD c.annLatch } : Scene)

/-- The mode itself: on while a cause holds, in RUN and SAFE only; a change rings SCENE_EVENT and is logged (R130, R133). -/
def annMode : Act := fun s =>
  let on := (s.scene.annPin || s.scene.annPartner || s.scene.annLatch)
    && (s.sys.state == .run || s.sys.state == .safe)
  if on = s.scene.annOn then [] else
  seq [onScene fun _ c => { c with annOn := on }, ringScene, report (srcOf LOC) .announceChange (b2n on) 0] s

/-- Objects whose EQ_CHAIN changes at the boundary: their section states are zero from there (R111, R223). -/
def eqChanged (s : State) (t : Tab) : List Nat :=
  (List.range 1024).filter (fun o => tabRd (rd s) t (objW o 9) != rd s (objW o 9))

/-- The double buffer swaps (R22); what Locator has not finished keeps its targets for one more control tick (R23, R160). -/
def swapBuffers (b : Nat) : Act := fun s =>
  match s.loc.next with
  | some buf =>
    if buf.bnd = b then seq [
      onLoc fun _ c => { c with objs := buf.objs, pairs := buf.pairs, probes := buf.probes, next := none },
      bump (LOC + 0x11) 35 24 buf.dips, bump (LOC + 0x11) 23 12 buf.deferred, bump (LOC + 0x11) 11 0 buf.fallbacks,
      bump (LOC + 0x12) 35 24 buf.mixed, bump (LOC + 0x12) 23 12 buf.clamped,
      bump (LOC + 0x12) 11 0 s.loc.unfinished.length] s
    else keep s
  | none => keep s
where
  /-- With no results for b, every active pair and every one that carries slots is unfinished, and each delay target is held at D0. -/
  keep : Act := fun s =>
    let m := rd s
    let gone := (List.range 8192).filter (fun k =>
      ((objTargets m (k / 8)).testBit (k % 8) && tgtKind m (k % 8) != 0) || (sparseFind s.loc.pairs k).isSome)
    seq [
      bump (LOC + 0x12) 11 0 gone.length,
      onLoc fun _ c => { c with
        next := none, unfinished := gone,
        objs := c.objs.map (fun e => (e.1,
          if (leadTarget m e.1 (delayApplies m e.1)).1.isSome then { e.2.endTick with dt := e.2.endTick.d0 } else e.2.endTick)),
        pairs := c.pairs.map (fun e => (e.1, e.2.map Slot.endTick)) }] s

/-- A pair that failed in each of the latest three control ticks is a device-level fault RENDER (R318); an unfinished pair
also sets TAINT for the control tick (R351). -/
def locFails (b : Nat) : Act := fun s =>
  let gone := s.loc.unfinished
  let fails := gone.foldl (fun t k => sparsePut t k (sparseGet (fun _ => 0) s.loc.fails k + 1)) ([] : Sparse Nat)
  seq [onLoc fun _ c => { c with fails := fails, unfinished := [] },
       when (fun _ => !gone.isEmpty) (onWav fun _ w => { w with taints := b :: w.taints }),
       when (fun _ => fails.any (fun e => 3 ≤ e.2)) (deviceFault 0)] s

/-- A jump window comes into use at the boundary b whose first read lies in it: not where a dip still holds the delay, nor while a slewed
delay only approaches its target (R154, R173). -/
def useJumps (b : Nat) : Act := onWav fun s w => { w with
  lines := w.lines.map (fun e => (e.1, match e.2.jumpAt with
    | some p =>
      let o := b - (lineDelay s e.1 b + 4)
      if e.2.jump.isEmpty || o < p || p + 504 < o then e.2 else { e.2 with tailAt := p, tail := e.2.jump, jumpAt := none, jump := [] }
    | none => e.2)) }

/-- Peak hold: T counts down, then P decays by its DECAY_SHIFT-th part (R211). -/
def holdDecay : Act := onFeeds fun s fs =>
  let sh := rdF s (CRU + 0x20) 19 15
  fs.map (fun e => (e.1, { e.2 with meter :=
    if 0 < e.2.meter.t then { e.2.meter with t := e.2.meter.t - 1 }
    else { e.2.meter with hold := e.2.meter.hold - e.2.meter.hold / 2 ^ sh } }))

/-- The probe latches the selected pair at the first boundary after its selection (R161). -/
def probeLatch : Act := fun s =>
  if !s.loc.probeArmed then [] else
  let w := rd s (LOC + 0x20)
  let o := fld w 9 0
  let k := 8 * o + fld w 12 10
  let x := objOf s o
  let sl := (slotsOf s k).take 32
  let p := (sparseFind s.loc.probes k).getD
    { r := 0, facet := 0, fallback := false, inside := false }
  let info := 2 ^ 35 + b2n x.dip * 2 ^ 34 + b2n x.mixedDelay * 2 ^ 33 + b2n x.mixedAir * 2 ^ 32 + b2n p.inside * 2 ^ 31
    + b2n p.fallback * 2 ^ 30 + (sl.filter (·.valid)).length * 2 ^ 24 + x.air * 2 ^ 16 + p.facet
  seq [onLoc fun _ c => { c with probeArmed := false },
       poke (LOC + 0x21) (wd info), poke (LOC + 0x22) (wdI x.dt), poke (LOC + 0x23) (wd p.r),
       pokeList (LOC + 0x40) (((List.range 32).map (fun i =>
         let q := sl.getD i emptySlot
         [wd (b2n q.valid * 2 ^ 35 + q.feed), wdI q.g1])).flatten)] s

/-- LOC_PROBE_SEL: READY is cleared and the next boundary latches (R161). The row names no master (log entry 93). -/
def locProbeSel (w : Word) : Act := seq [
  poke (LOC + 0x20) (w &&& wd 0x1FFF), pokeF (LOC + 0x21) 35 35 0, onLoc fun _ c => { c with probeArmed := true }]
def execLocProbeSel (w : Word) (s : State) : Host.Outcome State Fault Refusal := done (locProbeSel w) s

/-- Pairs checked at every control-tick boundary (R326, R327): QCH_LIMITS, and the announcement pairs while the mode is neither
on nor ramping. -/
def annPairs : List Nat :=
  (List.range 16).map (fun i => CRU + 0x4000 + 2 * i) ++ (List.range 2048).map (fun i => CRU + 0x4800 + 2 * i)
def checkPairs : Act := seq [
  when (fun s => (pairVal s (QCH + 0x800)).isNone) (seq [bump (QCH + 3) 11 0 1, deviceFault 2]),
  fun s => if s.scene.annOn || s.scene.annK != 0 then [] else
    let bad := (annPairs.filter (fun a => (pairVal s a).isNone)).length
    if bad = 0 then [] else seq [bump (QCH + 3) 11 0 bad, warn 1] s]

/-- A control-tick boundary b (R21): scene frames and keyframes, the buffers, announcement mode, and what is checked or decays
once a control tick. -/
def boundary (b : Nat) : Act := fun s =>
  let out := sceneFor s b
  let eq := eqChanged s out.tab
  seq [
    onScene fun _ c => { c with boundary := b, initKf := if s.sys.state == .safe then c.initKf else [],
                                pending := c.pending.filter (fun f => f.bnd != b) },
    fun _ => out.tab.reverse.map (fun e => Eff.mem e.1 e.2),
    each (List.range out.initFails) (fun _ => seq [bump (LOC + 0x103) 11 0 1, report (srcOf LOC) .sceneApplyFailed 0x11 0xFFFF]),
    each out.results (frameResult b),
    showPending,
    onTpr fun _ t => { t with objS := eq.foldl (fun x o => sparseDrop x o) t.objS },
    swapBuffers b, locFails b, useJumps b,
    annDue b out.latch, annMode,
    holdDecay, probeLatch, checkPairs,
    -- a target removed here uses the budget until the next boundary (R112)
    fun s' => seq [pokeF (LOC + 0x101) 29 19 (enabledObjects (rd s')).length,
                   pokeF (LOC + 0x102) 16 0 (productsAt (rd s) (rd s'))] s'] s

/-- CONTROL_TICK: the boundary of the coming period, if that is a multiple of 16 and has not been dealt with (R21, R49). In
ARMED Locator's first results and in RUN and SAFE every boundary; elsewhere no control tick begins (log entry 26). -/
def controlTick : Act := fun s =>
  let b := renderN s + 1
  if b % 16 = 0 && s.scene.boundary != b && (s.sys.state == .run || s.sys.state == .safe) then boundary b s else []
def execControlTick (s : State) : Host.Outcome State Fault Refusal := done controlTick s

end Sys2Proof.Machine
end

