-- ==== Sys2Proof/Machine/Streams.lean ====
section
/-! DEFINITION. The stream engine (16: R388-R403; 07: R166, R167): matching and merging received packets into the network input
buffer, building the packets that end at a released period, and their way from staging to queue 6. -/
namespace Sys2Proof.Machine
open Sys2Proof

/-! ### Stream entries (R390, R400) -/

/-- Word j of receive entry e, and of transmit entry e. -/
def rxE (m : Rd) (e j : Nat) : Word := m (STM + 0x1000 + 16 * e + j)
def txE (m : Rd) (e j : Nat) : Word := m (STM + 0x2000 + 16 * e + j)
def entryValid (w : Word) : Bool := flag w 35
/-- Is the entry enabled on port x? -/
def entryOn (w : Word) (x : Nat) : Bool := flag w (34 - x)
def entryPt (w : Word) : Nat := fld w 24 18
/-- Bytes of one sample: 2 for L16, 3 for L24. -/
def entryBytes (w : Word) : Nat := if flag w 12 then 3 else 2
def entryChans (w : Word) : Nat := fld w 6 0
/-- S: samples per packet at the device's rate (R51). -/
def entryS (s : State) (w : Word) : Nat := samplesPerPacket (fld w 17 16) s.sys.rate

/-- The stream entry a word of the tables belongs to: 0-127 receive, from 128 on transmit. -/
def entryOf (a : Nat) : Nat := if a < STM + 0x2000 then (a - (STM + 0x1000)) / 16 else 128 + (a - (STM + 0x2000)) / 16

/-- Is the address a word of a stream table entry (R390, R400)? The receive and transmit tables lie one after the other. -/
def inStreams (a : Nat) : Bool := (STM + 0x1000 ≤ a && a < STM + 0x1800) || (STM + 0x2000 ≤ a && a < STM + 0x2800)

/-- Memory as the stream engine sees it: a change of an entry takes effect whole at the period boundary (R27, R391). -/
def streamRd (s : State) : Rd := fun a =>
  if inStreams a then (match sparseFind s.stm.inForce (entryOf a) with
    | some ws => ws.getD (a % 16) 0
    | none => rd s a)
  else rd s a

/-- Word 0 of an entry is about to be written: while periods are counted, the entry as it stands stays in force until the boundary. -/
def holdEntry (a : Nat) : Act := when (fun s => counting s && (sparseFind s.stm.inForce (entryOf a)).isNone)
  (onStm fun s t => { t with inForce := sparsePut t.inForce (entryOf a) (rdList s (a - a % 16) 16) })

/-- The period boundary: changed entries come into force. -/
def entriesDue : Act := when (fun s => !s.stm.inForce.isEmpty) (onStm fun _ t => { t with inForce := [] })

/-- The receive entry a UDP datagram matches on port x (R390). -/
def rxMatch (m : Rd) (x dst udp src : Nat) : Option Nat :=
  (List.range 128).find? (fun e =>
    let w := rxE m e 0
    let k := 2 + 3 * x
    entryValid w && entryOn w x && fld (rxE m e k) 31 0 == dst && fld (rxE m e (k + 1)) 15 0 == udp
    && (fld (rxE m e (k + 2)) 31 0 == 0 || fld (rxE m e (k + 2)) 31 0 == src))

/-! ### The network input buffer (R166, R167) -/

/-- Word of source c for period n. -/
def netAddr (c n : Nat) : Nat := 0x10000000 + 512 * c + n % 512

/-- Where the stream engine's clock C stands: the latest launched period. -/
def latest (s : State) : Nat := if s.wav.owed then s.wav.n - 1 else s.wav.n

/-- Write one sample: late, early or in the buffer with its presence bit. -/
def writeSample (c n : Nat) (v : Int) : Act := fun s =>
  if n ≤ latest s then []
  else if latest s + 512 < n then bump (WAV + 2) 23 12 1 s
  else seq [poke (netAddr c n) (wdI v), onWav fun _ w => { w with netPresent := sparseSet (fun _ => false) w.netPresent (netAddr c n) true }] s

/-- The packets of stream e that still lie within the buffer's depth (R394). -/
def record (s : State) (e S : Nat) : List (Nat × Option Nat) :=
  (sparseGet (fun _ => []) s.stm.recs e).filter (fun r => latest s < r.1 + S + 512)

/-- Note that a copy was seen on a path: 0 port A, 1 port B, 2 a MEND (STM_RXS_s). -/
def noteSeen (e path : Nat) : Act := onStm fun s t =>
  { t with seen := sparseSet (fun _ => 0) t.seen (3 * e + path) (latest s + 1) }

/-- The MEND body of a packet accepted from a port (R356). -/
def mendBody (m : Rd) (e S n : Nat) (payload : List Nat) : List Nat :=
  let w := rxE m e 0
  toBytes 2 (fld (rxE m e 1) 10 0) ++ [entryChans w, 8 * entryBytes w] ++ toBytes 8 n ++ toBytes 2 S ++ [0, 0] ++ payload

/-- A packet of stream e with first period n, from a path; `sn` its sequence number (R394): accepted once, every further copy a
duplicate. `payload` has been checked to be S × CHANNELS samples. -/
def acceptPacket (e path : Nat) (n : Int) (sn : Option Nat) (payload : List Nat) : Act := fun s =>
  let m := streamRd s
  let w := rxE m e 0
  let S := entryS s w
  let b := entryBytes w
  let first := fld (rxE m e 1) 10 0
  let r := record s e S
  -- a first period before period 0: late like any other, and no record to keep
  if n < 0 then seq [noteSeen e path, bump (WAV + 2) 35 24 1] s else
  let n := n.toNat
  seq [noteSeen e path,
    (match r.find? (fun x => x.1 == n) with
    | some old => seq [
        bump (STM + 0x10) 35 24 1, bump (STM + 0x800 + e) 23 12 1,
        (match sn, old.2 with
        | some a, some o => if a = o then nop else bump (STM + 0x10) 23 12 1
        | _, _ => nop)]
    | none => seq [
        onStm fun _ t => { t with recs := sparseSet (fun _ => []) t.recs e (r ++ [(n, sn)]) },
        when (fun s => n ≤ latest s) (bump (WAV + 2) 35 24 1),
        each (List.range S) (fun i => each (List.range (entryChans w)) (fun c =>
          writeSample (first + c) (n + i) ((intToF36 (8 * b) (beAt payload (b * (i * entryChans w + c)) b)).toInt))),
        when (fun s => path != 2 && s.img.twin == 1 && tongsUp s) (tongsSend 0x05 (mendBody m e S n payload))])] s

/-- What is left of an RTP packet once CSRC list, header extension and padding are removed; none where they do not fit. -/
def rtpPayload (b : List Nat) : Option (List Nat) :=
  let b0 := b.getD 0 0
  let p := 12 + 4 * (b0 % 16)
  let q := if (b0 / 16) % 2 = 1 then p + 4 + 4 * beAt b (p + 2) 2 else p
  let body := b.drop q
  if b.length < q then none
  else if (b0 / 32) % 2 = 1 then
    let pad := body.getLastD 0
    if pad = 0 ∨ body.length < pad then none else some (body.take (body.length - pad))
  else some body

/-- A packet that matched entry e on port x (R393): its checks in order, each failure counted, then R394. -/
def rtpPacket (e x : Nat) (b : List Nat) : Act := fun s =>
  let m := streamRd s
  let w := rxE m e 0
  let bad (off hi lo : Nat) : Act := seq [bump (STM + off) hi lo 1, bump (STM + 0x800 + e) 11 0 1]
  if b.length < 12 ∨ b.getD 0 0 / 64 ≠ 2 then bad 0x10 11 0 s
  else if b.getD 1 0 % 128 ≠ entryPt w then bad 0x11 35 24 s
  else if flag w 32 ∧ beAt b 8 4 ≠ fld (rxE m e 9) 31 0 then bad 0x11 23 12 s
  else match rtpPayload b with
    | none => bad 0x11 11 0 s
    | some p =>
      if p.length ≠ entryS s w * entryChans w * entryBytes w ∨ p.isEmpty then bad 0x11 11 0 s
      else
        let t := (beAt b 4 4 + 2 ^ 32 - fld (rxE m e 8) 31 0) % 2 ^ 32
        acceptPacket e x (rtpPeriod t (latest s)) (some (beAt b 2 2)) p s

/-- MEND: a packet the partner accepted (R356). It is matched by first source and channel count, with width, samples and payload
length equal; otherwise it is dropped and counted. -/
def mend (firstSource channels width : Nat) (firstPeriod : Nat) (samples : Nat) (payload : List Nat) : Act := fun s =>
  match (List.range 128).find? (fun e =>
    let w := rxE (streamRd s) e 0
    entryValid w && fld (rxE (streamRd s) e 1) 10 0 == firstSource && entryChans w == channels && 8 * entryBytes w == width
    && entryS s w == samples && payload.length == samples * channels * (width / 8) && samples != 0) with
  | none => bump (TWN + 8) 11 0 1 s
  | some e => acceptPacket e 2 firstPeriod none payload s
def execMend (firstSource channels width firstPeriod samples : Nat) (payload : Got (List Nat)) (s : State) :
    Host.Outcome State Fault Refusal :=
  done (received payload.find (mend firstSource channels width firstPeriod samples payload.body)) s

/-! ### Transmit (R400-R402) -/

/-- The bytes of one period of a stream: the n-bit samples of the feeds that name its channels (R209), and the feeds that clip. -/
def streamSamples (ds : List Dest) (rel : Nat → Int) (t : Nat) (w : Word) : List Nat × List Nat :=
  let b := entryBytes w
  let one (c : Nat) : List Nat × List Nat :=
    match ds.find? (fun d => d.kind == 0 && d.unit == t && d.chan == c) with
    | none => (List.replicate b 0, [])
    | some d => let v := f36ToInt (8 * b) (wdI (rel d.feed))
                (toBytes b ((v.1 % 2 ^ (8 * b)).toNat), if v.2 then [d.feed] else [])
  let l := (List.range (entryChans w)).map one
  ((l.map (·.1)).flatten, (l.map (·.2)).flatten)

/-- The Ethernet frame of a packet of stream t on port x (R401). -/
def streamFrame (m : Rd) (t x n S : Nat) (payload : List Nat) : List Nat :=
  let w := txE m t 0
  let k := 2 + 4 * x
  let dst := fld (txE m t k) 31 0
  let mac := if isGroup dst then groupMac dst else fld (txE m t (k + 2)) 15 0 * 2 ^ 32 + fld (txE m t (k + 3)) 31 0
  let src := fld (m (MAC x + 6)) 31 0
  let rtp := [0x80, entryPt w] ++ toBytes 2 (rtpSeq n S) ++ toBytes 4 (rtpStamp n) ++ toBytes 4 (fld (txE m t 10) 31 0) ++ payload
  let dgram := udpPacket src dst (fld (txE m t (k + 1)) 31 16) (fld (txE m t (k + 1)) 15 0) rtp
  ethHeader m x 6 mac 0x0800 ++ ipPacket (fld (txE m t 1) 7 2) (fld (txE m t 1) 15 8) 17 src dst [] dgram

/-- Is the destination unicast and not resolved (R400)? -/
def unresolved (m : Rd) (t x : Nat) : Bool :=
  let k := 2 + 4 * x
  !isGroup (fld (txE m t k) 31 0) && fld (txE m t (k + 2)) 15 0 == 0 && fld (txE m t (k + 3)) 31 0 == 0

/-- Place a packet in a port's staging of 96 KiB; one that finds the port down or the staging full is discarded and counted
(R369, R402). -/
def stagePacket (x : Nat) (fr : List Nat) : Act := fun s =>
  if !txOn s x then cnt x 0x419 1 s
  else if 98304 < ((macOf s x).staging.map (fun f => f.length + 4)).foldl (· + ·) 0 + fr.length + 4 then
    seq [bump (STM + 0x12) 23 12 1, cnt x 0x419 1,
         when (fun s => !s.stm.stageLogged) (seq [report (srcOf STM) .ringDrop x 6,
           onStm fun _ t => { t with stageLogged := true }])] s
  else setMac x (fun p => { p with staging := p.staging ++ [fr] }) s

/-- The packets that end at the released period n, of every valid stream in ascending order (R402). `may first last` says whether
this unit sends a packet of those periods (R340, R352, R366). -/
def buildPackets (m : Rd) (n : Nat) (ds : List Dest) (rel : Nat → Int) (may : Nat → Nat → Bool) : Act := fun s =>
  each ((List.range 128).filter (fun t => entryValid (txE m t 0))) (fun t s =>
    let w := txE m t 0
    let S := entryS s w
    if S = 0 then [] else
    let f := n / S * S
    let sm := (streamSamples ds rel t w).1
    let old := sparseGet (fun _ => (0, [])) s.stm.part t
    let part := if n = f then some sm else if old.1 = f ∧ old.2.length = (n - f) * sm.length then some (old.2 ++ sm) else none
    match part with
    | none => onStm (fun _ q => { q with part := sparseDrop q.part t }) s
    | some b =>
      if n + 1 < f + S then onStm (fun _ q => { q with part := sparsePut q.part t (f, b) }) s
      else seq [onStm fun _ q => { q with part := sparseDrop q.part t },
        when (fun _ => may f n) (each ((List.range 2).filter (fun x => entryOn w x)) (fun x =>
          if unresolved m t x then bump (STM + 0x13) 11 0 1 else stagePacket x (streamFrame m t x f S b)))] s) s

/-- Feeds whose conversion for a stream channel saturates (R209). -/
def streamClips (m : Rd) (ds : List Dest) (rel : Nat → Int) : List Nat :=
  (((List.range 128).filter (fun t => entryValid (txE m t 0))).map (fun t => (streamSamples ds rel t (txE m t 0)).2)).flatten

/-- STAGING_TO_QUEUE: the oldest staged frame passes to queue 6 when its 16 KiB share has room (R383, R402). -/
def stagingToQueue (x : Nat) : Act := fun s =>
  match (macOf s x).staging with
  | [] => []
  | fr :: r =>
    let f : TxFrame := { body := .raw fr, ring := none, descs := [], ts := false }
    if 16384 < ((txq s x 6).map (txLen (rd s) x)).foldl (· + ·) 0 + txLen (rd s) x f then []
    else seq [setMac x fun p => { p with staging := r }, setTxq x 6 (txq s x 6 ++ [f])] s
def execStagingToQueue (x : Nat) (s : State) : Host.Outcome State Fault Refusal := done (stagingToQueue x) s

/-- Valid receive entries (STM_STATUS.RX_VALID). -/
def rxValid (s : State) : Nat := ((List.range 128).filter (fun e => entryValid (rxE (rd s) e 0))).length

/-- STM_RXS_s as it reads: a copy seen within the latest 512 periods, by path, over the counts. -/
def rxsWord (s : State) (e : Nat) : Word :=
  let b (p : Nat) : Nat := b2n (let v := sparseGet (fun _ => 0) s.stm.seen (3 * e + p); v != 0 && latest s < v + 512)
  wd (b 0 * 2 ^ 35 + b 1 * 2 ^ 34 + b 2 * 2 ^ 33) ||| (rd s (STM + 0x800 + e) &&& wd 0xFFFFFF)

end Sys2Proof.Machine
end

