-- ==== Sys2Proof/Machine/Commits.lean ====
section
/-! DEFINITION. Changes made at a named period: direct route and destination writes (08: R197-R199, R207, R208), route commits
(R201-R206), bank swaps (09: R229-R233), quench clears (13: R325), argument commits (10: R262) and the delay list (12:
R299-R305). -/
namespace Sys2Proof.Machine
open Sys2Proof

/-- May master m change routes, destinations and their commit registers (R197)? -/
def routeMaster (m : Nat) : Bool := m ≤ 2

/-! ### Direct writes (R197-R199, R207, R208) -/

/-- Does a CTRL word pass R199? -/
def ctrlOk (w : Word) : Bool :=
  fld w 33 26 == 0 && fld w 15 11 == 0 && (if flag w 34 then fld w 10 0 ≤ 1023 else !sourceReserved (fld w 10 0))

/-- Does a destination word for index i pass R208 against the table `m`? -/
def destOk (m : Rd) (i : Nat) (w : Word) : Bool :=
  let k := fld w 34 32
  k ≤ 1 && fld w 31 15 == 0 && fld w 7 6 == 0 && (k == 0 || fld w 14 11 == 0) &&
  (!flag w 35 || (List.range 4096).all (fun j =>
    let v := m (tblDest + j)
    j == i || !flag v 35 || fld v 34 32 != k || fld v 14 8 != fld w 14 8 || fld v 5 0 != fld w 5 0))

/-- ROUTE_CTRL_WRITE: CTRL is held in the master's route staging register; the loader's write is direct (R198). -/
def routeCtrlWrite (m e : Nat) (w : Word) : Act := fun s =>
  let a := tblRoute + 2 * (e % 4096)
  if !routeMaster m || (staticOf s secRoutes && m ≠ 2) then seq [keepStaged m (fun _ => false), refused m a true] s
  else seq [keepStaged m (fun x => x == a), (if m = 2 then poke a w else stage m a w)] s
def execRouteCtrlWrite (m e : Nat) (w : Word) (s : State) : Host.Outcome State Fault Refusal := done (routeCtrlWrite m e w) s

/-- ROUTE_GAIN_WRITE: GAIN commits the entry, with the held CTRL of the same entry; a CTRL that R199 refuses leaves the entry as it
was (R198, R199). -/
def routeGainWrite (m e : Nat) (w : Word) : Act := fun s =>
  let a := tblRoute + 2 * (e % 4096)
  if !routeMaster m || (staticOf s secRoutes && m ≠ 2) then seq [keepStaged m (fun _ => false), refused m (a + 1) true] s
  else if m = 2 then seq [keepStaged m (fun x => x == a), poke (a + 1) w] s
  else seq [keepStaged m (fun x => x == a),
    fun s => match stagedOf s m with
      | none => poke (a + 1) w s
      | some g => seq [unstage m,
          (if ctrlOk g.word then seq [poke a g.word, poke (a + 1) w]
           else seq [bump (CRU + 2) 35 24 1, report (srcOf CRU) .routeDiscard a m])] s] s
def execRouteGainWrite (m e : Nat) (w : Word) (s : State) : Host.Outcome State Fault Refusal := done (routeGainWrite m e w) s

/-- ROUTE_STAGE_TIMEOUT: 1 ms passes with a CTRL held (R198). -/
def routeStageTimeout (m : Nat) : Act := when (fun s => match stagedOf s m with
  | some g => tblRoute ≤ g.addr && g.addr < tblStage
  | none => false) (discardStaged m)
def execRouteStageTimeout (m : Nat) (s : State) : Host.Outcome State Fault Refusal := done (routeStageTimeout m) s

/-- Put a destination word at its table, or refuse it there (R208). -/
def putDest (i : Nat) (w : Word) : Act := fun s =>
  if destOk (rd s) i w then poke (tblDest + i) w s
  else seq [bump (CRU + 2) 23 12 1, report (srcOf CRU) .routeDiscard (tblDest + i) 0] s

/-- DESTINATION_WRITE (R207, R208). -/
def destinationWrite (m i : Nat) (w : Word) : Act := fun s =>
  let i := i % 4096
  seq [keepStaged m (fun _ => false),
       (if !routeMaster m || (staticOf s secRoutes && m ≠ 2) then refused m (tblDest + i) true else putDest i w)] s
def execDestinationWrite (m i : Nat) (w : Word) (s : State) : Host.Outcome State Fault Refusal := done (destinationWrite m i w) s

/-! ### ROUTE_COMMIT (R201-R206) -/

/-- Stage entry i. -/
def stageEntry (m : Rd) (i : Nat) : StageEntry :=
  { word0 := m (tblStage + 4 * i), v0 := m (tblStage + 4 * i + 1), v1 := m (tblStage + 4 * i + 2), w3 := m (tblStage + 4 * i + 3) }

/-- A stage entry that its commit applies. -/
def StageEntry.valid (e : StageEntry) : Bool := flag e.word0 35
def StageEntry.isDest (e : StageEntry) : Bool := flag e.word0 34
def StageEntry.index (e : StageEntry) : Nat := fld e.word0 11 0

/-- The first stage entry that check 6 refuses, each judged against the tables and the entries before it (R202). -/
def badEntry (m : Rd) : Nat → Tab → List StageEntry → Option Nat
  | _, _, [] => none
  | i, t, e :: r =>
    if !e.valid then badEntry m (i + 1) t r
    else if e.isDest then
      (if destOk (tabRd m t) e.index e.v0 then badEntry m (i + 1) (tabPut (tblDest + e.index) [e.v0] t) r else some i)
    else if ctrlOk e.v0 then badEntry m (i + 1) t r else some i

/-- The period a pair of AT registers names. -/
def atOf (s : State) (a : Nat) : Nat := rdPair s a

/-- Put BAD_INDEX in a status register that has it. -/
def badIndex (a i : Nat) : Act := pokeF a 19 10 i

/-- ROUTE_COMMIT: GO with COUNT (R202). -/
def routeCommit (m count : Nat) : Act := fun s =>
  let st := CRU + 0x13
  if !routeMaster m then refused m (CRU + 0x12) true s else
  seq [badIndex st 0x3FF,
    (match commitCheck s s.cru.pend.isSome (atOf s (CRU + 0x10)) with
    | .inl c => commitStatus st c s.cru.pend.isSome
    | .inr p =>
      let es := (List.range count).map (stageEntry (rd s))
      if count = 0 || 512 < count then commitStatus st 5 false
      else match badEntry (rd s) 0 [] es with
        | some i => seq [badIndex st i, commitStatus st 5 false]
        | none => seq [
            onCru fun _ c => { c with pend := some { at' := p, what := es } },
            commitStatus st 1 true, forward (.routeCommit p es) none])] s
def execRouteCommit (m count : Nat) (s : State) : Host.Outcome State Fault Refusal := done (writing m (routeCommit m count)) s

/-- ROUTE_COMMIT_CANCEL (R205). -/
def routeCommitCancel (m : Nat) : Act := fun s =>
  let st := CRU + 0x13
  if !routeMaster m then refused m (CRU + 0x12) true s else
  let c := cancelCheck s (s.cru.pend.map (·.at'))
  seq [(if c = 8 then seq [onCru fun _ c => { c with pend := none }, commitStatus st 8 false, forward .routeCancel none]
     else commitStatus st c s.cru.pend.isSome)] s
def execRouteCommitCancel (m : Nat) (s : State) : Host.Outcome State Fault Refusal := done (writing m (routeCommitCancel m)) s

/-- Apply captured entries in stage order (R203). -/
def applyEntries (es : List StageEntry) : Act := each (es.filter StageEntry.valid) (fun e =>
  if e.isDest then putDest e.index e.v0
  else seq [poke (tblRoute + 2 * e.index) e.v0, poke (tblRoute + 2 * e.index + 1) e.v1])

/-- ROUTE_COMMIT_APPLY: the boundary of P, the next period's launch (R203). -/
def routeCommitApply : Act := fun s =>
  match s.cru.pend with
  | some c => if c.at' = renderN s + 1 then seq [
      applyEntries c.what, onCru fun _ c => { c with pend := none },
      commitStatus (CRU + 0x13) 2 false, pokePair (CRU + 0x14) c.at'] s else []
  | none => []
def execRouteCommitApply (s : State) : Host.Outcome State Fault Refusal := done routeCommitApply s

/-! ### Bank swaps (R229-R233) -/

/-- TPR_SWAP_STATUS; codes other than PENDING, QUEUED, FADING and APPLIED are logged (R230). -/
def swapStatus (c : Nat) : Act := seq [
  pokeF (TPR + 0x13) 7 0 c, when (fun _ => !(1 ≤ c && c ≤ 4)) (report (srcOf TPR) .commitEnd c TPR)]

/-- TPR_BANK_SUM_k (R229); an unlisted word is zero and reserved words count as zero. -/
def bankSum (s : State) (k : Nat) : Nat :=
  (s.mem.filter (fun e => tblBank k ≤ e.1 && e.1 < tblBank (k + 1) && (e.1 - tblBank k) % 8 < 5)).foldl
    (fun a e => (a + e.2.toNat * (2 * (e.1 - tblBank k) + 1)) % 2 ^ 36) 0

/-- The partner's sum differs: MISMATCH, TWIN_EVENT and a log entry (R233). -/
def sumCompare (target v : Nat) : Act := fun s =>
  if bankSum s target = v then [] else
  seq [pokeF (TPR + 0x13) 35 35 1, ringTwin, report (srcOf TPR) .divergence target v] s

/-- Send a bank sum: each unit of a pair does when a swap starts (R233). -/
def sendSum (target : Nat) : Act := when (fun s => isTwin s && tongsUp s) (fun s =>
  let f : FwdOut := { seq := s.twn.fwdSeq, item := .bankSum target (bankSum s target), accept := s.wav.n, ack := none }
  seq [tongsSend 2 (fwdBody f), onTwn fun _ t => { t with fwdSeq := (t.fwdSeq + 1) % 2 ^ 32, fwdOut := t.fwdOut ++ [f] }] s)

/-- A swap starts at boundary b (R231). -/
def startSwap (q : SwapReq) (b : Nat) : Act := fun s =>
  if s.tpr.cur = q.target then swapStatus 5 s else
  seq [pokePair (TPR + 0x14) b, sendSum q.target,
    (match s.tpr.partnerSum with
     | some (t, v) => if t = q.target then seq [sumCompare t v, onTpr fun _ t => { t with partnerSum := none }] else nop
     | none => nop),
    (match q.fade with
     | none => seq [onTpr fun _ t => { t with cur := q.target }, swapStatus 4]
     | some lg => seq [onTpr fun _ t => { t with fade := some (b, lg, q.target) }, swapStatus 3])] s

/-- A request joins Temper's queue, displacing what it replaces (R230). -/
def holdSwap (q : SwapReq) : Act := fun s =>
  if s.tpr.fade.isSome && s.tpr.pend.isNone then
    seq [when (fun s => s.tpr.queued.isSome) (swapStatus 6), onTpr fun _ t => { t with queued := some q }, swapStatus 2] s
  else seq [when (fun s => s.tpr.pend.isSome) (swapStatus 6), onTpr fun _ t => { t with pend := some q }, swapStatus 1] s

/-- The request that a TPR_SWAP_CTL word with period p makes. -/
def swapReq (ctl : Word) (p : Nat) : SwapReq :=
  { at' := p, fade := if flag ctl 1 then some (fld ctl 7 4) else none, target := fld ctl 0 0 }

/-- Who may write the swap registers: as the banks themselves, nobody but the loader while EQ_BANKS is STATIC (R228, TPR_ registers). -/
def swapMaster (s : State) (m : Nat) : Bool := m ≤ 2 && (m == 2 || !staticOf s secEq)

/-- BANK_SWAP_REQUEST: GO (R230). -/
def bankSwapRequest (m : Nat) (ctl : Word) : Act := fun s =>
  if !swapMaster s m then seq [keepStaged m (fun _ => false), refused m (TPR + 0x12) true] s else
  seq [keepStaged m (fun _ => false),
    (match commitCheck s false (atOf s (TPR + 0x10)) with
     | .inl c => swapStatus (if c = 0x0B then 0x0B else if c = 6 then 0x0A else if c = 3 then 7 else 8)
     | .inr p =>
       if flag ctl 1 && (fld ctl 7 4 < 4 || 14 < fld ctl 7 4) then swapStatus 9
       else seq [holdSwap (swapReq ctl p), forward (.swap p ctl) none])] s
def execBankSwapRequest (m : Nat) (ctl : Word) (s : State) : Host.Outcome State Fault Refusal := done (bankSwapRequest m ctl) s

/-- When the request that a cancel would remove starts: its own P, or the end of the running fade (R233). -/
def swapStartOf (s : State) : Option Nat :=
  match s.tpr.pend, s.tpr.queued, s.tpr.fade with
  | some q, _, _ => some q.at'
  | none, some q, some f => some (max q.at' (f.1 + 2 ^ f.2.1))
  | none, some q, none => some q.at'
  | none, none, _ => none

/-- Remove the PENDING request, or else the QUEUED one. -/
def dropSwap : Act := onTpr fun _ t => if t.pend.isSome then { t with pend := none } else { t with queued := none }

/-- BANK_SWAP_CANCEL (R233). -/
def bankSwapCancel (m : Nat) : Act := fun s =>
  if !swapMaster s m then seq [keepStaged m (fun _ => false), refused m (TPR + 0x12) true] s else
  let c := cancelCheck s (swapStartOf s)
  seq [keepStaged m (fun _ => false),
    (if c = 8 then seq [dropSwap, swapStatus 0x0C, forward .swapCancel none]
     else swapStatus (if c = 6 then 0x0A else if c = 9 then 0x0D else 0x0E))] s
def execBankSwapCancel (m : Nat) (s : State) : Host.Outcome State Fault Refusal := done (bankSwapCancel m) s

/-- BANK_SWAP_START: the boundary of a PENDING request's P, the next period's launch (R231). -/
def bankSwapStart : Act := fun s =>
  match s.tpr.pend with
  | some q => if q.at' = renderN s + 1 then seq [onTpr fun _ t => { t with pend := none }, startSwap q q.at'] s else []
  | none => []
def execBankSwapStart (s : State) : Host.Outcome State Fault Refusal := done bankSwapStart s

/-- FADE_END: at the boundary of S + F the fade's TARGET becomes current and a queued request starts, or waits for its own P
(R231). -/
def fadeEnd : Act := fun s =>
  match s.tpr.fade with
  | some (st, lg, tg) =>
    let b := renderN s + 1
    if b ≠ st + 2 ^ lg then [] else
    seq [onTpr fun _ t => { t with fade := none, cur := tg, queued := none }, swapStatus 4,
      (match s.tpr.queued with
       | some q => if q.at' ≤ b then startSwap q b else seq [onTpr fun _ t => { t with pend := some q }, swapStatus 1]
       | none => nop)] s
  | none => []
def execFadeEnd (s : State) : Host.Outcome State Fault Refusal := done fadeEnd s

/-! ### Quench clears (R325) -/

/-- QUENCH_CLEAR: GO in QCH_CLEAR_CTL, naming one feed or ALL. -/
def quenchClear (m : Nat) (ctl : Word) : Act := fun s =>
  let st := QCH + 0x13
  if !routeMaster m then refused m (QCH + 0x12) true s else
  seq [(match commitCheck s s.qch.clear.isSome (atOf s (QCH + 0x10)) with
     | .inl c => commitStatus st c s.qch.clear.isSome
     | .inr p => seq [
         onQch fun _ q => { q with clear := some { at' := p, what := if flag ctl 33 then none else some (fld ctl 9 0) } },
         commitStatus st 1 true, forward (.clear p ctl) none])] s
def execQuenchClear (m : Nat) (ctl : Word) (s : State) : Host.Outcome State Fault Refusal := done (writing m (quenchClear m ctl)) s

/-- QUENCH_CLEAR_CANCEL, as R205. -/
def quenchClearCancel (m : Nat) : Act := fun s =>
  let st := QCH + 0x13
  if !routeMaster m then refused m (QCH + 0x12) true s else
  let c := cancelCheck s (s.qch.clear.map (·.at'))
  seq [(if c = 8 then seq [onQch fun _ q => { q with clear := none }, commitStatus st 8 false, forward .clearCancel none]
     else commitStatus st c s.qch.clear.isSome)] s
def execQuenchClearCancel (m : Nat) (s : State) : Host.Outcome State Fault Refusal := done (writing m (quenchClearCancel m)) s

def Meter.init : Meter :=
  { peak := 0, tp := 0, hist := [], m := [0, 0, 0], hold := 0, t := 0, gov := 0, sat := 0, held := false, clip := false }
/-- A feed as on entry to RUN (R67, R325): nothing released yet, unquenched, no ramp running. -/
def Feed.init : Feed := { rel := 0, hold := none, short := false, e := 0, cause := 0, qk := 64, ck := 64, meter := Meter.init }
def feedOf (s : State) (f : Nat) : Feed := sparseGet (fun _ => Feed.init) s.feeds f

/-- A named feed that is quenched starts its clear ramp (R325). -/
def clearFeed (f : Feed) : Feed := if f.cause = 0 then f else { f with e := 0, cause := 0, ck := 0 }

/-- QUENCH_CLEAR_APPLY: the boundary of P. -/
def quenchClearApply : Act := fun s =>
  match s.qch.clear with
  | some c => if c.at' = renderN s + 1 then seq [
      onFeeds fun _ t => t.map (fun e => (e.1, match c.what with
        | none => clearFeed e.2
        | some f => if f = e.1 then clearFeed e.2 else e.2)),
      onQch fun _ q => { q with clear := none }, commitStatus (QCH + 0x13) 2 false] s else []
  | none => []
def execQuenchClearApply (s : State) : Host.Outcome State Fault Refusal := done quenchClearApply s

/-! ### Argument commits (R262) -/

/-- The lanes that serve pair p: 2p and 2p + 1, or those a re-formed pair was given (R308). -/
def lanesOf (s : State) (p : Nat) : Nat × Nat := (sparseFind s.lan.serve p).getD (2 * p, 2 * p + 1)
def firstLane (s : State) (p : Nat) : Nat := (lanesOf s p).1

/-- Destinations of the COPY nodes that run from a lane and mirror its commits (R309, R312). -/
def mirrors (s : State) (lane : Nat) : List Nat :=
  (s.bel.nodes.filter (fun k => nodeKind s k == 2 && (nodeParam s k).testBit 3 && nodeTarget s k == lane)).map (nodeOther s)

/-- The lanes a commit on pair p is written to: those that serve it, a new lane whose copy is complete but which has not taken over yet
(R237, R309), and the destinations of copies that mirror commits (R312). -/
def commitLanes (s : State) (p : Nat) : List Nat :=
  [(lanesOf s p).1, (lanesOf s p).2] ++ (s.bel.rebuild.filter (fun r => r.pair == p && r.copied)).flatMap (·.new)
  ++ mirrors s (lanesOf s p).1 ++ mirrors s (lanesOf s p).2

/-- Write a word of Y memory, or of X memory, of pair p. -/
def putY (p w : Nat) (v : Word) : Act := fun s => (commitLanes s p).map (fun l => .mem (yW l w) v)
def putX (p w : Nat) (v : Word) : Act := fun s => (commitLanes s p).map (fun l => .mem (xW l w) v)

/-- An applied argument commit belongs to what a reload of the pair restores (R308). -/
def keepArg (p w : Nat) (v : Word) : Act := onImg fun _ g =>
  { g with lanes := sparseSet (fun _ => 0) g.lanes (0x40000 * p + 0x10000 + w) v }

/-- ARGUMENT_COMMIT: GO with FIRST and COUNT for pair p. -/
def argumentCommit (m p first count : Nat) : Act := fun s =>
  let b := LAN (2 * p)
  let st := b + 0x23
  if 1 < m || 36 ≤ p then refused m (b + 0x22) true s else
  let held := (sparseFind s.lan.args p).isSome
  seq [badIndex st 0x3FF,
    (match commitCheck s held (atOf s (b + 0x20)) with
     | .inl c => commitStatus st c held
     | .inr at' =>
       let bs := blocks (rd s) (firstLane s p)
       if count = 0 || 1024 < first + count then commitStatus st 5 false
       else match (List.range count).find? (fun i => !isArgument bs (0x1C00 + first + i)) with
         | some i => seq [badIndex st (first + i), commitStatus st 5 false]
         | none =>
           let ws := rdList s (b + 0x400 + first) count
           seq [onLan fun _ l => { l with args := sparsePut l.args p { at' := at', what := (first, ws) } },
                commitStatus st 1 true, forward (.args p at' first ws) none])] s
def execArgumentCommit (m p first count : Nat) (s : State) : Host.Outcome State Fault Refusal :=
  done (writing m (argumentCommit m p first count)) s

/-- ARGUMENT_COMMIT_CANCEL, as R205. -/
def argumentCommitCancel (m p : Nat) : Act := fun s =>
  let st := LAN (2 * p) + 0x23
  if 1 < m || 36 ≤ p then refused m (LAN (2 * p) + 0x22) true s else
  let pd := sparseFind s.lan.args p
  let c := cancelCheck s (pd.map (·.at'))
  seq [(if c = 8 then seq [onLan fun _ l => { l with args := sparseDrop l.args p }, commitStatus st 8 false,
                        forward (.argsCancel p) none]
     else commitStatus st c pd.isSome)] s
def execArgumentCommitCancel (m p : Nat) (s : State) : Host.Outcome State Fault Refusal := done (writing m (argumentCommitCancel m p)) s

/-- ARGUMENT_COMMIT_APPLY: at the launch of P the words change whole in both lanes of the pair. -/
def argumentCommitApply (p : Nat) : Act := fun s =>
  match sparseFind s.lan.args p with
  | some c => if c.at' = renderN s + 1 then seq [
      each c.what.2.zipIdx (fun e => seq [putY p (0x1C00 + c.what.1 + e.2) e.1, keepArg p (0x1C00 + c.what.1 + e.2) e.1]),
      onLan fun _ l => { l with args := sparseDrop l.args p }, commitStatus (LAN (2 * p) + 0x23) 2 false] s else []
  | none => []
def execArgumentCommitApply (p : Nat) (s : State) : Host.Outcome State Fault Refusal := done (argumentCommitApply p) s

/-! ### The delay list (R299-R305) -/

/-- Is a slot of the delay list taken: by an entry, or by a released background entry whose item has not started (R302)? -/
def slotTaken (s : State) (k : Nat) : Bool := (sparseFind s.bel.delay k).isSome || s.bel.bg.any (fun e => e.2.slots.contains k)

/-- The slot the next entry of a half takes: round robin after the one last allocated (R299). -/
def nextSlot (s : State) (bg : Bool) : Option Nat :=
  let base := if bg then 2048 else 0
  let last := (if bg then s.bel.lastB else s.bel.lastP) - base
  ((List.range 2048).map (fun i => base + (last + 1 + i) % 2048)).find? (fun k => !slotTaken s k)

/-- BEL_CMD_STATUS_h: CODE, and the ticket of an accepted READY. -/
def belStatus (h code : Nat) : Act := pokeF (BEL + 0x13 + 4 * h) 27 20 code

/-- Place an entry in a slot with its generation. -/
def placeEntry (k g item p : Nat) : Act := onBel fun _ b => { b with
  delay := sparsePut b.delay k { item := item, at' := p }, gen := sparsePut b.gen k (g % 256), mark := sparseDrop b.mark k,
  lastP := if k < 2048 then k else b.lastP, lastB := if k < 2048 then b.lastB else k }

/-- A command written while its port shows BUSY is discarded and counted in DISCARDS (R305). -/
def belDiscard (h : Nat) : Act := bump (BEL + 0x13 + 4 * h) 34 28 1

/-- READY written by master m to port h for an item (R300). P = 0 takes C + 1 for a background item in every role (DEDUCED: log entry 40). A
generation counts from 0 before a slot's first allocation (log entry
31). Whether the command before it still runs is the outside's (log entry 79). -/
def ready (m : Nat) (cmd : BelCmd) (item : Nat) : Act := fun s =>
  let h := cmd.port
  if m ≠ h || 1 < h then refused m (BEL + 0x12 + 4 * h) true s else
  if cmd.busy then belDiscard h s else
  let c := s.wav.n
  let d := itemOf (rd s) item
  let bg := d.cls == 2
  let least := if bg then c + 1 else c + 32
  let p0 := atOf s (BEL + 0x10 + 4 * h)
  let p := if p0 = 0 ∧ (bg ∨ s.sys.role = .solo) then least else p0
  seq [(if s.sys.state != .run then belStatus h 0x0B
     else if !d.valid || !d.delayed then belStatus h 0x08
     else if !bg && !authoritative s then belStatus h 0x0A
     else if p < least then belStatus h 0x05
     else if c + 2 ^ 24 < p then belStatus h 0x06
     else if s.bel.delay.any (fun e => e.2.item == item && e.2.at' == p) then belStatus h 0x09
     else match nextSlot s bg with
       | none => belStatus h 0x07
       | some k =>
         let g := ((sparseGet (fun _ => 0) s.bel.gen k) + 1) % 256
         let ticket := k * 256 + g
         seq [placeEntry k g item p, belStatus h 0x01, pokeF (BEL + 0x13 + 4 * h) 19 0 ticket,
              when (fun _ => !bg) (forward (.ready item p ticket) none)])] s
def execReady (m : Nat) (h : BelCmd) (item : Nat) (s : State) : Host.Outcome State Fault Refusal := done (writing m (ready m h item)) s

/-- Free a slot with a mark: 1 RELEASED, 2 REMOVED (R302). -/
def freeSlot (k mk : Nat) : Act := onBel fun _ b => { b with delay := sparseDrop b.delay k, mark := sparsePut b.mark k mk }

/-- The outcome of cancelling a ticket in the present period: its code (R303); that of an entry which leaving RUN dropped is NOT_FOUND
(DESIGN CHOICE: log entry 41). -/
def cancelCode (s : State) (ticket : Nat) : Nat :=
  let k := ticket / 256
  if sparseFind s.bel.gen k != some (ticket % 256) then 4
  else match sparseFind s.bel.delay k with
    | some e => if k < 2048 then (if !authoritative s then 0x0A else if e.at' < s.wav.n + 32 then 3 else 2) else 2
    | none => if s.bel.bg.any (fun e => e.2.slots.contains k) then 2
              else if sparseFind s.bel.mark k = some 1 then 3 else 4

/-- Remove an entry: from the list, or from the background item that it made READY. An item that is to run again from an entry already
dispatched stays READY (R290, R298). -/
def removeEntry (k : Nat) : Act := fun s => seq [
  freeSlot k 2,
  each (s.bel.bg.filter (fun e => e.2.slots.contains k)) (fun e => seq [
    setBg e.1 fun b => { b with slots := b.slots.erase k },
    fun s => if (bgOf s e.1).slots.isEmpty && (bgOf s e.1).st == 1 && !(bgOf s e.1).again then bgState e.1 0 s else []])] s

/-- DELAY_LIST_CANCEL written by master m to port h (R303). -/
def delayListCancel (m : Nat) (cmd : BelCmd) (ticket : Nat) : Act := fun s =>
  let h := cmd.port
  if m ≠ h || 1 < h then refused m (BEL + 0x12 + 4 * h) true s else
  if cmd.busy then belDiscard h s else
  let t := ticket % 2 ^ 20
  let c := cancelCode s t
  seq [belStatus h c,
       when (fun _ => c == 2) (seq [removeEntry (t / 256), when (fun _ => decide (t / 256 < 2048)) (forward (.readyCancel t) none)])] s
def execDelayListCancel (m : Nat) (h : BelCmd) (ticket : Nat) (s : State) : Host.Outcome State Fault Refusal :=
  done (writing m (delayListCancel m h ticket)) s

end Sys2Proof.Machine
end

