-- ==== Sys2Proof/Machine/Flags.lean ====
section
/-! DEFINITION. The flags of a lane: GOV and SOV of the accumulators (02: R34, R35; 10: R240) and FSAT of the 36-bit results (10: R240;
11: R269, R274). Each function gives a result and the flags that computing it sets. -/
namespace Sys2Proof.Machine
open Sys2Proof

/-- A result with the sticky flags it sets. -/
structure Flagged (α : Type) where
  val : α
  gov : Bool
  sov : Bool
  fsat : Bool
deriving DecidableEq, Repr

/-- One addition into an accumulator in SAT or WRAP mode (R34, R35). -/
def accAdd (sat : Bool) (z : Flagged Int) (t : Int) : Flagged Int :=
  if sat then
    let r := sat80 (z.val + t)
    { z with val := r.1, sov := z.sov || r.2 }
  else { z with val := wrap80 (z.val + t), gov := z.gov || out80 (z.val + t) }

/-- Additions in the order given (R272). -/
def accAdds (sat : Bool) (z : Int) (ts : List Int) : Flagged Int :=
  ts.foldl (accAdd sat) { val := z, gov := false, sov := false, fsat := false }

/-- A 36-bit result that saturates, with FSAT (R269). -/
def satResult (z : Int) : Flagged Word :=
  let r := saturate36 z
  { val := wdI r.1, gov := false, sov := false, fsat := r.2 }

/-- A 36-bit result modulo 2^36: no flag (R269). -/
def wrapResult (z : Int) : Flagged Word := { val := wdI z, gov := false, sov := false, fsat := false }

/-- A bit-wise result: no flag. -/
def bitResult (w : Word) : Flagged Word := { val := w, gov := false, sov := false, fsat := false }

/-- RND: the shift, half to even, the 36-bit range, FSAT (R274). -/
def rndResult (a : Int) (sh : Nat) : Flagged Word :=
  let r := storeF36 a sh
  { val := wdI r.1, gov := false, sov := false, fsat := r.2 }

/-- The sticky flags a result sets, by LReg.sticky number: 0 GOV, 1 SOV, 2 FSAT. -/
def Flagged.sets {α : Type} (f : Flagged α) : List Nat :=
  (if f.gov then [0] else []) ++ (if f.sov then [1] else []) ++ (if f.fsat then [2] else [])

end Sys2Proof.Machine
end

