-- ==== Sys2Proof/Machine/Operands.lean ====
section
/-! DEFINITION. What a lane instruction names (10: R238-R245, R248-R252; 11: R265-R280): bundles and their slots, data registers under
rotation, special registers, accumulators as each kind of reader sees them, addresses and their post-modification, the footprint and
window checks, and the encodings that are illegal. -/
namespace Sys2Proof.Machine
open Sys2Proof

/-! ### Bundles (R265, R268, R272, R275) -/

/-- The slot's bit in LaneRun.issued. -/
def LSlot.bit (k : LSlot) : Nat := match k with
  | .g => 0
  | .m => 1
  | .x => 2
  | .y => 3
/-- Among results that land together in a data register, the higher stands (R279). -/
def LSlot.rank (k : LSlot) : Nat := match k with
  | .g => 0
  | .m => 1
  | .x => 2
  | .y => 3

/-- The 72 bits of bundle b in a lane's instruction memory (R242, R265). -/
def bundleAt (m : Rd) (lane b : Nat) : Nat :=
  (m (laneMem lane 2 + 2 * (b % 8192))).toNat * 2 ^ 36 + (m (laneMem lane 2 + 2 * (b % 8192) + 1)).toNat

/-- The bits of one slot (R265). -/
def slotOf (b : Nat) (k : LSlot) : Nat := match k with
  | .g => bits b 71 52
  | .m => bits b 51 32
  | .x => bits b 31 16
  | .y => bits b 15 0

/-- An encoding from its fields, each with its width, most significant first; none where a value exceeds its field. -/
def pack (fs : List (Nat × Nat)) : Option Nat :=
  if fs.all (fun f => decide (f.1 < 2 ^ f.2)) then some (fs.foldl (fun a f => a * 2 ^ f.2 + f.1) 0) else none

def encAlu (op dd ds g : Nat) : Option Nat := pack [(0, 2), (op, 5), (dd, 5), (ds, 5), (g, 3)]
def encBranch (kind g target : Nat) : Option Nat := pack [(1, 2), (g, 3), (kind, 2), (target, 13)]
def encLoop (sub last count : Nat) : Option Nat := pack [(2, 2), (sub, 2), (last, 8), (count, 8)]
def encLdi (dd imm : Nat) : Option Nat := pack [(3, 2), (dd, 5), (imm, 13)]
def encM (op ra rb ac aln : Nat) (neg : Bool) : Option Nat := pack [(op, 5), (ra, 5), (rb, 5), (ac, 2), (aln, 2), (b2n neg, 1)]
def encXY (op d a mod : Nat) : Option Nat := pack [(op, 3), (d, 5), (a, 3), (mod, 5)]

/-! ### Registers as a bundle reads them (R238-R240, R266, R280) -/

/-- Physical register of logical D(k mod 32) under the RRB visible (R239, R272). -/
def phys (r : LaneRun) (k : Nat) : Nat := if k % 32 < 16 then k % 32 else 16 + (k % 32 - 16 + r.rrb) % 16
/-- D(k). -/
def rdD (r : LaneRun) (k : Nat) : Word := sparseGet (fun _ => 0) r.d (phys r k)
def sD (r : LaneRun) (k : Nat) : Int := (rdD r k).toInt
def uD (r : LaneRun) (k : Nat) : Nat := (rdD r k).toNat

/-- P(k); P0 reads as 1 (R238). -/
def predOf (r : LaneRun) (k : Nat) : Bool := k == 0 || r.preds.testBit k

def aReg (r : LaneRun) (k : Nat) : Nat := sparseGet (fun _ => 0) r.a k
def bReg (r : LaneRun) (k : Nat) : Nat := sparseGet (fun _ => 0) r.b k
def lReg (r : LaneRun) (k : Nat) : Nat := sparseGet (fun _ => 0) r.l k

/-- SR as MOVG reads it (R240). -/
def srOf (r : LaneRun) : Nat := b2n r.im * 2 ^ 11 + r.sticky % 8 * 2 ^ 5 + b2n r.satm * 2 ^ 4

/-- A special register by its code, as MOVG reads it (R270). -/
def specialOf (r : LaneRun) (k : Nat) : Nat :=
  if k < 8 then aReg r k else if k < 16 then bReg r (k - 8) else if k < 24 then lReg r (k - 16)
  else if k = 24 then r.am else if k = 25 then r.lc else if k = 26 then r.ls else if k = 27 then r.le
  else if k = 28 then r.rrb else if k = 29 then srOf r else if k = 30 then r.preds % 256 / 2 * 2 + 1 else 0

/-- Results at their landing (R277, R279): register, value, latency, rank. -/
abbrev Landing := LReg × Nat × Nat × Nat

/-- What MOVS lands in the special register DD names (R270, R279). A MOVS to SR that writes a sticky flag as 0 yields to an operation
that sets it. -/
def movsLands (dd v : Nat) : List Landing :=
  if dd < 8 then [(.a dd, bits v 31 0, 2, 0)] else if dd < 16 then [(.b (dd - 8), bits v 31 0, 2, 0)]
  else if dd < 24 then [(.l (dd - 16), bits v 19 0, 2, 0)]
  else if dd = 24 then [(.am, bits v 15 0, 2, 0)]
  else if dd = 25 then [(.lc, bits v 23 0, 2, 1)]
  else if dd = 26 then [(.ls, bits v 12 0, 2, 1)]
  else if dd = 27 then [(.le, bits v 12 0, 2, 1)]
  else if dd = 29 then [(.im, bits v 11 11, 2, 1), (.satm, bits v 4 4, 2, 1),
    (.sticky 0, bits v 5 5, 2, 0), (.sticky 1, bits v 6 6, 2, 0), (.sticky 2, bits v 7 7, 2, 0)]
  else if dd = 30 then (List.range 7).map (fun i => (.pred (i + 1), bits v (i + 1) (i + 1), 2, 1))
  else []

/-! ### Accumulators (R272-R274, R277) -/

/-- The value of ACC(c) after every M operation that issued at or before step t. -/
def accAt (r : LaneRun) (c t : Nat) : Int := (((r.acc.getD c []).find? (fun e => e.1 ≤ t)).map (·.2)).getD 0
/-- As the next accumulating operation takes it, and as RND, ACCGET and ACCPUT read it (R277); steps count from 4 at dispatch. -/
def accNow (r : LaneRun) (c : Nat) : Int := accAt r c (r.step - 1)
def accLate (r : LaneRun) (c : Nat) : Int := accAt r c (r.step - 3)

/-- Put a new value of ACC(c), computed at the present step; four entries cover every reader. -/
def accPut (r : LaneRun) (c : Nat) (z : Int) : LaneRun :=
  { r with acc := (List.range 4).map (fun i =>
      if i = c then ((r.step, z) :: (r.acc.getD i [])).take 4 else r.acc.getD i []) }

/-- An operand's sign under NEG (R272). -/
def negate (neg : Bool) (z : Int) : Int := if neg then -z else z

/-- The shift of a product and of an operand added alone, by ALN (R273). -/
def prodShift (aln : Nat) : Nat := if aln = 1 then 1 else if aln = 2 then 3 else 0
def addShift (aln : Nat) : Nat := if aln = 0 then 0 else 30 + (if aln = 3 then 4 else aln)

/-- The aligned product ±D(i) × D(j). -/
def product (r : LaneRun) (neg : Bool) (aln i j : Nat) : Int := negate neg (sD r i * sD r j * 2 ^ prodShift aln)
/-- The aligned operand ±D(i). -/
def operand (r : LaneRun) (neg : Bool) (aln i : Nat) : Int := negate neg (sD r i * 2 ^ addShift aln)

/-- The mode a suffix names: 0 SR.SAT, 1 WRAP, 2 SAT (R272). -/
def modeOf (r : LaneRun) (sfx : Nat) : Bool := if sfx = 0 then r.satm else sfx == 2

/-- Part k of an accumulator (R274), as an unsigned number. -/
def accPart (z : Int) (k : Nat) : Nat :=
  let u := (z.emod (2 ^ 80)).toNat
  if k = 0 then bits u 35 0 else if k = 1 then bits u 71 36 else bits u 79 72
/-- An accumulator with part k replaced (R274). -/
def accWithPart (z : Int) (k v : Nat) : Int :=
  let lo := if k = 0 then bits v 35 0 else accPart z 0
  let mi := if k = 1 then bits v 35 0 else accPart z 1
  let hi := if k = 2 then bits v 7 0 else accPart z 2
  signedN 80 (hi * 2 ^ 72 + mi * 2 ^ 36 + lo)

/-! ### Addresses (R244, R245, R275) -/

/-- rev_w: the low w bits in reverse order. -/
def revBits (w v : Nat) : Nat := (List.range w).foldl (fun a i => a * 2 + v / 2 ^ i % 2) 0

/-- Ak after a modification by m under mode, base and length; none where R245 makes it unpredictable. -/
def postMod (mode b l a : Nat) (m : Int) : Option Nat :=
  if mode = 0 ∨ l = 0 then some (((a : Int) + m).emod (2 ^ 32)).toNat
  else if a < b ∨ b + l ≤ a then none
  else if mode = 1 then some ((b + (((a - b : Nat) : Int) + m).emod l).toNat % 2 ^ 32)
  else if l ≠ 2 ^ l.log2 then none
  else
    let o : Nat := ((((revBits l.log2 (a - b) : Nat) : Int) + m).emod l).toNat
    some ((b + revBits l.log2 o) % 2 ^ 32)

/-- The mode of Ak in AM (R238). -/
def amOf (r : LaneRun) (k : Nat) : Nat := r.am / 2 ^ (2 * k) % 4

/-! ### Window map (R250-R252) -/

/-- A valid entry of a window map. -/
structure WinEntry where
  kind : Nat
  replace : Bool
  count : Nat
  win : Nat
  first : Nat
  owner : Nat
deriving DecidableEq, Repr

/-- The valid entries of pair p's map, held in lane 2p's block (R250). -/
def winEntries (m : Rd) (p : Nat) : List WinEntry :=
  ((List.range 32).filter (fun e => flag (m (LAN (2 * p) + 0x100 + 2 * e)) 35)).map (fun e =>
    let w := m (LAN (2 * p) + 0x100 + 2 * e)
    { kind := fld w 34 32, replace := flag w 31, count := fld w 30 24, win := fld w 23 12, first := fld w 10 0,
      owner := fld (m (LAN (2 * p) + 0x101 + 2 * e)) 10 0 })

/-- The entries an item owns. -/
def ownEntries (m : Rd) (i : Nat) : List WinEntry := (winEntries m (itemOf m i).pair).filter (fun e => e.owner == i)

/-- May an item of class cls access a word of an entry of this kind (R252)? -/
def kindAllows (cls kind : Nat) (store : Bool) : Bool :=
  if cls = 0 then (kind ≤ 3 && !store) || kind == 4
  else if cls = 1 then (kind ≤ 2 && !store) || kind == 5
  else false

/-! ### What an item may reach (R249, R252, R260) -/

/-- The footprint check of an X access: none, or the cause of the program fault. -/
def checkX (b : Block) (w : Nat) : Option Nat := if b.x ≤ w ∧ w < b.x + b.xLen then none else some 3

/-- The check of a Y access. -/
def checkY (m : Rd) (i cls : Nat) (b : Block) (w : Nat) (store : Bool) : Option Nat :=
  if w < 0x1000 then
    if (ownEntries m i).any (fun e => e.win ≤ w && w < e.win + e.count && kindAllows cls e.kind store) then none else some 4
  else if 0x1C00 ≤ w then
    if store then some 5 else if b.at' ≤ w ∧ w < b.at' + 16 * b.len then none else some 3
  else if b.y ≤ w ∧ w < b.y + b.yLen then none else some 3

/-- May the pair reach a crossbar address through its windows (R260, R261)? -/
def xbarOk (m : Rd) (p a : Nat) (store : Bool) : Bool :=
  [0, 1].any (fun k =>
    let base := fld (m (LAN (2 * p) + 0x10 + 2 * k)) 31 0
    let len := fld (m (LAN (2 * p) + 0x11 + 2 * k)) 31 0
    flag (m (LAN (2 * p) + 3)) (2 * k) && (!store || flag (m (LAN (2 * p) + 3)) (2 * k + 1)) && base ≤ a && a < base + len)

/-! ### Illegal encodings (R267, R271, R282, R291) -/

/-- Is the address within LE - 2 to LE of a running loop? -/
def nearLoopEnd (r : LaneRun) : Bool := r.lc != 0 && r.pc ≤ r.le && r.le ≤ r.pc + 2

/-- May no branch, JR, END or YIELD stand here: a delay slot, or the end of a running loop (R271)? -/
def noBranch (r : LaneRun) : Bool := r.delay != 0 || nearLoopEnd r

def illegalG (r : LaneRun) (g : Nat) : Bool :=
  let maj := bits g 19 18
  let op := bits g 17 13
  let dd := bits g 12 8
  let ds := bits g 7 3
  if maj = 0 then
    if op = 0 then g != 0
    else if op = 0x18 then dd == 28 || dd == 31
    else if op = 0x19 then ds == 31
    else if op = 0x1A then dd != 0
    else if op = 0x1B ∨ op = 0x1C then dd != 0 || ds != 0
    else if op = 0x1D ∨ op = 0x1E then dd != 0 || ds != 0 || noBranch r || (op == 0x1E && r.cls != 2)
    else op == 0x1F
  else if maj = 1 then
    noBranch r || bits g 14 13 == 3 || (bits g 14 13 == 2 && bits g 12 5 != 0)
  else if maj = 2 then
    r.lc != 0 || bits g 15 8 == 0 || (bits g 17 16 % 2 == 1 && bits g 7 5 != 0)
  else false

def illegalM (w : Nat) : Bool :=
  let op := bits w 19 15
  let ra := bits w 14 10
  let rb := bits w 9 5
  let ac := bits w 4 3
  let aln := bits w 2 1
  let neg := bits w 0 0
  if op = 0 then w != 0
  else if op ≤ 0x0E then aln == 3 || (4 ≤ op && op ≤ 9 && ac != 0)
  else if op = 0x0F then ra != 0 || rb != 0 || aln != 0 || neg != 0
  else if op ≤ 0x13 then rb != 0
  else if op = 0x14 then aln != 0 || neg != 0
  else if op ≤ 0x16 then aln != 0 || neg != 0 || 3 ≤ rb
  else true

def illegalXY (r : LaneRun) (w : Nat) (y : Bool) : Bool :=
  let op := bits w 15 13
  if op = 0 then w != 0
  else amOf r (bits w 7 5) == 3 || (op == 5 && bits w 12 8 != 0) || (y && 6 ≤ op)

/-- Does a bundle raise ILLEGAL (R267)? -/
def illegal (r : LaneRun) (b : Nat) : Bool :=
  illegalG r (slotOf b .g) || illegalM (slotOf b .m) || illegalXY r (slotOf b .x) false || illegalXY r (slotOf b .y) true

/-! ### Waiting for a crossbar load (R276) -/

/-- Logical data registers that a slot's instruction reads or writes. -/
def touchG (g : Nat) : List Nat :=
  let maj := bits g 19 18
  let op := bits g 17 13
  let dd := bits g 12 8
  let ds := bits g 7 3
  if maj = 0 then
    if op = 0 ∨ (0x1B ≤ op) then []
    else if 0x11 ≤ op ∧ op ≤ 0x13 then [dd]
    else if op = 0x18 ∨ op = 0x1A then [ds]
    else if op = 0x19 then [dd]
    else [dd, ds]
  else if maj = 1 then (if bits g 14 13 = 2 then [bits g 4 0] else [])
  else if maj = 2 then (if bits g 17 16 % 2 = 1 then [bits g 4 0] else [])
  else [bits g 17 13]

def touchM (w : Nat) : List Nat :=
  let op := bits w 19 15
  let ra := bits w 14 10
  let rb := bits w 9 5
  let four (k : Nat) : List Nat := [k, k + 1, k + 2, k + 3]
  if op = 0 ∨ op = 0x0F ∨ 0x17 ≤ op then []
  else if op ≤ 3 ∨ op = 0x0D then [ra, rb]
  else if op ≤ 6 ∨ (0x0A ≤ op ∧ op ≤ 0x0C) ∨ op = 0x0E then four ra ++ four rb
  else if op ≤ 9 then ra :: four rb
  else [ra]

def touchXY (w : Nat) : List Nat :=
  let op := bits w 15 13
  if op = 0 ∨ op = 5 then [] else if op = 3 ∨ op = 4 then [bits w 12 8, bits w 4 0] else [bits w 12 8]

/-- Does the bundle issue a further XLD or XST, or END or YIELD under a guard that reads 1? -/
def usesXbar (r : LaneRun) (b : Nat) : Bool :=
  6 ≤ bits (slotOf b .x) 15 13 ||
  (bits (slotOf b .g) 19 18 == 0 && (bits (slotOf b .g) 17 13 == 0x1D || bits (slotOf b .g) 17 13 == 0x1E) &&
    predOf r (bits (slotOf b .g) 2 0))

/-- Must the bundle wait for the outstanding XLD? -/
def waits (r : LaneRun) (b : Nat) : Bool :=
  match r.xld with
  | none => false
  | some (k, _) => usesXbar r b ||
      (touchG (slotOf b .g) ++ touchM (slotOf b .m) ++ touchXY (slotOf b .x) ++ touchXY (slotOf b .y)).any (fun j => phys r j == k)

/-! ### Landing (R277, R279) -/

def setBitTo (n i : Nat) (b : Bool) : Nat := if b then n ||| 2 ^ i else if n.testBit i then n - 2 ^ i else n

/-- One result lands. -/
def landOne (r : LaneRun) (f : Fly) : LaneRun :=
  match f.reg with
  | .d n => { r with d := sparseSet (fun _ => 0) r.d n (wd f.val) }
  | .a n => { r with a := sparseSet (fun _ => 0) r.a n f.val }
  | .b n => { r with b := sparseSet (fun _ => 0) r.b n f.val }
  | .l n => { r with l := sparseSet (fun _ => 0) r.l n f.val }
  | .am => { r with am := f.val }
  | .lc => { r with lc := f.val }
  | .ls => { r with ls := f.val }
  | .le => { r with le := f.val }
  | .rrb => { r with rrb := f.val % 16 }
  | .rotate => { r with rrb := (r.rrb + 15) % 16 }
  | .im => { r with im := f.val != 0 }
  | .satm => { r with satm := f.val != 0 }
  | .sticky i => { r with sticky := setBitTo r.sticky i (f.val != 0) }
  | .pred n => { r with preds := setBitTo r.preds n (f.val != 0) }

/-- One step passes: what becomes visible in it lands, the lower ranks first. -/
def stepOn (r : LaneRun) : LaneRun :=
  let t := r.step + 1
  let now := r.fly.filter (fun f => f.due ≤ t)
  ((List.range 4).flatMap (fun k => now.filter (fun f => f.rank == k))).foldl landOne
    { r with step := t, fly := r.fly.filter (fun f => t < f.due) }

/-- k steps pass. -/
def stepsOn : Nat → LaneRun → LaneRun
  | 0, r => r
  | k + 1, r => stepsOn k (stepOn r)

/-- Every operation already issued completes (R284, R286): no result is more than four steps away. -/
def drain (r : LaneRun) : LaneRun := stepsOn 4 r

end Sys2Proof.Machine
end

