-- ==== Sys2Proof/Machine/Snap.lean ====
section
/-! DEFINITION. The snapshot of an alignment (14: R357, R359; 18: R457): the state frozen at P, whose layout is internal to the firmware
package (R359), so that packing it into words and unpacking it are uninterpreted (log entry 32), and after it the delay-line history. -/
namespace Sys2Proof.Machine
open Sys2Proof

/-- The words of the state part of a stream; and the state at the front of a stream with the number of its words, none where this
firmware package cannot read it. -/
opaque snapEncode : SnapPart → List Word
opaque snapDecode : List Word → Option (SnapPart × Nat)

/-- Addresses whose words the state part carries: object and target tables, routes, destinations, coefficient banks, the X and Y
memories of the working lanes (R359). -/
def snapAddr (a : Nat) : Bool :=
  (tblObject ≤ a && a < tblSceneDir) || (tblRoute ≤ a && a < tblStage) || (tblDest ≤ a && a < tblDest + 0x1000)
  || (tblBank 0 ≤ a && a < tblBank 2) || (0x28000000 ≤ a && a < 0x29000000 && (a / 0x20000) % 2 == 0)

/-- Feeds as a snapshot carries them: meter state is not sent (R359). -/
def noMeters (t : Sparse Feed) : Sparse Feed := t.map (fun e => (e.1, { e.2 with meter := Meter.init }))

/-- Delay lines without their samples, which the history part carries. -/
def noHistory (t : Sparse Line) : Sparse Line := t.map (fun e => (e.1, { e.2 with head := [], tailAt := 0, tail := [], jump := [] }))

/-- The state of this unit as a snapshot would carry it. -/
def snapOf (s : State) : SnapPart :=
  { words := s.mem.filter (fun e => snapAddr e.1), frames := s.scene.pending, annLatch := s.scene.annLatch, annOn := s.scene.annOn,
    annK := s.scene.annK, annPin := s.scene.annPin, annPartner := s.scene.annPartner, commit := s.cru.pend, clear := s.qch.clear, args := s.lan.args,
    delay := s.bel.delay.filter (fun e => e.1 < 2048), gen := s.bel.gen.filter (fun e => e.1 < 2048),
    mark := s.bel.mark.filter (fun e => e.1 < 2048), lastP := s.bel.lastP, tpr := s.tpr, loc := s.loc, srcs := s.wav.srcs, idle := s.wav.idle, rampStart := s.qch.rampStart,
    lanePresent := s.wav.lanePresent, lines := noHistory s.wav.lines, feeds := noMeters s.feeds, fwdNext := s.twn.fwdSeq }

/-- The partner's snapshot as this unit takes it: each unit's announcement pin is the other's partner pin (R130). -/
def SnapPart.fromPartner (p : SnapPart) : SnapPart := { p with annPin := p.annPartner, annPartner := p.annPin }

/-- Put a snapshot's state in force; background items and their entries stay local (R359), meters start from zero (R212). -/
def applySnap (p : SnapPart) : Act := seq [
  fun _ => [.memKeep (fun a => !snapAddr a)],
  fun _ => (p.words.filter (fun e => snapAddr e.1)).map (fun e => .mem e.1 e.2),
  onScene fun _ c => { c with pending := p.frames.map (fun f => { f with own := false }), annLatch := p.annLatch, annOn := p.annOn,
                              annK := p.annK, annPin := p.annPin, annPartner := p.annPartner },
  onCru fun _ c => { c with pend := p.commit },
  onQch fun _ q => { q with clear := p.clear, rampStart := p.rampStart },
  onLan fun _ l => { l with args := p.args },
  onBel fun _ b => { b with
    delay := p.delay ++ b.delay.filter (fun e => 2048 ≤ e.1), gen := p.gen ++ b.gen.filter (fun e => 2048 ≤ e.1),
    mark := p.mark ++ b.mark.filter (fun e => 2048 ≤ e.1), lastP := p.lastP },

  onTpr fun _ _ => p.tpr,
  onLoc fun _ c => { p.loc with probeArmed := c.probeArmed },
  onWav fun _ w => { w with srcs := p.srcs, idle := p.idle, lanePresent := p.lanePresent, lines := p.lines },
  onFeeds fun _ _ => noMeters p.feeds]

/-! ### History (R359, R457) -/

/-- Ages of line l that the history part holds at boundary P: those up to the larger of its read age and its delay target, plus 4,096,
or up to ALIGN's integer part plus 8, and no more than the line has (R359). -/
def historyAges (s : State) (l p : Nat) : Nat :=
  let d := if l < 1024 then
      max (lineDelay s l p) ((match s.loc.next with
        | some b => if b.bnd = p then sparseGet (fun _ => LObj.init) b.objs l else objOf s l
        | none => objOf s l).dt.toNat / 2 ^ 16) + 4096
    else lineDelay s l p + 8
  min (lineLen (rd s) l) (d + 1)

/-- The lines with a history: those written since they were last emptied; every other line reads as zero (R457; DEDUCED: log entry 87). -/
def historyLines (s : State) : List Nat := s.wav.lines.map (·.1)

/-- What the history part at P holds: its lines in order, each with its number of ages. -/
def historyPlan (s : State) (p : Nat) : List (Nat × Nat) := (historyLines s).map (fun l => (l, historyAges s l p))

/-- The k samples of line l before P, oldest first; age 0 is the sample of P - 1, the newest at the freeze. -/
def historyOf (s : State) (p l k : Nat) : List (Option Int) :=
  (List.range k).map (fun i => if p + i < k then some 0 else lineSample s l (p + i - k))

/-- A sample of the history that its line no longer holds when it is sent (R360: OVERWRITTEN). -/
def historyOverwritten (s : State) (p : Nat) (plan : List (Nat × Nat)) : Bool := plan.any (fun e =>
  lineLen (rd s) e.1 ≤ renderN s - (p - e.2) && lineLen (rd s) e.1 ≤ (lineOf s e.1).fill)

/-- A line takes its history: head and region, each word with its lap; its fill count is the ages received (R442, R457). -/
def takeHistory (l p : Nat) (ws : List Word) : Act := fun s =>
  let n := ws.length
  seq [each ws.zipIdx (fun e s => if p + e.2 < n then [] else
         dramPut (lineAddr (rd s) l (p + e.2 - n)) e.1 ((p + e.2 - n) / max 1 (lineLen (rd s) l) % 16) s),
       setLine l (fun x => { x with head := (ws.reverse.take 512).map (fun w => some (si w)), fill := n, wb := p, tailAt := 0, tail := [] })] s

/-- Cut a history part into its lines, in line order; none where its length is not theirs. -/
def splitHistory : List (Nat × Nat) → List Word → Option (List (Nat × List Word))
  | [], ws => if ws.isEmpty then some [] else none
  | e :: es, ws => if ws.length < e.2 then none else (splitHistory es (ws.drop e.2)).map (fun r => (e.1, ws.take e.2) :: r)

end Sys2Proof.Machine
end

