-- ==== Sys2Proof/Machine/Twin.lean ====
section
/-! DEFINITION. Twin operation over Tongs (14: R340-R367): heartbeats and divergence, forwarding, alignment, roles and promotion. -/
namespace Sys2Proof.Machine
open Sys2Proof

/-! ### Registers and roles (R340-R343) -/


/-- PRIORITY in use: 0 when its pair fails (R341). -/
def priority (s : State) : Nat := match pairVal s (TWN + 0x800) with
  | some w => fld w 15 0
  | none => 0

/-- A failing priority pair sets PRIORITY_FAIL, rings TWIN_EVENT and is logged; no latch (R341). -/
def checkPriority : Act := fun s =>
  if (pairVal s (TWN + 0x800)).isNone && !flag (rd s TWN) 29 then
    seq [pokeF TWN 29 29 1, bump (QCH + 3) 11 0 1, twinEvent .priorityFail 0 0] s else []

/-- Arbitration: the higher PRIORITY wins, then the lower serial number (R341). -/
def winsOver (s : State) (prio serial : Nat) : Bool :=
  prio < priority s || (prio == priority s && Config.otpSerial < serial)

/-- Digest bytes 0-7 of the image (R103). -/
def digest8 (s : State) : Nat := s.img.renderDigest / 2 ^ 320

/-- Does this unit send streams now (R340): SOLO (DEDUCED: log entry 44), ACTIVE, DETACHED; a STANDBY while ALIGNED? -/
def sending (s : State) : Bool :=
  (s.sys.state == .run || s.sys.state == .safe) &&
  (match s.sys.role with
   | .solo => true
   | .active => true
   | .detached => true
   | .standby => align s == 5
   | .none => false)

/-- R366: in SAFE a unit of a pair sends nothing while its partner's heartbeat of the last 4 periods shows it in RUN and sending. -/
def safeYields (s : State) : Bool :=
  s.sys.state == .safe && isTwin s && tongsUp s &&
  (match s.twn.partner with
   | some b => b.state == 6 && b.sending && s.wav.n ≤ b.period + 4
   | none => false)

/-- May this unit send a packet of periods first to last (R340, R352, R357 step 8, R366)? -/
def maySend (s : State) (first last : Nat) : Bool :=
  !safeYields s &&
  ((sending s && s.twn.sendFrom ≤ first) ||
   (match s.twn.lastSend with
    | some l => last ≤ l
    | none => false))

/-- TWN_STATUS as it reads: SENDING follows `sending`. -/
def twnStatus (s : State) : Word := setFld (rd s TWN) 32 32 (b2n (sending s))

/-- Does this unit render at its ticks: not in RUN as a STANDBY that is neither CONFIRMING nor ALIGNED (R340, R186)? In SAFE the ramp
to zero and the zeros after it are rendered (R70, R366). -/
def rendersNow (s : State) : Bool := s.sys.state == .safe || s.sys.role != .standby || 4 ≤ align s

/-! ### Alignment failure and requests (R357, R360) -/

/-- Stop sending after period n + 1. -/
def stopSending (n : Nat) : Act := fun s =>
  if sending s then onTwn (fun _ t => { t with lastSend := some (n + 1), returning := false }) s else []

/-- Put a forwarded item in force on the STANDBY (R353): it waits for its period like one of the unit's own. -/
def applyForward : FwdItem → Act
  | .scene b => fun s => match parseFrame false b with
    | .inr h => seq [onScene fun _ c => { c with pending := c.pending ++ [
          { bnd := frameBoundary s h.applyAt, host := false, peer := h.peer, counter := h.counter, ackApplied := h.flags / 2 % 2 == 1,
            own := false, port := 0, ip := 0, udp := 0, cmds := h.cmds }] }, showPending] s
    | .inl _ => (match parseFrame true b with
      | .inr h => seq [onScene fun _ c => { c with pending := c.pending ++ [
          { bnd := frameBoundary s h.applyAt, host := false, peer := 0xFF, counter := h.counter, ackApplied := false,
            own := false, port := 0, ip := 0, udp := 0, cmds := h.cmds }] }, showPending] s
      | .inl _ => [])
  | .routeCommit p es => seq [onCru fun _ c => { c with pend := some { at' := p, what := es } }, commitStatus (CRU + 0x13) 1 true]
  | .routeCancel => seq [onCru fun _ c => { c with pend := none }, commitStatus (CRU + 0x13) 8 false]
  | .swap p ctl => holdSwap (swapReq ctl p)
  | .swapCancel => seq [dropSwap, swapStatus 0x0C]
  | .args pr p f ws => seq [onLan fun _ l => { l with args := sparsePut l.args pr { at' := p, what := (f, ws) } },
                            commitStatus (LAN (2 * pr) + 0x23) 1 true]
  | .argsCancel pr => seq [onLan fun _ l => { l with args := sparseDrop l.args pr }, commitStatus (LAN (2 * pr) + 0x23) 8 false]
  | .clear p ctl => seq [
      onQch fun _ q => { q with clear := some { at' := p, what := if flag ctl 33 then none else some (fld ctl 9 0) } },
      commitStatus (QCH + 0x13) 1 true]
  | .clearCancel => seq [onQch fun _ q => { q with clear := none }, commitStatus (QCH + 0x13) 8 false]
  | .ready i p t => placeEntry (t / 256 % 4096) (t % 256) i p
  | .readyCancel t => removeEntry (t / 256 % 4096)
  | .handover p => onTwn fun _ t => { t with handover := some p }
  | .bankSum t v => fun s =>
    if (match s.tpr.pend with
        | some q => q.target == t
        | none => false) then onTpr (fun _ x => { x with partnerSum := some (t, v) }) s
    else sumCompare t v s

/-- Every change that waits moves to a period not before n + 1, a scene frame to a boundary (R361). -/
def notBefore (n : Nat) : Act := seq [
  onScene fun _ c => { c with pending := c.pending.map (fun f => { f with bnd := max f.bnd ((n + 16) / 16 * 16) }) },
  onCru fun _ c => { c with pend := c.pend.map (fun x => { x with at' := max x.at' (n + 1) }) },
  onTpr fun _ t => { t with pend := t.pend.map (fun x => { x with at' := max x.at' (n + 1) }),
                            queued := t.queued.map (fun x => { x with at' := max x.at' (n + 1) }) },
  onQch fun _ q => { q with clear := q.clear.map (fun x => { x with at' := max x.at' (n + 1) }) },
  onLan fun _ l => { l with args := l.args.map (fun e => (e.1, { e.2 with at' := max e.2.at' (n + 1) })) },
  onBel fun _ b => { b with delay := b.delay.map (fun e => (e.1, { e.2 with at' := max e.2.at' (n + 1) })) }]

/-- Go back to the unit's own tables, where a committed snapshot replaced them, with every forward since; those whose period has passed
take effect at once (R361). -/
def restoreOwn : Act := fun s => match s.twn.ownSnap with
  | some p => seq [applySnap p, each s.twn.fwdKept (fun e => applyForward e.2), notBefore s.wav.n,
                   onTwn fun _ t => { t with ownSnap := none }] s
  | none => []

/-- Forget what an alignment has received. -/
def dropAlign : Act := onTwn fun _ t =>
  { t with snapWords := [], inbuf := [], confirm := 0, returning := false, fwdKept := [] }

/-- An alignment fails with a code (R360): the STANDBY discards what it has received, tells the ACTIVE, counts, rings and logs; after
DIGEST, VERSION or HOST it does not try again by itself (R357). -/
def failAlign (code : Nat) : Act := fun s => seq [
  restoreOwn, dropAlign, setAlign 0, pokeF TWN 3 0 code, bump (TWN + 6) 23 12 1, twinEvent .alignFail code 0,
  when tongsUp (tongsSend 6 ([4, 0, 0, 0] ++ toBytes 4 s.twn.snapId ++ [code])),
  onTwn fun _ t => { t with noRetry := t.noRetry || code == 1 || code == 2 || code == 0xC },
  onWav fun _ w => { w with flight := none }] s

/-- Does the partner run the same firmware package and stepping A1, so far as its Hearth has said (R357, R538; log entry 86)? -/
def samePackage (s : State) : Bool := match s.twn.partnerFw with
  | some v => v == (s.img.fwVersion, 0xA1)
  | none => true

/-- An alignment that is wanted is asked for once the partner shows ACTIVE over Tongs; unequal digests, packages or periods fail the attempt
(R357, R360). -/
def tryAlign : Act := fun s =>
  if !s.twn.wantAlign || s.sys.role != .standby || s.sys.state != .run || !tongsUp s || s.twn.noRetry then [] else
  match s.twn.partner with
  | none => []
  | some b =>
    if b.role != 1 then []
    else seq [onTwn fun _ t => { t with wantAlign := false },
      (if b.digest != digest8 s then failAlign 1
       else if !samePackage s then failAlign 2
       else if s.twn.mismatch then failAlign 3
       else seq [dropAlign, setAlign 1, onTwn fun _ t => { t with reqAt := s.wav.n, alignP := 0 }, tongsSend 6 [1, 0, 0, 0]])] s

/-- A STANDBY wants alignment: on entry to RUN, after a divergence, on a retry or on REALIGN (R357). -/
def requestAlign : Act := seq [onTwn fun _ t => { t with wantAlign := true }, tryAlign]

/-- Leave the aligned state: stop sending after n + 1 and align again (R352). -/
def realignFrom (n : Nat) : Act := fun s => seq [
  stopSending n,
  (if align s = 4 then failAlign 9 else seq [setAlign 0, dropAlign]),
  requestAlign] s

/-! ### Hashes and divergence (R350-R352) -/

/-- Is the period n one that a catch-up wavefront of the present alignment has rendered? -/
def caughtUp (s : State) (n : Nat) : Bool := s.sys.role == .standby && (align s == 3 || align s == 4) && s.twn.alignP ≤ n && n ≤ s.wav.caught

/-- Should the hashes of a period be compared: the STANDBY while CONFIRMING or ALIGNED, the ACTIVE while the STANDBY shows ALIGNED
(R352)? Both units are in RUN: one that leaves it is succeeded under R362, not diverged from (log entry 61). -/
def compares (s : State) (b : Beat) : Bool :=
  !s.twn.mismatch && tongsUp s && s.sys.state == .run && b.state == 6 &&
  (match s.sys.role with
   | .standby => 4 ≤ align s
   | .active => b.aligned && b.role == 2
   | _ => false)

/-- The cause a divergence is recorded with. -/
def divCause (s : State) (n : Nat) (o : OwnHash) (b : Beat) : Nat :=
  if o.taint then 1 else if b.taint then 2
  else match s.twn.pres.find? (fun e => e.1 == n), s.twn.ppres.find? (fun e => e.1 == n) with
    | some x, some y => if x.2 == y.2 then 4 else 3
    | _, _ => 4

/-- The hashes of period n differ (R352). -/
def diverge (n : Nat) (o : OwnHash) (b : Beat) : Act := fun s =>
  let c := divCause s n o b
  seq [onTwn fun _ t => { t with hint := false }, poke (TWN + 9) (wd (c * 2 ^ 32 + bits n 63 32)), poke (TWN + 10) (wd (bits n 31 0)), bump (TWN + 6) 35 24 1,
    life 18 1, ring 2 19, twinEvent .divergence n c,
    (match s.sys.role with
     | .active =>
       if o.taint && !b.taint && b.aligned then
         seq [stopSending n, onTwn fun _ t => { t with nextRole := some .standby }]
       else nop
     | .standby =>
       if b.taint && !o.taint && align s == 5 then onTwn fun _ t => { t with nextRole := some .active }
       else realignFrom n
     | _ => nop)] s

/-- Compare the hashes of period n once both are known (R352); sixteen equal ones confirm (R357 step 7, R362). A catch-up wavefront's hash is
compared when the ACTIVE's arrives after it, too (R187, R357 step 6). A difference found while CONFIRMING is a divergence as well as the end of
the attempt (DEDUCED: log entry 45). -/
def hashCheck (n : Nat) : Act := fun s =>
  match s.twn.own.find? (fun o => o.period == n), s.twn.beats.find? (fun b => b.period == n) with
  | some o, some b =>
    if caughtUp s n then (if o.hash = b.hash then [] else failAlign 8 s)
    else if !compares s b || b.hash = 0 then []
    else if o.hash = b.hash then
      (if align s = 4 || s.twn.returning then onTwn (fun _ t => { t with confirm := t.confirm + 1 }) s else [])
    else diverge n o b s
  | _, _ => []

/-! ### Roles: arbitration, dual-active, loss and return of Tongs (R362-R365) -/

/-- The end of a dual-active interval: its length in DUAL_MAX_US (R365). -/
def dualEnd : Act := fun s => match s.twn.dualAt with
  | none => []
  | some p =>
    let us := (s.wav.n - p) * 1000000 / max 1 (rateHz s.sys.rate)
    seq [onTwn fun _ t => { t with dualAt := none }, pokeF TWN 28 28 0,
         pokeF (TWN + 0xD) 15 0 (min 0xFFFF (max us (rdF s (TWN + 0xD) 15 0)))] s

/-- Two ACTIVE units see each other: the interval is counted and logged, and they arbitrate; the loser becomes STANDBY at the next
period (R364, R365). -/
def conflict (prio serial : Nat) : Act := fun s =>
  if s.sys.state != .run || s.sys.role != .active then [] else seq [
    when (fun s => s.twn.dualAt.isNone) (seq [
      onTwn fun s t => { t with dualAt := some s.wav.n }, pokeF TWN 28 28 1, bump (TWN + 7) 11 0 1,
      twinEvent .dualActive serial 0]),
    checkPriority,
    fun s => if winsOver s prio serial then onTwn (fun _ t => { t with lostLast := false }) s
      else onTwn (fun _ t => { t with nextRole := some .standby, lostLast := true }) s] s

/-- Tongs is lost (R350): counted; forwards are no longer needed (R354, R355); an alignment in progress fails with LINK; an ALIGNED
STANDBY whose partner HOLDS its wire becomes DETACHED (R362). -/
def releaseAcks (fs : List FwdOut) : Act := each fs (fun f => match f.ack with
  | some a => sendAck a.port a.ip a.udp a.peer 0x00 0xFFFF a.counter a.period
  | none => nop)
def dropForwards : Act := fun s => seq [
  releaseAcks s.twn.fwdOut, onTwn fun _ t => { t with fwdOut := [], fwdFail := false }] s
def detachCheck : Act := fun s =>
  if s.sys.role == .standby && align s == 5 && !tongsUp s && s.twn.wire == 1 && s.sys.state == .run then setRole .detached s else []
def tongsLost : Act := fun s =>
  if !tongsUp s then [] else seq [
    pokeF TWN 25 25 0, pokeF TWN 17 14 0xF, bump (TWN + 7) 35 24 1, ring 2 17, twinEvent .tongsLost 0 0, dropForwards,
    fun s => if s.sys.role == .standby && 1 ≤ align s && align s ≤ 4 then seq [stopSending s.wav.n, failAlign 4] s else [],
    onTwn fun _ t => { t with beats := [], mismatch := false, fwdNext := none, fwdHeld := [], fwdGap := none, serve := none,
                              frozen := none },
    detachCheck] s


/-- Take the role ACTIVE: a promotion of this unit, counted and logged (R362, R363). -/
def becomeActive : Act := seq [
  setRole .active, setAlign 0, onTwn fun _ t => { t with returning := false },
  bump (TWN + 6) 11 0 1, life 19 1, twinEvent .promotion 0 0]

/-- A role change that waited for the period (R352, R364): applied at the tick. -/
def applyNextRole : Act := fun s =>
  match s.twn.nextRole with
  | none => []
  | some r => seq [
      onTwn fun _ t => { t with nextRole := none },
      (if r == .standby then seq [
          setRole .standby, dualEnd,
          (if s.twn.hint then seq [setAlign 5, confirmAgain]
           else seq [setAlign 0, onTwn fun s t => { t with lastSend := some (t.lastSend.getD s.wav.n) }, requestAlign])]
       else becomeActive)] s

/-- A unit in SAFE whose partner has promoted itself becomes STANDBY at once (14: Roles). -/
def safeStandby (partnerRole : Nat) : Act := fun s =>
  if s.sys.state == .safe && s.sys.role != .standby && isTwin s && partnerRole == 1 then setRole .standby s else []

/-! ### The heartbeat (R347, R350-R352) -/

/-- The heartbeat this unit sends for period n (R347). -/
def ownBeat (s : State) (n hash : Nat) (taint : Bool) : Beat :=
  { period := n, hash := hash, state := s.sys.state.ctorIdx, role := roleCode s.sys.role, taint := taint, sending := sending s,
    aligned := align s == 5, emerg := (pinOf s 17).filt, wireOk := flag (rd s TWN) 24, histInc := flag (rd s TWN) 31,
    prioFail := flag (rd s TWN) 29, fwdFail := s.twn.fwdFail, priority := priority s, rate := s.sys.rate,
    serial := Config.otpSerial, digest := digest8 s,
    annE := ((s.scene.annWait.filter (fun e => !e.2.1)).map (·.1)).foldl max 0 }

/-- The HEARTBEAT body, 48 bytes (R347). -/
def beatBody (b : Beat) : List Nat :=
  toBytes 8 b.period ++ toBytes 8 b.hash ++ [b.state % 16 * 16 + b.role % 16,
    b2n b.taint + 2 * b2n b.sending + 4 * b2n b.aligned + 8 * b2n b.emerg + 16 * b2n b.wireOk + 32 * b2n b.histInc
      + 64 * b2n b.prioFail + 128 * b2n b.fwdFail]
  ++ toBytes 2 b.priority ++ [b.rate, 0, 0, 0] ++ toBytes 8 b.serial ++ toBytes 8 b.digest ++ toBytes 8 b.annE


/-- Send the heartbeat of period n, once a period on a unit of a pair while a lane carries it (R346). -/
def sendBeat (n hash : Nat) (taint : Bool) : Act := when (fun s => isTwin s && laneLocked s) (fun s =>
  tongsSend 1 (beatBody (ownBeat s n hash taint)) s)


/-- The partner's announcement pin: a level other than the last one known takes effect at the E that comes with it; with no E pending its
change lies in the past, and it counts from the next boundary (R130). -/
def partnerAnn (b : Beat) : Act := fun s =>
  let known := ((s.scene.annWait.filter (·.2.1)).getLast?.map (·.2.2)).getD s.scene.annPartner
  if b.emerg = known then [] else
  onScene (fun s c => { c with annWait := c.annWait ++ [(if b.annE = 0 then (s.wav.n / 16 + 1) * 16 else b.annE, true, b.emerg)] }) s

/-- What is kept of the partner's hashes or bitmaps, newest first: those of the latest 64 periods, and while aligning every one from P on
that catch-up has still to use (R350, R357 step 3). -/
def keepLatest {α : Type} (s : State) (period : α → Nat) (l : List α) : List α :=
  let first := if align s = 3 then s.wav.caught + 1 else s.twn.alignP
  l.filter (fun e => s.wav.n < period e + 64 || (2 ≤ align s && align s ≤ 3 && first ≤ period e))

/-- HEARTBEAT: a partner heartbeat arrives (R350, R352). -/
def heartbeat (b : Beat) (find : FrameFind) : Act := received find (seq [
    onTwn fun s t => { t with
      partner := some b, beats := keepLatest s (·.period) ((b :: t.beats).take 8192), beatAt := s.wav.n,
      mismatch := s.wav.n + 2 < b.period || b.period + 2 < s.wav.n || b.rate != s.sys.rate },
    when (fun s => s.twn.mismatch) (seq [ring 2 22, report (srcOf TWN) .periodMismatch b.period 0]),
    when (fun s => rdF s TWN 17 14 != b.role % 16) (ring 2 18),
    pokeF TWN 21 18 b.state, pokeF TWN 17 14 b.role, pokePair (TWN + 0xB) b.serial,
    when (fun _ => b.role == 2) (onTwn fun _ t => { t with hint := b.aligned }),
    partnerAnn b,
    when (fun s => b.state != 6 && s.twn.fwdOut != []) dropForwards,
    safeStandby b.role,
    (if b.role = 1 then conflict b.priority b.serial else dualEnd),
    fun s => if b.fwdFail && s.sys.role == .standby && align s != 0 then
        seq [stopSending s.wav.n, failAlign 0xA, requestAlign] s else [],
    tryAlign,
    hashCheck b.period])
def execHeartbeat (b : Beat) (find : FrameFind) (s : State) : Host.Outcome State Fault Refusal := done (heartbeat b find) s

/-- PRESENCE: the partner's bitmap of period n is kept for 64 periods (R349, R350). -/
def presence (n : Nat) (sources : Got (List Nat)) : Act := received sources.find
  (onTwn fun s t => { t with ppres := keepLatest s (·.1) ((n, sources.body) :: t.ppres) })
def execPresence (n : Nat) (sources : Got (List Nat)) (s : State) : Host.Outcome State Fault Refusal := done (presence n sources) s

/-- The PRESENCE body of period n (R349): sources 0x000-0x50F, first in the top bit. -/
def presenceBody (n : Nat) (present : Nat → Bool) : List Nat :=
  toBytes 8 n ++ (List.range 162).map (fun i => (List.range 8).foldl (fun a j => a * 2 + b2n (present (8 * i + j))) 0)

/-! ### Forwards (R353-R355) -/

/-- Is sequence number a before b, modulo 2^32? -/
def seqBefore (a b : Nat) : Bool := 2 ^ 31 ≤ (a + 2 ^ 32 - b) % 2 ^ 32

/-- Apply the forward that is next in sequence, and those held after it, on fuel (R354). -/
def drainForwards : Nat → Act
  | 0 => nop
  | f + 1 => fun s =>
    match s.twn.fwdNext with
    | none => []
    | some q => match sparseFind s.twn.fwdHeld q with
      | none => onTwn (fun s t => { t with fwdGap := if t.fwdHeld.isEmpty then none else some (t.fwdGap.getD s.wav.n) }) s
      | some it => seq [
          onTwn fun _ t => { t with fwdHeld := sparseDrop t.fwdHeld q, fwdNext := some ((q + 1) % 2 ^ 32), fwdGap := none,
                                    fwdKept := if 1 ≤ align s ∧ align s ≤ 4 then t.fwdKept ++ [(q, it)] else t.fwdKept },
          (match s.sys.role, it with
           | .standby, _ => applyForward it
           | _, .bankSum _ _ => applyForward it
           | _, _ => nop),
          drainForwards f] s

/-- FORWARD: a change of the partner arrives: applied in FWD_SEQ order, acknowledged with the highest sequence applied without a
gap (R346, R354). -/
def forwardArrives (q : Nat) (item : FwdItem) (find : FrameFind) : Act := received find (seq [
    onTwn fun _ t =>
      let nx := t.fwdNext.getD q
      { t with fwdNext := some nx, fwdHeld := if seqBefore q nx then t.fwdHeld else sparsePut t.fwdHeld q item },
    fun s => drainForwards (s.twn.fwdHeld.length + 1) s,
    fun s => tongsSend 3 (toBytes 4 ((s.twn.fwdNext.getD 0 + 2 ^ 32 - 1) % 2 ^ 32)) s])
def execForward (q : Nat) (item : FwdItem) (find : FrameFind) (s : State) : Host.Outcome State Fault Refusal :=
  done (forwardArrives q item find) s

/-- FWD_ACK: forwards up to a sequence number are no longer outstanding; the acknowledgements that waited for them are sent; with
none outstanding FWD_FAIL clears (R354, R355). -/
def fwdAck (q : Nat) : Act := fun s =>
  seq [releaseAcks (s.twn.fwdOut.filter (fun f => !seqBefore q f.seq)),
       onTwn fun _ t => { t with fwdOut := t.fwdOut.filter (fun f => seqBefore q f.seq),
                                 fwdFail := t.fwdFail && t.fwdOut.any (fun f => seqBefore q f.seq) }] s
def execFwdAck (q : Got Nat) (s : State) : Host.Outcome State Fault Refusal := done (received q.find (fwdAck q.body)) s

/-- FORWARD_RESEND: 10 us pass: every outstanding forward is sent again, each counted in FWD_RETRY (R354). -/
def forwardResend : Act := fun s =>
  if !tongsUp s then [] else each s.twn.fwdOut (fun f => seq [tongsSend 2 (fwdBody f), bump (TWN + 8) 23 12 1]) s
def execForwardResend (s : State) : Host.Outcome State Fault Refusal := done forwardResend s

/-- FWD_FAIL: a forward has been outstanding for 16 periods; the heartbeats carry FWD_FAIL, and acknowledgements no longer wait
(R354, R355). -/
def fwdFailTimeout : Act := fun s =>
  if s.twn.fwdFail || !s.twn.fwdOut.any (fun f => f.accept + 16 ≤ s.wav.n) then [] else seq [
    releaseAcks s.twn.fwdOut,
    onTwn fun _ t => { t with fwdFail := true, fwdOut := t.fwdOut.map (fun f => { f with ack := none }) },
    ring 2 21, twinEvent .fwdFail s.twn.fwdOut.length 0] s
def execFwdFail (s : State) : Host.Outcome State Fault Refusal := done fwdFailTimeout s

/-- FWD_GAP_TIMEOUT: a gap in FWD_SEQ has stayed for 16 periods: the STANDBY stops sending and realigns, with abort code FORWARD
(R354). -/
def fwdGapTimeout : Act := fun s =>
  match s.twn.fwdGap with
  | none => []
  | some p => if s.sys.role != .standby || s.wav.n < p + 16 then [] else seq [
      stopSending s.wav.n, failAlign 0xA,
      onTwn fun _ t => { t with fwdGap := none, fwdHeld := [], fwdNext := none }, requestAlign] s
def execFwdGapTimeout (s : State) : Host.Outcome State Fault Refusal := done fwdGapTimeout s

/-! ### Alignment (R357-R361) -/

/-- ALIGN_REQ: the ACTIVE answers with ALIGN_AT: P, the least multiple of 16 at or after C + 64, and a snapshot number (R357 step
2). Forwards accepted before P are carried by the snapshot and stop being outstanding (R354). No answer while a period correction
is pending (R434). -/
def alignReq : Act := fun s =>
  if !tongsUp s || s.sys.role != .active || s.sys.state != .run || s.clk.corr.isSome || s.twn.mismatch then [] else
  let p := (s.wav.n + 64 + 15) / 16 * 16
  let id := (s.twn.snapId + 1) % 2 ^ 32
  seq [dropForwards, onTwn fun _ t => { t with snapId := id, serve := some (id, p), frozen := none },
       tongsSend 6 ([2, 0, 0, 0] ++ toBytes 8 p ++ toBytes 4 id)] s
def execAlignReq (s : State) : Host.Outcome State Fault Refusal := done alignReq s

/-- ALIGN_AT: the STANDBY learns P and the number of the snapshot (R357 step 2). -/
def alignAt (p id : Nat) : Act := fun s =>
  if s.sys.role != .standby || align s != 1 then [] else
  onTwn (fun _ t => { t with snapId := id, alignP := p, snapWords := [], inbuf := [] }) s
def execAlignAt (p : Nat) (id : Got Nat) (s : State) : Host.Outcome State Fault Refusal := done (received id.find (alignAt p id.body)) s

/-- At the tick of P the STANDBY's state becomes SNAPSHOT, and it buffers its inputs from there (R357 step 3). -/
def snapshotStart (n : Nat) : Act := when (fun s => s.sys.role == .standby && align s == 1 && s.twn.alignP == n) (setAlign 2)

/-- The freeze of the ACTIVE's state at the launch of P (R357 step 4). -/
def snapshotFreeze (n : Nat) : Act := fun s =>
  match s.twn.serve with
  | some (_, p) => if p = n && s.sys.role == .active then onTwn (fun s t => { t with frozen := some (snapOf s, historyPlan s p) }) s else []
  | none => []

/-- Words of a snapshot stream that one frame carries: 226 pairs of nine bytes after the 12 bytes of SNAP_ID and OFFSET (R345,
R359). -/
def snapChunk : Nat := 452
/-- The chunks of a stream with their offsets, on fuel. -/
def snapChunks : Nat → Nat → List Word → List (Nat × List Word)
  | 0, _, _ => []
  | f + 1, o, ws => if ws.isEmpty then [] else (o, ws.take snapChunk) :: snapChunks f (o + snapChunk) (ws.drop snapChunk)

/-- The ACTIVE ends the alignment it serves, and tells the STANDBY why (R358, R360). -/
def stopServing (code : Nat) : Act := fun s => match s.twn.serve with
  | none => []
  | some (id, _) => seq [tongsSend 6 ([4, 0, 0, 0] ++ toBytes 4 id ++ [code]), onTwn fun _ t => { t with serve := none, frozen := none }] s

/-- SNAPSHOT_STREAMED: the ACTIVE has streamed the frozen state, then the history of its lines, in its slack, and sends SNAP_DONE with the
word count and SHA-384 (R357 step 5, R358, R359). A history sample overwritten in its line before it was sent, or one that the DRAM
cannot give, ends the alignment (R360, R444). -/
def snapshotStreamed : Act := fun s =>
  match s.twn.serve, s.twn.frozen with
  | some (id, p), some (part, plan) =>
    let hist := plan.flatMap (fun e => historyOf s p e.1 e.2)
    if !tongsUp s then []
    else if historyOverwritten s p plan then stopServing 6 s
    else if !hist.all (·.isSome) then stopServing 5 s
    else
      let ws := snapEncode part ++ hist.map (fun v => wdI (v.getD 0))
      seq [each (snapChunks (ws.length + 1) 0 ws) (fun c => tongsSend 8 (toBytes 4 id ++ toBytes 8 c.1 ++ packWords c.2)),
           tongsSend 6 ([3, 0, 0, 0] ++ toBytes 4 id ++ toBytes 8 ws.length ++ toBytes 48 (Config.sha384 (packWords ws))),
           onTwn fun _ t => { t with frozen := none }] s
  | _, _ => []
def execSnapshotStreamed (s : State) : Host.Outcome State Fault Refusal := done snapshotStreamed s

/-- SNAPSHOT: a snapshot frame arrives and its words are staged in order (R359). -/
def snapshot (id offset : Nat) (ws : List Word) : Act := fun s =>
  if align s != 2 || id != s.twn.snapId || offset != s.twn.snapWords.length then [] else
  onTwn (fun _ t => { t with snapWords := t.snapWords ++ ws }) s
def execSnapshot (id offset : Nat) (ws : Got (List Word)) (s : State) : Host.Outcome State Fault Refusal :=
  done (received ws.find (snapshot id offset ws.body)) s

/-- The forwards from the snapshot's FWD_SEQ on are the ones to come: those before it, discarded at ALIGN_AT, are no gap (R354, R359). -/
def resumeForwards (next : Nat) : Act := seq [
  onTwn fun _ t =>
    let nx := match t.fwdNext with
      | some x => if seqBefore x next then next else x
      | none => next
    { t with fwdNext := some nx, fwdHeld := t.fwdHeld.filter (fun e => !seqBefore e.1 nx), fwdGap := none, fwdKept := [] },
  fun s => drainForwards (s.twn.fwdHeld.length + 1) s]

/-- Commit a snapshot: the state, then the history that follows it in the stream; one of another length fails (R359, R360, R457). -/
def commitSnap (part : SnapPart) (used : Nat) : Act := fun s =>
  let p := s.twn.alignP
  let kept := s.twn.fwdKept
  let ws := s.twn.snapWords.drop used
  seq [
    onTwn fun s t => { t with ownSnap := some (snapOf s), snapWords := [] },
    applySnap part.fromPartner,
    fun s' => (match splitHistory (historyPlan s' p) ws with
      | none => seq [onTwn fun _ t => { t with fwdKept := [] }, failAlign 5] s'
      | some hs => seq [
          onWav fun _ w => { w with caught := p - 1, catchups := 0, flight := none },
          setAlign 3, onScene fun _ c => { c with boundary := 0 },
          each hs (fun e => takeHistory e.1 p e.2),
          each (kept.filter (fun e => !seqBefore e.1 part.fwdNext)) (fun e => applyForward e.2),
          resumeForwards part.fwdNext] s')] s

/-- SNAP_DONE: the STANDBY checks the stream and commits it; forwards received since that the snapshot does not hold are applied
again; catch-up starts at P (R357 steps 5, 6, R360). A stream that this firmware package cannot read fails with VERSION. -/
def snapDone (id words digest : Nat) : Act := fun s =>
  if align s != 2 || id != s.twn.snapId then [] else
  if words != s.twn.snapWords.length || Config.sha384 (packWords s.twn.snapWords) != digest then failAlign 5 s else
  match snapDecode s.twn.snapWords with
  | none => failAlign 2 s
  | some e => commitSnap e.1 e.2 s
def execSnapDone (id words : Nat) (digest : Got Nat) (s : State) : Host.Outcome State Fault Refusal :=
  done (received digest.find (snapDone id words digest.body)) s

/-- ALIGN_ABORT arrives: a STANDBY that is aligning gives up with the code it carries; the ACTIVE stops serving (R358, R360). -/
def alignAbort (id code : Nat) : Act := fun s =>
  if id != s.twn.snapId then [] else
  if s.sys.role == .standby && 1 ≤ align s && align s ≤ 4 then failAlign (code % 16) s
  else onTwn (fun _ t => { t with serve := none, frozen := none }) s
def execAlignAbort (id : Nat) (code : Got Nat) (s : State) : Host.Outcome State Fault Refusal :=
  done (received code.find (alignAbort id code.body)) s

/-- The alignment completes (R357 step 8): sending starts with packets whose first period follows confirmation; ALIGN_MS. SCENE_PARTIAL
clears with a completed alignment (R361). -/
def confirmAlign : Act := fun s => seq [
  setAlign 5, pokeF TWN 30 30 0,
  pokeF (TWN + 0xD) 35 20 (min 0xFFFF ((s.wav.n - s.twn.reqAt) * 1000 / max 1 (rateHz s.sys.rate))),
  onTwn fun s t => { t with sendFrom := s.wav.n, lastSend := none,
                            confirm := 0, ownSnap := none, inbuf := [], fwdKept := [], noRetry := false },
  when tongsUp (tongsSend 6 ([5, 0, 0, 0] ++ toBytes 4 s.twn.snapId ++ toBytes 8 s.wav.n)),
  twinEvent .alignDone s.wav.n 0] s

/-- ALIGNED: sixteen equal hashes confirm alignment on the STANDBY, or let a returning unit stay ALIGNED (R357 step 7, R362); on the ACTIVE
the partner's ALIGNED message ends the alignment it serves (R358). -/
def aligned : Act := fun s =>
  if s.sys.role == .standby then
    (if s.twn.confirm < 16 then [] else if align s = 4 then confirmAlign s
     else onTwn (fun _ t => { t with returning := false, confirm := 0 }) s)
  else if tongsUp s then onTwn (fun _ t => { t with serve := none, frozen := none }) s else []
def execAligned (s : State) : Host.Outcome State Fault Refusal := done aligned s

/-- ALIGN_RETRY: ALIGN_RETRY_MS after a failed attempt, with AUTO_ALIGN (R357). -/
def alignRetry : Act := when (fun s => flag (rd s (TWN + 1)) 35 && align s == 0) requestAlign
def execAlignRetry (s : State) : Host.Outcome State Fault Refusal := done alignRetry s

/-! ### Paths: Tongs lanes, wires, presence (R343, R344, R350, R367) -/

/-- Have four heartbeats in a row been missed at the tick of period n (R350): none has come of the periods n - 4 to n - 1, nor, from a
partner whose count differs, in any of them (DEDUCED: log entry 61)? -/
def beatsMissed (s : State) (n : Nat) : Bool :=
  tongsUp s && s.twn.upAt + 4 ≤ n && (s.twn.beatAt + 4 ≤ n || !s.twn.mismatch)
  && !s.twn.beats.any (fun b => n ≤ b.period + 4 && b.period < n)

/-- The loss that the tick of period n finds. -/
def beatLoss (n : Nat) : Act := when (beatsMissed · n) tongsLost

/-- TONGS_LOSS: four heartbeats in a row are missed, by the period count; outside ARMED, RUN and SAFE no period is counted, and the
command itself is the loss (R350). -/
def execTongsLoss (s : State) : Host.Outcome State Fault Refusal :=
  done (when (fun s => !counting s || beatsMissed s s.wav.n) tongsLost) s

/-- TONGS_LANE_LOCK: lane k gains or loses block lock; with no lane locked Tongs is lost. With one it comes up once a frame passes its
CRC (R344, R350; DEDUCED: log entry 61). -/
def tongsLaneLock (k : Nat) (locked : Bool) : Act := fun s =>
  if 2 ≤ k then [] else
  seq [pokeF TWN (26 + k) (26 + k) (b2n locked), fun s => if laneLocked s then [] else tongsLost s] s
def execTongsLaneLock (k : Nat) (locked : Bool) (s : State) : Host.Outcome State Fault Refusal := done (tongsLaneLock k locked) s

/-- What this unit knows of its partner's priority and serial: from Tongs, or else from the network. -/
def partnerRank (s : State) : Option (Nat × Nat) :=
  match s.twn.partner, s.twn.net with
  | some b, _ => some (b.priority, b.serial)
  | none, some n => some (n.2.2.1, n.2.2.2)
  | none, none => none

/-- What the samples of the role wire show, newest first, 1 us apart, true when low (R343): 2 DEAD, no change within 200 us; 1 HOLDS, low for
more than half of the last 64 us; else 0 FREE. -/
def wireShows (h : List Bool) : Nat :=
  if !((h.take 200).contains true && (h.take 200).contains false) then 2
  else if 32 < ((h.take 64).filter id).length then 1 else 0

/-- One more sample of TW_ROLE_IN_L: WIRE_OK and WIRE_HOLDS follow it; a wire found DEAD while Tongs is up is counted (R343). -/
def wireSample (low : Bool) : Act := fun s =>
  let h := (low :: s.twn.wireSeen).take 200
  let w := wireShows h
  let found := w == 2 && h.length == 200 && !(s.twn.wire == 2 && s.twn.wireSeen.length == 200)
  seq [when (fun s => (s.twn.wire == 2) != (w == 2)) (ring 2 23), onTwn fun _ t => { t with wire := w, wireSeen := h }, pokeF TWN 24 24 (b2n (w != 2)), pokeF TWN 23 23 (b2n (w == 1)),
       when (fun s => found && tongsUp s) wireFault] s

/-- ROLE_WIRE_CHANGE: TW_ROLE_IN_L as the safety monitor samples it, each microsecond, oldest first (R343). An ACTIVE unit that sees the
partner HOLD arbitrates (R364). -/
def roleWireChange (samples : List Bool) : Act := seq [
  each samples wireSample,
  detachCheck,
  fun s => (match partnerRank s with
    | some (p, q) => if s.twn.wire = 1 then conflict p q s else []
    | none => [])]
def execRoleWireChange (samples : List Bool) (s : State) : Host.Outcome State Fault Refusal := done (roleWireChange samples) s

/-- TW_PRESENT_L: low while a partner is fitted (TWN_STATUS.PRESENT). -/
def execTwPresentL (low : Bool) (s : State) : Host.Outcome State Fault Refusal := done (pokeF TWN 4 4 (b2n low)) s

/-! ### Promotion, handover, joining (R361-R364, R367) -/

/-- May a STANDBY or DETACHED unit promote itself now (R362)? The command comes when the table's time has passed. -/
def promotes (s : State) : Bool :=
  s.sys.state == .run && (s.sys.role == .standby || s.sys.role == .detached) &&
  (if tongsUp s then
     (match s.twn.partner with
      | some b => b.state != 6 || b.role == 0xF
      | none => false)
   else if s.twn.wire == 0 then true
   else if s.twn.wire == 1 then false
   else !(flag (rd s TWN) 22 && s.twn.lostLast &&
     (match s.twn.net with
      | some n => n.2.1 == 1
      | none => false)))

/-- A promotion while not rendering (R361): own tables, every delay line from zero, every feed ramping up; HISTORY_INCOMPLETE for
the length of the longest line, at most 5.5 s, and SCENE_PARTIAL. -/
def promoteCold : Act := fun s =>
  let longest := ((List.range 2048).map (fun l => lineLen (rd s) l)).foldl max 0
  seq [
    when (fun s => 1 ≤ align s) (seq [pokeF TWN 3 0 0xB, bump (TWN + 6) 23 12 1, report (srcOf TWN) .alignFail 0xB 0]),
    restoreOwn, dropAlign, setAlign 0,
    onWav fun _ w => { w with lines := [], flight := none, srcs := [] }, onFeeds fun _ _ => [],
    onTpr fun _ t => { t with objS := [], feedS := [], objFade := [] },
    onQch fun _ q => { q with rampStart := some 0 },
    pokeF TWN 31 30 3,
    onTwn fun s t => { t with histUntil := s.wav.n + min longest (rateHz s.sys.rate * 11 / 2), sendFrom := 0, lastSend := none }] s

/-- PROMOTION (R361, R362). -/
def promotion : Act := fun s =>
  if !promotes s then [] else seq [
    onTwn fun s t => { t with hint := s.sys.role == .detached || align s == 5 },
    when (fun s => s.sys.role == .standby && align s < 4) promoteCold,
    onTwn fun _ t => { t with nextRole := none, fwdOut := [], fwdFail := false },
    becomeActive] s
def execPromotion (s : State) : Host.Outcome State Fault Refusal := done promotion s

/-- Result of a TWN_CMD command. -/
def twnStatusCmd (c : Nat) : Act := pokeF (TWN + 5) 7 0 c

/-- HANDOVER written to TWN_CMD (R363); one that is late and finds no ALIGNED STANDBY answers NOT_ALIGNED (DESIGN CHOICE: log entry 47). -/
def handover (m : Nat) : Act := fun s =>
  if 1 < m then refused m (TWN + 4) true s else
  let p := rdPair s (TWN + 2)
  if s.sys.role != .active || s.sys.state != .run then twnStatusCmd 3 s
  else if !(tongsUp s && (match s.twn.partner with
      | some b => b.aligned && b.role == 2
      | none => false)) then twnStatusCmd 4 s
  else if p % 16 != 0 || p < s.wav.n + 32 then twnStatusCmd 5 s
  else seq [onTwn fun _ t => { t with handover := some p }, twnStatusCmd 1, forward (.handover p) none] s
def execHandover (m : Nat) (s : State) : Host.Outcome State Fault Refusal := done (writing m (handover m)) s

/-- HANDOVER_APPLY: at the launch of P the roles exchange, and both units keep sending (R363). -/
def handoverApply : Act := fun s =>
  match s.twn.handover with
  | none => []
  | some p => if p ≠ s.wav.n + 1 then [] else seq [
      onTwn fun _ t => { t with handover := none },
      (if s.sys.role == .active then seq [setAlign 5, setRole .standby, twnStatusCmd 2]
       else if s.sys.role == .standby then becomeActive else nop),
      twinEvent .handover p 0] s
def execHandoverApply (s : State) : Host.Outcome State Fault Refusal := done handoverApply s

/-- REALIGN written to TWN_CMD (R357). -/
def realignCmd (m : Nat) : Act := fun s =>
  if 1 < m then refused m (TWN + 4) true s else
  if s.sys.role != .standby then twnStatusCmd 3 s else
  seq [onTwn fun _ t => { t with noRetry := false }, stopSending s.wav.n, restoreOwn, dropAlign, setAlign 0, requestAlign,
       twnStatusCmd 2] s
def execRealign (m : Nat) (s : State) : Host.Outcome State Fault Refusal := done (writing m (realignCmd m)) s

/-- ABORT_ALIGN written to TWN_CMD: an alignment in progress ends with code HOST (R360). -/
def abortAlign (m : Nat) : Act := fun s =>
  if 1 < m then refused m (TWN + 4) true s else
  if s.sys.role != .standby then twnStatusCmd 3 s else
  seq [when (fun s => 1 ≤ align s && align s ≤ 4) (failAlign 0xC), twnStatusCmd 2] s
def execAbortAlign (m : Nat) (s : State) : Host.Outcome State Fault Refusal := done (writing m (abortAlign m)) s

/-- The decision of R367: TWIN_EVENT rings and condition 4 of R67 is met. A unit decided STANDBY counts its partner as the winner of the last
arbitration (DEDUCED: log entry 46). -/
def decide' (r : Role) (together : Bool) : Act := seq [
  onTwn fun _ t => { t with decided := some r, together := together, lostLast := r == .standby },
  twinEvent .roleDecision (roleCode r) 1]

/-- ROLE_DECISION: in ARMED a unit of a pair decides its role, if the partner's state lets it (R367). -/
def roleDecision : Act := fun s =>
  if !isTwin s || s.sys.state != .armed || s.twn.decided.isSome then [] else seq [
    checkPriority,
    fun s =>
      let b := if tongsUp s then s.twn.partner else none
      match b with
      | some b =>
        if b.role = 1 then decide' .standby false s
        else if b.state = 5 then
          -- units reach RUN together only with equal digests and packages (R538)
          decide' (if winsOver s b.priority b.serial then .active else .standby) (b.digest == digest8 s && samePackage s) s
        else if s.twn.wire = 1 then decide' .standby false s
        else if !flag (rd s TWN) 4 then decide' .active false s else []
      | none =>
        if s.twn.wire = 1 then decide' .standby false s
        else if !flag (rd s TWN) 4 then decide' .active false s else []] s
def execRoleDecision (s : State) : Host.Outcome State Fault Refusal := done roleDecision s

/-- JOIN_WAIT_TIMEOUT: nothing decided the role within JOIN_WAIT_MS: ACTIVE (R367). -/
def joinWaitTimeout : Act := fun s =>
  if !isTwin s || s.sys.state != .armed || s.twn.decided.isSome then [] else decide' .active false s
def execJoinWaitTimeout (s : State) : Host.Outcome State Fault Refusal := done joinWaitTimeout s

/-! ### The network heartbeat (R364) -/

/-- NETWORK parameter by ID, with its default. -/
def netParam (s : State) (id d : Nat) : Nat := (sparseFind s.img.params id).getD d

/-- COUNTER of this unit's next datagram: it rises with each one and never below the calendar floor that R551 tests (R552, R364; log
entry 33). -/
def nextTwin (s : State) : Nat := max (s.sec.twinOwn + 1) (counterFloor s)

/-- The 40 bytes that the TAG covers. -/
def netBeatBytes (s : State) (c : Nat) : List Nat :=
  [0x54, 0x57, 0x48, 0x31, 1, s.sys.state.ctorIdx * 16 + roleCode s.sys.role] ++ toBytes 2 (priority s)
  ++ toBytes 8 Config.otpSerial ++ toBytes 8 s.wav.n ++ toBytes 8 c ++ List.replicate 8 0

/-- The IV of a twin heartbeat (R550). -/
def netBeatIv (c : Nat) : List Nat := [4, 0, 0, 0] ++ toBytes 8 c

/-- TWIN_HEARTBEAT_SEND: 1 ms of the media clock: a datagram from each port on queue 5; the wait for the partner's grows (R364,
R365). -/
def twinHeartbeatSend : Act := fun s =>
  if !isTwin s || !counting s then [] else seq [
    onTwn fun _ t => { t with netAge := min 3 (t.netAge + 1) },
    when (fun s => 3 ≤ s.twn.netAge) (pokeF TWN 22 22 0),
    checkPriority,
    each (List.range 2) (fun x => fun s =>
      match keyZero s with
      | none => []
      | some k0 =>
        let c := nextTwin s
        let b := netBeatBytes s c
        seq [onSec fun _ k => { k with twinOwn := c },
             sendUdp x 5 none (netParam s (0x2E0 + x) 0) (netParam s 0x2E2 30361)
               (b ++ Config.gmac (twinKey k0 Config.otpSerial) (netBeatIv c) b)] s)] s
def execTwinHeartbeatSend (s : State) : Host.Outcome State Fault Refusal := done twinHeartbeatSend s

/-- Does a twin datagram verify (R364, R409, R552)? -/
def netBeatOk (s : State) (b : List Nat) : Bool :=
  let sn := beAt b 8 8
  let c := beAt b 24 8
  b.length == 56 && b.take 5 == [0x54, 0x57, 0x48, 0x31, 1] &&
  (match keyZero s with
   | none => false
   | some k0 => b.drop 40 == Config.gmac (twinKey k0 sn) (netBeatIv c) (b.take 40)) &&
  (sparseGet (fun _ => counterFloor s) s.sec.twinHigh sn) < c && counterBelow s c

/-- A twin datagram on port x (R364, R377): failures are counted, and those for lack of keys in LOCKED_DROP too (R557); a valid one shows
the partner's role. -/
def twinPath (x : Nat) (b : List Nat) : Act := fun s =>
  if !netBeatOk s b then seq [when (fun s => (keyZero s).isNone) lockedDrop, cnt x 0x40D 1] s else
  let st := b.getD 5 0
  let role := st % 16
  let prio := beAt b 6 2
  let sn := beAt b 8 8
  seq [cnt x 0x40C 1,
       onSec fun _ k => { k with twinHigh := sparsePut k.twinHigh sn (beAt b 24 8) },
       onTwn fun _ t => { t with netAge := 0, net := some (st / 16, role, prio, sn) },
       pokeF TWN 22 22 1,
       when (fun s => !tongsUp s) (seq [pokeF TWN 21 18 (st / 16), pokeF TWN 17 14 role, pokePair (TWN + 0xB) sn]),
       (if role = 1 then conflict prio sn else dualEnd)] s

end Sys2Proof.Machine
end

