-- ==== Sys2Proof/Machine/Lanes.lean ====
section
/-! DEFINITION. How a lane pair executes (10: R237, R241, R246-R260; 11: R265-R291; 12: R298, R306, R310): contexts, dispatch, issue of
the four instructions of a bundle, the step to the next bundle, the end of an item, program faults, compare failures and retries.

A lane instruction is a command: it issues in its slot of the bundle at the PC of its context (home pairs 0-31, retry pairs 32-35).
The four instructions of a bundle may come in any order; the fourth closes the bundle. A command whose encoding is not the one the
slot holds issues nothing (log entry 49). -/
namespace Sys2Proof.Machine
open Sys2Proof

/-! ### Contexts -/

def runOf (s : State) (c : Nat) : Option LaneRun := sparseFind s.lan.run c
def putRun (c : Nat) (r : LaneRun) : Act := onLan fun _ l => { l with run := sparsePut l.run c r }
/-- Update a run in progress; nothing where the context is idle. -/
def setRun (c : Nat) (f : LaneRun → LaneRun) : Act := fun s =>
  match runOf s c with
  | some r => putRun c (f r) s
  | none => []
def dropRun (c : Nat) : Act := onLan fun _ l => { l with run := sparseDrop l.run c }

/-- The two lanes of a context: those that serve the pair, or those of the retry. -/
def ctxLanes (s : State) (c : Nat) : Nat × Nat :=
  if c < 32 then lanesOf s c else (sparseFind s.lan.retry c).getD (2 * c, 2 * c + 1)

/-- A word of a lane by its offset in the lane's memory window: X at 0, Y at 0x10000, instructions at 0x20000 (R242). -/
def laneW (lane o : Nat) : Nat := laneMem lane 0 + o

/-- Write a word of a context's memories, in both its lanes (R237). -/
def putCtx (c o : Nat) (w : Word) : Act := fun s =>
  (if c < 32 then commitLanes s c else [(ctxLanes s c).1, (ctxLanes s c).2]).map (fun l => .mem (laneW l o) w)

/-- A word in the memories of both lanes of a context. -/
def bothLanes (s : State) (c o : Nat) : List Nat := [laneW (ctxLanes s c).1 o, laneW (ctxLanes s c).2 o]

/-- The lane of a context in which a word is uncorrectable, if any. -/
def badLane (s : State) (c o : Nat) : Option Nat :=
  [(ctxLanes s c).1, (ctxLanes s c).2].find? (fun l => s.bad.contains (laneW l o))

/-- The words of the present bundle in both lanes, as they are fetched. -/
def fetchWords (s : State) (c : Nat) (r : LaneRun) : List Nat :=
  bothLanes s c (0x20000 + 2 * (r.pc % 8192)) ++ bothLanes s c (0x20000 + 2 * (r.pc % 8192) + 1)

/-- Those of them that the fetch corrects: the first slot to issue stands for the fetch. -/
def softFetch (s : State) (c : Nat) (r : LaneRun) : List Nat :=
  if r.issued = 0 then (fetchWords s c r).filter (fun a => s.soft.contains a) else []

/-! ### The pool (R306) -/

/-- Lanes 64-71 that are neither retired nor serving a working pair (R306); SPARE_PAIRS counts them, busy or not (DEDUCED: log entry 42). -/
def poolLanes (s : State) : List Nat :=
  ((List.range 8).map (· + 64)).filter (fun l =>
    !s.life.retired.testBit l && !s.lan.serve.any (fun e => e.2.1 == l || e.2.2 == l))

/-- Pool lanes free for a retry or a cross-test: not carrying a retry, a cross-test, a graph node or the contents of a re-formed pair,
and not awaiting a cross-test of their own. -/
def freePool (s : State) : List Nat :=
  (poolLanes s).filter (fun l =>
    !s.lan.retry.any (fun e => e.2.1 == l || e.2.2 == l) &&
    !(match s.bel.test with
      | some t => t.tester == l || t.lanes.1 == l || t.lanes.2 == l
      | none => false) &&
    !s.bel.rebuild.any (fun r => r.new.contains l) &&
    !s.bel.poolSuspect.any (fun e => e.1 == l || e.2 == l))

/-! ### Dispatch (R238, R241) -/

/-- D0-D2 at dispatch: the period count and the item number (R241). -/
def dispatchD (n i : Nat) : Sparse Word :=
  sparseSet (fun _ => 0) (sparseSet (fun _ => 0) (sparseSet (fun _ => 0) [] 0 (wd (bits n 31 0))) 1 (wd (bits n 63 32))) 2
    (wd (i % 2048))

/-- An item's run as it is dispatched for period n. Steps count from 4. -/
def newRun (m : Rd) (i n : Nat) (node : Option Nat) : LaneRun :=
  let d := itemOf m i
  { item := i, cls := d.cls, blk := 0x1C00 + 16 * d.arg,
    d := dispatchD n i,
    acc := [[], [], [], []], a := [(6, 0x1C00 + 16 * d.arg)], b := [], l := [], preds := 1, am := 0, lc := 0, ls := 0, le := 0,
    rrb := 0, im := false, satm := false, sticky := 0, pc := d.entry, step := 4, fly := [], issued := 0, delay := 0, target := none,
    skip := none, ending := none, agree := true, rotates := none, loopDue := false, buf := [], xld := none, masked := 0,
    request := false, taken := false, count := 0, node := node }

/-- Start an item on a context. -/
def startRun (c i n : Nat) (node : Option Nat) : Act := fun s => seq [
  putRun c (newRun (rd s) i n node),
  onLan fun _ l =>
    { l with last := sparseSet (fun _ => 0) (sparseSet (fun _ => 0) l.last (ctxLanes s c).1 i) (ctxLanes s c).2 i }] s

/-- The period of the wavefront in flight. -/
def flightN (s : State) : Nat := match s.wav.flight with
  | some f => f.n
  | none => s.wav.n

/-- The block of a run, as its context's first lane holds it. -/
def runBlock (s : State) (c : Nat) (r : LaneRun) : Block := blockAt (rd s) (ctxLanes s c).1 r.blk

/-- Offsets of an item's footprint, its argument block and the window words of its entries (R249, R259). -/
def footWords (m : Rd) (i lane : Nat) : List Nat :=
  let b := blockAt m lane (0x1C00 + 16 * (itemOf m i).arg)
  (List.range (2 * b.codeLen)).map (fun k => 0x20000 + 2 * b.code + k)
  ++ (List.range b.xLen).map (fun k => b.x + k)
  ++ (List.range b.yLen).map (fun k => 0x10000 + b.y + k)
  ++ (List.range (16 * b.len)).map (fun k => 0x10000 + b.at' + k)
  ++ (ownEntries m i).flatMap (fun e => (List.range e.count).map (fun k => 0x10000 + e.win + k))

/-- Copy words of one lane to others. -/
def copyWords (os : List Nat) (src : Nat) (dst : List Nat) : Act := fun s =>
  os.flatMap (fun o => dst.map (fun l => .mem (laneW l o) (rd s (laneW src o))))

/-! ### Items that end (R185, R251, R294) -/

def itemEnd (i : Nat) (e : ItemEnd) : Act := onBel fun _ b => { b with ends := sparsePut b.ends i e }
def endOf (s : State) (i : Nat) : Option ItemEnd := sparseFind s.bel.ends i
/-- Has an item of the period list passed, or been lost? -/
def itemDone (s : State) (i : Nat) : Bool := endOf s i == some .passed || endOf s i == some .lost

/-- The feeds of an item's FEED_OUT entries take hold-and-ramp in the period in flight (R185, R260). -/
def holdFeeds (i : Nat) : Act := fun s =>
  let fs := ((ownEntries (rd s) i).filter (fun e => e.kind == 4)).flatMap (fun e => (List.range e.count).map (fun k => e.first + k))
  onWav (fun _ w => { w with flight := w.flight.map (fun f => { f with hold := f.hold ++ fs, taint := f.taint || !fs.isEmpty }) }) s

/-- WAV_EVENT names the latest event and its period; a read of WAV_EVENT_0 latches the LO word. -/
def wavEvent (kind n : Nat) : Act := seq [
  poke (WAV + 4) (wd (kind * 2 ^ 32 + bits n 63 32)), onWav fun _ w => { w with evLo := bits n 31 0 }]

/-- An item is lost: its stores never commit (R185, R311). -/
def loseItem (i : Nat) : Act := fun s => seq [
  itemEnd i .lost, holdFeeds i,
  bump (WAV + 1) 11 0 1, wavEvent 2 (flightN s), life 13 1, ringLane, ringFault,
  report (srcOf WAV) .retryFail i (flightN s)] s

/-- Rerun a failed period item on a retry pair of the two lowest free pool lanes; without two it is lost (R259, R306). -/
def retryItem (i : Nat) : Act := fun s =>
  match freePool s, ([32, 33, 34, 35] : List Nat).find? (fun c => (sparseFind s.lan.retry c).isNone) with
  | a :: b :: _, some c =>
    let home := firstLane s (itemOf (rd s) i).pair
    seq [copyWords (footWords (rd s) i home) home [a, b],
         onLan fun _ l => { l with retry := sparsePut l.retry c (a, b) },
         startRun c i (flightN s) none, itemEnd i .retrying,
         bump (WAV + 1) 23 12 1, life 12 1, ringLane, report (srcOf WAV) .retry i (flightN s)] s
  | _, _ => loseItem i s

/-! ### Faults and failures (R256, R258, R260, R298, R310) -/

/-- The lane registers of a context show a cause, the bundle and the item. -/
def laneFault (c cause : Nat) (r : LaneRun) (hi lo : Nat) : Act := fun s =>
  each [(ctxLanes s c).1, (ctxLanes s c).2] (fun l => seq [
    poke (LAN l + 1) (wd (cause * 2 ^ 32 + r.pc * 2 ^ 11 + r.item)), bump (LAN l + 2) hi lo 1]) s

/-- Pair p has period items. -/
def hasPeriodItems (m : Rd) (p : Nat) : Bool :=
  (List.range 2048).any (fun i => (itemOf m i).valid && (itemOf m i).pair == p && (itemOf m i).cls != 2)

/-- A compare failure on home pair p while the pool is empty: the third within 16 periods is a device-level fault, or stops the pair's
background items (R310). -/
def countFailure (p : Nat) : Act := when (fun s => (poolLanes s).isEmpty) (fun s =>
  let n := flightN s
  let old := (sparseFind s.bel.fails p).getD []
  let l := (if old.contains n then old else n :: old).filter (fun k => n < k + 16)
  seq [onBel fun _ b => { b with fails := sparsePut b.fails p l },
       when (fun _ => 3 ≤ l.length) (fun s =>
         if hasPeriodItems (rd s) p then seq [report (srcOf BEL) .suspectFault p n, deviceFault 0] s
         else each ((bgItems (rd s)).filter (fun i => (itemOf (rd s) i).pair == p)) (fun i => bgState i 4) s)] s)

/-- The outcome of an item that a graph node runs (R312). -/
def nodeEnded (k : Nat) (ok : Bool) : Act := onBel fun _ b => { b with nodeEnds := sparsePut b.nodeEnds k ok }

/-- The lanes of a retry or node context are free again. -/
def freeCtx (c : Nat) : Act := when (fun _ => 32 ≤ c) (onLan fun _ l => { l with retry := sparseDrop l.retry c })

/-- A compare failure stops the item on both lanes at once (R256). A background item starts again from its entry (R298); a period item
is retried (R184), but not in a catch-up wavefront, whose alignment fails (R187); a failing retry is lost and its lanes await a cross-test
(R306). -/
def compareFail (c cause : Nat) : Act := fun s =>
  match runOf s c with
  | none => []
  | some r => seq [
      laneFault c cause r 35 24, report (srcOf (LAN 0)) .compareFail r.item c, ringLane, dropRun c,
      when (fun _ => decide (c < 32)) (seq [setBits (BEL + 2) (2 ^ c), countFailure c]),
      (match r.node with
       | some k => seq [nodeEnded k false, freeCtx c]
       | none =>
         if r.cls = 2 then seq [
           when (fun s => (bgOf s r.item).st != 4) (bgAgain r.item), bump (BEL + 3) 11 0 1]
         else if c < 32 then
           (fun s => match s.wav.flight with
            | some f => if f.catchup then seq [itemEnd r.item .lost, failAlign 8] s else retryItem r.item s
            | none => [])
         else seq [
           onBel fun _ b => { b with poolSuspect := b.poolSuspect ++ [ctxLanes s c] },
           freeCtx c, loseItem r.item])] s

/-- A program fault stops the item on both lanes; it is not retried (R260). -/
def progFault (c cause : Nat) : Act := fun s =>
  match runOf s c with
  | none => []
  | some r => seq [
      laneFault c cause r 23 12, report (srcOf (LAN 0)) .progFault (cause * 2 ^ 11 + r.item) c, ringLane, dropRun c,
      (match r.node with
       | some k => nodeEnded k false
       | none => if r.cls = 2 then bgState r.item 4 else seq [itemEnd r.item .lost, holdFeeds r.item]),
      freeCtx c] s

/-- The Bellows watchdog stops a background item: committed stores stand, it runs again from its entry (R290, R297). -/
def stopBackground (c : Nat) : Act := fun s =>
  match runOf s c with
  | none => []
  | some r => seq [dropRun c, bgAgain r.item, bump (BEL + 3) 23 12 1, report (srcOf BEL) .bgStop r.item c] s

/-! ### The end of an item (R257, R284, R297) -/

/-- A period item that issues more bundles than it declares has an unpredictable output (R175): its stored words are free values. -/
def drainStores (c : Nat) (r : LaneRun) (free : Bool) : Act :=
  each r.buf.reverse (fun e => if free then draw 175 (fun v => putCtx c e.1 (wd v)) else putCtx c e.1 e.2)

/-- A concurrent item that passed makes the sources of its entries present in the next period (R251). -/
def markSources (i : Nat) : Act := fun s =>
  let ks := ((ownEntries (rd s) i).filter (fun e => e.kind == 5)).flatMap (fun e => (List.range e.count).map (fun k => e.first + k))
  onWav (fun _ w => { w with lanePresent := ks.foldl (fun t k => sparseSet (fun _ => false) t k true) w.lanePresent }) s

/-- A period item passed its end compare on context c. -/
def passPeriod (c : Nat) (r : LaneRun) : Act := fun s =>
  let home := (itemOf (rd s) r.item).pair
  seq [
    drainStores c r ((itemOf (rd s) r.item).bundles < r.count),
    when (fun _ => 32 ≤ c && r.node.isNone)
      (fun s => copyWords (footWords (rd s) r.item (ctxLanes s c).1) (ctxLanes s c).1 (commitLanes s home) s),
    dropRun c, freeCtx c,
    (match r.node with
     | some k => nodeEnded k true
     | none => seq [markSources r.item, itemEnd r.item .passed])] s

/-- A background item ended (`yield` false) or yielded. -/
def passBackground (c : Nat) (r : LaneRun) (yield : Bool) : Act := fun s =>
  let d := itemOf (rd s) r.item
  seq [
    dropRun c, freeCtx c,
    (match r.node with
     | some k => nodeEnded k true
     | none =>
       if yield then seq [bgState r.item 3, when (fun _ => r.taken) (bump (BEL + 3) 35 24 1)]
       else fun s => bgState r.item (if d.delayed && !(bgOf s r.item).slots.isEmpty then 1 else 0) s)] s

/-- The item's last bundle has issued: when no crossbar load is outstanding, every result lands and the ends are compared (R256,
R284). -/
def finish (c : Nat) : Act := fun s =>
  match runOf s c with
  | none => []
  | some r => match r.ending with
    | none => []
    | some yield =>
      if r.xld.isSome then [] else seq [
        setRun c drain,
        (if !r.agree then compareFail c 1 else if r.cls = 2 then passBackground c r yield else passPeriod c r)] s

/-! ### Issue (R266, R267, R276, R285, R290) -/

/-- Results on their way from the present step. -/
def lands (c : Nat) (ls : List Landing) : Act := setRun c fun r =>
  { r with fly := r.fly ++ ls.map (fun e => { reg := e.1, val := e.2.1, due := r.step + e.2.2.1, rank := e.2.2.2 }) }

/-- A result that meets a MOVS to the same register in the same step, where R279 gives no order: a free choice (log entry 50). -/
def landsFree (c : Nat) (reg : LReg) (v lat : Nat) : Act := fun s =>
  match runOf s c with
  | none => []
  | some r =>
    if r.fly.any (fun f => f.reg == reg && f.due == r.step + lat) then
      draw 279 (fun k => lands c [(reg, v, lat, if k % 2 = 0 then 0 else 2)]) s
    else lands c [(reg, v, lat, 0)] s

/-- Sticky flags set by an operation (R277). -/
def flags (c : Nat) (fs : List Nat) : Act := lands c (fs.map (fun i => (.sticky i, 1, 4, 1)))

/-- A flagged result for logical data register dd from a slot (R277, R280). -/
def result (c : Nat) (r : LaneRun) (k : LSlot) (dd lat : Nat) (v : Flagged Word) : Act := seq [
  lands c [(.d (phys r dd), v.val.toNat, lat, k.rank)], flags c v.sets]

/-- Has the item's end been decided and its last bundle issued? -/
def ended (r : LaneRun) : Bool := r.ending.isSome && r.delay == 0

/-- Is an outstanding pre-emption request taken before the present bundle (R285)? -/
def entryDue (r : LaneRun) : Bool := r.cls == 2 && r.request && !r.im && r.delay == 0 && r.ending.isNone && r.issued == 0 && !r.loopDue

/-- Has a masked run reached its limit (R290)? -/
def maskLimit (r : LaneRun) : Bool := r.cls == 2 && r.im && 2048 ≤ r.masked

/-- Is the bundle outside the code that the block declares, as one lane holds it (R249)? -/
def outsideCode (s : State) (lane : Nat) (r : LaneRun) : Bool :=
  let bl := blockAt (rd s) lane r.blk
  r.pc < bl.code || bl.code + bl.codeLen ≤ r.pc
/-- Is the bundle ILLEGAL as one lane holds it (R267)? -/
def illegalIn (s : State) (lane : Nat) (r : LaneRun) : Bool := illegal r (bundleAt (rd s) lane r.pc)

/-- What stands before the first instruction of a bundle: none when it issues; else what happens instead. A program fault that one lane
alone raises is a compare failure (R256). -/
def gate (s : State) (c : Nat) (r : LaneRun) (b : Nat) : Option Act :=
  let x := (ctxLanes s c).1
  let y := (ctxLanes s c).2
  if r.issued ≠ 0 then none
  else if entryDue r || maskLimit r || waits r b then some nop
  else if s.lan.upset.contains c then
    some (seq [onLan fun _ l => { l with upset := l.upset.erase c }, compareFail c 1])
  else if outsideCode s x r != outsideCode s y r then some (compareFail c 1)
  else if outsideCode s x r then some (progFault c 3)
  else match (fetchWords s c r).find? (fun a => s.bad.contains a) with
    | some a => some (seq [uncorrectable 1 a, compareFail c 2])
    | none =>
      if illegalIn s x r != illegalIn s y r then some (compareFail c 1)
      else if illegalIn s x r then some (progFault c 9) else none

/-- The run at the next bundle. -/
def nextBundle (r : LaneRun) (pc : Nat) : LaneRun :=
  stepOn { r with pc := pc % 8192, issued := 0, delay := r.delay - 1, target := if r.delay ≤ 1 then none else r.target, skip := none,
                  loopDue := false }

/-- Does the present loop rotate (R283)? The loop instruction stands in front of LS and ends at LE; where none stands there, because MOVS
set the loop up, the latest loop instruction of the run tells (log entry 51). -/
def loopRotates (s : State) (c : Nat) (r : LaneRun) : Option Bool :=
  let t := (r.ls + 8191) % 8192
  let g := slotOf (bundleAt (rd s) (ctxLanes s c).1 t) .g
  if bits g 19 18 = 2 ∧ (t + bits g 15 8) % 8192 = r.le then some (2 ≤ bits g 17 16) else r.rotates

/-- The rotation at a loop-back and at the fall-through after the final pass (R283); of a loop that no loop instruction made the spec does
not say whether it rotates. -/
def rotateAt (c : Nat) : Act := fun s =>
  match runOf s c with
  | none => []
  | some r => match loopRotates s c r with
    | some true => lands c [(.rotate, 0, 1, 1)] s
    | some false => []
    | none => draw 283 (fun v => if v % 2 = 1 then lands c [(.rotate, 0, 1, 1)] else nop) s

/-- The bundle closes once its four instructions have issued: the end of the item, a branch, a loop-back (which LOOP_BACK then makes),
or the next bundle (R271, R281, R284). Where a branch's target and a loop-back both claim the next bundle the spec does not say which
wins (log entry 52). -/
def close (c : Nat) : Act := fun s =>
  match runOf s c with
  | none => []
  | some r =>
    if r.issued ≠ 15 then [] else
    let back := r.pc == r.le && 1 < r.lc
    seq [
      setRun c fun r => { r with count := r.count + 1, masked := if r.cls == 2 && r.im then r.masked + 1 else 0 },
      when (fun _ => r.pc == r.le && r.lc == 1) (seq [lands c [(.lc, 0, 1, 0)], rotateAt c]),
      (if r.delay = 1 ∧ r.ending.isSome then seq [setRun c fun r => nextBundle r r.pc, finish c]
       else match r.delay == 1, r.target, back with
         | true, some t, true => draw 271 (fun v =>
             if v % 2 = 0 then setRun c fun r => { r with loopDue := true } else setRun c fun r => nextBundle r t)
         | true, some t, false => setRun c fun r => nextBundle r t
         | _, _, true => setRun c fun r => { r with loopDue := true }
         | _, _, false => setRun c fun r => nextBundle r (r.skip.getD (r.pc + 1)))] s

/-- An instruction issues in its slot of the present bundle. What stands before a bundle does so whichever of its slots comes first, and
whatever they hold (R267). -/
def issue (c : Nat) (k : LSlot) (enc : Option Nat) (body : LaneRun → Act) : Act := fun s =>
  match runOf s c with
  | none => []
  | some r =>
    let b := bundleAt (rd s) (ctxLanes s c).1 r.pc
    if r.loopDue || ended r then [] else
    match gate s c r b with
    | some a => a s
    | none =>
      if r.issued.testBit k.bit || some (slotOf b k) ≠ enc then [] else
      seq [each (softFetch s c r) eccFix, body r, setRun c fun r => { r with issued := r.issued ||| 2 ^ k.bit }, close c] s

end Sys2Proof.Machine
end

