-- ==== Sys2Proof/Machine/Bellows.lean ====
section
/-! DEFINITION. Bellows (12_bellows_scheduler): dispatch of period items, background items and pre-emption, cross-tests, retirement and
re-forming of pairs, dataflow graphs. -/
namespace Sys2Proof.Machine
open Sys2Proof

/-! ### Period items (R294) -/

/-- Do the footprints of two items of a pair keep apart (R249, R259)? -/
def apart (s : State) (i j : Nat) : Bool :=
  let lane := firstLane s (itemOf (rd s) i).pair
  let a := footWords (rd s) i lane
  (footWords (rd s) j lane).all (fun o => !a.contains o)

/-- May item i of the period list start now: every earlier stage of its class is done on every pair, its pair's lower items of the
stage have left the pair, and the pair is idle. An item that is being retried elsewhere holds back only those whose footprints overlap its
own (R259, R294). -/
def mayDispatch (s : State) (i : Nat) : Bool :=
  let d := itemOf (rd s) i
  s.bel.list.contains i && (endOf s i).isNone && (runOf s d.pair).isNone &&
  s.bel.list.all (fun j =>
    let e := itemOf (rd s) j
    itemDone s j || e.cls != d.cls || d.stage < e.stage
      || (d.stage == e.stage && (e.pair != d.pair || i ≤ j || (endOf s j == some .retrying && apart s i j))))

/-- ITEM_DISPATCH: a period item starts on its home pair with the dispatch values (R294, R241). -/
def itemDispatch (i : Nat) : Act := fun s =>
  match s.wav.flight with
  | none => []
  | some f => if !mayDispatch s i then [] else seq [startRun (itemOf (rd s) i).pair i f.n none, itemEnd i .running] s
def execItemDispatch (i : Nat) (s : State) : Host.Outcome State Fault Refusal := done (itemDispatch i) s

/-! ### Pre-emption (R285-R290, R296) -/

/-- PREEMPTION_POINT: the request is raised on every pair that runs a background item; none starts before the next tick (R296). -/
def preemptionPoint : Act := seq [
  onBel fun _ b => { b with late := true },
  onLan fun _ l => { l with run := l.run.map (fun e => (e.1, if e.2.cls = 2 then { e.2 with request := true } else e.2)) }]
def execPreemptionPoint (s : State) : Host.Outcome State Fault Refusal := done preemptionPoint s

/-- PREEMPTION_ENTRY: the request is taken before the present bundle, whose address becomes R: what has issued completes, IM is set, the
link word is stored in both lanes and the handler at CODE_START issues next (R286, R287). It waits for an outstanding crossbar load. -/
def preemptionEntry (c : Nat) (agree : Bool) : Act := fun s =>
  match runOf s c with
  | none => []
  | some r =>
    if !entryDue r || r.xld.isSome then [] else
    let b := runBlock s c r
    seq [setRun c fun q => { drain q with im := true, request := false, taken := true },
      (if b.yLen = 0 then progFault c 3
       else if !agree then compareFail c 1
       else seq [putCtx c (0x10000 + b.y + b.yLen - 1) (wd (2 ^ 35 + r.pc)), setRun c fun q => { q with pc := b.code }])] s
def execPreemptionEntry (p : Nat) (agree : Bool) (s : State) : Host.Outcome State Fault Refusal := done (preemptionEntry p agree) s

/-- BELLOWS_WATCHDOG: a masked run would reach its 2,049th bundle (R290); at the tick PERIOD_TICK stops what still runs. -/
def bellowsWatchdog (c : Nat) : Act := when (fun s => match runOf s c with
  | some r => maskLimit r && r.issued == 0
  | none => false) (stopBackground c)
def execBellowsWatchdog (p : Nat) (s : State) : Host.Outcome State Fault Refusal := done (bellowsWatchdog p) s

/-! ### Dataflow graphs (R312, R313) -/

/-- The valid nodes among 0 to COUNT - 1, and the nodes of the graph that START made of them. -/
def validNodes (s : State) (count : Nat) : List Nat :=
  (List.range (min 1024 count)).filter (fun k => flag (rd s (nodeA k 0)) 35)
def graphNodes (s : State) : List Nat := s.bel.graph
def graphRuns (s : State) : Bool := rdF s (BEL + 0x21) 35 32 == 1

/-- The graph ends with a state and a node; Hearth's GRAPH bit (R480). -/
def endGraph (st node : Nat) : Act := seq [
  pokeF (BEL + 0x21) 35 32 st, pokeF (BEL + 0x21) 25 16 node, ring 1 20, report (srcOf BEL) .graphEnd st node]

/-- One token for node k; a node that holds 255 stops the graph (R313). -/
def giveToken (k : Nat) : Act := when graphRuns (fun s =>
  let t := rdF s (nodeA k 0) 23 16
  if t = 255 then endGraph 4 k s else pokeF (nodeA k 0) 23 16 (t + 1) s)

/-- Successors of a node whose valid bit is set. -/
def successors (s : State) (k : Nat) : List Nat :=
  let w := rd s (nodeA k 1)
  (if flag w 35 then [fld w 33 24] else []) ++ (if flag w 23 then [fld w 21 12] else []) ++ (if flag w 11 then [fld w 9 0] else [])

/-- A node ends: DONE passes tokens, FAILED is recorded. -/
def endNode (k : Nat) (ok : Bool) : Act := fun s => seq [
  pokeF (nodeA k 0) 15 13 (if ok then 2 else 3),
  onBel fun _ b => { b with nodes := b.nodes.erase k, nodeEnds := sparseDrop b.nodeEnds k },
  when graphRuns (seq [
    (if ok then seq [bump (BEL + 0x21) 10 0 1, each (successors s k) giveToken]
     else when (fun s => !(graphNodes s).any (fun j => j != k && nodeState s j == 3)) (pokeF (BEL + 0x21) 25 16 k))])] s

/-- Does the graph still fire nodes: none failed, no STOP written? -/
def graphFires (s : State) : Bool := graphRuns s && !s.bel.graphStop && !(graphNodes s).any (fun k => nodeState s k == 3)

/-- An ITEM node starts its item on its pair where nothing runs there; 32-35 are the pool's pairs. -/
def startNode (k : Nat) : Act := fun s =>
  let c := nodeTarget s k
  if 36 ≤ c ∨ (runOf s c).isSome ∨ (sparseFind s.bel.nodeEnds k).isSome ∨ (32 ≤ c ∧ (sparseFind s.lan.retry c).isSome) then []
  else seq [when (fun _ => decide (32 ≤ c)) (onLan fun _ l => { l with retry := sparsePut l.retry c (2 * c, 2 * c + 1) }),
            startRun c (rdF s (nodeA k 2) 10 0) s.wav.n (some k)] s

/-- A node fires: NOTIFY and JOIN complete at once, a reserved kind fails, an ITEM starts outside RUN as soon as it fires, and TEST and
COPY run until NODE_COMPLETE. -/
def fireNode (k : Nat) : Act := fun s => seq [
  pokeF (nodeA k 0) 15 13 1, onBel fun _ b => { b with nodes := b.nodes ++ [k] },
  (match nodeKind s k with
   | 0 => when (fun s => s.sys.state != .run) (startNode k)
   | 1 => nop
   | 2 => nop
   | 3 => seq [ring 1 (rdF s (nodeA k 3) 4 0), endNode k true]
   | 4 => endNode k true
   | _ => endNode k false)] s

/-- Fire every node whose tokens have reached its threshold, on fuel: each node fires once. -/
def fireAll : Nat → Act
  | 0 => nop
  | f + 1 => fun s =>
    if !graphFires s then [] else
    match (graphNodes s).find? (fun k => nodeState s k == 0 && rdF s (nodeA k 0) 31 24 ≤ rdF s (nodeA k 0) 23 16) with
    | none => []
    | some k => seq [fireNode k, fireAll f] s

/-- The graph ends once no node runs and it failed, was stopped, or all its nodes are DONE (R313). -/
def graphCheck : Act := fun s =>
  if !graphRuns s || !s.bel.nodes.isEmpty then [] else
  if (graphNodes s).any (fun k => nodeState s k == 3) then endGraph 3 (rdF s (BEL + 0x21) 25 16) s
  else if s.bel.graphStop then endGraph 5 0 s
  else if (graphNodes s).all (fun k => nodeState s k == 2) then endGraph 2 0 s
  else []

/-- GRAPH_START: START with COUNT; ignored while a graph runs (R313). -/
def graphStart (m count : Nat) : Act := fun s =>
  if m ≠ 0 then refused m (BEL + 0x20) true s else
  seq [pokeF (BEL + 0x20) 10 0 count,
    when (fun s => !graphRuns s) (seq [
      fun s => each ((List.range 1024).filter (fun k => rdF s (nodeA k 0) 23 16 != 0)) (fun k => pokeF (nodeA k 0) 23 16 0) s,
      fun s => each (validNodes s count) (fun k => pokeF (nodeA k 0) 15 13 0) s,
      onBel fun s b => { b with nodes := [], nodeEnds := [], graphStop := false, graph := validNodes s count },
      poke (BEL + 0x21) (wd (2 ^ 32)), fireAll 1025, graphCheck])] s
def execGraphStart (m count : Nat) (s : State) : Host.Outcome State Fault Refusal := done (writing m (graphStart m count)) s

/-- GRAPH_STOP: STOP ends a running graph once its running nodes complete (R313). -/
def graphStop (m : Nat) : Act := fun s =>
  if m ≠ 0 then refused m (BEL + 0x20) true s else
  seq [when graphRuns (seq [onBel fun _ b => { b with graphStop := true }, graphCheck])] s
def execGraphStop (m : Nat) (s : State) : Host.Outcome State Fault Refusal := done (writing m (graphStop m)) s

/-! ### Copies between lanes (R309, R312) -/

/-- Is an address in part k of a lane's memories: 0 X, 1 Y, 2 instructions? -/
def inLanePart (lane k a : Nat) : Bool :=
  laneMem lane k ≤ a && a < laneMem lane k + (if k = 2 then 16384 else 8192)

/-- Copy one memory of a lane over another's. -/
def copyPart (src dst k : Nat) : Act := seq [
  fun _ => [.memKeep (fun a => !inLanePart dst k a)],
  fun s => (s.mem.filter (fun e => inLanePart src k e.1)).map (fun e => .mem (laneMem dst k + (e.1 - laneMem src k)) e.2)]

/-- COPY: instruction (bit 0), X (bit 1), Y (bit 2) as PARAM says (R312). -/
def copyLane (src dst param : Nat) : Act := seq [
  when (fun _ => param.testBit 0) (copyPart src dst 2),
  when (fun _ => param.testBit 1) (copyPart src dst 0),
  when (fun _ => param.testBit 2) (copyPart src dst 1)]

/-- The home pair that a lane serves, if any. -/
def pairOfLane (s : State) (l : Nat) : Option Nat := (List.range 32).find? (fun p => (lanesOf s p).1 == l || (lanesOf s p).2 == l)

/-- May the lane test sequence run on a lane now (R307): its pair's period items are done and nothing runs there, no catch-up wavefront is
in flight, and the unit is not aligning? That 700 ns are left is the sender's to see. -/
def testOpen (s : State) (l : Nat) : Bool :=
  !(1 ≤ align s && align s ≤ 3) &&
  (match s.wav.flight with
   | some f => !f.catchup
   | none => true) &&
  (match pairOfLane s l with
   | some p => (runOf s p).isNone && s.bel.list.all (fun i => (itemOf (rd s) i).pair != p || itemDone s i)
   | none => true)

/-- May a copy run between two lanes now: where a test may, with no retry under way (R309, R313)? -/
def copyOpen (s : State) (a b : Nat) : Bool := testOpen s a && testOpen s b && !s.lan.run.any (fun e => 32 ≤ e.1 && e.2.node.isNone)

/-- Does the device run the lanes at all: from LOAD's end on? -/
def lanesRun (s : State) : Bool :=
  s.sys.state == .hold || s.sys.state == .armed || s.sys.state == .run || s.sys.state == .safe

/-- NODE_COMPLETE: running node k ends. A TEST's signatures agree or not, as the outside says, and a mismatch is recorded against
TARGET_A; a COPY is done, and what it copies is read as it ends (log entry 80); an ITEM ends as its item did. In RUN both wait for their
slack (R312, R313). -/
def nodeComplete (k : Nat) (ok : Bool) : Act := fun s =>
  if !s.bel.nodes.contains k then [] else
  match nodeKind s k with
  | 0 => match sparseFind s.bel.nodeEnds k with
    | none => []
    | some o => seq [endNode k o, fireAll 1025, graphCheck] s
  | 1 =>
    if s.sys.state == .run && !(testOpen s (nodeTarget s k) && testOpen s (nodeOther s k)) then [] else
    seq [when (fun _ => !ok) (seq [
           onBel fun s b => { b with faulty := (b.faulty.erase (nodeTarget s k)) ++ [nodeTarget s k] },
           report (srcOf BEL) .crossTest (nodeTarget s k) 1]),
         endNode k ok, fireAll 1025, graphCheck] s
  | 2 =>
    if s.sys.state == .run && !copyOpen s (nodeTarget s k) (nodeOther s k) then [] else
    seq [copyLane (nodeTarget s k) (nodeOther s k) (nodeParam s k), endNode k true, fireAll 1025, graphCheck] s
  | _ => seq [endNode k ok, fireAll 1025, graphCheck] s
def execNodeComplete (k : Nat) (ok : Bool) (s : State) : Host.Outcome State Fault Refusal := done (nodeComplete k ok) s

/-! ### Background items (R296, R297) -/

/-- Does a fired ITEM node wait for pair p, or run there? -/
def nodeOn (s : State) (p : Nat) : Option Nat :=
  s.bel.nodes.find? (fun k => nodeKind s k == 0 && nodeTarget s k == p && (sparseFind s.bel.nodeEnds k).isNone)

/-- The background item of pair p that starts next: PREEMPTED before READY, the earliest first, then the lower number (R297). -/
def nextBackground (s : State) (p : Nat) : Option Nat :=
  let of (st : Nat) : List (Nat × BgItem) := s.bel.bg.filter (fun e => e.2.st == st && (itemOf (rd s) e.1).pair == p)
  let first (l : List (Nat × BgItem)) : Option Nat :=
    (l.foldl (fun a e => match a with
      | none => some e
      | some x => if e.2.since < x.2.since then some e else a) (none : Option (Nat × BgItem))).map (·.1)
  match first (of 3) with
  | some i => some i
  | none => first (of 1)

/-- Does a TEST or COPY node of the graph run on a lane of pair p (R296)? -/
def nodeNeeds (s : State) (p : Nat) : Bool :=
  let on (l : Nat) : Bool := (lanesOf s p).1 == l || (lanesOf s p).2 == l
  s.bel.nodes.any (fun k => (nodeKind s k == 1 || nodeKind s k == 2) && (on (nodeTarget s k) || on (nodeOther s k)))

/-- Is the slack of this period open for pair p (R296): its period items done, no wavefront of an alignment, no cross-test, no graph node
that needs the pair, enough time left, and a rate that leaves any? -/
def slackOpen (s : State) (p : Nat) : Bool :=
  s.sys.state == .run && s.sys.rate != 2 && !s.bel.late && (runOf s p).isNone && !nodeNeeds s p &&
  s.bel.list.all (fun i => (itemOf (rd s) i).pair != p || itemDone s i) &&
  (match s.wav.flight with
   | some f => !f.catchup
   | none => true) &&
  (match s.bel.test with
   | some t => t.pair != p
   | none => true)

/-- Free the delay-list slots a starting item kept (R302). -/
def releaseSlots (i : Nat) : Act := fun s => seq [
  onBel fun _ b => { b with mark := (bgOf s i).slots.foldl (fun t k => sparsePut t k 1) b.mark },
  setBg i fun b => { b with slots := [] }] s

/-- BACKGROUND_ITEM_START: a graph's ITEM node that waits for the pair, or else the pair's next background item, starts. -/
def backgroundItemStart (p : Nat) : Act := fun s =>
  match nodeOn s p with
  | some k => if s.sys.state == .run && !slackOpen s p then [] else startNode k s
  | none =>
    if !slackOpen s p then [] else
    match nextBackground s p with
    | none => []
    | some i => seq [releaseSlots i, bgState i 2, startRun p i s.wav.n none] s
def execBackgroundItemStart (p : Nat) (s : State) : Host.Outcome State Fault Refusal := done (backgroundItemStart p) s

/-! ### Cross-test and retirement (R307, R308) -/

/-- The next pair to test: the lowest suspect home pair that is not being re-formed, or else a pair of pool lanes that failed a retry. -/
def nextSuspect (s : State) : Option (Nat × Nat × Nat) :=
  match (List.range 32).find? (fun p => flag (rd s (BEL + 2)) p && !s.bel.rebuild.any (fun r => r.pair == p)) with
  | some p => some (p, lanesOf s p)
  | none => s.bel.poolSuspect.head?.map (fun e => (e.1 / 2, e))

/-- The lane of a test that is under test now. -/
def testedLane (t : CrossTest) : Nat := if t.which = 0 then t.lanes.1 else t.lanes.2

/-- Retire a lane: for ever (R62, R308). -/
def retireLane (n : Nat) : Act := seq [
  onLife fun _ l => { l with retired := l.retired ||| 2 ^ n },
  life 14 1, bump (BEL + 4) 11 0 1, ringLane, report (srcOf BEL) .laneRetired n 0]

/-- Put a new lane where a retired one stood. -/
def replaceLane (l : Nat × Nat) (old new : Nat) : Nat × Nat := (if l.1 = old then new else l.1, if l.2 = old then new else l.2)

/-- The pair is re-formed: from here on it is rebuilt (R308). -/
def reform (p : Nat) (lanes : Nat × Nat) (new : List Nat) (reload : Bool) : Act := onBel fun _ b =>
  { b with rebuild := b.rebuild ++ [{ pair := p, lanes := lanes, new := new, reload := reload, copied := false }] }

/-- CROSS_TEST_RESULT (R308). Where both lanes of a pair fail and the pool holds no second lane, the pair keeps its lanes and stays
suspect (log entry 53). -/
def crossTestResult (t : CrossTest) : Act := seq [
  onBel fun _ b => { b with test := none, poolSuspect := b.poolSuspect.filter (fun e => e != t.lanes) },
  bump (BEL + 4) 35 24 1, ringLane, report (srcOf BEL) .crossTest t.pair t.bad.length,
  when (fun _ => decide (t.pair < 32)) (clrBits (BEL + 2) (2 ^ t.pair)),
  (match t.bad with
   | [] => bump (BEL + 4) 23 12 1
   | [(l, by')] => seq [
       retireLane l,
       when (fun _ => decide (t.pair < 32)) (reform t.pair (replaceLane t.lanes l by') [by'] false)]
   | _ => seq [
       retireLane t.lanes.1, retireLane t.lanes.2,
       when (fun _ => decide (t.pair < 32)) (seq [
         ringFault,
         fun s => match freePool s with
           | a :: b :: _ => reform t.pair (a, b) [a, b] true s
           | _ => setBits (BEL + 2) (2 ^ t.pair) s])])]

/-- Start the test of the next suspect, with the lowest free pool lane; it waits while the unit aligns or no lane is free (R307). -/
def startTest : Act := fun s =>
  if 1 ≤ align s ∧ align s ≤ 3 then [] else
  match nextSuspect s, freePool s with
  | some (p, l), a :: _ =>
      onBel (fun _ b => { b with test := some { pair := p, lanes := l, which := 0, tester := a, chunk := 0, bad := [] } }) s
  | _, _ => []

/-- The test of a lane is over: the other lane follows, with the lowest pool lane then free, or the result. -/
def nextLane (t : CrossTest) : Act := fun s =>
  if t.which = 1 then crossTestResult t s else
  let free := freePool { s with bel := { s.bel with test := none } }
  let by' := match free.filter (fun l => l != t.lanes.1 && l != t.lanes.2) with
    | a :: _ => a
    | [] => t.tester
  onBel (fun _ b => { b with test := some { t with which := 1, chunk := 0, tester := by' } }) s

/-- CROSS_TEST_CHUNK: one chunk of the 128 runs, in the slack, on the lane under test and its tester; `matched`: their signatures agree
(R307). The record `bel.test` is the graph that Bellows builds for itself. -/
def crossTestChunk (matched : Bool) : Act := seq [
  when (fun s => s.bel.test.isNone) startTest,
  fun s => match s.bel.test with
    | none => []
    | some t =>
      if !(lanesRun s && testOpen s (testedLane t)) then []
      else if !matched then nextLane { t with bad := t.bad ++ [(testedLane t, t.tester)] } s
      else if t.chunk = 127 then nextLane t s
      else onBel (fun _ b => { b with test := some { t with chunk := t.chunk + 1 } }) s]
def execCrossTestChunk (matched : Bool) (s : State) : Host.Outcome State Fault Refusal := done (crossTestChunk matched) s

/-- Load a lane with what the image gave pair p and the argument commits since (R308). -/
def reloadLane (p lane : Nat) : Act := seq [
  fun _ => [.memKeep (fun a => !([0, 1, 2].any (fun k => inLanePart lane k a)))],
  fun s => (s.img.lanes.filter (fun e => 0x40000 * p ≤ e.1 && e.1 < 0x40000 * (p + 1))).map (fun e =>
    .mem (laneW lane (e.1 - 0x40000 * p)) e.2)]

/-- LANE_COPY: in the slack the memories of a pair being re-formed are copied from the surviving lane, or loaded again where none survived.
From then on every commit on the pair is written to the new lanes too (R308, R309). -/
def laneCopy (p : Nat) : Act := fun s =>
  match s.bel.rebuild.find? (fun r => r.pair == p && !r.copied) with
  | none => []
  | some r =>
    let src := if r.new.contains r.lanes.1 then r.lanes.2 else r.lanes.1
    if !(lanesRun s && copyOpen s src (r.new.headD 64)) then [] else
    seq [(if r.reload then each r.new (reloadLane p) else each r.new (fun n => copyLane src n 7)),
         onBel fun _ b => { b with rebuild := b.rebuild.map (fun q => if q.pair = p then { q with copied := true } else q) },
         report (srcOf BEL) .laneCopy p 0] s
def execLaneCopy (p : Nat) (s : State) : Host.Outcome State Fault Refusal := done (laneCopy p) s

/-- PAIR_TAKEOVER: at the first tick after its copy a re-formed pair takes over (R309). -/
def pairTakeover : Act := fun s => seq [
  each (s.bel.rebuild.filter (·.copied)) (fun r => seq [
    onLan fun _ l => { l with serve := sparsePut l.serve r.pair r.lanes },
    clrBits (BEL + 2) (2 ^ r.pair),
    onBel fun _ b => { b with fails := sparseDrop b.fails r.pair }]),
  -- a reload of both lanes taints what the pair goes on with (R351)
  when (fun s => s.bel.rebuild.any (fun r => r.copied && r.reload)) (onWav fun s w => { w with taints := (s.wav.n :: w.taints).take 80 }),
  when (fun s => s.bel.rebuild.any (·.copied)) (onBel fun _ b => { b with rebuild := b.rebuild.filter (fun r => !r.copied) })] s

end Sys2Proof.Machine
end

