-- ==== Sys2Proof/Machine/DramQueue.lean ====
section
/-! DEFINITION. The queues of the DRAM channels (18: R438, R444-R446, R449, R453): who may send a request, its class, its arrival, the order
in which a channel issues what waits, and what the reader of an uncorrectable word does. -/
namespace Sys2Proof.Machine
open Sys2Proof

/-- The dedicated ports of the controller, numbered beside the masters (log entry 39): the window filler, the stager, Tongs. -/
def portFiller : Nat := 0x80
def portStager : Nat := 0x81
def portTongs : Nat := 0x82

/-- May `src` write the word, and may it read it (R438)? -/
def dramMayWrite (s : State) (src a : Nat) : Bool :=
  if src = portFiller then inLines a
  else if src = portStager then 0x42000000 ≤ a && a ≤ 0x45FFFFFF
  else if src = portTongs then (0x41000000 ≤ a && a ≤ 0x45FFFFFF) || inLines a
  else dramWriteOk s src a
def dramMayRead (src a : Nat) : Bool :=
  if src = portFiller then inLines a
  else if src = portStager then 0x42000000 ≤ a && a ≤ 0x45FFFFFF
  else if src = portTongs then (0x41000000 ≤ a && a ≤ 0x45FFFFFF) || inLines a
  else dramReadOk src a

/-- The class of a request by its sender (R445): window traffic 2, Tongs and the alignment input buffer 3, the scrubber 5, other crossbar
masters 4. Jump fills, class 1, are the filler's own (log entry 89). -/
def dramClass (src : Nat) : Nat :=
  if src = portFiller then 2 else if src = portStager ∨ src = portTongs then 3 else if src = 8 then 5 else 4

/-- The queue of channel c, oldest request first (R445). -/
def chanQueue (s : State) (c : Nat) : List DramReq := s.drc.queue.filter (fun q => dramChan q.a == c)

/-- What follows the read of an uncorrectable word (R444): it ends an alignment that Tongs reads it for; the filler's line starves, since its
window finds the word unreadable; other readers get the error status. -/
def uncorrReaction (src : Nat) : Act := seq [
  when (fun s => src == portTongs && s.sys.role == .standby && 1 ≤ align s && align s ≤ 4) (failAlign 5),
  when (fun s => src == portTongs && s.twn.serve.isSome) (seq [
    fun s => tongsSend 6 ([4, 0, 0, 0] ++ toBytes 4 s.twn.snapId ++ [5]) s,
    onTwn fun _ t => { t with serve := none, frozen := none }])]

/-- A request is issued: a write is stored, a read answered (R440, R441, R444). -/
def perform (r : DramReq) : Act := fun s =>
  match r.write with
  | some w => seq [dramStoreSlot r.a w r.lap, emit (.resp 0 [])] s
  | none =>
    let g := dramGet s r.a r.flip r.lap
    match g.2 with
    | some w => seq [g.1, emit (.resp 0 [w])] s
    | none => seq [g.1, emit (.resp 3 [0]), uncorrReaction r.src] s

/-- The request that channel c issues next: in in-order mode the oldest; else one of the first class, the oldest that hits an open row or
else the oldest (R445, R446). -/
def nextRequest (s : State) (c : Nat) : Option DramReq :=
  let l := chanQueue s c
  if flag (rd s DRC) (20 + c) then l.head? else
  let k := l.foldl (fun k q => min k q.cls) 6
  let best := l.filter (fun q => q.cls == k)
  match best.find? (fun q => sparseFind s.drc.rows (dramBank q.a) == some (dramRow q.a)) with
  | some q => some q
  | none => best.head?

/-- A refresh of a rank leaves it the debt `d` and closes its rows (R449). -/
def payRefresh (r d : Nat) : Act := onDrc fun _ x =>
  { x with debt := sparseSet (fun _ => 0) x.debt r d, rows := x.rows.filter (fun e => e.1 / 8 != r) }

/-- Refreshes that can no longer be postponed precede every class (R445, R449). -/
def forcedRefresh (c : Nat) : Act := each [2 * c, 2 * c + 1] (fun r =>
  when (fun s => decide (8 ≤ sparseGet (fun _ => 0) s.drc.debt r)) (payRefresh r 7))

/-- Channel c issues one request, if one waits. -/
def issueRequest (c : Nat) : Act := fun s =>
  match nextRequest s c with
  | none => []
  | some q => seq [forcedRefresh c, onDrc (fun _ d => { d with queue := d.queue.erase q }), perform q, leaveInOrder c] s

/-- Channel c issues all that waits. -/
def serveChannel (c : Nat) : Act := each (List.range 64) (fun _ => issueRequest c)

/-- The channels issue all that waits, while the dies accept traffic (R453). -/
def serveQueues : Act := fun s =>
  if s.drc.queue.isEmpty || !dramUp s then [] else each (List.range 4) serveChannel s

/-- A request joins its channel's queue of 64; where that is full it waits for the channel to issue one, or in self-refresh, behind the
queue, with its sender (R445, R453). One that meets the row of a queued write starts in-order mode (R446). -/
def arrive (r : DramReq) : Act := seq [
  when (fun s => dramUp s && decide (64 ≤ (chanQueue s (dramChan r.a)).length)) (issueRequest (dramChan r.a)),
  fun s =>
    let cause := meetsWrite s r.a && !flag (rd s DRC) (20 + dramChan r.a)
    seq [enterInOrder r.a, onDrc fun _ d => { d with queue := d.queue ++ [{ r with cause := cause }] }] s]

/-- A request of DRAM_WRITE or DRAM_READ: it waits where the dies are in self-refresh, or where its channel has no time for it yet; else the
channel issues what waits and the request with it (R445, R446, R453). -/
def request (r : DramReq) (waits : Bool) : Act := fun s =>
  if !dramUp s || waits then seq [arrive r, emit (.wait r.a)] s
  else if (chanQueue s (dramChan r.a)).isEmpty then seq [forcedRefresh (dramChan r.a), perform r] s
  else seq [arrive r, serveChannel (dramChan r.a)] s

end Sys2Proof.Machine
end

