-- ==== Sys2Proof/Machine/Mac.lean ====
section
/-! DEFINITION. The media network ports (15: R368-R387): link, the receive classifier, receive rings, the transmit queues, PAUSE,
the port address, and the group membership reports of 16 (R392). The scene path's checks are those of R377, R409, R410. -/
namespace Sys2Proof.Machine
open Sys2Proof

/-! ### Link (R369) -/

/-- The ports' island is clocked: SPLL is not gated (R13; CLK_x_STAT.STATE, where 2 is LOCKED). -/
def portIsland (s : State) : Bool := rdF s (CLKL 3 + 5) 35 34 == 2

/-- Ring registers: block offset of receive ring r (0-3) and of transmit ring t (0-4). -/
def rxr (x r : Nat) : Nat := MAC x + 0x100 + 8 * r
def txr (x t : Nat) : Nat := MAC x + 0x140 + 8 * t
/-- The queue that transmit ring t feeds (R384). -/
def ringQueue (t : Nat) : Nat := if t = 4 then 7 else t

/-- A word address in the areas descriptors and buffers may lie in: shared SRAM or the Hearth pool (R378). -/
def ringArea (a n : Nat) : Bool :=
  (0x10000000 ≤ a && a + n ≤ 0x10200000) || (0x40800000 ≤ a && a + n ≤ 0x41000000)

/-! ### Transmit rings (R382-R384) -/

/-- Return one transmit descriptor with an error (R384): ERROR and CODE set, OWN cleared, counted. -/
def txDescErr (x d code : Nat) : Act := seq [
  poke (d + 2) (wd (2 ^ 35 + code)), clrBits d (2 ^ 35), cnt x 0x41C 1]

/-- Advance the head of a ring by n descriptors that have completed, modulo SIZE; Hearth's MAC_A or MAC_B rings (R379, R480). -/
def advance (rg n : Nat) : Act := seq [
  fun s => pokeF (rg + 4) 9 0 ((rdF s (rg + 4) 9 0 + n) % max 1 (rdF s (rg + 1) 31 0)) s,
  ring 1 (if rg < MAC 1 then 16 else 17)]

/-- Discard a frame of queue 4, 5 or 7 because its port is down (R369): counted; a frame of transmit ring 4 has its descriptors
returned with LINK. -/
def discardTx (x : Nat) (f : TxFrame) : Act := seq [
  cnt x 0x41A 1,
  (match f.ring with
   | some t => seq [each f.descs (fun d => txDescErr x d 3), advance (txr x t) f.descs.length]
   | none => nop)]

/-- The descriptors of one frame from index i of ring t: their addresses up to LAST; none while the frame is not wholly given. -/
def gather (m : Nat → Word) (base size tail : Nat) : Nat → Nat → List Nat → Option (List Nat)
  | 0, _, _ => none
  | f + 1, i, acc =>
    if i = tail then none else
    let d := base + 8 * i
    if !ringArea d 8 || !flag (m d) 35 then none
    else if flag (m d) 33 then some (acc ++ [d])
    else gather m base size tail f ((i + 1) % max 1 size) (acc ++ [d])

/-- A transmit buffer and its bytes; 16,384 of them show as 0 in 14 bits (R384; DEDUCED: log entry 88). -/
def txBuf (m : Nat → Word) (d : Nat) : Nat × Nat := (fld (m (d + 1)) 31 0, if fld (m d) 13 0 = 0 then 16384 else fld (m d) 13 0)
def bufBytes (m : Nat → Word) (a n : Nat) : List Nat :=
  ((List.range ((n + 3) / 4)).flatMap (fun k => toBytes 4 (fld (m (a + k)) 31 0))).take n

/-- A frame of a Hearth ring with the tag the device inserts (R384). -/
def withTag (m : Nat → Word) (x q : Nat) (b : List Nat) : List Nat :=
  if macVlan m x then
    b.take 12 ++ toBytes 2 0x8100 ++ toBytes 2 (bits (m (MAC x + 8)).toNat (3 * q + 2) (3 * q) * 2 ^ 13 + fld (m (MAC x + 7)) 11 0)
      ++ b.drop 12
  else b

/-- Bytes that queues share with q (R383): queues 0-3 share 12 KiB, 4 and 5 have 1 KiB, 7 has 2 KiB. -/
def shareUsed (s : State) (x q : Nat) : Nat :=
  let qs := if q < 4 then [0, 1, 2, 3] else [q]
  ((qs.map (fun k => (txq s x k).filter (fun f => f.ring.isSome))).flatten.map (txLen (rd s) x)).foldl (· + ·) 0
def shareSize (q : Nat) : Nat := if q < 4 then 12288 else if q = 7 then 2048 else 1024

/-- Fetch frames of transmit ring t into its queue while they are given whole and fit (R383, R384). A frame in error, or one of
ring 4 while the port is down, goes back when it comes to the head. On fuel. -/
def fetchTx (x t : Nat) : Nat → Act
  | 0 => nop
  | f + 1 => fun s =>
    let ring := txr x t
    let q := ringQueue t
    let size := rdF s (ring + 1) 31 0
    let mine := (txq s x q).filter (fun y => y.ring == some t)
    let used := (mine.map (fun y => y.descs.length)).foldl (· + ·) 0
    if !flag (rd s (ring + 5)) 35 then [] else
    match gather (seenWord s) (rdF s ring 31 0) size (rdF s (ring + 3) 9 0) size ((rdF s (ring + 4) 9 0 + used) % max 1 size) [] with
    | none => []
    | some ds =>
      let bs := ds.map (txBuf (seenWord s))
      let len : Nat := (bs.map (fun b => b.2)).foldl (· + ·) 0
      let fail (code : Nat) : Act :=
        if mine.isEmpty then seq [each ds (fun d => txDescErr x d code), advance ring ds.length, fetchTx x t f] else nop
      if 9212 < len then fail 1 s
      else if bs.any (fun b => !ringArea b.1 ((b.2 + 3) / 4)) then fail 2 s
      else
        let fr : TxFrame := { body := .raw (withTag (rd s) x q ((bs.map (fun b => bufBytes (seenWord s) b.1 b.2)).flatten)), ring := some t,
                              descs := ds, ts := flag (seenWord s (ds.headD 0)) 32 }
        if q = 7 ∧ !(portUp s x && portsOn s) then seq [discardTx x fr, fetchTx x t f] s
        else if shareSize q < shareUsed s x q + txLen (rd s) x fr then []
        else seq [setTxq x q (txq s x q ++ [fr]), fetchTx x t f] s

/-- Hearth's write to TXR_TAIL: it gives the port descriptors up to the new tail (R379, R384). -/
def txrTail (m x t : Nat) (w : Word) : Act := fun s =>
  let x := x % 2
  let t := t % 5
  if m ≠ 0 then refused m (txr x t + 3) true s
  else seq [pokeF (txr x t + 3) 9 0 (fld w 9 0), fetchTx x t 1024] s
def execTxrTail (m x t : Nat) (w : Word) (s : State) : Host.Outcome State Fault Refusal := done (writing m (txrTail m x t w)) s

/-- Discard the audio frames a port holds, counted in TX_AUDIO_DROP (R369). -/
def dropAudio (x : Nat) : Act := fun s =>
  seq [cnt x 0x419 ((macOf s x).staging.length + (txq s x 6).length), setMac x fun p => { p with staging := [] }, setTxq x 6 []] s

/-- The port whose PTP messages are used follows the links: port A while A is up and the grandmaster is heard there, else B; logged (R405). -/
def gmPort : Act := fun s =>
  match s.stm.masters.find? (fun g => some g.id == s.stm.gm) with
  | none => []
  | some g =>
    let port := if g.onA && portUp s 0 then 1 else 2
    if rdF s STM 31 30 = port then [] else
    seq [pokeF STM 31 30 port, report (srcOf STM) .gmChange (g.id / 2 ^ 32) (g.id % 2 ^ 32)] s

/-- A port comes up: status, event, log (R369). `status` gives the five link bits 9:5 of MAC_x_STATUS; the conditions of R369 must
hold among them. -/
def linkUp (x status : Nat) : Act := fun s =>
  let x := x % 2
  let fec := flag (rd s (MAC x + 1)) 2
  if portUp s x || !portIsland s || !status.testBit 4 || status.testBit 3 || (fec && !status.testBit 2) || status.testBit 1
      || status.testBit 0 then []
  else seq [pokeF (MAC x) 9 5 status, pokeF (MAC x) 10 10 1, setBits (MAC x + 2) 1, report (srcOf (MAC x)) .linkUp x 0, gmPort] s
def execLinkUp (x status : Nat) (s : State) : Host.Outcome State Fault Refusal := done (linkUp x status) s

/-- A port goes down: what its stream, PTP, acknowledgement and heartbeat queues hold is discarded and counted; frames on the
other rings wait (R369). -/
def linkDown (x status : Nat) : Act := fun s =>
  let x := x % 2
  seq [pokeF (MAC x) 9 5 status,
    when (fun s => portUp s x) (seq [
      pokeF (MAC x) 10 10 0, setBits (MAC x + 2) 2, cnt x 0x416 1, report (srcOf (MAC x)) .linkDown x 0,
      dropAudio x,
      each [4, 5, 7] (fun q s => seq [each (txq s x q) (discardTx x), setTxq x q []] s),
      fetchTx x 4 1024, gmPort])] s
def execLinkDown (x status : Nat) (s : State) : Host.Outcome State Fault Refusal := done (linkDown x status) s

/-! ### PAUSE (R385) -/

/-- Quanta of the pause timer that have run off, at most what remained: counted in PAUSED_QUANTA. -/
def pauseRun (x quanta : Nat) : Act := fun s =>
  let n := min quanta (rdF s (MAC x + 9) 31 16)
  seq [when (fun _ => n != 0) (cnt x 0x417 n), pokeF (MAC x + 9) 31 16 (rdF s (MAC x + 9) 31 16 - n)] s

/-- PAUSE_EXPIRY: the pause timer runs out; the queues it held are picked again. -/
def pauseExpiry (x : Nat) : Act := fun s => pauseRun (x % 2) (rdF s (MAC (x % 2) + 9) 31 16) s
def execPauseExpiry (x : Nat) (s : State) : Host.Outcome State Fault Refusal := done (pauseExpiry x) s

/-- The queues PAUSE holds back (MAC_x_STATUS.PAUSED). -/
def paused (s : State) (x : Nat) : Nat := if rdF s (MAC x + 9) 31 16 = 0 then 0 else rdF s (MAC x + 9) 4 0

/-- TRANSMIT_PICK: the highest-numbered queue that holds a frame and is not paused; the frame is sent whole, or cut short by the
link (R369, R383, R384). `sec`, `ns`, `frac`: the egress timestamp; `quanta`: pause time run off since the last pause command. -/
def transmitPick (x : Nat) (whole : Bool) (sec ns frac quanta : Nat) : Act := fun s =>
  let x := x % 2
  if !txOn s x then [] else
  seq [pauseRun x quanta, fun s =>
    match [7, 6, 5, 4, 3, 2, 1, 0].find? (fun q => !(txq s x q).isEmpty && !(paused s x).testBit q) with
    | none => []
    | some q => match txq s x q with
      | [] => []
      | f :: rest =>
        let len := txLen (rd s) x f
        seq [setTxq x q rest,
          (if whole then seq [
            emit (match f.body with
              | .raw b => .net x q (b ++ List.replicate (60 - b.length) 0)
              | .dgram src ip udp p => .udp x src ip udp p),
            cnt x 0x418 1, cnt x (0x424 + q) 1, cntBytes x 0x422 len]
           else cnt x 0x41B 1),
          (match f.ring with
           | none => nop
           | some t => seq [
              when (fun _ => f.ts && whole) (pokeList (f.descs.headD 0 + 3)
                [wd (sec / 2 ^ 32 % 2 ^ 16), wd (sec % 2 ^ 32), wd (ns % 2 ^ 30 * 16 + frac % 16)]),
              each f.descs (fun d => clrBits d (2 ^ 35)), advance (txr x t) f.descs.length]),
          each (List.range 5) (fun t => fetchTx x t 1024)] s] s
def execTransmitPick (x : Nat) (whole : Bool) (sec ns frac quanta : Nat) (s : State) : Host.Outcome State Fault Refusal :=
  done (transmitPick x whole sec ns frac quanta) s

/-! ### Receive rings (R376, R378-R381) -/

/-- Frames waiting for ring r. -/
def rxq (s : State) (x r : Nat) : List RxFrame := sparseGet (fun _ => []) (macOf s x).rings r
def setRxq (x r : Nat) (l : List RxFrame) : Act := setMac x fun p => { p with rings := sparseSet (fun _ => []) p.rings r l }

/-- Bytes of frames that wait for a ring, not yet in buffers (RXR_STAT.WAITING). -/
def rxWaiting (l : List RxFrame) : Nat := (l.map (fun f => f.bytes.length - f.put)).foldl (· + ·) 0

/-- Bytes packed four to a word, most significant first (R378). -/
def bufWords (b : List Nat) : List Word :=
  (List.range ((b.length + 3) / 4)).map (fun i => wd (beAt (b ++ [0, 0, 0]) (4 * i) 4))

/-- Fill ring r from the frames that wait for it, a buffer at a time, until it is exhausted (R379, R381). On fuel. -/
def fillRing (x r : Nat) : Nat → Act
  | 0 => nop
  | fuel + 1 => fun s =>
    let ring := rxr x r
    let head := rdF s (ring + 4) 9 0
    let d := rdF s ring 31 0 + 8 * head
    match rxq s x r with
    | [] => []
    | f :: rest =>
      if !flag (rd s (ring + 5)) 35 || head = rdF s (ring + 3) 9 0 || !ringArea d 8 || !flag (seenWord s d) 35 then [] else
      let buf := fld (seenWord s d) 31 0
      let cap := rdF s (ring + 2) 31 0
      let n := min cap (f.bytes.length - f.put)
      let first := f.put == 0
      let last := f.put + n == f.bytes.length
      let w1 (l e : Bool) (k : Nat) : Word :=
        wd (b2n first * 2 ^ 35 + b2n l * 2 ^ 34 + b2n e * 2 ^ 32 + f.reason % 16 * 2 ^ 28 + k)
      let stamp : List Word := if first then [wd (f.sec / 2 ^ 32 % 2 ^ 16), wd (f.sec % 2 ^ 32), wd (f.ns % 2 ^ 30 * 16 + f.frac % 16)]
        else [0, 0, 0]
      let next : Act := seq [clrBits d (2 ^ 35), advance ring 1]
      if !ringArea buf ((cap + 3) / 4) then
        seq [poke (d + 1) (w1 true true 0), next, setRxq x r rest, cnt x 0x40F 1, fillRing x r fuel] s
      else seq [
        pokeList buf (bufWords ((f.bytes.drop f.put).take n)),
        pokeList (d + 1) ([w1 last false n, wd (if last then f.bytes.length else 0)] ++ stamp
          ++ [wd (b2n f.tagged * 2 ^ 16 + f.tci % 2 ^ 16)]),
        next,
        (if last then seq [setRxq x r rest, cnt x 0x40E 1]
         else setRxq x r ({ f with put := f.put + n, descs := f.descs ++ [d] } :: rest)),
        fillRing x r fuel] s

/-- Fuel for filling: each turn uses a descriptor. -/
def fillFuel : Nat := 1024

/-- Note when the head of each ring that waits began to wait (R380). -/
def noteWaits (x : Nat) : Act := fun s =>
  each (List.range 4) (fun r s => match rxq s x r with
    | f :: rest => if f.since = 0 then
        seq [setMac x fun p => { p with waits := p.waits + 1 },
             fun s => setRxq x r ({ f with since := (macOf s x).waits } :: rest) s] s else []
    | [] => []) s

/-- The exhausted ring whose head frame has waited longest, with that frame. -/
def longestWait (s : State) (x : Nat) : Option (Nat × RxFrame) :=
  (List.range 4).foldl (fun best r => match rxq s x r with
    | f :: _ => (match best with
        | some b => if f.since < b.2.since then some (r, f) else best
        | none => some (r, f))
    | [] => best) none

/-- Drop the head frame of a ring: descriptors it used return with DROP, the last with LAST (R380). -/
def dropHead (x r : Nat) (f : RxFrame) : Act := seq [
  each f.descs (fun d => setBits (d + 1) (2 ^ 33)),
  (match f.descs.getLast? with
   | some d => setBits (d + 1) (2 ^ 34)
   | none => nop),
  fun s => setRxq x r ((rxq s x r).drop 1) s,
  cnt x 0x40F 1, setBits (MAC x + 2) 4]

/-- Make room in the ring region of 114,688 bytes for n more bytes (R380). On fuel. -/
def makeRoom (x n : Nat) : Nat → Act
  | 0 => nop
  | fuel + 1 => fun s =>
    let used := ((List.range 4).map (fun r => rxWaiting (rxq s x r))).foldl (· + ·) 0
    if used + n ≤ 114688 then [] else
    match longestWait s x with
    | none => []
    | some (r, f) => seq [dropHead x r f, noteWaits x, makeRoom x n fuel] s

/-- A frame bound for ring r (R376, R379, R380). A ring that is not in use takes none: dropped, and counted in RX_RING_DROP (DESIGN CHOICE:
log entry 88). -/
def toRing (x r : Nat) (f : RxFrame) : Act := fun s =>
  if !flag (rd s (rxr x r + 5)) 35 then cnt x 0x40F 1 s else
  seq [makeRoom x f.bytes.length 65536,
    fun s =>
      let used := ((List.range 4).map (fun r => rxWaiting (rxq s x r))).foldl (· + ·) 0
      if 114688 < used + f.bytes.length then seq [cnt x 0x410 1, setBits (MAC x + 2) 4] s
      else seq [setRxq x r (rxq s x r ++ [f]), fillRing x r fillFuel, noteWaits x] s] s

/-- Hearth's write to RXR_TAIL: the device fetches the descriptor again (R379). -/
def rxrTail (m x r : Nat) (w : Word) : Act := fun s =>
  let x := x % 2
  let r := r % 4
  if m ≠ 0 then refused m (rxr x r + 3) true s
  else seq [pokeF (rxr x r + 3) 9 0 (fld w 9 0), fillRing x r fillFuel, noteWaits x] s
def execRxrTail (m x r : Nat) (w : Word) (s : State) : Host.Outcome State Fault Refusal := done (writing m (rxrTail m x r w)) s

/-- RING_DISABLE: clearing EN discards the frames that wait for the ring and returns HEAD to TAIL (15: STAT registers). Rings 0-3
receive, 4-8 transmit. -/
def ringDisable (m x k : Nat) : Act := fun s =>
  let x := x % 2
  let k := k % 9
  let ring := if k < 4 then rxr x k else txr x (k - 4)
  if m ≠ 0 then refused m (ring + 5) true s
  else seq [pokeF (ring + 5) 35 35 0, pokeF (ring + 4) 9 0 (rdF s (ring + 3) 9 0),
    (if k < 4 then setRxq x k []
     else setTxq x (ringQueue (k - 4)) ((txq s x (ringQueue (k - 4))).filter (fun f => f.ring != some (k - 4))))] s
def execRingDisable (m x k : Nat) (s : State) : Host.Outcome State Fault Refusal := done (writing m (ringDisable m x k)) s

/-- RXR_STAT_r and TXR_STAT_t as they read: EN, STALLED, WAITING. A transmit ring stalls on PAUSE or on the link. -/
def rxStat (s : State) (x r : Nat) : Word :=
  wd (rdF s (rxr x r + 5) 35 35 * 2 ^ 35 + b2n (!(rxq s x r).isEmpty) * 2 ^ 34 + rxWaiting (rxq s x r) % 2 ^ 17)
def txStat (s : State) (x t : Nat) : Word :=
  let l := (txq s x (ringQueue t)).filter (fun f => f.ring == some t)
  wd (rdF s (txr x t + 5) 35 35 * 2 ^ 35
    + b2n (!l.isEmpty && (!txOn s x || (paused s x).testBit (ringQueue t))) * 2 ^ 34
    + ((l.map (fun f => match f.body with | .raw b => b.length | .dgram _ _ _ p => p.length)).foldl (· + ·) 0) % 2 ^ 17)

/-! ### The classifier (R373, R375, R377) -/

/-- Groups port x accepts (R373). -/
def groupOk (m : Nat → Word) (x ip : Nat) : Bool :=
  ip == 0xE0000181 || ip == 0xE0000001
  || (List.range 64).any (fun i => flag (m (MAC x + 0x40 + i)) 35 && fld (m (MAC x + 0x40 + i)) 31 0 == ip)
  || (List.range 128).any (fun e => entryValid (rxE m e 0) && entryOn (rxE m e 0) x && fld (rxE m e (2 + 3 * x)) 31 0 == ip && isGroup ip)

/-- Is an Ethernet destination accepted? -/
def etherOk (m : Nat → Word) (x dst : Nat) : Bool :=
  dst == macAddr m x || dst == 2 ^ 48 - 1 || dst == groupMac 0xE0000181 || dst == groupMac 0xE0000001
  || (List.range 64).any (fun i => flag (m (MAC x + 0x40 + i)) 35 && groupMac (fld (m (MAC x + 0x40 + i)) 31 0) == dst)
  || (List.range 128).any (fun e => entryValid (rxE m e 0) && entryOn (rxE m e 0) x && isGroup (fld (rxE m e (2 + 3 * x)) 31 0)
      && groupMac (fld (rxE m e (2 + 3 * x)) 31 0) == dst)

/-- Is an IPv4 destination accepted? -/
def ipOk (m : Nat → Word) (x ip : Nat) : Bool :=
  (ip != 0 && ip == fld (m (MAC x + 6)) 31 0) || ip == 2 ^ 32 - 1 || (isGroup ip && groupOk m x ip)

/-- Is the PEERS entry p valid (SEC_PEER_w, R549)? -/
def peerValid (s : State) (p : Nat) : Bool := p < 255 && flag (rd s (SEC + 0x10 + p / 32)) (p % 32)

/-- A scene datagram from a port (R377, R409, R410, R551): authenticated, checked against replay, and queued. -/
def scenePath (x src sp : Nat) (b : List Nat) : Act := fun s =>
  let p := b.getD 6 0
  let c := beAt b 8 8
  let body := b.take (b.length - 16)
  let tag := b.drop (b.length - 16)
  let bad : Act := cnt x 0x40B 1
  if 8192 < b.length ∨ b.length < 32 ∨ b.take 5 ≠ [0x53, 0x43, 0x4E, 0x31, 1] ∨ !peerValid s p then bad s else
  match keyZero s with
  | none => seq [lockedDrop, bad] s
  | some k0 =>
    if tag ≠ Config.gmac (peerKey k0 p) ([1, p, 0, 0] ++ toBytes 8 c) body then bad s else
    match replayCheck s p c tag with
    | .bad => bad s
    | .copy => bump (STM + 0x12) 35 24 1 s
    | .fresh =>
      if 32 ≤ (s.scene.queue.filter (fun f => !f.host)).length ∨ flag (rd s (LOC + 0x100)) 16 ∨ s.sys.state ≠ .run then cnt x 0x40A 1 s
      else seq [replayAccept p c tag, cnt x 0x409 1,
        onScene fun _ q => { q with queue := q.queue ++ [{ host := false, port := x, srcIp := src, srcPort := sp, bytes := body }] }] s

/-- The UDP payload: as its length field gives it, where it gives one within the packet (log entry 34). -/
def udpPayload (b : List Nat) : List Nat :=
  let n := beAt b 4 2
  if 8 ≤ n ∧ n ≤ b.length then (b.drop 8).take (n - 8) else b.drop 8

/-- Steps 5-16 for a frame without its tag: `b` from the destination address, `f` as it would wait for a ring (R375). -/
def classifyIp (x : Nat) (b : List Nat) (f : RxFrame) : Act := fun s =>
  let m := streamRd s
  let et := beAt b 12 2
  let ip := b.drop 14
  let ihl := ip.getD 0 0 % 16
  let total := beAt ip 2 2
  let proto := ip.getD 9 0
  let src := beAt ip 12 4
  let dst := beAt ip 16 4
  let body := (ip.take total).drop (4 * ihl)
  let udp := proto == 17 && 8 ≤ body.length
  let dp := beAt body 2 2
  let put (r reason : Nat) : Act := toRing x r { f with reason := reason, bytes := b }
  if et = 0x0806 then put 1 0 s
  else if et ≠ 0x0800 then put 3 1 s
  else if ip.getD 0 0 / 16 ≠ 4 ∨ ihl < 5 ∨ ip.length < 4 * ihl ∨ fold16 8 (sum16 (ip.take (4 * ihl))) ≠ 0xFFFF ∨ ip.length < total then
    cnt x 0x406 1 s
  else if 5 < ihl ∨ beAt ip 6 2 % 2 ^ 14 ≠ 0 then put 2 3 s
  else if !ipOk m x dst then cnt x 0x404 1 s
  else if udp then
    match rxMatch m x dst dp src with
    | some e => seq [cnt x 0x407 1, rtpPacket e x (udpPayload body)] s
    | none =>
      if dp = 319 then seq [cnt x 0x408 1, put 0 6] s
      else if dp = 320 then seq [cnt x 0x408 1, put 0 7] s
      else if dp = fld (m (LOC + 0x100)) 15 0 then scenePath x src (beAt body 0 2) (udpPayload body) s
      else if dp = netParam s 0x2E2 30361 ∧ src = netParam s (0x2E0 + x) 0 then twinPath x (udpPayload body) s
      else put 2 11 s
  else if proto = 1 ∨ proto = 2 then put 1 10 s
  else put 2 11 s

/-- The counts of the PCS and the RS-FEC layer (R386). -/
def pcsCounts (x : Nat) (pcs : PcsFinds) : Act := seq [
  when (fun _ => pcs.blocks != 0) (cnt x 0x413 pcs.blocks),
  when (fun s => flag (rd s (MAC x + 1)) 2) (seq [
    when (fun _ => pcs.corrected != 0) (cnt x 0x414 pcs.corrected),
    when (fun _ => pcs.uncorrected != 0) (cnt x 0x415 pcs.uncorrected)])]

/-- FRAME_RECEIVED: a frame from its destination address to the end of its payload, tag included, FCS left out; `pcs` and
`fcsOk` say how it arrived, `sec`, `ns`, `frac` when; `quanta`: pause time run off since the last pause command (R375). -/
def frameReceived (x : Nat) (pcs : PcsFinds) (fcsOk : Bool) (b : List Nat) (sec ns frac quanta : Nat) : Act := fun s =>
  let x := x % 2
  let m := streamRd s
  let et := beAt b 12 2
  let tagged := et == 0x8100
  let tci := if tagged then beAt b 14 2 else 0
  let vid := tci % 4096
  if !rxOn s x then [] else
  seq [pauseRun x quanta, pcsCounts x pcs,
    (if pcs.inFrame then cnt x 0x413 1
     else if !fcsOk then cnt x 0x401 1
     else if b.length + 4 < 64 then cnt x 0x402 1
     else if 9216 < b.length + 4 then cnt x 0x403 1
     else if et = 0x8808 then
       (if beAt b 14 2 = 1 ∧ beAt b 0 6 = 0x0180C2000001 then
          seq [cnt x 0x411 1, pokeF (MAC x + 9) 31 16 (beAt b 16 2)]
        else cnt x 0x412 1)
     else if !etherOk m x (beAt b 0 6) then cnt x 0x404 1
     else if (if macVlan m x then !tagged || vid != fld (m (MAC x + 7)) 11 0 else tagged && vid != 0) then cnt x 0x405 1
     else seq [cnt x 0x400 1, cntBytes x 0x420 (b.length + 4),
       classifyIp x (if tagged then b.take 12 ++ b.drop 16 else b)
         { reason := 0, bytes := [], sec := sec, ns := ns, frac := frac, tagged := tagged, tci := tci, put := 0, descs := [], since := 0 }])] s
def execFrameReceived (x : Nat) (pcs : PcsFinds) (fcsOk : Bool) (b : List Nat) (sec ns frac quanta : Nat) (s : State) :
    Host.Outcome State Fault Refusal := done (frameReceived x pcs fcsOk b sec ns frac quanta) s

/-! ### The port address (R374) -/

/-- May master m write the port's configuration (15: Registers; R95)? -/
def macWriter (s : State) (m : Nat) : Bool := m == 2 || (m ≤ 1 && !staticOf s secNetwork)

/-- MAC_ADDR_HI: held in the master's staging register. -/
def macAddrHi (m x : Nat) (w : Word) : Act := fun s =>
  let a := MAC (x % 2) + 4
  if !macWriter s m then seq [keepStaged m (fun _ => false), refused m a true] s
  else seq [keepStaged m (fun y => y == a), stage m a (w &&& wd 0xFFFF)] s
def execMacAddrHi (m x : Nat) (w : Word) (s : State) : Host.Outcome State Fault Refusal := done (macAddrHi m x w) s

/-- MAC_ADDR_LO: commits the address with the held HI; with none held, HI stays as it is. -/
def macAddrLo (m x : Nat) (w : Word) : Act := fun s =>
  let a := MAC (x % 2) + 4
  if !macWriter s m then seq [keepStaged m (fun _ => false), refused m (a + 1) true] s
  else seq [keepStaged m (fun y => y == a),
    (fun s => match stagedOf s m with
      | some g => seq [unstage m, poke a g.word] s
      | none => []),
    poke (a + 1) (w &&& wd 0xFFFFFFFF)] s
def execMacAddrLo (m x : Nat) (w : Word) (s : State) : Host.Outcome State Fault Refusal := done (macAddrLo m x w) s

/-! ### Group membership (R392) -/

/-- One IGMPv3 group record: INCLUDE naming the sender, or EXCLUDE with no sources (R392). The record types are those of IGMPv3: 1
and 2 for the current state, 3 and 4 for a change. -/
def igmpRecord (change : Bool) (ip src : Nat) : List Nat :=
  if src = 0 then [if change then 4 else 2, 0, 0, 0] ++ toBytes 4 ip
  else [if change then 3 else 1, 0, 0, 1] ++ toBytes 4 ip ++ toBytes 4 src

/-- The report for port x: one record for each valid receive entry with a group there. -/
def igmpFrame (m : Nat → Word) (x : Nat) (change : Bool) : Option (List Nat) :=
  let es := (List.range 128).filter (fun e => entryValid (rxE m e 0) && entryOn (rxE m e 0) x && isGroup (fld (rxE m e (2 + 3 * x)) 31 0))
  if es.isEmpty then none else
  let recs := es.flatMap (fun e => igmpRecord change (fld (rxE m e (2 + 3 * x)) 31 0) (fld (rxE m e (4 + 3 * x)) 31 0))
  let body (c : Nat) : List Nat := [0x22, 0] ++ toBytes 2 c ++ [0, 0] ++ toBytes 2 es.length ++ recs
  some (ethHeader m x 3 (groupMac 0xE0000016) 0x0800
    ++ ipPacket 48 1 2 (fld (m (MAC x + 6)) 31 0) 0xE0000016 [0x94, 4, 0, 0] (body (inetSum (body 0))))

/-- IGMP_REPORT: Hearth reports its groups on each enabled port, on queue 3; nothing while Hearth restarts (R392, R382). -/
def igmpReport (change : Bool) : Act := fun s =>
  if s.sys.hearthDown || !portsOn s then [] else
  each (List.range 2) (fun x s => if !(netParam s 0x209 3).testBit x then [] else
    match igmpFrame (rd s) x change with
    | none => []
    | some b => enqueue x 3 { body := .raw b, ring := none, descs := [], ts := false } s) s
def execIgmpReport (change : Bool) (s : State) : Host.Outcome State Fault Refusal := done (igmpReport change) s

end Sys2Proof.Machine
end

