-- ==== Sys2Proof/Machine/Clocks.lean ====
section
/-! DEFINITION. Clocks and phase-locked loops (17: R413-R435): words and bands, lock, tracking, ramps and relocks, loss of lock,
the reference and its phase jumps. The correction itself, at its P, is in Run.lean. Loops: 0 MPLL, 1 APLL, 2 DPLL, 3 SPLL. -/
namespace Sys2Proof.Machine
open Sys2Proof

/-! ### Words and bands (R415, R417) -/

/-- CLK_x_STAT.STATE: 0 OFF, 1 ACQUIRING, 2 LOCKED, 3 BYPASS or GATED. -/
def loopState (s : State) (k : Nat) : Nat := rdF s (CLKL k + 5) 35 34
/-- Set it, with LOOP_STATE of CLK_STATUS. -/
def setLoop (k v : Nat) : Act := seq [pokeF (CLKL k + 5) 35 34 v, pokeF CLK (2 * k + 1) (2 * k) v]
/-- The target word, and the effective word. -/
def targetWord (s : State) (k : Nat) : Nat := rdF s (CLKL k + 1) 7 0 * 2 ^ 36 + (rd s (CLKL k + 2)).toNat
def effWord (s : State) (k : Nat) : Nat := rdF s (CLKL k + 5) 25 18 * 2 ^ 36 + (rd s (CLKL k + 3)).toNat
def setTarget (k w : Nat) : Act := seq [poke (CLKL k + 1) (wd (bits w 43 36)), poke (CLKL k + 2) (wd (w % 2 ^ 36))]
def setEff (k w : Nat) : Act := seq [pokeF (CLKL k + 5) 25 18 (bits w 43 36), poke (CLKL k + 3) (wd (w % 2 ^ 36))]

/-- Four times the reference frequency in MHz: XO 25 MHz, NREF 156.25 MHz (R413). -/
def refQuarter (k : Nat) : Nat := if k = 3 then 625 else 100
/-- The VCO frequency of a word, in MHz × 2^38 (R415). -/
def vco (k w : Nat) : Nat := refQuarter k * w

/-- Does band b of loop k hold the frequency of a word (R417)? -/
def bandHolds (m : Nat → Word) (k w b : Nat) : Bool :=
  let r := m (CLK + 0x400 + 64 * k + b)
  let lo := fld r 15 0
  let hi := fld r 31 16
  flag r 35 && (4 * lo + hi) * 2 ^ 38 ≤ 5 * vco k w && 5 * vco k w ≤ (lo + 4 * hi) * 2 ^ 38

/-- The lowest-numbered valid band that holds a word (R417). -/
def bandFor (m : Nat → Word) (k w : Nat) : Option Nat := (List.range 64).find? (bandHolds m k w)

/-- Is a word within 5 % of the midpoint of the band in use (R423)? -/
def nearBand (m : Nat → Word) (k w : Nat) : Bool :=
  let r := m (CLK + 0x400 + 64 * k + fld (m (CLKL k + 5)) 31 26)
  let mid : Nat := (fld r 15 0 + fld r 31 16) * 2 ^ 37
  20 * ((vco k w : Int) - mid).natAbs ≤ mid

/-! ### Free-running (R76, R407, R426, R428, R430) -/

/-- CLK_STATUS.REF_STATE: 0 NONE, 1 ACQUIRING, 2 LOCKED, 3 HOLDOVER, 4 FREE. -/
def refState (s : State) : Nat := rdF s CLK 35 33
/-- STM_STATUS.PTP_STATE (R407). -/
def ptpState (s : State) : Nat := rdF s STM 35 32

/-- SYS_STATE.FREE_RUN follows the loops, the reference and the servo: MPLL or APLL in bypass, holdover, RUN on XO under R68, the
servo in ACQUIRING or HOLDOVER, or Hearth restarting. -/
def updateFree : Act := onSys fun s y => { y with
  freeRun := loopState s 0 != 2 || loopState s 1 != 2 || 3 ≤ refState s || ptpState s == 2 || ptpState s == 4
             || s.sys.hearthDown }

/-- HEARTH_RESTART_COMPLETE: the waiting duties resume from their next interval (R61, R517); FREE_RUN no longer stands for the restart,
and the holdover that it brought under PTP ends with REFERENCE_RETURN (R430). -/
def hearthRestartComplete : Act := seq [onSys fun _ y => { y with hearthDown := false }, updateFree]
def execHearthRestartComplete (s : State) : Host.Outcome State Fault Refusal := done hearthRestartComplete s

/-- What a clock event does: CLOCK_EVENT and a log entry. -/
def clockEvent (e : Event) (d0 d1 : Nat) : Act := seq [ringClock, report (srcOf CLK) e d0 d1]

/-! ### Relocking (R424-R426) -/

/-- A loop relocks at its target word (R424): a ramp is abandoned, the island goes to bypass or is gated, the band is selected and
acquisition starts. Without a band no acquisition starts. -/
def relock (k : Nat) : Act := fun s =>
  let w := targetWord s k
  seq [onClk fun _ c => { c with settling := c.settling.erase k, ramp := sparseDrop c.ramp k },
    pokeF (CLKL k + 5) 33 32 0, setEff k w,
    (match bandFor (rd s) k w with
     | some b => seq [pokeF (CLKL k + 5) 31 26 b, setLoop k 1]
     | none => seq [pokeF (CLKL k + 5) 3 0 3, setLoop k 3]),
    when (fun _ => k == 2) selfRefresh,
    when (fun _ => k == 3) (seq [linkDown 0 0, linkDown 1 0, tongsLost, pokeF TWN 27 26 0]),
    updateFree] s

/-- RELOCK: Hearth's write of 1 to CLK_x_CTL.RELOCK forces a relock; during one it restarts it (R424, R425). -/
def relockRequest (m k : Nat) : Act :=
  let k := k % 4
  if m ≠ 0 then refused m (CLKL k) true else seq [when (fun _ => k == 2) serveQueues, relock k]
def execRelock (m k : Nat) (s : State) : Host.Outcome State Fault Refusal := done (writing m (relockRequest m k)) s

/-- LOCK_DECLARED: the pin of group g (0 LOCKF_MEDIA, 1 LOCKF_SYS) reaches its threshold: lock is declared for every acquiring loop
of the group, which then settles (R418, R419, R424). -/
def lockDeclared (g : Nat) : Act :=
  each (if g % 2 = 0 then [0, 1] else [2, 3]) (fun k => when (fun s => loopState s k == 1) (seq [
    setLoop k 3,
    onClk fun s c => { c with settling := c.settling.erase k ++ [k], lockWord := sparseSet (fun _ => 0) c.lockWord k (targetWord s k) },
    report (srcOf CLK) .lockDeclared k 0]))
def execLockDeclared (g : Nat) (s : State) : Host.Outcome State Fault Refusal := done (lockDeclared g) s

/-- SETTLE_EXPIRY: the island clock returns from bypass; after a relock of DPLL the dies leave self-refresh and every channel is
retrained, `fails` giving the attempts that fail on each (R424, R453). -/
def settleExpiry (k : Nat) (fails : List Nat) : Act := when (fun s => s.clk.settling.contains (k % 4)) (seq [
  onClk fun _ c => { c with settling := c.settling.erase (k % 4) },
  setLoop (k % 4) 2,
  when (fun _ => k % 4 == 2) (seq [exitRefresh fails, serveQueues]),
  updateFree])
def execSettleExpiry (k : Nat) (fails : List Nat) (s : State) : Host.Outcome State Fault Refusal := done (settleExpiry k fails) s

/-- A loop that is locked, or settles, loses lock: counted, shown, logged, and it relocks at its target (R426). -/
def loseLock (k : Nat) : Act := when (fun s => loopState s k == 2 || s.clk.settling.contains k) (seq [
  bump (CLK + 2) 35 24 1, clkEvent (2 ^ k), clockEvent .lockLoss k 0, relock k])

/-- LOSS_OF_LOCK: the phase error stays outside the window for 16 reference cycles (R426). -/
def lossOfLock (k : Nat) : Act := loseLock (k % 4)
def execLossOfLock (k : Nat) (s : State) : Host.Outcome State Fault Refusal := done (lossOfLock k) s

/-- GUARD_TRIP: a guard swallowed `swallowed` cycles, or saw no edge for 1 us; handled as loss of lock (R421, R426). -/
def guardTrip (k swallowed : Nat) : Act := seq [
  bump (CLK + 2) 23 12 swallowed, clkEvent (2 ^ (4 + k % 4)), report (srcOf CLK) .guardTrip (k % 4) swallowed, loseLock (k % 4)]
def execGuardTrip (k swallowed : Nat) (s : State) : Host.Outcome State Fault Refusal := done (guardTrip k swallowed) s

/-- RELOCK_RETRY: an attempt that has not declared lock is abandoned and begun again; logged at most once a second (R426). -/
def relockRetry (k : Nat) : Act := fun s =>
  let k := k % 4
  if loopState s k = 1 ∨ (loopState s k = 3 ∧ !s.clk.settling.contains k) then
    seq [when (fun s => !s.clk.retryLogged) (seq [report (srcOf CLK) .lockLoss k 1, onClk fun _ c => { c with retryLogged := true }]),
         relock k] s
  else []
def execRelockRetry (k : Nat) (s : State) : Host.Outcome State Fault Refusal := done (relockRetry k) s

/-! ### Changing frequency (R422, R423, R425) -/

/-- Result of a word commit in CLK_x_STAT.RESULT. -/
def wordResult (k v : Nat) : Act := pokeF (CLKL k + 5) 3 0 v

/-- Segment s of loop k's ramp profile: its duration, and its weight. -/
def rampDur (m : Nat → Word) (k s : Nat) : Nat := fld (m (CLKL k + 0x10 + s)) 24 17
def rampWeight (m : Nat → Word) (k s : Nat) : Nat := fld (m (CLKL k + 0x10 + s)) 16 0

/-- Does the profile allow a ramp from e to w: weights summing to 65,536, no segment faster than 1 % per us (R423; the percentage is
of the frequency the ramp begins at, log entry 35)? -/
def rampOk (m : Nat → Word) (k e w : Nat) : Bool :=
  ((List.range 16).map (rampWeight m k)).foldl (· + ·) 0 == 65536 &&
  (List.range 16).all (fun s => ((w : Int) - e).natAbs * rampWeight m k s * 100 ≤ e * 65536 * rampDur m k s)

/-- The first segment at or after i that takes time; 16 when none does. -/
def nextSeg (m : Nat → Word) (k i : Nat) : Nat := ((List.range 16).find? (fun j => i ≤ j && rampDur m k j != 0)).getD 16

/-- The word at the start of segment i of a ramp. -/
def rampAt (m : Nat → Word) (k : Nat) (r : Ramp) (i : Nat) : Nat :=
  ((r.start : Int) + (((r.goal : Int) - r.start) * (((List.range i).map (rampWeight m k)).foldl (· + ·) 0 : Nat)).fdiv 65536).toNat

/-- A ramp ends at its goal; DPLL's dies leave self-refresh and are retrained (R423, R453). -/
def rampEnd (k goal : Nat) (fails : List Nat) : Act := seq [
  onClk fun _ c => { c with ramp := sparseDrop c.ramp k }, setEff k goal, pokeF (CLKL k + 5) 33 33 0,
  when (fun _ => k == 2) (seq [exitRefresh fails, serveQueues])]

/-- RAMP_SEGMENT: a segment of the ramp ends and the next begins (R423). -/
def rampSegment (k : Nat) (fails : List Nat) : Act := fun s =>
  let k := k % 4
  match sparseFind s.clk.ramp k with
  | none => []
  | some r =>
    let i := nextSeg (rd s) k (r.seg + 1)
    if 16 ≤ i then rampEnd k r.goal fails s
    else seq [setEff k (rampAt (rd s) k r i), onClk fun _ c => { c with ramp := sparsePut c.ramp k { r with seg := i } }] s
def execRampSegment (k : Nat) (fails : List Nat) (s : State) : Host.Outcome State Fault Refusal := done (rampSegment k fails) s

/-- Commit a target word (R417, R422, R423, R425). During a relock, or while a loop waits for a band, it becomes the relock's target:
the loop acquires it anew, in its band. -/
def commitTarget (k w : Nat) : Act := fun s =>
  let m := rd s
  let st := loopState s k
  if flag (m (CLKL k + 5)) 33 then wordResult k 2 s
  else if st ≠ 0 ∧ (bandFor m k w).isNone then seq [wordResult k 3, report (srcOf CLK) .noBand k 0] s
  else if st ≠ 2 then seq [setTarget k w, wordResult k 1, when (fun _ => st == 1 || st == 3) (relock k)] s
  else if k < 2 then
    let lw := sparseGet (fun _ => 0) s.clk.lockWord k
    if lw < 1000 * ((w : Int) - lw).natAbs then wordResult k 4 s
    else seq [setTarget k w, pokeF (CLKL k + 5) 32 32 (b2n (w != effWord s k)), wordResult k 1] s
  else if nearBand m k w then
    let e := effWord s k
    if !rampOk m k e w then wordResult k 5 s
    else
      let i := nextSeg m k 0
      seq [setTarget k w, wordResult k 1, when (fun _ => k == 2) (seq [serveQueues, selfRefresh]),
        (if 16 ≤ i then rampEnd k w [] else seq [
          onClk fun _ c => { c with ramp := sparsePut c.ramp k { seg := i, start := e, goal := w } }, pokeF (CLKL k + 5) 33 33 1])] s
  else seq [when (fun _ => k == 2) serveQueues, setTarget k w, wordResult k 1, relock k] s

/-- WORD_COMMIT: Hearth's write to CLK_x_FRAC commits it with the INT it has staged (R422, R425). -/
def wordCommit (m k : Nat) (w : Word) : Act := fun s =>
  let k := k % 4
  let a := CLKL k + 1
  if m ≠ 0 then seq [keepStaged m (fun _ => false), refused m (a + 1) true] s
  else seq [keepStaged m (fun y => y == a), fun s =>
    let int := match stagedOf s m with
      | some g => fld g.word 7 0
      | none => rdF s a 7 0
    seq [unstage m, commitTarget k (int * 2 ^ 36 + w.toNat)] s] s
def execWordCommit (m k : Nat) (w : Word) (s : State) : Host.Outcome State Fault Refusal := done (wordCommit m k w) s

/-- One 1 us step of MPLL or APLL towards a target word: at most 1 ppm, the last landing on it (R422). -/
def trackOne (k w : Nat) : Act := fun s =>
  if loopState s k ≠ 2 then [] else
  let e := effWord s k
  let d := e / 1000000
  let n := if e + d < w then e + d else if w + d < e then e - d else w
  seq [setEff k n, pokeF (CLKL k + 5) 32 32 (b2n (n != w))] s

/-- MPLL's target with the offset that slews out a phase error: at most 50 ppm, how much the spec leaves open (R431). -/
def slewTarget (s : State) (v : Nat) : Nat :=
  let w := targetWord s 0
  let off := w * (v % 51) / 1000000
  if 0 < s.clk.slew then w + off else w - off

/-- End or show slewing: it ends below 100 ns (R431). -/
def slewCheck : Act := fun s =>
  if s.clk.slew.natAbs < 100000000 then seq [onClk fun _ c => { c with slew := 0 }, pokeF CLK 30 30 0] s
  else pokeF CLK 30 30 1 s

/-- TRACKING_STEP: every 1 us MPLL steps towards its target, and APLL towards its own or, with MIRROR, towards MPLL's effective word;
a phase error that is slewed out shrinks by the offset's share of the microsecond (R422, R431). -/
def trackingStep : Act := seq [
  (fun s => if s.clk.slew = 0 then trackOne 0 (targetWord s 0) s else
    draw 431 (fun v => seq [
      fun s => trackOne 0 (slewTarget s v) s,
      onClk fun s c => { c with slew := c.slew - (((effWord s 0 : Int) - targetWord s 0) * 1000000000).tdiv (max 1 (targetWord s 0)) },
      slewCheck]) s),
  fun s => if flag (rd s (CLKL 1)) 4 then seq [setTarget 1 (effWord s 0), trackOne 1 (effWord s 0)] s else trackOne 1 (targetWord s 1) s]
def execTrackingStep (s : State) : Host.Outcome State Fault Refusal := done trackingStep s

/-! ### The reference (R428-R430) -/

/-- The period count at a PTP time in sixteenths of a nanosecond: its tick is one link offset after its sampling instant (R48). -/
def countAt (s : State) (t : Int) : Nat :=
  ((t - 16 * (rdF s (STM + 1) 31 0 : Int)) * (rateHz s.sys.rate : Int) / 16000000000).toNat

/-- The partner's PERIOD, on a twin pair whose heartbeat shows it in ARMED or RUN (R429). -/
def partnerCount (s : State) : Option Nat :=
  if s.img.twin ≠ 1 then none else
  match s.twn.partner with
  | some b => if b.state = DevState.armed.ctorIdx ∨ b.state = DevState.run.ctorIdx then some b.period else none
  | none => none

/-- The count of the latest tick at a pulse of REF_PPS_IN: that of the period sampled at the pulse is s × fs for the calendar's second s;
while the calendar is UNSET there is none (R429, R528). -/
def countAtPulse (s : State) : Option Nat :=
  if s.cocoon.calSource = 0 then none
  else some ((partnerCount s).getD (countAt s (16000000000 * s.cocoon.calSec)))

/-- The count that the first tick carries under REF_WCLK_IN and XO: s × fs for the calendar's second s; while the calendar is UNSET there
is none, but in the free run of R68 the calendar counts as it stands (R68, R429, R528). -/
def countAtTick (s : State) : Option Nat :=
  let n := s.cocoon.calSec * rateHz s.sys.rate
  if refState s = 4 then some n
  else if refState s = 2 ∧ 2 ≤ s.img.clock ∧ s.cocoon.calSource ≠ 0 then some ((partnerCount s).getD n)
  else none

/-- In ARMED, a count that the source gives is established: condition 2 of R67 (R48, R429). -/
def establish (count : State → Option Nat) : Act := fun s =>
  if s.sys.state != .armed || s.sys.condCount then [] else
  match count s with
  | some n => seq [onWav fun _ w => { w with n := n }, countMoved, onSys fun _ y => { y with condCount := true }] s
  | none => []

/-- The source is locked: condition 1 of R67; the count that it gives at this instant, if any, is established (R428, R429). -/
def refLocked (count : State → Option Nat) : Act := seq [
  pokeF CLK 35 33 2,
  fun s => pokeF CLK 32 31 s.img.clock s,
  onSys fun _ y => { y with condClock := true },
  establish count,
  updateFree]

/-- REFERENCE_LOCKED: the configured source meets its lock condition (R428): PTP_STATE LOCKED; 4 or 64 good edges; for XO, MPLL's own
lock. The count follows at the next Sync, pulse or tick. -/
def referenceLocked : Act := fun s =>
  let ok := match s.img.clock with
    | 0 => ptpState s == 3
    | 1 => 4 ≤ s.clk.edges
    | 2 => 64 ≤ s.clk.edges
    | _ => loopState s 0 == 2 || s.clk.settling.contains 0
  if ok && counting s then refLocked (fun _ => none) s else []
def execReferenceLocked (s : State) : Host.Outcome State Fault Refusal := done referenceLocked s

/-- The reference is lost: holdover (R430). Loss of XO is no loss of the reference. -/
def refLost : Act := when (fun s => refState s == 2 && s.img.clock != 3) (seq [
  pokeF CLK 35 33 3, clkEvent (2 ^ 8), clockEvent .refLost 0 0,
  onSys fun _ y => { y with condClock := false }, onClk fun _ c => { c with edges := 0 }, updateFree])
def execReferenceLost (s : State) : Host.Outcome State Fault Refusal := done refLost s

/-! ### Phase jumps (R431, R432, R434, R435) -/

/-- Nearest integer to a quotient, ties away from zero. -/
def nearestAway (a : Int) (d : Nat) : Int :=
  let q := (2 * a.natAbs + d) / (2 * max 1 d)
  if a < 0 then -(q : Int) else (q : Int)

/-- K of a jump: the multiple of 16 nearest to J × fs, J in 1/16 ns (R432). -/
def jumpK (j : Int) (fs : Nat) : Int := 16 * nearestAway (j * fs) (16 * 16000000000)

/-- P of a correction measured in second s (R432). -/
def jumpP (sec fs n : Nat) : Nat := if (sec + 1) * fs < n + fs / 100 then (sec + 2) * fs else (sec + 1) * fs

/-- The ACTIVE's Hearth tells the partner's, over the MAILBOX class (R434); the channel is the firmware's own choice (log entry 36). -/
def tellPartner (p : Nat) (k : Int) (via : Bool) : Act := fun s =>
  if !isTwin s || s.sys.role != .active || !tongsUp s then [] else
  let o : OutMsg := { seq := sparseGet (fun _ => 0) s.xbr.outSeq 0, words := (message s 0 0 0xFF).take 3 ++ Config.realignWords p k via }
  seq [onXbr fun _ x => { x with
         outq := sparseSet (fun _ => []) x.outq 0 (sparseGet (fun _ => []) x.outq 0 ++ [o]),
         outSeq := sparseSet (fun _ => 0) x.outSeq 0 ((o.seq + 1) % 2 ^ 32) },
       sendOut 0 o,
       when (fun s => s.twn.serve.isSome) (seq [
         fun s => tongsSend 6 ([4, 0, 0, 0] ++ toBytes 4 s.twn.snapId ++ [3]) s,
         onTwn fun _ t => { t with serve := none, frozen := none }])] s

/-- Decide a correction for P; one already pending is replaced until the control tick that ends at its P has begun (R434). -/
def decide'Realign (r : Realign) : Act := fun s =>
  let stands : Bool := match s.clk.corr with
    | some c => c.at' < s.wav.n + 17
    | none => false
  if stands then [] else
  seq [onClk fun _ c => { c with corr := some r }, showRealign r.at' r.k, tellPartner r.at' r.k r.viaArmed] s

/-- A phase error measured in RUN or SAFE (R431, R432, R435): below 100 ns nothing is slewed; up to THRESH_US it is slewed; up to
MAX_MS corrected by whole periods; above, the device passes through ARMED. Limits out of their ranges leave the choice open. On a
twin pair with Tongs up only the ACTIVE decides (R434). -/
def phaseJump (j : Int) (sec : Nat) : Act := fun s =>
  if s.sys.state ≠ .run ∧ s.sys.state ≠ .safe then [] else
  let fs := rateHz s.sys.rate
  let th := rdF s (CLK + 3) 9 0
  let mx := rdF s (CLK + 3) 23 10
  let p := jumpP sec fs s.wav.n
  let slew : Act := seq [onClk fun _ c => { c with slew := j * 62500 }, slewCheck]
  let whole : Act :=
    let k := jumpK j fs
    if k = 0 then slew else
      decide'Realign { at' := p, k := k, rest := (j * fs - k * 16000000000) / max 1 (fs : Int), viaArmed := false }
  let via : Act := decide'Realign { at' := p, k := 0, rest := 0, viaArmed := true }
  if isTwin s && tongsUp s && s.sys.role == .standby then []
  else if th < 11 ∨ 1000 < th ∨ mx < 1 ∨ 10000 < mx then
    draw 432 (fun v => if v % 3 = 0 then slew else if v % 3 = 1 then whole else via) s
  else if j.natAbs ≤ th * 16000 then slew s
  else if j.natAbs ≤ mx * 16000000 then whole s
  else via s

/-- Note a measured phase error (CLK_PHASE) and act on it. -/
def measured (j : Int) (sec : Nat) : Act := seq [poke (CLK + 4) (wdI (sat36 j)), phaseJump j sec]

/-- REFERENCE_RETURN with the phase error accumulated (R430). -/
def referenceReturn (j : Int) : Act := when (fun s => refState s == 3) (seq [
  clkEvent (2 ^ 9), pokeF CLK 35 33 1, clockEvent .refReturn 0 0, updateFree,
  fun s => measured j s.cocoon.calSec s])
def execReferenceReturn (j : Int) (s : State) : Host.Outcome State Fault Refusal := done (referenceReturn j) s

/-- MPLL is steered: its frequency adjustment, which the spec leaves open within 100 ppm of nominal, becomes its target (R406,
R422, R428). -/
def steer (tag : Nat) : Act := draw tag (fun v => fun s =>
  let f : Int := (v % 13107201 : Nat) - 6553600
  let w0 : Int := 0x7D * 2 ^ 36 + 0xD44135547
  seq [when (fun _ => tag == 406) (poke (STM + 5) (wdI f)), commitTarget 0 (w0 + (w0 * f).fdiv (1000000 * 65536)).toNat] s)

/-- REFERENCE_EDGE on REF_PPS_IN or REF_WCLK_IN: `j` its phase error and `gap` the time since the previous edge, in 1/16 ns. The
tracker counts edges that meet the lock condition, sees a reference out of its range as lost, steers MPLL, and when locked measures
the phase (R428, R431). -/
def referenceEdge (j : Int) (gap : Nat) : Act := fun s =>
  let fs := rateHz s.sys.rate
  let src := s.img.clock
  if (src ≠ 1 ∧ src ≠ 2) || !counting s then [] else
  let dev : Nat := ((gap * fs : Nat) - 16000000000 : Int).natAbs * 1000000
  let out := if src = 1 then 32000 < ((gap : Int) - 16000000000).natAbs else 1000 * 16000000000 < dev
  let good := if src = 1 then j.natAbs ≤ 16000 else dev ≤ 500 * 16000000000 && j.natAbs ≤ 1600
  let need := if src = 1 then 4 else 64
  if out then seq [refLost, onClk fun _ c => { c with edges := 0 }] s else
  seq [onClk fun _ c => { c with edges := if good then c.edges + 1 else 0 },
    when (fun s => refState s == 0) (pokeF CLK 35 33 1),
    steer 428,
    when (fun s => need ≤ s.clk.edges && refState s != 2) (refLocked (fun _ => none)),
    when (fun s => src == 1 && refState s == 2) (establish countAtPulse),
    when (fun s => refState s == 2) (fun s => measured j s.cocoon.calSec s)] s
def execReferenceEdge (j : Int) (gap : Nat) (s : State) : Host.Outcome State Fault Refusal := done (referenceEdge j gap) s

end Sys2Proof.Machine
end

