-- ==== Sys2Proof/Machine/DramCmds.lean ====
section
/-! DEFINITION. The DRAM controller's commands (18: R439-R452, R460): a word written or read, the temperature poll, refresh,
power-down, the drift check and the patrol. -/
namespace Sys2Proof.Machine
open Sys2Proof

/-- DRAM_WRITE: a word is written through the controller by a master or a dedicated port, with its lap in the delay lines; `waits` says
that the channel does not issue it at once (R440, R442, R445, R446; log entry 89). -/
def dramWrite (src a : Nat) (w : Word) (lap : Nat) (waits : Bool) : Act := fun s =>
  if a < 0x40000000 ∨ 0x7FFFFFFF < a then [] else
  seq [keepStaged src (fun _ => false), (
    if !dramMayWrite s src a then seq [refused src a true, emit (.resp 1 [])]
    else request { src := src, a := a, write := some w, lap := if inLines a then lap else 0, cls := dramClass src, flip := 0, cause := false }
      waits)] s
def execDramWrite (src a : Nat) (w : Word) (lap : Nat) (waits : Bool) (s : State) : Host.Outcome State Fault Refusal :=
  done (dramWrite src a w lap waits) s

/-- DRAM_READ: `flip` are the bits of the slot that flip before it is read, `lap` the lap its reader expects; `waits` as for a write
(R441-R446). -/
def dramRead (src a flip lap : Nat) (waits : Bool) : Act := fun s =>
  if a < 0x40000000 ∨ 0x7FFFFFFF < a then []
  else if !dramMayRead src a then seq [refused src a false, emit (.resp 1 [0])] s
  else request { src := src, a := a, write := none, lap := lap, cls := dramClass src, flip := flip, cause := false } waits s
def execDramRead (src a fault lap : Nat) (clash : Bool) (s : State) : Host.Outcome State Fault Refusal :=
  done (dramRead src a fault lap clash) s

/-- Steps of the refresh interval of a class: NORMAL, DOUBLE, QUAD, and LIMIT, which refreshes as QUAD (R448). -/
def classRate (c : Nat) : Nat := if c = 0 then 1 else if c = 1 then 2 else 4
/-- The two ranks of die d (R436). -/
def dieRanks (d : Nat) : List Nat := if d = 0 then [0, 2] else if d = 1 then [4, 6] else if d = 2 then [1, 3] else [5, 7]

/-- A die's class changes: each rank's debt is expressed anew; a debt above 8 is issued in forced bursts of at most 16 (R450). -/
def classChange (d old new : Nat) : Act :=
  each (dieRanks d) (fun r s =>
    let debt := sparseGet (fun _ => 0) s.drc.debt r
    let a := classRate old
    let b := classRate new
    let d' := if a ≤ b then debt * (b / a) else (debt + a / b - 1) / (a / b)
    let bursts := if a < b ∧ 8 < d' then (d' + 15) / 16 else 0
    seq [onDrc fun _ x => { x with debt := sparseSet (fun _ => 0) x.debt r (if bursts = 0 then d' else 0) },
         when (fun _ => bursts != 0) (payRefresh r 0),
       each (List.range bursts) (fun _ => seq [bump (DRC + 4) 23 12 1, report (srcOf DRC) .forcedBurst d r])] s)

/-- TEMPERATURE_POLL: the class each die reports (R448, R450). -/
def temperaturePoll (c0 c1 c2 c3 : Nat) : Act :=
  each [(0, c0), (1, c1), (2, c2), (3, c3)] (fun e s =>
    let new := e.2 % 4
    let old := rdF s (DRC + 2) (2 * e.1 + 1) (2 * e.1)
    if old = new then [] else
    seq [pokeF (DRC + 2) (2 * e.1 + 1) (2 * e.1) new, classChange e.1 old new,
         when (fun _ => new == 3) (seq [ringThermal, report (srcOf DRC) .dramLimit e.1 0])] s)
def execTemperaturePoll (c0 c1 c2 c3 : Nat) (s : State) : Host.Outcome State Fault Refusal := done (temperaturePoll c0 c1 c2 c3) s

/-- Does a rank serve requests of classes 1 to 3 that wait (R449)? -/
def servesWindows (s : State) (r : Nat) : Bool := s.drc.queue.any (fun q => dramRank q.a == r && q.cls ≤ 3)

/-- REFRESH_DUE: a rank owes one more refresh; it wakes; a rank that serves classes 1-3, as `busy` or its queue tells, postpones it until
the debt reaches 8, and then issues one; an idle one pays its debt. A refresh closes the rank's rows (R449, R451). -/
def refreshDue (r : Nat) (busy : Bool) : Act := fun s =>
  let r := r % 8
  if flag (rd s DRC) (4 + r) then [] else
  let d := sparseGet (fun _ => 0) s.drc.debt r + 1
  seq [when (fun s => flag (rd s DRC) (12 + r)) (clrBits DRC (2 ^ (12 + r))),
       (if !(busy || servesWindows s r) then payRefresh r 0
        else if 8 ≤ d then payRefresh r 7
        else onDrc fun _ x => { x with debt := sparseSet (fun _ => 0) x.debt r d })] s
def execRefreshDue (r : Nat) (busy : Bool) (s : State) : Host.Outcome State Fault Refusal := done (refreshDue r busy) s

/-- POWER_DOWN_ENTRY: a rank idle for PD_NS enters power-down; PD_NS 0 disables it, as does a request that waits for the rank; one out of
range leaves open whether it does (R451). -/
def powerDownEntry (r : Nat) : Act := fun s =>
  let r := r % 8
  let pd := rdF s (DRC + 1) 19 0
  let go : Act := setBits DRC (2 ^ (12 + r))
  if flag (rd s DRC) (4 + r) ∨ pd = 0 ∨ s.drc.queue.any (fun q => dramRank q.a == r) then []
  else if pd < 64 ∨ 1000000 < pd then draw 451 (fun v => if v % 2 = 0 then nop else go) s
  else go s
def execPowerDownEntry (r : Nat) (s : State) : Host.Outcome State Fault Refusal := done (powerDownEntry r) s

/-- DRIFT_CHECK of a rank: `drift` says it found more than 1/16 of a unit interval, `centred` that re-centering succeeded; after a
failed one the channel is retrained, of which `fails` attempts fail (R452, R454). -/
def driftCheck (r : Nat) (drift centred : Bool) (fails : Nat) : Act := fun s =>
  if flag (rd s DRC) (4 + r % 8) || !drift then [] else
  seq [bump (DRC + 5) 35 24 1, when (fun _ => !centred) (fastRetrain (r % 8 / 2) fails)] s
def execDriftCheck (r : Nat) (drift centred : Bool) (fails : Nat) (s : State) : Host.Outcome State Fault Refusal :=
  done (driftCheck r drift centred fails) s

/-- One word of a patrolled burst: what its slot shows is counted and, where it is uncorrectable, handled with the scrubber as reader; a
corrected word is written back, its slot whole again (R329, R441, R444, R460). A delay-line word may carry any lap. -/
def patrolWord (a flip : Nat) : Act := fun s =>
  let g := dramGet s a flip (slotView s a (flipsOf s a ^^^ (flip % 2 ^ 64))).epoch
  let v := slotView s a (flipsOf s a ^^^ (flip % 2 ^ 64))
  seq [g.1, when (fun _ => g.2.isSome && v.corr != 0) (dramStoreSlot a v.word v.epoch)] s

/-- PATROL_READ: the scrubber reads the burst of four words at `a`, of class 5, or forced into class 2: what its channel holds of earlier
classes issues first. `fault` are the bits that flip in each slot before; the last burst ends a pass (R445, R460, R332). -/
def patrolRead (a : Nat) (fault : List Nat) (p : Patrol) : Act := fun s =>
  if a < 0x40000000 ∨ 0x7FFFFFFF < a || !dramUp s then [] else
  let c := dramChan a
  seq [
    each (List.range 64) (fun _ => when (fun s => match nextRequest s c with
      | some q => !p.forced || q.cls ≤ 2 || flag (rd s DRC) (20 + c)
      | none => false) (issueRequest c)),
    forcedRefresh c,
    each (List.range 4) (fun i => patrolWord (a / 4 * 4 + i) (fault.getD i 0)),
    when (fun _ => p.last) (seq [
      poke (DRC + 6) (wd ((rdF s (DRC + 6) 15 0 + 1) % 2 ^ 16)), cyclePart 4])] s
def execPatrolRead (a : Nat) (fault : List Nat) (last : Patrol) (s : State) : Host.Outcome State Fault Refusal :=
  done (patrolRead a fault last) s

end Sys2Proof.Machine
end

