-- ==== Sys2Proof/Machine/Ptp.lean ====
section
/-! DEFINITION. Network time (16: R404-R408): the choice of a grandmaster, the servo's offset and lock, the path-delay exchanges.
Times are integers in sixteenths of a nanosecond. -/
namespace Sys2Proof.Machine
open Sys2Proof

/-- The PTP messages of a domain received on port x are used: PTP is the source, Hearth runs, the port receives and is one of
PTP_PORTS, the domain is PTP_DOMAIN (R404). -/
def ptpHears (s : State) (x dom : Nat) : Bool :=
  s.img.clock == 0 && !s.sys.hearthDown && rxOn s x && flag (rd s (STM + 2)) (32 + x) && dom == rdF s (STM + 2) 31 24

/-- STM_STATUS.PTP_PORT: 0 none, 1 port A, 2 port B. -/
def ptpPort (s : State) : Nat := rdF s STM 31 30

/-- A change of PTP state: logged, CLOCK_EVENT, and FREE_RUN follows (R407). Leaving LOCKED the reference is lost, or acquired anew. -/
def setPtp (v : Nat) : Act := fun s =>
  if ptpState s = v then [] else
  seq [pokeF STM 35 32 v, clockEvent .ptpState v 0,
       when (fun _ => v == 4) refLost,
       when (fun s => v == 2 && refState s == 2) (seq [pokeF CLK 35 33 1, onSys fun _ y => { y with condClock := false }]),
       when (fun s => v == 2 && refState s == 0) (pokeF CLK 35 33 1),
       updateFree] s

/-! ### The grandmaster (R405, R408) -/

/-- Select a grandmaster and the port its messages are used from: port A while A is up and it is heard there, else B. -/
def selectGm (g : Master) : Act := fun s =>
  let port := if g.onA && portUp s 0 then 1 else 2
  let changed := s.stm.gm != some g.id
  seq [when (fun s => changed || ptpPort s != port) (report (srcOf STM) .gmChange (g.id / 2 ^ 32) (g.id % 2 ^ 32)),
    pokeF STM 31 30 port,
    when (fun _ => changed) (seq [
      onStm fun _ t => { t with gm := some g.id, syncs := [], ms := none, req := none, good := 0, bad := 0 },
      pokePair (STM + 6) g.id, ringClock,
      when (fun s => refState s == 3) (seq [clkEvent (2 ^ 9), pokeF CLK 35 33 1]),
      setPtp 2])] s

/-- A master after the Announce timeouts that have run out on each port. -/
def ageMaster (deadA deadB : List Nat) (g : Master) : Master :=
  { g with onA := g.onA && !deadA.contains g.id, onB := g.onB && !deadB.contains g.id }

/-- ANNOUNCE_RECEIVED on port x: the sender's data set as one number (lower is better), its identity and address; `deadA`, `deadB`
name the masters whose Announce timeout has run out on that port; one that no port hears, but for the selected one, is forgotten. A
master counts from its second Announce (PRESUMED: the qualification of IEEE 1588; log entry 6). The best is selected (R405). -/
def announceReceived (x dom rank id ip : Nat) (deadA deadB : List Nat) : Act := fun s =>
  if !ptpHears s x dom then [] else
  let old : Master := (s.stm.masters.find? (fun g => g.id == id)).getD
    { id := id, rank := rank, count := 0, ipA := 0, ipB := 0, onA := false, onB := false }
  let new : Master := { old with rank := rank, count := old.count + 1, ipA := if x = 0 then ip else old.ipA,
                                 ipB := if x = 1 then ip else old.ipB, onA := old.onA || x == 0, onB := old.onB || x == 1 }
  let others := (s.stm.masters.filter (fun g => g.id != id)).map (ageMaster deadA deadB)
  let ms := others.filter (fun g => g.onA || g.onB || some g.id == s.stm.gm)
    ++ [{ new with onA := new.onA && (x == 0 || !deadA.contains id), onB := new.onB && (x == 1 || !deadB.contains id) }]
  let best := (ms.filter (fun g => 2 ≤ g.count)).foldl (fun (b : Option Master) g => match b with
    | none => some g
    | some h => if g.rank < h.rank then some g else b) none
  seq [onStm fun _ t => { t with masters := ms },
    (match best with
     | some g => selectGm g
     | none => nop)] s
def execAnnounceReceived (x dom rank id ip : Nat) (deadA deadB : List Nat) (s : State) : Host.Outcome State Fault Refusal :=
  done (announceReceived x dom rank id ip deadA deadB) s

/-- GRANDMASTER_LOST: no Announce from it on any enabled port for ANN_TIMEOUT intervals (R408): HOLDOVER from LOCKED, else
LISTENING (R407). -/
def grandmasterLost : Act := fun s =>
  match s.stm.gm with
  | none => []
  | some g => seq [
      onStm fun _ t => { t with gm := none, masters := t.masters.filter (fun h => h.id != g), syncs := [], ms := none, req := none,
                                good := 0, bad := 0 },
      pokeF STM 31 30 0, pokePair (STM + 6) 0,
      fun s => setPtp (if ptpState s = 3 ∨ ptpState s = 4 then 4 else 1) s] s
def execGrandmasterLost (s : State) : Host.Outcome State Fault Refusal := done grandmasterLost s

/-! ### The servo (R406, R407) -/

/-- Is a message of the selected grandmaster, on the port in use? -/
def fromGm (s : State) (x dom id : Nat) : Bool := ptpHears s x dom && s.stm.gm == some id && ptpPort s == x + 1

/-- The lock rules of R407 for one offset: the new state, given the time of the Sync. -/
def lockRule (offset t2 : Int) : Act := fun s =>
  let lim := 16 * rdF s (STM + 2) 13 0
  let a := offset.natAbs
  let here (s : State) : Option Nat := some (countAt s (t2 - offset))
  seq [onStm fun _ t => { t with
      goodFrom := if t.good = 0 then t2 else t.goodFrom,
      good := if a ≤ lim then t.good + 1 else 0,
      bad := if 4 * lim < a then t.bad + 1 else 0 },
    fun s =>
      if ptpState s = 3 then
        (if 8 ≤ s.stm.bad then setPtp 2
         else if a ≤ lim then ifThen (fun s => refState s == 2 && s.sys.condClock) (establish here) (refLocked here)
         else nop) s
      else if 16 ≤ s.stm.good ∨ (3 ≤ s.stm.good ∧ 4000000000 ≤ t2 - s.stm.goodFrom) then
        seq [setPtp 3, refLocked here] s
      else []] s

/-- The servo on one Sync (R406): ms; with a delay known, the offset, the steering, the lock rules and the phase error. Before the
first exchange there is no mean, and so no offset (log entry 37). How the mean rounds is left open. -/
def servo (t1 t2 : Nat) (cs : Int) : Act := fun s =>
  let ms : Int := (t2 : Int) - t1 - cs
  let k := s.stm.exch.length
  seq [onStm fun _ t => { t with ms := some ms }, updateFree,
    (if k = 0 then nop else draw 406 (fun v s =>
      let sum : Int := s.stm.exch.foldl (· + ·) 0
      let delay : Int := sum.fdiv (2 * k : Nat) + (if sum.fmod (2 * k : Nat) = 0 then 0 else ((v % 2 : Nat) : Int))
      let offset := ms - delay
      seq [poke (STM + 3) (wdI (sat36 offset)), poke (STM + 4) (wd (min (2 ^ 36 - 1) delay.toNat)),
        steer 406,
        lockRule offset t2,
        when (fun s => s.sys.state == .armed && !s.stm.stepped) (draw 4061 (fun b => onStm fun _ t => { t with stepped := b % 2 == 1 })),
        measured (-offset) (t1 / 16000000000)] s))] s

/-- SYNC from the grandmaster: t1 with a one-step Sync, t2 its receive timestamp, its correction field; a two-step Sync waits for
its Follow_Up (R404, R406). -/
def sync (x dom id seqn : Nat) (twoStep : Bool) (t1 t2 : Nat) (corr : Int) : Act := fun s =>
  if !fromGm s x dom id then [] else
  if twoStep then onStm (fun _ t => { t with syncs := ({ seq := seqn, t2 := t2, corr := corr } :: t.syncs).take 16 }) s
  else servo t1 t2 corr s
def execSync (x dom id seqn : Nat) (twoStep : Bool) (t1 t2 : Nat) (corr : Int) (s : State) : Host.Outcome State Fault Refusal :=
  done (sync x dom id seqn twoStep t1 t2 corr) s

/-- FOLLOW_UP: the origin time of a two-step Sync, with its own correction (R406). -/
def followUp (x dom id seqn t1 : Nat) (corr : Int) : Act := fun s =>
  if !fromGm s x dom id then [] else
  match s.stm.syncs.find? (fun y => y.seq == seqn) with
  | none => []
  | some y => seq [onStm fun _ t => { t with syncs := t.syncs.filter (fun z => z.seq != seqn) },
      servo t1 y.t2.toNat (y.corr + corr)] s
def execFollowUp (x dom id seqn t1 : Nat) (corr : Int) (s : State) : Host.Outcome State Fault Refusal :=
  done (followUp x dom id seqn t1 corr) s

/-- DELAY_REQ: sent on queue 7 of the port in use, to 224.0.1.129 or, by unicast, to the master; t3 is its egress timestamp (R404). -/
def delayReq (t3 : Nat) : Act := fun s =>
  if s.img.clock ≠ 0 || s.sys.hearthDown || ptpPort s = 0 then [] else
  match s.stm.masters.find? (fun g => some g.id == s.stm.gm) with
  | none => []
  | some g =>
    let x := ptpPort s - 1
    if !txOn s x then [] else
    let dst := if flag (rd s (STM + 2)) 35 then (if x = 0 then g.ipA else g.ipB) else 0xE0000181
    seq [sendUdp x 7 none dst 319 (Config.ptpDelayReq (rdF s (STM + 2) 31 24) s.stm.reqSeq),
         onStm fun _ t => { t with req := some (t.reqSeq, t3), reqSeq := (t.reqSeq + 1) % 2 ^ 16 }] s
def execDelayReq (t3 : Nat) (s : State) : Host.Outcome State Fault Refusal := done (delayReq t3) s

/-- Twice the median of a list of sums: the middle one doubled, or the two middle ones added (log entry 38). -/
def median2 (l : List Int) : Int :=
  let o := l.mergeSort (fun a b => a ≤ b)
  let n := o.length
  if n % 2 = 1 then 2 * o.getD (n / 2) 0 else o.getD (n / 2 - 1) 0 + o.getD (n / 2) 0

/-- DELAY_RESP: t4 and its correction complete an exchange; one whose path delay lies more than 2 us from the median is discarded
and counted (R406). -/
def delayResp (x dom id seqn t4 : Nat) (corr : Int) : Act := fun s =>
  if !fromGm s x dom id then [] else
  match s.stm.req, s.stm.ms with
  | some (q, t3), some ms =>
    if q ≠ seqn then [] else
    let sum := ms + ((t4 : Int) - t3 - corr)
    let l := s.stm.exch
    seq [onStm fun _ t => { t with req := none },
      (if !l.isEmpty ∧ 128000 < (2 * sum - median2 l).natAbs then bump (STM + 0x12) 11 0 1
       else onStm fun _ t => { t with exch := (sum :: t.exch).take 16 })] s
  | _, _ => []
def execDelayResp (x dom id seqn t4 : Nat) (corr : Int) (s : State) : Host.Outcome State Fault Refusal :=
  done (delayResp x dom id seqn t4 corr) s

end Sys2Proof.Machine
end

