-- ==== Sys2Proof/Machine/Render.lean ====
section
/-! DEFINITION. What the wavefront computes, stage by stage, as functions of what a period takes at its launch (07: R162-R179; 08:
R190-R195, R210-R214; 09: R217-R226, R231, R234, R235; 13: R321-R327): sources and their concealment, delay lines, Temper chains,
Crucible's sums, the announcement blend, hold-and-ramp, Quench and the meters. -/
namespace Sys2Proof.Machine
open Sys2Proof

/-! ### Sources (R165-R169) -/

/-- Network channels that the stream table supplies. -/
def netSources (m : Rd) : List Nat :=
  ((List.range 128).filter (fun e => entryValid (rxE m e 0))).flatMap (fun e =>
    ((List.range (entryChans (rxE m e 0))).map (fun i => fld (rxE m e 1) 10 0 + i)).filter (· < 0x400))

/-- Sources of the local ports that are on. -/
def localSources (m : Rd) : List Nat :=
  ((List.range 8).filter (tdmEn m)).flatMap (fun p => (List.range (tdmSlots m p)).map (fun i => 0x400 + 32 * p + i))
  ++ ((List.range 16).filter (pdmEn m)).map (fun k => 0x500 + k)

/-- Lane-synthesised sources, with the pair and the window word that carry each (R250). -/
def laneSources (m : Rd) : List (Nat × Nat × Nat) :=
  (List.range 32).flatMap (fun p => ((winEntries m p).filter (fun e => e.kind == 5)).flatMap (fun e =>
    (List.range e.count).map (fun i => (e.first + i, p, e.win + i))))

/-- The sources that a stream table, port or lane program supplies (R165). -/
def supplied (m : Rd) : List Nat :=
  dedupN (netSources m ++ localSources m ++ (laneSources m).map (·.1))

/-- Network samples present for period n; a word with an uncorrectable error is missing (R166, R330). -/
def netInputs (s : State) (n : Nat) : List (Nat × Int) :=
  (dedupN (netSources (rd s))).filterMap (fun c =>
    let a := netAddr c n
    if sparseGet (fun _ => false) s.wav.netPresent a && !s.bad.contains a then some (c, si (rd s a)) else none)

/-- A word of pair p's Y memory with an uncorrectable error in one of its lanes (R330). -/
def badY (s : State) (p w : Nat) : Bool := s.bad.contains (yW (lanesOf s p).1 w) || s.bad.contains (yW (lanesOf s p).2 w)

/-- Lane-synthesised samples whose owners passed compare in the period before (R251); a word with an uncorrectable error is as one that
failed compare (R330). -/
def laneInputs (s : State) : List (Nat × Int) :=
  ((laneSources (rd s)).filter (fun e => sparseGet (fun _ => false) s.wav.lanePresent e.1 && !badY s e.2.1 e.2.2)).map
    (fun e => (e.1, si (rd s (yW (firstLane s e.2.1) e.2.2))))

/-- One step of R168 for a source, a line or an object's filtered sample: the state after it and what is presented. -/
def conceal (f : Fade) (x : Option Int) : Fade × Int :=
  match x with
  | some v => ({ f with k := min 64 (f.k + 1), h := v }, scale64 v (min 64 (f.k + 1)))
  | none => ({ f with k := f.k - 1 }, scale64 f.h (f.k - 1))

/-- A source's concealment state; a source no one has supplied since entry to RUN has counted down from 64 (R169). -/
def fadeOf (s : State) (c : Nat) : Fade :=
  (sparseFind s.wav.srcs c).getD { k := 64 - s.wav.idle, h := 0, lost := false }

/-- What the stager presents in a period (R168). -/
structure StageIn where
  presented : Sparse Int
  srcs : Sparse Fade
  missing : List Nat
  /-- A missing run began, ended. -/
  begins : Bool
  ends : Bool
deriving DecidableEq, Repr

/-- The samples presented in a period from the raw ones; `faults` are sources whose staging fails its residue check (R317): concealed,
but not missing. A source that nothing supplies reads as zero. -/
def stageIn (s : State) (raw : List (Nat × Int)) (faults : List Nat) : StageIn :=
  let sup := supplied (rd s)
  let one (a : StageIn) (c : Nat) : StageIn :=
    let x := (raw.find? (fun e => e.1 == c)).map (·.2)
    let f := fadeOf s c
    let r := conceal f (if faults.contains c then none else x)
    { presented := sparseSet (fun _ => 0) a.presented c r.2,
      srcs := sparsePut a.srcs c { r.1 with lost := x.isNone },
      missing := if x.isNone then a.missing ++ [c] else a.missing,
      begins := a.begins || (!f.lost && x.isNone), ends := a.ends || (f.lost && x.isSome) }
  let idle : Sparse Fade := s.wav.srcs.map (fun e =>
    (e.1, if sup.contains e.1 then e.2 else { e.2 with k := e.2.k - 1, lost := false }))
  sup.foldl one { presented := [], srcs := idle, missing := [], begins := false, ends := false }

/-- The sample presented for a source. -/
def presentedOf (t : Sparse Int) (c : Nat) : Int := sparseGet (fun _ => 0) t c

/-! ### Delay lines (R170-R174) -/

/-- The sample of an age at period n, from the head or from the tail; none where the window does not hold it. Ages before the line's
first sample read as zero (R170, R457). -/
def tap (x : Line) (n : Nat) (tail : Bool) (age : Int) : Option Int :=
  if age < 0 then some 0 else
  let g := age.toNat
  if x.fill ≤ g ∨ n < g then some 0
  else if !tail then x.head.getD g none
  else if n - g < x.tailAt then none else (x.tail[n - g - x.tailAt]?).join

/-- A read at delay d (Q20.16), none where it would touch an age that its window does not hold (R156, R170, R174). -/
def readLine (x : Line) (n d : Nat) : Option Int :=
  let i := d / 65536
  let at' (j : Int) : Option Int := tap x n (511 < i + 4) (i + j)
  if ([-3, -2, -1, 0, 1, 2, 3, 4] : List Int).all (fun j => (at' j).isSome) then
    some (interp (d % 65536) (fun j => (at' j).getD 0))
  else none

/-- What one period does to a line: the line, what is read, whether starvation begins. -/
structure LineOut where
  line : Line
  y : Int
  starts : Bool
deriving DecidableEq, Repr

/-- Write the period's sample and read at delay d, concealed where the line starves or the read fails its residue check (R170, R174,
R317). A starved line stays concealed until its tail is filled again. What is concealed is the sample read, in front of the chain that
follows (DEDUCED: log entry 43). -/
def lineStep (x : Line) (n d : Nat) (v : Int) (fault : Bool) : LineOut :=
  let x := { x with head := (some v :: x.head).take 512, fill := x.fill + 1 }
  let r := if x.fade.lost then none else readLine x n d
  let c := conceal x.fade (if fault then none else r)
  { line := { x with fade := { c.1 with lost := r.isNone } }, y := c.2, starts := r.isNone && !x.fade.lost }

/-! ### Temper (R217-R226, R231, R234) -/

/-- Record r of a bank (R218, R227). -/
def coefRec (m : Rd) (bank r : Nat) : Coef :=
  let a := tblBank bank + 8 * r
  { b0 := si (m a), b1 := si (m (a + 1)), b2 := si (m (a + 2)), a1 := si (m (a + 3)), a2 := si (m (a + 4)) }

/-- Record r as it is in force in period n: of the current bank, or on its way to the target (R231). -/
def coefAt (m : Rd) (cur : Nat) (fade : Option (Nat × Nat × Nat)) (n r : Nat) : Coef :=
  match fade with
  | some (st, lg, tg) => if st ≤ n then Coef.mix (coefRec m cur r) (coefRec m tg r) (n - st) (2 ^ lg) else coefRec m cur r
  | none => coefRec m cur r

/-- Section `half` of air selection a (R142, R226). -/
def airRec (m : Rd) (a half : Nat) : Coef :=
  if 64 ≤ a then Coef.one else
  let w := 0x20030800 + 16 * a + 8 * half
  { b0 := si (m w), b1 := si (m (w + 1)), b2 := si (m (w + 2)), a1 := si (m (w + 3)), a2 := si (m (w + 4)) }

/-- The two air sections of an object in the k-th period of its control tick (R226). -/
def airAt (m : Rd) (x : LObj) (k : Nat) : List Coef :=
  [0, 1].map (fun h => if x.air0 = x.air then airRec m x.air h else Coef.mix (airRec m x.air0 h) (airRec m x.air h) k 16)

/-- The records of an object's chain, none where it bypasses (R221, R224). -/
def objRecords (m : Rd) (o : Nat) : Option (List Nat) :=
  let c := fld (m (objW o 9)) 11 0
  if c = 0xFFF then none else
  let w := m (tblObjChain + c)
  some ((List.range (min 14 (fld w 19 16))).map (fun i => fld w 13 0 + i))

/-- The records of a feed's chain. -/
def feedRecords (m : Rd) (f : Nat) : List Nat :=
  let w := m (tblFeedChain + 2 * f)
  (List.range (min 32 (fld w 21 16))).map (fun i => fld w 15 0 + i)

/-- The banks whose words a chain reads in period n. -/
def banksUsed (t : Tpr) : List Nat := match t.fade with
  | some (_, _, tg) => [t.cur, tg]
  | none => [t.cur]

/-- Does a chain of these records read a word with an uncorrectable error (R330)? -/
def badRecords (s : State) (rs : List Nat) : Bool :=
  !s.bad.isEmpty && (banksUsed s.tpr).any (fun b => rs.any (fun r => (List.range 5).any (fun j => s.bad.contains (tblBank b + 8 * r + j))))

/-- Does the render of object o read a bad word of the chain list (R330)? -/
def badObjList (s : State) (o : Nat) : Bool :=
  !s.bad.isEmpty && fld (rd s (objW o 9)) 11 0 != 0xFFF && s.bad.contains (tblObjChain + fld (rd s (objW o 9)) 11 0)
/-- ... a bad word of the air sections it uses? -/
def badAir (s : State) (o : Nat) : Bool :=
  !s.bad.isEmpty && [(objOf s o).air0, (objOf s o).air].any (fun i =>
    i < 64 && (List.range 16).any (fun j => s.bad.contains (tblLocator + 0x800 + 16 * i + j)))
/-- ... a bad word of its own entry, or, where LAYOUTS is not STATIC, of a target it plays on? -/
def badObject (s : State) (o : Nat) : Bool :=
  !s.bad.isEmpty && (s.bad.any (fun a => tblObject + 64 * o ≤ a && a < tblObject + 64 * (o + 1))
    || (!staticOf s secLayouts && (badTargets s).any (fun t => (objTargets (rd s) o).testBit t)))
/-- Feeds of targets whose tables hold a bad word, where LAYOUTS is not STATIC. -/
def badLayoutFeeds (s : State) : List Nat :=
  if staticOf s secLayouts then [] else
  (badTargets s).flatMap (fun t => (List.range (tgtFeeds (rd s) t)).map (fun i => tgtFirst (rd s) t + i))

/-- Does a record lie outside the triangle of stable sections, |A2| < 1 and |A1| < 1 + A2 (R232)? -/
def unstable (m : Rd) (bank r : Nat) : Bool :=
  let c := coefRec m bank r
  !(decide (c.a2.natAbs < 2 ^ 33) && decide ((c.a1.natAbs : Int) < 2 ^ 33 + c.a2))

/-- Does a chain of these records read one whose response the spec makes unpredictable: half written, or written while a cross-fade ran
and not yet rewritten whole since (R228), or outside the triangle of R232? -/
def tornRecords (s : State) (rs : List Nat) : Bool :=
  (banksUsed s.tpr).any (fun b => rs.any (fun r =>
    (sparseFind s.tpr.torn (0x10000 * b + r)).isSome || unstable (rd s) b r))

/-- Feeds, and whether there are objects, whose chains are so. -/
def tornFeeds (s : State) : List Nat := (List.range 1024).filter (fun f => tornRecords s (feedRecords (rd s) f))
def looseObjects (s : State) : Bool := (List.range 1024).any (fun o => tornRecords s ((objRecords (rd s) o).getD []))

/-- The states of a chain: positions beyond the list hold zero. -/
def chainSet (t : Sparse (List (Int × Int))) (k : Nat) (ss : List (Int × Int)) : Sparse (List (Int × Int)) :=
  if ss.all (fun e => e.1 == 0 && e.2 == 0) then sparseDrop t k else sparsePut t k ss

/-- Part i of a free value, as a signed number of w bits. -/
def freeInt (v w i : Nat) : Int := signedN w (v >>> (w * i))

/-- Free section states of a chain of n positions. -/
def freeStates (v n : Nat) : List (Int × Int) := (List.range n).map (fun i => (freeInt v 80 (2 * i), freeInt v 80 (2 * i + 1)))

/-! ### Objects of a period -/

/-- What the first stages have done so far, object by object. -/
structure ObjPass where
  lines : Sparse Line
  objS : Sparse (List (Int × Int))
  objFade : Sparse Fade
  filt : Sparse Int
  sov : Nat
  sat : Nat
  starts : List Nat
  concealed : Bool
deriving DecidableEq, Repr

/-- Does an object have anything to render: an input, a history, section states or a fault? -/
def objActive (s : State) (presented : Sparse Int) (g : RenderFaults) (o : Nat) : Bool :=
  presentedOf presented (fld (rd s (objW o 0)) 10 0) != 0 || (sparseFind s.wav.lines o).isSome || (sparseFind s.tpr.objS o).isSome
  || (sparseFind s.tpr.objFade o).isSome || g.objs.contains o || g.lines.contains o

/-- One object in period n: its line, its chain, its concealment (R163, R224, R234, R330). `free` supplies the output and states of a
chain whose coefficients the spec leaves unpredictable. -/
def objStep (s : State) (n : Nat) (presented : Sparse Int) (g : RenderFaults) (static : Bool) (free : Nat) (a : ObjPass) (o : Nat) :
    ObjPass :=
  let m := rd s
  let k := n % 16
  let x := objOf s o
  let l := lineStep (lineOf s o) n (objDelay x k).toNat (presentedOf presented (fld (m (objW o 0)) 10 0)) (g.lines.contains o)
  let rs := objRecords m o
  let ss := sparseGet (fun _ => []) s.tpr.objS o
  let named := rs.getD []
  let eqBad := badRecords s named || badObjList s o
  let airBad := badAir s o
  let layStatic := staticOf s secLayouts
  let silent := (eqBad && !static) || (airBad && !layStatic) || badObject s o
  let fails := g.objs.contains o || (eqBad && static) || (airBad && layStatic)
  let len := named.length + 2
  let r : Int × List (Int × Int) × Bool × Bool := match rs with
    | none => (l.y, [], false, false)
    | some _ =>
      if tornRecords s named then (freeInt free 36 0, freeStates (free >>> 36) len, free.testBit 8190, free.testBit 8189)
      else chain (named.map (coefAt m s.tpr.cur s.tpr.fade n) ++ airAt m x k) ss l.y
  let f := sparseGet (fun _ => { k := 64, h := 0, lost := false }) s.tpr.objFade o
  let c := conceal f (if fails then none else some r.1)
  let y := if silent then 0 else c.2
  { lines := sparseSet (fun _ => Line.init) a.lines o l.line,
    objS := chainSet a.objS o (if fails then [] else r.2.1),
    objFade := sparseSet (fun _ => { k := 64, h := 0, lost := false }) a.objFade o c.1,
    filt := sparseSet (fun _ => 0) a.filt o y,
    sov := a.sov + b2n (r.2.2.1 && !fails), sat := a.sat + b2n (r.2.2.2 && !fails),
    starts := if l.starts then a.starts ++ [o] else a.starts,
    concealed := a.concealed || fails || l.line.fade.lost || silent }

/-- Every object of a period. -/
def objPass (s : State) (n : Nat) (presented : Sparse Int) (g : RenderFaults) (static : Bool) (free : Nat) : ObjPass :=
  ((List.range 1024).filter (objActive s presented g)).foldl
    (fun a o => objStep s n presented g static (free >>> (8192 * o)) a o)
    { lines := s.wav.lines, objS := s.tpr.objS, objFade := s.tpr.objFade, filt := [], sov := 0, sat := 0, starts := [],
      concealed := false }

/-! ### Crucible (R190-R194, R210) -/

/-- Add one contribution to the running sums: the exact WRAP sum and whether it ever left the accumulator's range (R34, R191). -/
def addTo (t : Sparse (Int × Bool)) (f : Nat) (z : Int) : Sparse (Int × Bool) :=
  let o := sparseGet (fun _ => (0, false)) t f
  sparsePut t f (wrap80 (o.1 + z), o.2 || out80 (o.1 + z))

/-- Valid route entries, as CTRL and GAIN (R196). -/
def routes (m : Rd) : List (Word × Word) :=
  ((List.range 4096).filter (fun e => flag (m (tblRoute + 2 * e)) 35)).map (fun e => (m (tblRoute + 2 * e), m (tblRoute + 2 * e + 1)))

/-- The sums of every feed (R193): slot products, then routes. DESIGN CHOICE (log entry 76): "in any order and in any grouping" (R37,
R191); the sum is the same, but an overflow on the way, and so GOV (R34), depends on the order: here each contribution is added in turn,
pair by pair and slot by slot, then route by route, and tested after each addition. -/
def crucible (s : State) (n : Nat) (presented filt : Sparse Int) : Sparse (Int × Bool) :=
  let slots := s.loc.pairs.foldl (fun t e =>
    let x := presentedOf filt (e.1 / 8)
    if x = 0 then t else (e.2.filter (·.valid)).foldl (fun t sl => addTo t sl.feed (mulG x (slotGain sl (n % 16)))) t) []
  (routes (rd s)).foldl (fun t r =>
    let x := presentedOf (if flag r.1 34 then filt else presented) (fld r.1 10 0)
    if x = 0 then t else addTo t (fld r.1 25 16) (mulG x (si r.2))) slots

/-- Feeds whose routes or destinations hold a word with an uncorrectable error (R330). -/
def badTables (s : State) : List Nat :=
  if s.bad.isEmpty then [] else
  ((List.range 4096).filter (fun e => flag (rd s (tblRoute + 2 * e)) 35
      && (s.bad.contains (tblRoute + 2 * e) || s.bad.contains (tblRoute + 2 * e + 1)))).map (fun e => fld (rd s (tblRoute + 2 * e)) 25 16)
  ++ ((List.range 4096).filter (fun i => s.bad.contains (tblDest + i))).map (· / 4)

/-- Feeds whose chains read a word with an uncorrectable error. -/
def badChains (s : State) : List Nat :=
  if s.bad.isEmpty then [] else (List.range 1024).filter (fun f =>
    badRecords s (feedRecords (rd s) f) || s.bad.contains (tblFeedChain + 2 * f) || s.bad.contains (tblFeedChain + 2 * f + 1))

/-! ### The lane window (R253) -/

/-- FEED_OUT words of owners that passed compare: feed, word, whether it replaces. -/
def feedOuts (s : State) : List (Nat × Int × Bool) :=
  (List.range 32).flatMap (fun p => ((winEntries (rd s) p).filter (fun e => e.kind == 4 && endOf s e.owner == some .passed)).flatMap
    (fun e => (List.range e.count).map (fun i => (e.first + i, si (rd s (yW (firstLane s p) (e.win + i))), e.replace))))

/-- The FEED_OUT words among them with an uncorrectable error: feed and the word's address. The feeds are held, as where the owner failed
compare (R330). -/
def badOuts (s : State) : List (Nat × Nat) :=
  if s.bad.isEmpty then [] else
  (List.range 32).flatMap (fun p => ((winEntries (rd s) p).filter (fun e => e.kind == 4 && endOf s e.owner == some .passed)).flatMap
    (fun e => ((List.range e.count).filter (fun i => badY s p (e.win + i))).map (fun i => (e.first + i, yW (firstLane s p) (e.win + i)))))

/-- The lane-window sample of a feed from its mix sample, and whether the store saturates. -/
def laneWindow (outs : List (Nat × Int × Bool)) (f : Nat) (mix : Int) : Int × Bool :=
  let ws := outs.filter (fun e => e.1 == f)
  if ws.isEmpty then (mix, false) else
  let a := (ws.map (fun e => addF e.2.1)).foldl (· + ·) 0
  storeA (if ws.any (fun e => e.2.2) then a else a + addF mix)

/-! ### Announcement (R129, R131, R195, R327) -/

/-- How a feed is announced: none unaffected; else MUTE or the source and gain of MODE 2. DESIGN CHOICE (log entry 77): MODE 3, which the
spec does not define, is taken as UNAFFECTED. -/
def announceOf (m : Rd) (pair : Nat → Option Word) (f : Nat) : Option (Option (Nat × Int)) :=
  let _ := m
  match pair (CRU + 0x4800 + 4 * f), pair (CRU + 0x4802 + 4 * f) with
  | some w, some g =>
    if fld w 1 0 = 1 then some none
    else if fld w 1 0 = 2 then
      match pair (CRU + 0x4000 + 2 * fld w 7 4) with
      | some q => if flag q 35 then some (some (fld q 10 0, si g)) else some none
      | none => some none
    else none
  | _, _ => some none

/-- The blend for ramp sample k (R195), with the floor taken towards minus infinity (DEDUCED: log entry 19). -/
def blend (a : Option (Option (Nat × Int))) (presented : Sparse Int) (k : Nat) (l : Int) : Int :=
  match a with
  | none => l
  | some none => (storeA (mulG l ((64 - k : Nat) * 2 ^ 28))).1
  | some (some (c, g)) => (storeA (mulG l ((64 - k : Nat) * 2 ^ 28) + mulG (presentedOf presented c) ((g * k).fdiv 64))).1

/-! ### Hold-and-ramp and Quench (R178, R321-R325) -/

/-- The hold-and-ramp blend: the sample entering Quench and the ramp that goes on. The short ramp of a period correction has 32 steps
(R433). -/
def holdStep (h : Option (Int × Nat)) (short : Bool) (y : Int) : Int × Option (Int × Nat) :=
  match h with
  | none => (y, none)
  | some (v, j) =>
    let top := if short then 32 else 64
    let j := j + 1
    if top ≤ j then (y, none)
    else ((storeA (mulG v ((top - j : Nat) * (2 ^ 34 / top : Nat)) + mulG y (j * (2 ^ 34 / top : Nat)))).1, some (v, j))

/-- What Quench is set to in a period: FEED_LIMIT, UP and TRIP (none where their pair fails), and the factor of the device-wide ramps,
64 for unity (R321, R324). -/
structure QuenchIn where
  limit : Nat
  sustain : Option (Nat × Nat)
  factor : Nat
deriving DecidableEq, Repr

/-- What Quench gives for a feed. -/
structure QuenchOut where
  q : Int
  exceed : Bool
  e : Nat
  cause : Nat
  qk : Nat
  ck : Nat
  /-- Causes that appear in this period. -/
  new : Nat
  pairFail : Bool
deriving DecidableEq, Repr

/-- Quench for one feed (R321-R325): `ceil` its ceiling where its pair passes, `table` a rendering that reads a corrupted word, `check`
a sample that the check path finds above the ceiling. A feed that is held shows Quench the sample it holds (DEDUCED: log entry 28). -/
def quench (c : QuenchIn) (f : Nat) (d : Feed) (ceil : Option Nat) (table check : Bool) (x : Int) : QuenchOut :=
  let lim := ceil.getD 0
  let off := c.limit ≤ f ∨ lim = 0
  let exceed := !decide off && decide (lim < x.natAbs)
  let q0 : Int := if off then 0 else if exceed then (if x < 0 then -(lim : Int) else lim) else x
  let e := match c.sustain with
    | some (up, _) => if exceed then min 65535 (d.e + up) else d.e - 1
    | none => d.e
  let trips := match c.sustain with
    | some (_, t) => exceed && t ≤ e && !d.cause.testBit 1
    | none => false
  let atOnce := ceil.isNone || check
  let new := (if check && !d.cause.testBit 0 then 1 else 0) + (if trips then 2 else 0)
    + (if ceil.isNone && !d.cause.testBit 2 then 4 else 0) + (if table && !d.cause.testBit 3 then 8 else 0)
  let runs := d.cause != 0 || table
  let qk := if atOnce then 64 else if d.cause != 0 then min 64 (d.qk + 1) else if table then 1 else 0
  let ck := min 64 (d.ck + 1)
  let k := min c.factor (min (if d.ck < 64 then ck else 64) (if runs || atOnce then 64 - qk else 64))
  { q := if atOnce then 0 else scale64 q0 k, exceed := exceed, e := e, cause := d.cause ||| new, qk := qk, ck := ck, new := new,
    pairFail := ceil.isNone }

/-! ### Meters (R211-R214) -/

/-- One period of a feed's meters: `sh` the three shifts, `hold` HOLD_TICKS. The true-peak filter looks back over the latest 12 samples
(DEDUCED: log entry 29). -/
def meterStep (m : Meter) (x : Int) (sh : List Nat) (hold : Nat) : Meter :=
  let h := (x :: m.hist).take 12
  { m with
    peak := max m.peak x.natAbs, tp := max m.tp (max x.natAbs (truePeak h)), hist := h,
    m := [0, 1, 2].map (fun i => meanSq (m.m.getD i 0) x (sh.getD i 0)),
    hold := if m.hold ≤ x.natAbs then x.natAbs else m.hold, t := if m.hold ≤ x.natAbs then hold else m.t }

/-- The eight words of a record (R214). -/
def meterRecord (m : Meter) : List Word :=
  [wd m.peak, wd m.tp] ++ [0, 1, 2].map (fun i => ms36 (m.m.getD i 0))
  ++ [wd m.hold, wd (b2n m.clip * 2 ^ 35 + b2n m.held * 2 ^ 34 + min 65535 m.sat * 2 ^ 16 + min 65535 m.gov), 0]

/-- What a snapshot restarts at zero (R213). -/
def meterRestart (m : Meter) : Meter := { m with peak := 0, tp := 0, gov := 0, sat := 0, held := false, clip := false }

end Sys2Proof.Machine
end

