-- ==== Sys2Proof/Machine/Wave.lean ====
section
/-! DEFINITION. The wavefront as steps (07: R162-R189; 01: R15-R28; 17: R433, R435; 14: R186-R189, R346-R351): its launch at a tick, its
completion and release, the watchdog, catch-up wavefronts, period corrections and meter snapshots. -/
namespace Sys2Proof.Machine
open Sys2Proof

/-! ### What falls due at a launch -/

/-- Commits that apply at the launch of the period that follows (R203, R231, R262, R325). -/
def dueCommits : Act := seq [
  routeCommitApply, fadeEnd, bankSwapStart, quenchClearApply,
  fun s => each (s.lan.args.map (·.1)) argumentCommitApply s]

/-- The control tick, if the coming period begins one, and the commits due (R21, R27). -/
def prepare : Act := seq [controlTick, dueCommits]

/-- The period list of period n: every EVERY period item, and the DELAYED ones whose entries name n, whose slots are freed with the mark
RELEASED (R293, R302). -/
def periodList (n : Nat) : Act := fun s =>
  let m := rd s
  let due := s.bel.delay.filter (fun e => e.1 < 2048 && e.2.at' == n)
  let every := (List.range 2048).filter (fun i => let d := itemOf m i; d.valid && d.cls != 2 && !d.delayed)
  seq [each due (fun e => freeSlot e.1 1),
       onBel fun _ b => { b with list := dedupN (every ++ due.map (fun e => e.2.item)), ends := [] }] s

/-- The background side of a tick: released entries make their items READY, keeping their slots; EVERY items that are IDLE become READY
(R297, R302). -/
def backgroundReady (n : Nat) : Act := seq [
  fun s => each (s.bel.delay.filter (fun e => 2048 ≤ e.1 && e.2.at' == n)) (fun e => seq [
    onBel fun _ b => { b with delay := sparseDrop b.delay e.1 },
    setBg e.2.item fun b => { b with slots := b.slots ++ [e.1] }]) s,
  fun s => bgStates ((bgItems (rd s)).filter (fun i =>
    (bgOf s i).st == 0 && (!(itemOf (rd s) i).delayed || !(bgOf s i).slots.isEmpty))) 1 s]

/-- Runs in the slack that the tick ends: background items still running are stopped by the Bellows watchdog, graph nodes on home pairs
fail (R19, R290, R312). -/
def clearSlack : Act := fun s =>
  each (s.lan.run.filter (fun e => e.1 < 32)) (fun e => match e.2.node with
    | some k => seq [dropRun e.1, nodeEnded k false]
    | none => if e.2.cls = 2 then stopBackground e.1 else nop) s

/-- Every run that the tick ends: those in the slack, and period items that are abandoned (R180). -/
def clearRuns : Act := seq [
  clearSlack,
  fun s => each (s.lan.run.filter (fun e => e.1 < 32 && e.2.node.isNone && e.2.cls != 2)) (fun e => dropRun e.1) s,
  fun s => each (s.lan.run.filter (fun e => 32 ≤ e.1 && e.2.node.isNone)) (fun e => seq [dropRun e.1, freeCtx e.1]) s]

/-! ### The first stages: stage-in to Crucible -/

/-- Write the window words of one kind in every pair's Y memory (R251). -/
def writeWindows (kind : Nat) (val : Nat → Int) : Act := fun s =>
  each (List.range 32) (fun p => each ((winEntries (rd s) p).filter (fun e => e.kind == kind)) (fun e =>
    each (List.range e.count) (fun i => putY p (e.win + i) (wdI (val (e.first + i)))))) s

/-- Set to zero the window words of one kind. -/
def clearWindows (kind : Nat) : Act := writeWindows kind (fun _ => 0)

/-- The presence bits of period n are read and cleared, local frames and lane sources consumed (R165, R166, R251). -/
def consumeNet (n : Nat) : Act := onWav fun _ w =>
  { w with netPresent := w.netPresent.filter (fun e => e.1 % 512 != n % 512) }

/-- WAV_PRESENT_i for the sources present (R165). -/
def showPresent (present : List Nat) : Act :=
  each (List.range 64) (fun i => poke (WAV + 0x40 + i)
    (wd ((present.filter (fun c => c / 32 == i)).foldl (fun a c => a ||| 2 ^ (c % 32)) 0)))

/-- MISSING, and the log entry that tells the first period of a run, or the last one of a run that has ended, at most one in a control
tick (R168). -/
def countMissing (n : Nat) (r : StageIn) : Act := seq [
  when (fun _ => !r.missing.isEmpty) (bump (WAV + 2) 11 0 1),
  when (fun s => (r.begins || r.ends) && s.wav.missTick != some (n / 16)) (seq [
    onWav fun _ w => { w with missTick := some (n / 16) },
    report (srcOf WAV) .missingInput (if r.begins then n else n - 1) r.missing.length])]

/-- Stage-in of period n from its raw samples (R168, R251). -/
def stagePeriod (n : Nat) (raw : List (Nat × Int)) (g : RenderFaults) (catchup : Bool) : Act := fun s =>
  let r := stageIn s raw g.srcs
  seq [
    onWav fun _ w => { w with presented := r.presented, srcs := r.srcs, missing := r.missing, idle := min 64 (w.idle + 1),
                              lanePresent := [] },
    when (fun _ => !catchup) (seq [showPresent (raw.map (·.1)), countMissing n r]),
    clearWindows 5,
    writeWindows 0 (presentedOf r.presented),
    fun s => writeWindows 2 (fun f => (feedOf s f).rel) s] s

/-- Both feeds of a bank (R190). -/
def bankFeeds (l : List Nat) : List Nat := l.flatMap (fun b => [2 * b, 2 * b + 1])

/-- A starved line: its bit, the counts, the event, FAULT and a log entry (R174). -/
def lineStarves (n l : Nat) : Act := seq [
  bump (WAV + 3) 35 24 1, setBits (WAV + 0xA0 + l / 32) (2 ^ (l % 32)), wavEvent 3 n, ringFault,
  report (srcOf WAV) .starved l n]

/-- A residue failure: counted, FAULT and a log entry (R210, R234, R317). Those of the delay unit and the stager are counted in the
RESIDUE of CRU_COUNT (DESIGN CHOICE: log entry 84). -/
def residue (base : Nat) (l : List Nat) : Act := each l (fun k => seq [
  (if base = TPR then bump (TPR + 1) 11 0 1 else bump (CRU + 1) 11 0 1),
  ringFault, report (srcOf base) .residue k 0])

/-- The announcement's ramp for this period, and the check of its pairs while it is on or ramping (R131, R326, R327). The leaving ramp takes
its first step, k = 63, in the boundary's own period (DEDUCED: log entry 18). -/
def announceStep : Act := seq [
  onScene fun _ c => { c with annK := if c.annOn then min 64 (c.annK + 1) else c.annK - 1 },
  fun s => if s.scene.annK = 0 then [] else
    let bad := (annPairs.filter (fun a => (pairVal s a).isNone)).length
    if bad = 0 then [] else seq [bump (QCH + 3) 11 0 bad, warn 1] s]

/-- A step of the ramps that act on every feed (R324): the safe and STOP ramps fall to zero and stay there, the start-up ramp rises to
unity and ends. -/
def rampOn (k : Option Nat) : Option Nat := k.map (fun j => min 64 (j + 1))
/-- The factor, in 64ths, of a period launched in front of the step that its boundary makes: the smallest of the ramps (R324). -/
def rampFactor (q : Qch) : Nat :=
  let down (k : Option Nat) : Nat := match rampOn k with
    | some j => 64 - j
    | none => 64
  min (down q.rampSafe) (min (down q.rampStop) (match rampOn q.rampStart with
    | some j => j
    | none => 64))
/-- The step that a period boundary makes: a ramp that begins while a wavefront is in flight acts from the next one on (R70, R316). -/
def rampsStep : Act := onQch fun _ q => { q with
  rampSafe := rampOn q.rampSafe, rampStop := rampOn q.rampStop,
  rampStart := if rampOn q.rampStart = some 64 then none else rampOn q.rampStart }

/-- Object lines, object Temper and Crucible of period n, and the wavefront in flight that they leave (R163). `v` supplies the values
that the spec leaves open: outputs of chains whose records are torn, and sums of banks that failed their check. -/
def mixStage (n : Nat) (g : RenderFaults) (catchup snap short : Bool) (v : Nat) : Act := fun s =>
  let p := s.wav.presented
  let eqStatic := staticOf s secEq
  let rtStatic := staticOf s secRoutes
  let o := objPass s n p g eqStatic v
  let sums := crucible s n p o.filt
  let bt := badTables s
  let bc := badChains s
  let held := bankFeeds (g.banks ++ (if rtStatic then dedupN (bt.map (· / 2)) else []))
  let loose := held ++ bt
  let mix0 := sums.foldl (fun t e => sparseSet (fun _ => 0) t e.1 (storeA e.2.1).1) ([] : Sparse Int)
  let mix := loose.foldl (fun t f => sparseSet (fun _ => 0) t f (freeInt (v >>> 8388608) 36 f)) mix0
  let sat := (sums.filter (fun e => (storeA e.2.1).2)).map (·.1)
  let gov := (sums.filter (fun e => e.2.2)).map (·.1)
  let flight : Flight :=
    { n := n, shadow := s.mem, mix := mix, sat := sat, hold := if short then List.range 1024 else held,
      feedResidue := g.feeds ++ (if eqStatic then bc else []), table := (if rtStatic then [] else bt) ++ (if eqStatic then [] else bc) ++ badLayoutFeeds s,
      starved := o.starts, lineResidue := g.lines.filter (1024 ≤ ·), gov := gov, catchup := catchup, annK := s.scene.annK, snap := snap,
      taint := o.concealed || !held.isEmpty, checks := g.checks, short := short, factor := rampFactor s.qch,
      cur := s.tpr.cur, fade := s.tpr.fade, torn := tornFeeds s }
  seq [
    onWav fun _ w => { w with lines := o.lines, flight := some flight, short := false },
    onTpr fun _ t => { t with objS := o.objS, objFade := o.objFade },
    rampsStep,
    writeWindows 1 (presentedOf o.filt), writeWindows 3 (presentedOf mix),
    when (fun _ => !catchup) (seq [
      bump (TPR + 1) 35 24 o.sov, bump (TPR + 1) 23 12 o.sat,
      bump (CRU + 1) 35 24 gov.length, bump (CRU + 1) 23 12 sat.length,
      residue CRU g.banks, residue TPR g.objs, residue TPR g.feeds, residue WAV g.lines, residue WAV g.srcs,
      each o.starts (lineStarves n)])] s

/-- Launch the render of period n from its raw samples (R162, R163). -/
def launch (n : Nat) (raw : List (Nat × Int)) (g : RenderFaults) (catchup snap short : Bool) : Act := seq [
  periodList n, stagePeriod n raw g catchup, announceStep,
  fun s => if g.banks.isEmpty && s.bad.isEmpty && !looseObjects s then mixStage n g catchup snap short 0 s
           else draw 210 (fun v => mixStage n g catchup snap short v) s]

/-! ### The last stages: lane window to release -/

/-- What one feed's release computes. -/
structure FeedOut where
  feed : Feed
  line : Line
  states : List (Int × Int)
  /-- Its chain clamped a state, saturated y; the lane-window store saturated. -/
  sov : Bool
  ysat : Bool
  wsat : Bool
  held : Bool
  starts : Bool
  concealed : Bool
  q : QuenchOut
deriving DecidableEq, Repr

/-- Everything a feed's release looks at. -/
structure Release where
  flight : Flight
  /-- Feeds whose groups can be released: below 32 times this number of groups (R177, R180). -/
  groups : Nat
  outs : List (Nat × Int × Bool)
  quenchIn : QuenchIn
  shifts : List Nat
  holdTicks : Nat
  free : Nat

/-- One feed of a wavefront's release: lane window, announcement, output chain and line, hold-and-ramp, Quench, meters (R163). A feed
whose group is not released takes hold-and-ramp; whether its chain had finished the period is open, and what one that had not is left
with (R180, R182). -/
def feedStep (s : State) (r : Release) (i : Nat) : FeedOut :=
  let f := r.flight
  let m : Rd := fun a => sparseGet resetWord f.shadow a
  let d := feedOf s i
  let mix := presentedOf f.mix i
  let lw := laneWindow r.outs i mix
  let x0 := if f.annK = 0 then lw.1 else blend (announceOf m (pairVal s) i) s.wav.presented f.annK lw.1
  let rs := feedRecords m i
  let ss := sparseGet (fun _ => []) s.tpr.feedS i
  let released := i / 32 < r.groups
  let fails := f.feedResidue.contains i
  let free := r.free >>> (8192 * i)
  let loose := (!released && free.testBit 8191) || fails || f.table.contains i || f.torn.contains i
  let c : Int × List (Int × Int) × Bool × Bool :=
    if loose then (freeInt free 36 0, freeStates (free >>> 36) rs.length, f.torn.contains i && free.testBit 8190,
                   f.torn.contains i && free.testBit 8189)
    else chain (rs.map (coefAt m f.cur f.fade f.n)) ss x0
  let old := lineOf s (1024 + i)
  let idle := c.1 == 0 && (sparseFind s.wav.lines (1024 + i)).isNone
  let l : LineOut :=
    if idle then { line := old, y := 0, starts := false }
    else lineStep old f.n (fld (m (tblFeedChain + 2 * i + 1)) 35 0) c.1 (f.lineResidue.contains (1024 + i))
  let held := !released || fails || f.hold.contains i
  let h : Int × Option (Int × Nat) := if held then (d.rel, some (d.rel, 0)) else holdStep d.hold d.short l.y
  let ceil := (pairVal s (QCH + 0x1000 + 2 * i)).map (fun w => fld w 34 0)
  let q := quench r.quenchIn i d ceil (f.table.contains i) (f.checks.contains i) h.1
  let mt := { d.meter with gov := d.meter.gov + b2n (f.gov.contains i), sat := d.meter.sat + b2n (f.sat.contains i || lw.2),
                           held := d.meter.held || held }
  let x := if flag (m (CRU + 0x1000 + i)) 0 then mix else q.q
  { feed := { rel := q.q, hold := h.2, short := if held then f.short && released else d.short && h.2.isSome, e := q.e, cause := q.cause,
              qk := if q.cause = 0 then 64 else q.qk, ck := q.ck,
              meter := if f.catchup then d.meter else meterStep mt x r.shifts r.holdTicks },
    line := l.line, states := if fails then [] else c.2.1, sov := c.2.2.1, ysat := c.2.2.2, wsat := lw.2 && !f.sat.contains i,
    held := held, starts := l.starts, concealed := l.line.fade.lost || f.lineResidue.contains (1024 + i), q := q }

/-- What a release takes from the state. QCH_LIMITS and QCH_SUSTAIN are never used as values while their pairs fail (R321, R327). -/
def releaseIn (s : State) (f : Flight) (groups free : Nat) : Release :=
  let m : Rd := fun a => sparseGet resetWord f.shadow a
  { flight := f, groups := groups, outs := feedOuts s,
    quenchIn := { limit := ((pairVal s (QCH + 0x800)).map (fun w => fld w 26 16)).getD 0,
                  sustain := (pairVal s (QCH + 0x802)).map (fun w => (fld w 7 0, fld w 23 8)), factor := f.factor },
    shifts := [fld (m (CRU + 0x20)) 4 0, fld (m (CRU + 0x20)) 9 5, fld (m (CRU + 0x20)) 14 10],
    holdTicks := fld (m (CRU + 0x21)) 15 0, free := free }

/-- Pairs that fail where they are used: each counted, QCH_LIMITS and QCH_SUSTAIN as device-level faults (R327). -/
def limitPairs : Act := fun s =>
  let n := b2n (pairVal s (QCH + 0x800)).isNone + b2n (pairVal s (QCH + 0x802)).isNone
  if n = 0 then [] else seq [bump (QCH + 3) 11 0 n, deviceFault 2] s

/-- A feed's quench, once it starts: counted, logged, and FEED_CHECK for every cause but SUSTAIN (R323). -/
def quenchStarts (i : Nat) (d : Feed) (q : QuenchOut) : Act := seq [
  when (fun _ => d.cause == 0) (seq [bump (QCH + 3) 23 12 1, life 10 1]),
  report (srcOf QCH) .quench i q.new,
  when (fun _ => q.new &&& 13 != 0) (warn 0)]

/-- The registers one feed's release moves. -/
def feedRegs (n i : Nat) (d : Feed) (o : FeedOut) : Act := seq [
  when (fun _ => o.q.exceed) (seq [bump (QCH + 3) 35 24 1, bump (QCH + 0x400 + i) 31 16 1]),
  when (fun _ => o.q.pairFail) (bump (QCH + 3) 11 0 1),
  when (fun _ => o.q.new != 0) (quenchStarts i d o.q),
  when (fun _ => o.sov) (bump (TPR + 1) 35 24 1), when (fun _ => o.ysat) (bump (TPR + 1) 23 12 1),
  when (fun _ => o.sov || o.ysat) (setBits (TPR + 0x40 + i / 32) (2 ^ (i % 32))),
  when (fun _ => o.wsat) (bump (CRU + 1) 23 12 1),
  when (fun _ => o.feed.hold.isSome) (bump (WAV + 3) 23 12 1),
  when (fun _ => o.held) (setBits (WAV + 0x80 + i / 32) (2 ^ (i % 32))),
  when (fun _ => o.starts) (lineStarves n (1024 + i))]

/-- Store what the releases left: feeds, output lines, output chains. -/
def storeFeeds (os : List FeedOut) : Act := seq [
  onFeeds fun _ _ => (os.zipIdx.filter (fun e => e.1.feed != Feed.init)).map (fun e => (e.2, e.1.feed)),
  onWav fun _ w => { w with lines := w.lines.filter (fun e => e.1 < 1024)
    ++ (os.zipIdx.filter (fun e => e.1.line != Line.init)).map (fun e => (1024 + e.2, e.1.line)) },
  onTpr fun _ t => { t with feedS := os.zipIdx.foldl (fun t e => chainSet t e.2 e.1.states) [] }]

/-- A cause of taint in this period: hold-and-ramp that an internal failure started, concealment, a quench for CHECK, PAIR or TABLE that
starts or goes on (R351). The short hold-and-ramp of a correction is none. -/
def taintCause (f : Flight) (os : List FeedOut) : Bool :=
  f.taint || os.any (fun o => o.held || o.concealed || (o.q.new ||| o.feed.cause) &&& 13 != 0)

/-- Is a released sample of the period tainted (R351)? -/
def tainted (s : State) (f : Flight) (os : List FeedOut) : Bool :=
  taintCause f os || s.wav.taints.any (fun t => t ≤ f.n && f.n ≤ t + 64)

/-- Note the causes of taint of this period. -/
def noteTaint (f : Flight) (os : List FeedOut) : Act :=
  when (fun _ => taintCause f os) (onWav fun _ w => { w with taints := (f.n :: w.taints).take 80 })

/-- The meter snapshot of period n (R213); shifts out of range make every reading unpredictable. -/
def meterSnapshot (n : Nat) : Act := fun s =>
  let shs := [rdF s (CRU + 0x20) 4 0, rdF s (CRU + 0x20) 9 5, rdF s (CRU + 0x20) 14 10, rdF s (CRU + 0x20) 19 15]
  let records : Act :=
    if shs.all (fun k => 4 ≤ k && k ≤ 24) then fun s => each (List.range 1024) (fun i => pokeList (tblMeter + 8 * i) (meterRecord (feedOf s i).meter)) s
    else draw 211 (fun v => each (List.range 1024) (fun i => pokeList (tblMeter + 8 * i)
      ((List.range 7).map (fun j => wd (v >>> (36 * (8 * i + j)))) ++ [0])))
  seq [records,
    onFeeds fun _ t => t.map (fun e => (e.1, { e.2 with meter := meterRestart e.2.meter })),
    pokeF (CRU + 0x23) 19 4 ((rdF s (CRU + 0x23) 19 4 + 1) % 65536), pokePair (CRU + 0x24) n,
    ringMeter] s

/-- Hand the released samples to their destinations (R26, R209, R402). -/
def sendOut' (m : Rd) (n : Nat) (rel : Nat → Int) : Act := fun s =>
  let ds := destMap m
  let clips := dedupN (tdmClips s ds rel ++ streamClips m ds rel)
  seq [tdmRelease ds n rel,
       fun s => buildPackets m n ds rel (maySend s) s,
       bump (CRU + 2) 11 0 clips.length,
       onFeeds fun _ t => clips.foldl (fun t f =>
         let d := sparseGet (fun _ => Feed.init) t f
         sparsePut t f { d with meter := { d.meter with clip := true } }) t] s

/-- The hash and heartbeat of a released period (R179, R346, R348, R350). -/
def releaseHash (n : Nat) (rels : List Int) (taint : Bool) : Act :=
  let h := outHash n rels
  seq [
    onWav fun _ w => { w with hash := h, hashAt := n },
    onTwn fun _ t => { t with own := ({ period := n, hash := h, taint := taint } :: t.own).take 64 },
    sendBeat n h taint, hashCheck n]

/-- Release the wavefront in flight: its first `groups` groups as rendered, the others under hold-and-ramp. -/
def release (f0 : Flight) (groups free : Nat) : Act := fun s =>
  let f := { f0 with hold := f0.hold ++ (badOuts s).map (·.1) }
  let r := releaseIn s f groups free
  let os := (List.range 1024).map (feedStep s r)
  let rels := os.map (fun o => o.feed.rel)
  let t := tainted s f os
  let m : Rd := fun a => sparseGet resetWord f.shadow a
  seq [
    fun s => each (badOuts s) (fun e => uncorrectable 1 e.2) s,
    storeFeeds os, clearWindows 4, noteTaint f os,
    each (os.zipIdx) (fun e => feedRegs f.n e.2 (feedOf s e.2) e.1),
    limitPairs,
    sendOut' m f.n (fun i => rels.getD i 0),
    when (fun _ => f.snap) (meterSnapshot f.n),
    releaseHash f.n rels t,
    onWav fun _ w => { w with flight := none },
    when (fun s => flag (rd s TWN) 31 && s.twn.histUntil ≤ s.wav.n) (pokeF TWN 31 31 0)] s

/-- Release with what the spec leaves open supplied by a free value where any feed needs one. -/
def releaseFree (f : Flight) (groups : Nat) : Act := fun s =>
  if 32 ≤ groups && f.feedResidue.isEmpty && f.table.isEmpty && f.torn.isEmpty then release f groups 0 s
  else draw 182 (fun v => release f groups v) s

/-- No internal faults. -/
def noFaults : RenderFaults :=
  { banks := [], objs := [], feeds := [], lines := [], srcs := [], checks := [], soft := [], hard := [], lanes := [] }

/-- Errors strike words of the on-die memories, and lanes, between two ticks. A word that the code cannot correct is found where it is next
read: in a lane memory by the lane, elsewhere by this period's render (R256, R328, R330). -/
def strike (g : RenderFaults) : Act :=
  if g.soft.isEmpty && g.hard.isEmpty && g.lanes.isEmpty then nop else seq [
    onSoft fun s l => dedupN (l ++ g.soft.filter (fun a => a < 0x40000000 && !s.bad.contains a)),
    each (g.hard.filter (· < 0x40000000)) (fun a =>
      if (laneOfWord a).isSome then onBad fun _ l => (l.erase a) ++ [a] else uncorrectable 1 a),
    onLan fun _ l => { l with upset := dedupN (l.upset ++ g.lanes) }]

/-- R459: periods the alignment input buffer holds. -/
def alignDepth (s : State) : Nat := 2 ^ 26 / (36 + (supplied (rd s)).length)

/-- A record of the alignment input buffer (R459): presence of sources 0x000-0x50F, first in the top bit, 36 to a word, then one word for
each supplied source in ascending order; that of a source that is absent is open. -/
def alignRecord (sup : List Nat) (raw : List (Nat × Int)) (v : Nat) : List Word :=
  (List.range 36).map (fun i => wd ((List.range 36).foldl (fun a j => a * 2 + b2n (raw.any (fun e => e.1 == 36 * i + j))) 0))
  ++ sup.zipIdx.map (fun e => match raw.find? (fun r => r.1 == e.1) with
    | some r => wdI r.2
    | none => wd (v >>> (36 * e.2)))

/-- The record of period n goes to DRAM, whole words from 0x4200_0000 on, record by record in a ring (R186, R459). DESIGN CHOICE (log entry
74): the record of period n is number n modulo the capacity. -/
def storeRecord (n : Nat) (raw : List (Nat × Int)) : Act := fun s =>
  let sup := (List.range 0x800).filter ((supplied (rd s)).contains ·)
  let at' := 0x42000000 + n % max 1 (alignDepth s) * (36 + sup.length)
  let put (v : Nat) : Act := each (alignRecord sup raw v).zipIdx (fun e => dramPut (at' + e.2) e.1 0)
  if sup.all (fun c => raw.any (fun e => e.1 == c)) then put 0 s else draw 459 put s

/-- Stage-in only: an aligning unit buffers the raw samples and their presence, from the tick of P (R186, R357, R459). -/
def bufferInputs (n : Nat) (raw : List (Nat × Int)) : Act := fun s =>
  if !(2 ≤ align s && align s ≤ 3 && s.twn.alignP ≤ n) then [] else
  if alignDepth s ≤ s.twn.inbuf.length then failAlign 7 s
  else seq [onTwn (fun _ t => { t with inbuf := sparsePut t.inbuf n (raw.foldl (fun a e => sparsePut a e.1 e.2) []) }), storeRecord n raw] s

/-- The presence bitmap of the launched period: kept for 64 periods and sent (R349, R350). -/
def sendPresence (n : Nat) (present : List Nat) : Act := seq [
  onTwn fun _ t => { t with pres := ((n, present) :: t.pres).take 64 },
  when (fun s => isTwin s && laneLocked s) (tongsSend 4 (presenceBody n (fun c => present.contains c)))]

/-- Is a snapshot due in period n (R213)? -/
def snapDue (s : State) (n : Nat) : Bool :=
  let auto := rdF s (CRU + 0x20) 35 24
  s.cru.snapReq || (auto != 0 && n % 16 == 0 && n / 16 % auto == 0)

/-- The network and local samples of period n. -/
def rawInputs (s : State) (n : Nat) : List (Nat × Int) := netInputs s n ++ localInputs s

/-- Inputs of the inputs unsettled at this tick (R494, R497). -/
def unsettledNow (s : State) : List Nat :=
  ((List.range 16).filter (fun k => pdmEn (rd s) k && (match (takeOldest (pdmOf s k).held).1 with
    | some (_, settled) => !settled
    | none => (pdmOf s k).settle != 0))).map (0x500 + ·)

/-- The launch of period N at its tick, or, with `render` false, its stage-in only: WAV_PRESENT, the alignment input buffer and the
heartbeat of a unit that renders nothing (R15, R165, R186). -/
def tickLaunch (g : RenderFaults) (render : Bool) : Act := fun s =>
  let n := s.wav.n
  let raw := rawInputs s n
  let uns := unsettledNow s
  seq [
    onWav fun _ w => { w with owed := false },
    sendPresence n (raw.map (·.1)),
    takeLocal true, consumeNet n,
    (if render then seq [
       fun s => launch n (raw ++ laneInputs s) g false (snapDue s n) s.wav.short s,
       when (fun s => snapDue s n) (seq [onCru fun _ c => { c with snapReq := false }, pokeF (CRU + 0x23) 0 0 0]),
       fun s => captureRecord n (presentedOf s.wav.presented) s.wav.missing uns s]
     else seq [showPresent (raw.map (·.1)), bufferInputs n raw, sendBeat n 0 false])] s

/-- The launch that waited for a catch-up wavefront (R20). -/
def owedLaunch : Act := when (fun s => s.wav.owed) (tickLaunch noFaults false)

/-- The end of a catch-up wavefront: state is carried forward, nothing is released; its hash is compared with the ACTIVE's, now or when
that arrives, and when the present is reached real-time rendering begins in CONFIRMING (R187, R189). A launch that waited follows (R20). -/
def catchupDone (f : Flight) (free : Nat) : Act := fun s =>
  let r := releaseIn s f 32 free
  let os := (List.range 1024).map (feedStep s r)
  let h := outHash f.n (os.map (fun o => o.feed.rel))
  let same := match s.twn.beats.find? (fun b => b.period == f.n) with
    | some b => b.hash == h
    | none => true -- compared when it arrives (`hashCheck`)
  seq [
    storeFeeds os, clearWindows 4,
    onWav fun _ w => { w with flight := none, caught := f.n, catchups := min 31 (w.catchups + 1) },
    onTwn fun _ t => { t with inbuf := sparseDrop t.inbuf f.n, own := ({ period := f.n, hash := h, taint := false } :: t.own).take 64 },
    (if !same then failAlign 8
     else when (fun s => s.wav.caught == s.wav.n) (seq [setAlign 4, onTwn fun _ t => { t with confirm := 0, inbuf := [] }])),
    owedLaunch] s

/-- WAVEFRONT_COMPLETE: every lane item of the period has passed compare, or been lost, and group 31 is released; `time` from launch in
10 ns (R177, R179). -/
def wavefrontComplete (time : Nat) : Act := fun s =>
  match s.wav.flight with
  | none => []
  | some f =>
    if !s.bel.list.all (itemDone s) then [] else
    if f.catchup then (if f.feedResidue.isEmpty && f.table.isEmpty && f.torn.isEmpty then catchupDone f 0 s
      else draw 182 (fun v => catchupDone f v) s)
    else
      let t := min 65535 time
      seq [releaseFree f 32, fun s => pokeF WAV 31 16 (max t (rdF s WAV 31 16)) s, pokeF WAV 15 0 t] s
def execWavefrontComplete (time : Nat) (s : State) : Host.Outcome State Fault Refusal := done (clocked (wavefrontComplete time)) s

/-! ### The watchdog (R180-R183) -/

/-- Groups that no unfinished item keeps from release: those below the first that holds a feed of such an item (R177). -/
def freeGroups (s : State) : Nat :=
  let waiting := s.bel.list.filter (fun i => !itemDone s i)
  let fs := waiting.flatMap (fun i => ((ownEntries (rd s) i).filter (fun e => e.kind == 4)).flatMap
    (fun e => (List.range e.count).map (fun k => (e.first + k) / 32)))
  fs.foldl min 32

/-- Object chains that had not finished the period have open section states; which ones had is open too (R182). -/
def looseChains (v : Nat) : Act := onTpr fun s t =>
  let one (acc : Sparse (List (Int × Int))) (o : Nat) : Sparse (List (Int × Int)) := match objRecords (rd s) o with
    | some rs => if v.testBit o then chainSet acc o (freeStates (v >>> (1024 + 4096 * o)) (rs.length + 2)) else acc
    | none => acc
  { t with objS := (List.range 1024).foldl one t.objS }

/-- The wavefront watchdog stops an incomplete wavefront at the tick: groups not yet released, from the `groups`-th on, are held, its
lane items are abandoned, and the event is counted; the third within 16 periods is a device-level fault (R180-R183). A catch-up
wavefront in flight is not the watchdog's: it completes first (R20). -/
def watchdog (groups : Nat) : Act := fun s =>
  match s.wav.flight with
  | none => []
  | some f =>
    if f.catchup then [] else
    let g := min groups (freeGroups s)
    let late := (f.n :: s.wav.overruns).filter (fun k => f.n < k + 16)
    seq [
      onWav fun _ w => { w with overruns := late },
      clearRuns,
      onBel fun _ b => { b with list := [] },
      draw 182 looseChains,
      releaseFree f (min 31 g),
      bump (WAV + 1) 35 24 1, wavEvent 1 f.n, life 11 1, ringFault, report (srcOf WAV) .overrun f.n 0,
      when (fun _ => 3 ≤ late.length) (deviceFault 0)] s

/-- WAVEFRONT_WATCHDOG: the tick of the next period finds the wavefront incomplete; `groups` release groups are out by then. -/
def execWavefrontWatchdog (groups : Nat) (s : State) : Host.Outcome State Fault Refusal := done (clocked (watchdog groups)) s

/-! ### Period corrections (R433, R435) -/

/-- Move an apply period that falls into the dropped ones to the first period after them. -/
def movedTo (p k at' : Nat) : Nat := if p ≤ at' && at' < p + k then p + k else at'

/-- K periods from P on are dropped: what was to take effect in them does so at P + K, their presence bits are cleared, every line's
samples age by K, and packets that span them carry each feed's last released sample (R433). -/
def dropPeriods (p k : Nat) : Act := fun s =>
  let mv := movedTo p k
  let m := rd s
  let ds := destMap m
  seq [
    onScene fun _ c => { c with pending := c.pending.map (fun f => { f with bnd := mv f.bnd }) },
    onCru fun _ c => { c with pend := c.pend.map (fun x => { x with at' := mv x.at' }) },
    onTpr fun _ t => { t with
      pend := t.pend.map (fun x => { x with at' := mv x.at' }), queued := t.queued.map (fun x => { x with at' := mv x.at' }),
      fade := t.fade.map (fun x => if p ≤ x.1 + 2 ^ x.2.1 && x.1 + 2 ^ x.2.1 < p + k then (p + k - 2 ^ x.2.1, x.2) else x) },
    onQch fun _ q => { q with clear := q.clear.map (fun x => { x with at' := mv x.at' }) },
    onLan fun _ l => { l with args := l.args.map (fun e => (e.1, { e.2 with at' := mv e.2.at' })) },
    onBel fun _ b => { b with delay := b.delay.map (fun e => (e.1, { e.2 with at' := mv e.2.at' })) },
    onTwn fun _ t => { t with handover := t.handover.map mv },
    onLoc fun _ c => { c with next := c.next.map (fun x => { x with bnd := mv x.bnd }) },
    onWav fun _ w => { w with
      n := p + k - 1,
      netPresent := w.netPresent.filter (fun e => !(List.range (min k 512)).any (fun i => e.1 % 512 == (p + i) % 512)),
      lines := w.lines.map (fun e => (e.1,
        { e.2 with head := (List.replicate (min k 512) none ++ e.2.head).take 512, fill := e.2.fill + k })) },
    countMoved,
    each ((List.range 128).filter (fun t => entryValid (txE m t 0))) (fun t s =>
      let S := entryS s (txE m t 0)
      if S = 0 then [] else
      let f := (p + k) / S * S
      if f = p + k then onStm (fun _ q => { q with part := sparseDrop q.part t }) s
      else onStm (fun s q =>
        let one := (streamSamples ds (fun i => (feedOf s i).rel) t (txE m t 0)).1
        { q with part := sparsePut q.part t (f, (List.replicate (p + k - f) one).flatten) }) s)] s

/-- The correction that falls due at the coming period, if any (R433, R435): periods dropped or withheld, the short hold-and-ramp on
every feed in the first period rendered after, and the rest slewed; or the passage through ARMED. -/
def correction : Act := fun s =>
  match s.clk.corr with
  | none => []
  | some c =>
    if c.at' ≠ s.wav.n + 1 then [] else
    seq [onClk fun _ k => { k with corr := none }, pokeF CLK 29 29 0,
      (if c.viaArmed then seq [
          clkEvent (2 ^ 11), ringState, ringClock, report (srcOf CLK) .realign c.at' 0,
          onQch fun _ q => { q with rampStop := some (q.rampStop.getD 0) },
          onSys fun _ y => { y with condCount := false, condClock := false }]
       else seq [
          when (fun _ => 0 < c.k) (dropPeriods c.at' c.k.toNat),
          onWav fun _ w => { w with short := true },
          clkEvent (2 ^ 10), bump (CLK + 2) 11 0 1, ringClock, report (srcOf CLK) .realign c.at' (wdI c.k).toNat,
          onClk fun _ k => { k with slew := c.rest * 62500 }, slewCheck])] s

/-- PERIOD_CORRECTION: the tick after that of P - 1 is due, or its ticks are withheld. -/
def execPeriodCorrection (s : State) : Host.Outcome State Fault Refusal := done correction s

/-! ### The tick (R15) -/

/-- Packets begun before the ramp of STOP ended are completed with zero samples (R69). -/
def finishPackets (n : Nat) : Act := fun s =>
  each s.stm.part (fun e s =>
    let w := txE (rd s) e.1 0
    let S := entryS s w
    let z := List.replicate (entryChans w * entryBytes w) 0
    if n < e.2.1 ∨ e.2.1 + S ≤ n then onStm (fun _ q => { q with part := sparseDrop q.part e.1 }) s
    else if n + 1 < e.2.1 + S then onStm (fun _ q => { q with part := sparsePut q.part e.1 (e.2.1, e.2.2 ++ z) }) s
    else seq [onStm fun _ q => { q with part := sparseDrop q.part e.1 },
      each ((List.range 2).filter (fun x => entryOn w x)) (fun x =>
        if unresolved (rd s) e.1 x then bump (STM + 0x13) 11 0 1 else stagePacket x (streamFrame (rd s) e.1 x e.2.1 S (e.2.2 ++ z)))] s) s

/-- A tick in ARMED: the count rises, or the source establishes it, inputs are taken and dropped, nothing is rendered (R71, R346, R429). -/
def armedTick : Act := fun s =>
  let n := s.wav.n + 1
  seq [onWav fun _ w => { w with n := n }, entriesDue,
       establish countAtTick,
       when (fun s => s.wav.n % 16 == 0) checkPairs, pairTakeover, fun s => beatLoss s.wav.n s,
       takeLocal false, fun s => seq [consumeNet s.wav.n, finishPackets n, sendBeat s.wav.n 0 false] s] s

/-- A tick in RUN or SAFE (R15, R18, R20): first the watchdog, then what falls due, then the launch. On a unit in catch-up the tick ends
what runs in the slack but the catch-up wavefront, and its own launch waits for that one. -/
def runTick (g : RenderFaults) : Act := seq [
  owedLaunch,
  fun s => watchdog (freeGroups s) s,
  fun s => beatLoss (s.wav.n + 1) s,
  applyNextRole, handoverApply,
  fun s => seq [snapshotFreeze (s.wav.n + 1), snapshotStart (s.wav.n + 1)] s,
  ifThen (fun s => align s != 3) (seq [clearRuns, prepare]) clearSlack,
  fun s => seq [
    onWav fun _ w => { w with n := s.wav.n + 1, catchups := 0 }, entriesDue,
    onBel fun _ b => { b with late := false },
    backgroundReady (s.wav.n + 1), pairTakeover] s,
  ifThen (fun s => s.wav.flight.isSome) (onWav fun _ w => { w with owed := true }) (fun s => tickLaunch g (rendersNow s) s)]

/-- PERIOD_TICK: the tick of the next period, with the internal faults its render meets (R15). A correction that falls due acts first. -/
def periodTick (g : RenderFaults) : Act := fun s =>
  match s.sys.state with
  | .armed => armedTick s
  | .run => seq [correction, runTick g] s
  | .safe => seq [correction, runTick g] s
  | _ => []
def execPeriodTick (g : RenderFaults) (s : State) : Host.Outcome State Fault Refusal := done (seq [strike g, clocked (periodTick g)]) s

/-! ### Catch-up wavefronts (R187-R189) -/

/-- The raw samples that the buffer gives for period m under the ACTIVE's presence bitmap for it; none where a source present there is
absent here (R187). -/
def catchupRaw (s : State) (m : Nat) (bitmap : List Nat) : Option (List (Nat × Int)) :=
  match sparseFind s.twn.inbuf m with
  | some b => if bitmap.all (fun c => b.any (fun e => e.1 == c)) then some (b.filter (fun e => bitmap.contains e.1)) else none
  | none => none

/-- Are Locator's results for the control tick of period m ready: they come into force at its boundary, or did so before (R188)? -/
def resultsReady (s : State) (m : Nat) : Bool := m % 16 != 0 || (match s.loc.next with
  | some b => b.bnd == m
  | none => false)

/-- Does every line hold the window that period m reads: its head, or a tail that spans the taps (R170, R188)? -/
def windowsHeld (s : State) (m : Nat) : Bool := (List.range 2048).all (fun l =>
  let d := lineDelay s l m
  let x := lineOf s l
  d + 4 ≤ 511 || x.fill + 3 < d || (x.tailAt ≤ m - (d + 4) && m - (d + 4) + 8 ≤ x.tailAt + x.tail.length))

/-- CATCHUP_WAVEFRONT: the next past period renders in the slack, once the ACTIVE's bitmap for it has come, Locator's results stand and
the delay windows are in place; it ends by WAVEFRONT_COMPLETE when its lane items have passed (R187, R188). -/
def catchupWavefront : Act := fun s =>
  let m := s.wav.caught + 1
  if align s != 3 || s.wav.flight.isSome || s.wav.n < m || !resultsReady s m || !windowsHeld s m then [] else
  match s.twn.ppres.find? (fun e => e.1 == m) with
  | none => []
  | some p => match catchupRaw s m p.2 with
  | none => failAlign 8 s
  | some raw => seq [clearRuns, prepare, fun s => launch m (raw ++ laneInputs s) noFaults true false false s] s
def execCatchupWavefront (s : State) : Host.Outcome State Fault Refusal := done (clocked catchupWavefront) s

/-! ### Meter snapshots (R213) -/

/-- A request waits for the next launch. -/
def requestSnap : Act := seq [onCru fun _ c => { c with snapReq := true }, pokeF (CRU + 0x23) 0 0 1]

/-- SNAP: a write to CRU_METER_SNAP; any master may. -/
def snap (_m : Nat) (w : Word) : Act := when (fun _ => flag w 0) requestSnap
def execSnap (m : Nat) (w : Word) (s : State) : Host.Outcome State Fault Refusal := done (writing m (snap m w)) s

/-- METER_AUTO_SNAPSHOT: the coming period is the first of a control tick that AUTO names; its snapshot is due. -/
def meterAutoSnapshot : Act := fun s =>
  let n := s.wav.n + 1
  let auto := rdF s (CRU + 0x20) 35 24
  if auto != 0 && n % 16 == 0 && n / 16 % auto == 0 && (s.sys.state == .run || s.sys.state == .safe) then
    onCru (fun _ c => { c with snapReq := true }) s
  else []
def execMeterAutoSnapshot (s : State) : Host.Outcome State Fault Refusal := done meterAutoSnapshot s

end Sys2Proof.Machine
end

