-- ==== Sys2Proof/Machine/Reads.lean ====
section
/-! DEFINITION. What a read of a word returns (02: R5, R8; 24: R559-R561), who may read it (19: R462, R476; 20: R496), and what the read does
beside returning data: cleared fields, latched companions (R5, R561, R585). Fields that show what the state holds are computed
here; the rest is the stored word. -/
namespace Sys2Proof.Machine
open Sys2Proof

/-- How many of bits 0 to n - 1 are set. -/
def popBits (n v : Nat) : Nat := ((List.range n).filter (fun i => v.testBit i)).length

/-! ### Computed registers, block by block -/

/-- SYS_STATE (03). -/
def sysStateWord (s : State) : Word :=
  wd (devCode s.sys.prev * 2 ^ 16 + b2n s.sys.fromCocoon * 2 ^ 13 + b2n s.sys.freeRun * 2 ^ 12 + b2n s.scene.annOn * 2 ^ 11
    + b2n (anyQuenched s) * 2 ^ 10 + s.sys.rate % 4 * 2 ^ 8 + roleCode s.sys.role * 2 ^ 4 + devCode s.sys.state)

/-- SYS_BOOT: the times stored, the strap, the kind of start and the slot (03). -/
def sysBootWord (s : State) : Word :=
  wd (rdF s (SYS + 7) 35 4 * 2 ^ 4 + b2n s.sys.strap * 2 ^ 3 + b2n s.sys.warm * 2 ^ 2 + (if s.img.slot = 3 then 0 else s.img.slot % 4))

/-- A system register (03). FUSE_FLOOR always shows the blown fuses (DEDUCED: log entry 13). -/
def readSys (s : State) (o : Nat) : Word :=
  if o = 1 then sysStateWord s
  else if o = 7 then sysBootWord s
  else if o = 9 then setFld (rd s (SYS + 9)) 23 16 s.otp.rollback
  else if o = 0xA then wd (bits s.img.renderDigest 383 352)
  else if o = 0xB then wd (bits s.img.renderDigest 351 320)
  else rd s (SYS + o)

/-- WAV_HASH_0 shows the latest hash; its companions are the latched words (R561). -/
def readWav (s : State) (o : Nat) : Word :=
  if o = 8 then wd (bits s.wav.hash 63 32)
  else if o = 0xC then wd (b2n (align s == 3) * 2 ^ 35 + min 31 s.wav.catchups * 2 ^ 24
    + (if align s = 3 then min (2 ^ 24 - 1) (s.wav.n - s.wav.caught) else 0))
  else rd s (WAV + o)

def readLoc (s : State) (o : Nat) : Word :=
  if o = 0x108 then
    let partner := match s.twn.partner with
      | some b => b.emerg
      | none => false
    wd (b2n partner * 8 + b2n s.scene.annLatch * 4 + b2n (pinOf s 17).filt * 2 + b2n s.scene.annOn)
  else rd s (LOC + o)

/-- TPR_STATUS and the bank sums (09). -/
def readTpr (s : State) (o : Nat) : Word :=
  if o = 0 then
    wd ((match s.tpr.fade with
        | some f => min 65535 (s.wav.n - f.1) * 2 ^ 4 + 2
        | none => 0) + b2n s.tpr.queued.isSome * 8 + b2n s.tpr.pend.isSome * 4 + s.tpr.cur % 2)
  else if o = 0x20 ∨ o = 0x21 then wd (bankSum s (o - 0x20))
  else rd s (TPR + o)

/-- BEL_STATUS, BEL_POOL and BEL_DELAY (12). -/
def readBel (s : State) (o : Nat) : Word :=
  if o = 0 then
    wd ((match s.bel.test with
        | some t => 2 ^ 20 + t.pair % 64 * 2 ^ 14
        | none => 0) + popBits 72 s.life.retired * 2 ^ 7 + (poolLanes s).length / 2 * 2 ^ 4)
  else if o = 1 then wd ((poolLanes s).foldl (fun (a l : Nat) => a ||| 2 ^ (l - 64)) 0)
  else if o = 5 then
    wd ((s.bel.delay.filter (fun e => e.1 < 2048)).length * 2 ^ 12 + (s.bel.delay.filter (fun e => 2048 ≤ e.1)).length
      + (s.bel.bg.map (fun e => e.2.slots.length)).foldl (· + ·) 0)
  else rd s (BEL + o)

/-- CAUSE of QCH_FEED_f; of several causes the one with the highest code (DESIGN CHOICE: log entry 96). -/
def causeCode (c : Nat) : Nat :=
  if c.testBit 3 then 4 else if c.testBit 2 then 3 else if c.testBit 0 then 2 else if c.testBit 1 then 1 else 0

def readQch (s : State) (o : Nat) : Word :=
  if o = 0 then wd (quenchedCount s * 4 + b2n (s.qch.warn != 0) * 2 + b2n (s.qch.fault != 0))
  else if o = 1 then wd s.qch.fault
  else if o = 2 then wd s.qch.warn
  else if 0x40 ≤ o ∧ o < 0x60 then
    wd ((List.range 32).foldl (fun (a j : Nat) => if (feedOf s (32 * (o - 0x40) + j)).cause = 0 then a else a + 2 ^ j) 0)
  else if 0x400 ≤ o ∧ o < 0x800 then
    (let f := feedOf s (o - 0x400)
     wd (causeCode f.cause * 2 ^ 33 + b2n (f.cause != 0) * 2 ^ 32 + rdF s (QCH + o) 31 16 * 2 ^ 16 + min 65535 f.e))
  else rd s (QCH + o)

/-- The registers of one MAC port that follow its queues and its timer, and the LO byte counters, which read as latched (R387). -/
def readMac (s : State) (x o : Nat) : Word :=
  if o = 0 then setFld (rd s (MAC x)) 4 0 (paused s x)
  else if 0x100 ≤ o ∧ o < 0x120 ∧ o % 8 = 5 then rxStat s x ((o - 0x100) / 8)
  else if 0x140 ≤ o ∧ o < 0x168 ∧ o % 8 = 5 then txStat s x ((o - 0x140) / 8)
  else if o = 0x421 then wd (macOf s x).loLatch.1
  else if o = 0x423 then wd (macOf s x).loLatch.2
  else rd s (MAC x + o)

def readStm (s : State) (o : Nat) : Word :=
  if o = 0 then setFld (rd s STM) 7 0 (rxValid s)
  else if 0x800 ≤ o ∧ o < 0x880 then rxsWord s (o - 0x800)
  else rd s (STM + o)

def readDrc (s : State) (o : Nat) : Word :=
  if o = 8 then wd (alignDepth s)
  else if 0x100 ≤ o ∧ o < 0x134 then (Config.eccColumn (o - 0x100)).setWidth 36
  else rd s (DRC + o)

/-- Locks as XBR_LOCK_i and XBR_LOCK_PEEK_i show them without a claim (R469). -/
def readXbr (s : State) (o : Nat) : Word :=
  if 0x100 ≤ o ∧ o < 0x180 then lockWord (sparseFind s.xbr.locks ((o - 0x100) % 64)) false
  else rd s (XBR + o)

/-- Mailbox heads, depths and doorbells (R473-R480). -/
def readMbx (s : State) (o : Nat) : Word :=
  if 0x100 ≤ o ∧ o < 0x400 then
    (match chan s (o / 256 - 1) (o / 16 % 16) with
     | [] => 0
     | h :: _ => h.getD (o % 16) 0)
  else if 0x400 ≤ o ∧ o < 0x40C then
    (if o % 4 = 1 then mbxState s ((o - 0x400) / 4)
     else if o % 4 = 2 then dbellStatus s ((o - 0x400) / 4)
     else if o % 4 = 3 then rd s (MBX + o) else 0)
  else rd s (MBX + o)

def readTdm (s : State) (o : Nat) : Word :=
  if o < 0x80 ∧ o % 16 = 1 then wd ((tdmOf s (o / 16)).st % 4 * 2 ^ 34 + min 4 (tdmOf s (o / 16)).held.length)
  else rd s (TDM + o)

/-- PDM_k_STATUS (R493, R494). -/
def readPdm (s : State) (o : Nat) : Word :=
  if 0x20 ≤ o ∧ o < 0x30 then
    (let p := pdmOf s (o - 0x20)
     let runs := pdmRuns s (o - 0x20)
     wd (b2n (pdmEn (rd s) (o - 0x20) && runs && p.settle == 0) * 2 ^ 35 + b2n p.stuck * 2 ^ 34 + b2n runs * 2 ^ 33
       + p.settle % 4096))
  else rd s (PDM + o)

/-- The update buffer reads as zero (22). -/
def readHth (s : State) (o : Nat) : Word := if 0x1000 ≤ o then 0 else rd s (HTH + o)

/-- SEC_: status, owner slots, tamper, identity; the responses read as zero (23). -/
def readSec (s : State) (o : Nat) : Word :=
  if o = 0 then secStatusWord s
  else if 1 ≤ o ∧ o ≤ 4 then secOwnerWord s (o - 1)
  else if 0x40 ≤ o ∧ o < 0x40 + 61 then 0
  else if o = 0x80 then
    wd (b2n s.cocoon.vbatLost * 2 ^ 18 + b2n s.cocoon.calStop * 2 ^ 17 + b2n s.cocoon.tamper * 2 ^ 16 + s.cocoon.tamperCfg % 2 ^ 16)
  else if 0x200 ≤ o ∧ o < 0x200 + 49 then
    wd ((List.range 4).foldl (fun (a i : Nat) =>
      a * 256 + (if 4 * (o - 0x200) + i < 193 then Config.otpIdentity (4 * (o - 0x200) + i) % 256 else 0)) 0)
  else rd s (SEC + o)

/-- The calendar as latched by a read of LIF_CAL_SEC_0, or, before any, as it stands. -/
def calLatched (s : State) : Nat × Nat := s.hth.calLatch.getD (s.cocoon.calSec, s.cocoon.calSub)

/-- LIF_: the calendar, the snapshot's age, the lifetime record (22). CAL_STOP makes the calendar stale (R527). -/
def readLif (s : State) (o : Nat) : Word :=
  if o = 0 then wd (bits s.cocoon.calSec 47 32)
  else if o = 1 then wd (bits (calLatched s).1 31 0)
  else if o = 2 then wd (b2n s.cocoon.calStop * 2 ^ 35 + (calLatched s).2 % 2 ^ 15)
  else if o = 6 then setFld (rd s (LIF + 6)) 1 0 s.cocoon.calSource
  else if o = 0x10 then wd (min 65535 (s.life.ageSec / 60) * 2 ^ 20 + s.life.snapSeq % 2 ^ 20)
  else if 0x20 ≤ o ∧ o < 0x23 then wd (bits s.life.retired (32 * (o - 0x20) + 31) (32 * (o - 0x20)))
  else if 0x100 ≤ o ∧ o < 0x11E then wd (lifeGet s (o - 0x100))
  else if 0x180 ≤ o ∧ o < 0x190 then wd (sparseGet (fun _ => 0) s.life.hist (o - 0x180))
  else rd s (LIF + o)

/-- Bits 3:0 that PIN_SAFE_STATUS gives a filtered input: STUCK, CHATTER, filtered, raw. -/
def pinBits (p : PinF) : Nat := b2n p.stuck * 8 + b2n p.chatter * 4 + b2n p.filt * 2 + b2n p.raw

/-- PIN_: the safe pins, the GP levels and flags (13). -/
def readPin (s : State) (o : Nat) : Word :=
  if o = 0x10 then
    wd (b2n s.qch.faultPin * 2 ^ 11 + b2n (faultLDrive s) * 2 ^ 10 + b2n s.qch.safePin * 2 ^ 9
      + b2n (safeLDrive s (anyQuenched s)) * 2 ^ 8 + pinBits (pinOf s 17) * 16 + pinBits (pinOf s 16))
  else if o = 0x120 then
    wd ((List.range 16).foldl (fun (a n : Nat) => a + b2n (pinOf s n).raw * 2 ^ (16 + n) + b2n (pinOf s n).filt * 2 ^ n) 0)
  else if o = 0x122 then
    wd ((List.range 16).foldl (fun (a n : Nat) => a + b2n (pinOf s n).stuck * 2 ^ (16 + n) + b2n (pinOf s n).chatter * 2 ^ n) 0)
  else rd s (PIN + o)

/-- The pair a lane serves, as LAN_STATUS shows it: that of a re-formed pair, else n div 2. -/
def servesPair (s : State) (n : Nat) : Nat :=
  match s.lan.serve.find? (fun e => e.2.1 == n || e.2.2 == n) with
  | some e => e.1
  | none => n / 2

/-- The context a lane runs in, if any. -/
def laneCtx (s : State) (n : Nat) : Option (Nat × LaneRun) :=
  s.lan.run.find? (fun e => (ctxLanes s e.1).1 == n || (ctxLanes s e.1).2 == n)

/-- LAN_STATUS_n: STATE 3 retired, 2 in a cross-test, 1 serving a pair, 0 spare (10). -/
def laneStatus (s : State) (n : Nat) : Word :=
  let testing := match s.bel.test with
    | some t => t.tester == n || testedLane t == n
    | none => false
  let working := n < 64 && (lanesOf s (n / 2) == (2 * (n / 2), 2 * (n / 2) + 1)) || s.lan.serve.any (fun e => e.2.1 == n || e.2.2 == n)
  let st : Nat := if s.life.retired.testBit n then 3 else if testing then 2 else if working then 1 else 0
  wd (st * 2 ^ 32 + servesPair s n % 64 * 2 ^ 26
    + (match laneCtx s n with
       | some e => 2 ^ 25 + b2n (e.2.cls == 2) * 2 ^ 24
       | none => 0)
    + sparseGet (fun _ => 0) s.lan.last n % 2048)

/-- The value a word of the register target shows, whoever reads it. -/
def readReg (s : State) (a : Nat) : Word :=
  if inLaneBlock a then (if a % 0x1000 = 0 then laneStatus s ((a - LAN 0) / 0x1000) else if (findReg a).isSome then rd s a else 0)
  else
    let o := a % 0x10000
    match (a - SYS) / 0x10000 with
    | 0 => readSys s o
    | 1 => readWav s o
    | 2 => readLoc s o
    | 4 => readTpr s o
    | 5 => readBel s o
    | 6 => readQch s o
    | 7 => if o = 0 then twnStatus s else rd s a
    | 8 => readMac s 0 o
    | 9 => readMac s 1 o
    | 10 => readStm s o
    | 12 => readDrc s o
    | 13 => readXbr s o
    | 14 => readMbx s o
    | 15 => readTdm s o
    | 16 => readPdm s o
    | 18 => readHth s o
    | 19 => readSec s o
    | 20 => readLif s o
    | 21 => readPin s o
    | _ => rd s a

/-- The value any word shows. -/
def readWord (s : State) (a : Nat) : Word := if portOf a = some .regs then readReg s a else seenWord s a

/-! ### Who may read (R462, R476, R560, R438) -/

/-- The status of a read of address a by master m: 0 OK, 1 REFUSED, 2 DECODE, 3 UNCORR (R464). -/
def readStatus (s : State) (m a : Nat) : Nat :=
  match portOf a with
  | none => 2
  | some .hearthRam => if m = 0 then (if s.bad.contains a then 3 else 0) else 1
  | some .sram =>
    if (a < 0x1008C000 && 1 < m) then 1
    else if (0x10100000 ≤ a && 1 < m && m < 0x10 && m != 9) then 1
    else if (0x10 ≤ m && !xbarOk (rd s) ((m - 0x10) / 2) a false) then 1
    else if s.bad.contains a then 3 else 0
  | some .tables => if s.bad.contains a then 3 else 0
  | some .lanes => if s.bad.contains a then 3 else 0
  | some .regs =>
    if MBX + 0x100 ≤ a ∧ a < MBX + 0x400 then (if m = receiverMaster ((a - MBX) / 256 - 1) then 0 else 1)
    else if 0x10 ≤ m then 1
    else 0
  | some .dram =>
    if !dramReadOk m a || (0x10 ≤ m && !xbarOk (rd s) ((m - 0x10) / 2) a false) then 1
    else if dramBad s a then 3 else 0

/-! ### What a read does beside returning data (R5, R6, R561, R585) -/

/-- The RC bits of a word. -/
def rcMask (a : Nat) : Nat :=
  match findReg a with
  | some r => r.rc
  | none => 0

/-- The fields of an RC mask that are counts and fall by the value returned: each run of set bits. The others are flags. -/
def rcCounts (a : Nat) : List (Nat × Nat) :=
  if a = SYS + 3 then [(15, 8)] else if a = SYS + 4 then [(19, 12)]
  else if a = LOC + 0x105 then [(25, 18)]
  else if a = CRU + 0x13 ∨ inLaneBlock a && a % 0x1000 == 0x23 then [(29, 20)]
  else if a = BEL + 0x13 ∨ a = BEL + 0x17 then [(34, 28)]
  else if STM + 0x800 ≤ a ∧ a < STM + 0x880 then [(23, 12), (11, 0)]
  else if a = STM + 0x13 then [(11, 0)]
  else if a = XBR then [(35, 24), (23, 12), (11, 6), (5, 0)]
  else if a = HTH + 0x73 then [(35, 28)]
  else if a = HTH + 0x44 ∨ a = PDM + 0x30 then [(35, 24), (23, 12)]
  else if QCH + 0x400 ≤ a ∧ a < QCH + 0x800 then [(31, 16)]
  else if a = TWN + 0xD then [(15, 0)]
  else if rcMask a = 0xFFFFFFFFF then [(35, 24), (23, 12), (11, 0)]
  else []

/-- Remove what a read of value v returned from the RC fields of a word: counts fall by it, flags clear, and a highest or lowest value
since the last read starts again from the reading in force (R5, R585). -/
def rcRemove (a : Nat) (v : Word) : Act := fun s =>
  let w := rd s a
  if rcMask a = 0 then []
  else if HTH ≤ a ∧ a < HTH + 8 then [.mem a (setFld w 23 12 (fld w 11 0))]
  else if HTH + 0x10 ≤ a ∧ a < HTH + 0x1A then [.mem a (setFld (setFld w 35 24 (fld w 11 0)) 23 12 (fld w 11 0))]
  else match rcCounts a with
    | [] => [.mem a (w &&& ~~~ (wd (rcMask a)))]
    | fs => [.mem a (fs.foldl (fun (x : Word) (f : Nat × Nat) => setFld x f.1 f.2 (fld w f.1 f.2 - fld v f.1 f.2)) w)]

/-- The companion words a latching read captures (R561): the hash, the event, the byte counters and the calendar. -/
def captures (s : State) (a : Nat) : List (Nat × Word) :=
  if a = WAV + 8 then
    [(WAV + 9, wd (bits s.wav.hash 31 0)), (WAV + 0xA, wd (bits s.wav.hashAt 63 32)), (WAV + 0xB, wd (bits s.wav.hashAt 31 0))]
  else if a = WAV + 4 then [(WAV + 5, wd s.wav.evLo)]
  else if a = MAC 0 + 0x420 ∨ a = MAC 1 + 0x420 ∨ a = MAC 0 + 0x422 ∨ a = MAC 1 + 0x422 then [(a + 1, rd s (a + 1))]
  else if a = LIF then [(LIF + 1, wd (s.cocoon.calSec % 2 ^ 36)), (LIF + 2, wd s.cocoon.calSub)]
  else []

/-- Install captured companions (R585). -/
def install (a : Nat) (cap : List (Nat × Word)) : Act :=
  if cap.isEmpty then nop
  else if a = LIF then onHth fun _ h => { h with calLatch := some ((cap.headD (0, 0)).2.toNat, (cap.getD 1 (0, 0)).2.toNat) }
  else if a = MAC 0 + 0x420 then setMac 0 fun p => { p with loLatch := ((cap.headD (0, 0)).2.toNat, p.loLatch.2) }
  else if a = MAC 0 + 0x422 then setMac 0 fun p => { p with loLatch := (p.loLatch.1, (cap.headD (0, 0)).2.toNat) }
  else if a = MAC 1 + 0x420 then setMac 1 fun p => { p with loLatch := ((cap.headD (0, 0)).2.toNat, p.loLatch.2) }
  else if a = MAC 1 + 0x422 then setMac 1 fun p => { p with loLatch := (p.loLatch.1, (cap.headD (0, 0)).2.toNat) }
  else each cap (fun e => poke e.1 e.2)

/-- The effect of a read that returned v, with the companions it captured: removed RC fields, installed latches, attention of HOLD ended
by the host's read of SYS_HOLD (R71). -/
def readEffect (m a : Nat) (v : Word) (cap : List (Nat × Word)) : Act := seq [
  rcRemove a v, install a cap,
  when (fun _ => a == SYS + 5 && m == 1) (onSys fun _ y => { y with holdRead := true })]

/-- Is the address a lock that a read claims (R469)? -/
def isLock (a : Nat) : Bool := XBR + 0x100 ≤ a && a < XBR + 0x140

/-- A read as the target performs it: its status, the word, what it captured; a free lock is claimed by the read itself (R469). A crossbar
master that reads a delay-line word expects no lap of it (log entry 89). -/
def issueRead (s : State) (m a : Nat) : Act × Spec :=
  let st := readStatus s m a
  if st ≠ 0 then
    (if st = 1 then refused m a false else if st = 2 then decodeErr m a false
     else if 0x40000000 ≤ a then (dramGet s a 0 (dramEpoch s a)).1 else uncorrectable 1 a,
     { addr := a, status := st, word := 0, cap := [], claim := none })
  else if isLock a ∧ m ≤ 9 then
    (match sparseFind s.xbr.locks (a - XBR - 0x100) with
     | some l => (nop, { addr := a, status := 0, word := lockWord (some l) false, cap := [], claim := none })
     | none =>
       let l : Lock := { owner := m, incarn := incarn s m }
       (onXbr fun _ x => { x with locks := sparsePut x.locks (a - XBR - 0x100) l },
        { addr := a, status := 0, word := lockWord (some l) true, cap := [], claim := some (a - XBR - 0x100) }))
  else (if 0x40000000 ≤ a then (dramGet s a 0 (dramEpoch s a)).1 else eccRead [a], { addr := a, status := 0, word := readWord s a, cap := captures s a, claim := none })

/-- The effect of a read that is confirmed at once or later (R585). -/
def confirmRead (m : Nat) (r : Spec) : Act := if r.status = 0 then readEffect m r.addr r.word r.cap else nop

end Sys2Proof.Machine
end

