-- ==== Sys2Proof/Machine/Telemetry.lean ====
section
/-! DEFINITION. Telemetry (22: R529-R532). -/
namespace Sys2Proof.Machine
open Sys2Proof

/-! ### Telemetry (R529-R532) -/

/-- A 36-bit word as the five bytes of R119: zero-extended to 40 bits, big-endian. -/
def wire (w : Word) : List Nat := toBytes 5 w.toNat

/-- One telemetry record: type, zero, length, body (R530). -/
def tlmRecord (t : Nat) (body : List Nat) : List Nat := [t, 0] ++ toBytes 2 body.length ++ body

/-- The body of record type t (R531). `seqs` are the log entries of record 4. -/
def tlmBody (s : State) (t : Nat) (seqs : List Nat) : List Nat :=
  match t with
  | 1 => (List.range 8).flatMap (fun i => toBytes 2 ((tempRd s i) % 2 ^ 16).toNat)
      ++ (List.range 4).map (fun i => rdF s (DRC + 2) (2 * i + 1) (2 * i))
      ++ (List.range 10).flatMap (fun i => toBytes 2 (rdF s (HTH + 0x10 + i) 11 0))
      ++ (List.range 6).flatMap (fun i => toBytes 4 ((sfld (rd s (HTH + 0x20 + i)) 19 0) % 2 ^ 32).toNat)
  | 2 => [QCH, QCH + 1, QCH + 2, TWN, STM, CLK].flatMap (fun a => wire (readWord s a))
  | 3 => (List.range 30).flatMap (fun i => wire (wd (lifeGet s i)))
  | 4 => seqs.flatMap (fun q => ((findEntry s q).getD []).flatMap wire)
  | _ => (List.range 2).flatMap (fun x => (List.range 29).flatMap (fun i => wire (rd s (MAC x + 0x400 + i))))

/-- Pack records into frames of at most `limit` payload bytes; a record never spans two (R530). -/
def packFrames (limit : Nat) : List (List Nat) → List (List (List Nat))
  | [] => [[]]
  | r :: rs =>
    match packFrames limit rs with
    | [] => [[r]]
    | f :: fs =>
      if (r ++ f.flatten).length + 64 ≤ limit then (r :: f) :: fs else [r] :: f :: fs

/-- One telemetry frame with its tag (R530, R549, R550). -/
def tlmFrame (s : State) (key rep idx n : Nat) (recs : List (List Nat)) : List Nat :=
  let sec6 := toBytes 6 s.cocoon.calSec
  let h := [0x54, 0x4C, 0x4D, 0x31, 0x01, b2n (idx + 1 == n)] ++ toBytes 2 recs.length ++ toBytes 8 Config.otpSerial
    ++ toBytes 8 rep ++ toBytes 2 idx ++ [0, 0] ++ toBytes 8 s.wav.n ++ sec6 ++ toBytes 2 s.cocoon.calSub
    ++ toBytes 4 (fld (sysStateWord s) 31 0) ++ recs.flatten
  let iv := [0x03, 0] ++ sec6.take 2 ++ sec6.drop 2 ++ toBytes 2 s.cocoon.calSub ++ toBytes 2 idx
  h ++ Config.gmac key iv h

/-- ASCII labels of R547-R549. -/
def lblTlm : List Nat := [0x54, 0x4C, 0x4D]

/-- A telemetry report: sent on queue 2 of each selected port, or, when the next one fell due first, abandoned whole and
counted in MISSED with its LOG entries kept (R529-R532). Without keys telemetry stops (R557). -/
def telemetryReport (complete : Bool) : Act := fun s =>
  if !counting s || s.sys.hearthDown || rdF s (HTH + 0x60) 15 0 = 0 then [] else
  match sparseFind s.sec.keys 0 with
  | none => []
  | some k0 =>
    let seqs := (s.log.telemetry.take 32)
    let mask := rdF s (HTH + 0x60) 20 16
    let recs := ((List.range 5).filter (fun t => mask.testBit t)).map (fun t => tlmRecord (t + 1) (tlmBody s (t + 1) seqs))
    let limit := if flag (rd s (HTH + 0x60)) 35 then 8192 else 1472
    let fs := packFrames limit recs
    let key := kdf k0 lblTlm (toBytes 8 Config.otpSerial)
    let frames := fs.zipIdx.map (fun e => tlmFrame s key s.hth.report e.2 fs.length e.1)
    let ports := rdF s (HTH + 0x60) 34 33
    if !complete then seq [bump (HTH + 0x44) 23 12 1, onHth fun _ h => { h with report := h.report + 1 }] s else
    seq [each ((List.range 2).filter (fun x => ports.testBit x)) (fun x => each frames (fun f => sendUdp x 2 (some 30362) (rdF s (HTH + 0x61) 31 0) (rdF s (HTH + 0x62) 15 0) f)),
         onHth fun _ h => { h with report := h.report + 1 },
         onLog fun _ l => { l with telemetry := if mask.testBit 3 then l.telemetry.drop 32 else l.telemetry }] s
def execTelemetryReport (complete : Bool) (s : State) : Host.Outcome State Fault Refusal := done (telemetryReport complete) s

end Sys2Proof.Machine
end

