-- ==== Sys2Proof/Machine/Store.lean ====
section
/-! DEFINITION. A write of one word over the crossbar: who may write it (19: R462, R464; 24: R560; the rights sentence of each chapter;
04: R95), and what the write does, from storing a word to performing the command that a register write is (02: R5, R8, R40). SYS_CMD
and HTH_UPD_CTL, whose commands load and check images, are given by the caller. -/
namespace Sys2Proof.Machine
open Sys2Proof

/-! ### Rights -/

/-- Was the word written by a STATIC section (R95)? -/
def staticWord (s : State) (a : Nat) : Bool := s.img.copy.any (fun e => e.2.1 == a)

/-- May master m write the render table word a (R110, R136, R197, R201, R214, R222, R228, R455)? Directory, bodies, Locator tables, chains,
lengths and owner data are the loader's; the meter snapshots nobody's. -/
def tableWriter (s : State) (m a : Nat) : Bool :=
  if a < tblSceneDir then m == 0 || m == 2
  else if tblRoute ≤ a ∧ a < tblMeter then
    (m == 2 || (m ≤ 1 && !staticOf s secRoutes)) && !(tblStage ≤ a && a < tblDest && s.cru.pend.isSome)
  else if tblMeter ≤ a ∧ a < tblObjChain then false
  else if tblBank 0 ≤ a ∧ a < tblBank 2 then m == 2 || (m ≤ 1 && !staticOf s secEq)
  else m == 2

/-- Is the address a stage word of an argument commit: offsets 0x400-0x7FF of a pair's first lane (R262)? -/
def argStage (a : Nat) : Bool :=
  inLaneBlock a && 0x400 ≤ a % 0x1000 && a % 0x1000 < 0x800 && (a - LAN 0) / 0x1000 % 2 == 0


/-- Is the word a stage word of an argument commit that is pending (R262)? -/
def argLocked (s : State) (a : Nat) : Bool :=
  argStage a && (sparseFind s.lan.args ((a - LAN 0) / 0x2000)).isSome

/-- Conditions beside a register's rights: STATIC NETWORK and STREAMS (R95, R391), a valid stream entry (R391), a pending argument or
capture (R262, R499), HPT_IMAGE_LEN only in HOLD, HTH_UPD_BUF only while no update command runs (R533), the node table while a graph
runs (R312). -/
def regOpen (s : State) (m a : Nat) : Bool :=
  if MAC 0 ≤ a ∧ a < STM then
    (match findReg a with
     | some r => r.who != .hearthHostLoader || macWriter s m
     | none => true)
  else if HTH + 0x60 ≤ a ∧ a ≤ HTH + 0x62 then !staticOf s secNetwork
  else if TPR + 0x10 ≤ a ∧ a ≤ TPR + 0x12 then swapMaster s m
  else if inStreams a then
    m == 2 || (!staticOf s secStreams && (a % 16 == 0 || !flag (rd s (a - a % 16)) 35))
  else if inLaneBlock a then !argLocked s a
  else if a = HPT + 3 then s.sys.state == .hold
  else if HTH + 0x1000 ≤ a ∧ a < HTH + 0x2000 then s.hth.job.isNone
  else if PDM + 0x100 ≤ a ∧ a ≤ PDM + 0x109 then s.aud.cap.isNone
  else if BEL + 0x4000 ≤ a ∧ a < BEL + 0x5000 then !graphRuns s
  else true

/-- May master m write the register word a? A write to a read-only register or to a reserved address is accepted and ignored (R5, R8),
but for the blocks whose chapter refuses every other write (DEDUCED: log entry 10). SYS_CMD and SYS_MRST take any write and ignore other masters (R76). Each
sender's mailbox staging and post are its own (R474). -/
def regWriter (s : State) (m a : Nat) : Bool :=
  if isPairWord a then m == 2
  else if a = SYS + 2 ∨ a = SYS + 6 then true
  else if MBX ≤ a ∧ a < MBX + 0x30 ∧ a % 16 ≤ 0xD then m == senderMaster ((a - MBX) / 16)
  else match findReg a with
    | none => !inLaneBlock a
    | some r =>
      (match r.who with
       | .any => true
       | .hearth => m == 0
       | .host => m == 1
       | .loader => m == 2
       | .hearthHost => m ≤ 1
       | .hearthHostLoader => m ≤ 2
       | .ignored => true
       | .refuse => false) && regOpen s m a

/-- The status of a write of address a by master m: 0 OK, 1 REFUSED, 2 DECODE (R464). -/
def writeStatus (s : State) (m a : Nat) : Nat :=
  match portOf a with
  | none => 2
  | some p =>
    if m ≠ 2 && staticWord s a then 1
    else
      let ok : Bool := match p with
        | .hearthRam => m == 0
        | .sram => if a < 0x1008C000 then false else if 0x10100000 ≤ a then m == 9 else m < 0x10 || xbarOk (rd s) ((m - 0x10) / 2) a true
        | .tables => tableWriter s m a
        | .lanes => m == 2
        | .regs => m < 0x10 && regWriter s m a
        | .dram => dramWriteOk s m a && (m < 0x10 || xbarOk (rd s) ((m - 0x10) / 2) a true)
      if ok then 0 else 1

/-- A stage write refused because its commit is pending is counted in STAGE_LOCKED (R201, R262). -/
def countLocked (a : Nat) : Act := fun s =>
  if tblStage ≤ a ∧ a < tblDest ∧ s.cru.pend.isSome then bump (CRU + 0x13) 29 20 1 s
  else if argLocked s a then bump (LAN (2 * ((a - LAN 0) / 0x2000)) + 0x23) 29 20 1 s
  else []

/-! ### Storing -/

/-- A register write by its fields: RW bits take the value, W1C bits written 1 clear, the others stay (R5, R8). -/
def regStore (a : Nat) (w : Word) : Act := fun s =>
  match findReg a with
  | none => []
  | some r => [.mem a (((rd s a &&& ~~~ (wd r.rw)) ||| (w &&& wd r.rw)) &&& ~~~ (w &&& wd r.w1c))]

/-- A coefficient word (R227, R228): reserved words stay zero. A word of the current bank that changes leaves its record part new and part
old until all five words have been written (DEDUCED: log entry 78); a write while a cross-fade runs leaves it so until, after the fade,
all five are written again. -/
def bankStore (a : Nat) (w : Word) : Act := fun s =>
  let b := (a - tblBank 0) / 0x60000
  let o := (a - tblBank 0) % 0x60000
  let key := 0x10000 * b + o / 8
  if 5 ≤ o % 8 then [] else
  let mark : Act := fun s' => match sparseFind s'.tpr.torn key with
    | none => if b = s.tpr.cur ∧ rd s a ≠ w ∧ s.sys.state ≠ .load then onTpr (fun _ t => { t with torn := sparsePut t.torn key (2 ^ (o % 8)) }) s' else []
    | some k =>
      let k := k ||| 2 ^ (o % 8)
      onTpr (fun _ t => { t with torn := if k = 31 then sparseDrop t.torn key else sparsePut t.torn key k }) s'
  seq [poke a w, (if s.tpr.fade.isSome then onTpr (fun _ t => { t with torn := sparsePut t.torn key 0 }) else mark)] s

/-- A render table word: routes and destinations by their own rules (R198, R207), coefficients, and plain words. -/
def tableStore (m a : Nat) (w : Word) : Act :=
  if tblRoute ≤ a ∧ a < tblStage then
    (if a % 2 = 0 then routeCtrlWrite m ((a - tblRoute) / 2) w else routeGainWrite m ((a - tblRoute) / 2) w)
  else if tblDest ≤ a ∧ a < tblMeter then destinationWrite m (a - tblDest) w
  else if tblBank 0 ≤ a ∧ a < tblBank 2 then bankStore a w
  else fun s => [.mem a ((rd s a &&& ~~~ (wd (tableMask a))) ||| (w &&& wd (tableMask a)))]

/-- A DRAM word. The host's first write to the staging region in HOLD discards the image kept there (R513). -/
def dramStore (m a : Nat) (w : Word) : Act := seq [
  dramPut a w 0,
  when (fun s => m == 1 && decide (a ≤ 0x403FFFFF) && s.sys.state == .hold) (seq [
    onImg fun _ g => { g with stagedDiscard := true },
    when (fun s => rdF s (SYS + 5) 7 0 == 1) (onSys fun _ y => { y with imageKept := false })])]

/-! ### Register writes that are commands -/

/-- GO and CANCEL of a commit register: GO stands over CANCEL. -/
def goCancel (w : Word) (go cancel : Act) : Act := if flag w 35 then go else if flag w 34 then cancel else nop

/-- SYS_MRST may name a lane whose pair serves nothing (R63). -/
def lanesFree (s : State) (n : Nat) : Bool :=
  let idle (l : Nat) : Bool := s.life.retired.testBit l || fld (laneStatus s l) 35 32 == 0
  idle (2 * (n / 2)) && idle (2 * (n / 2) + 1)

def writeLoc (m o : Nat) (w : Word) : Act :=
  if o = 0x20 then locProbeSel w
  else if o = 0x104 then locHostSubmit m w
  else if 0x200 ≤ o then onScene fun s c =>
    { c with hostFrame := sparseSet (fun _ => 0) c.hostFrame (o - 0x200) (w &&& wd 0xFFFFFFFF),
             hostDirty := c.hostDirty || flag (rd s (LOC + 0x105)) 35 }
  else regStore (LOC + o) w

def writeCru (m o : Nat) (w : Word) : Act :=
  if o = 0x12 then goCancel w (routeCommit m (fld w 9 0)) (routeCommitCancel m)
  else if o = 0x22 then (if flag w 0 then snap m w else nop)
  else regStore (CRU + o) w

def writeTpr (m o : Nat) (w : Word) : Act :=
  if o = 0x12 then goCancel w (bankSwapRequest m w) (bankSwapCancel m) else regStore (TPR + o) w

/-- BEL_CMD_h: READY, CANCEL, and a reserved OP, which completes with BAD_ITEM; written one after the other no command finds its port BUSY
(log entry 79). BEL_GRAPH_CTL: START, ignored while a graph runs, STOP and COUNT, each by its own bit (R5). -/
def writeBel (m o : Nat) (w : Word) : Act :=
  if o = 0x12 ∨ o = 0x16 then
    (let h := (o - 0x12) / 4
     if fld w 35 34 = 1 then ready m { port := h, busy := false } (fld w 30 20)
     else if fld w 35 34 = 2 then delayListCancel m { port := h, busy := false } (fld w 19 0)
     else belStatus h 8)
  else if o = 0x20 then seq [
    (if flag w 35 then graphStart m (fld w 10 0) else regStore (BEL + o) w), (if flag w 34 then graphStop m else nop)]
  else regStore (BEL + o) w

def writeQch (m o : Nat) (w : Word) : Act :=
  if o = 1 then latchClear m true w
  else if o = 2 then latchClear m false w
  else if o = 0x12 then goCancel w (quenchClear m w) (quenchClearCancel m)
  else regStore (QCH + o) w

def writeTwn (m o : Nat) (w : Word) : Act :=
  if o = 4 then
    (if fld w 3 0 = 1 then handover m else if fld w 3 0 = 2 then realignCmd m
     else if fld w 3 0 = 3 then abortAlign m else pokeF (TWN + 5) 7 0 6)
  else regStore (TWN + o) w

/-- The port registers (15): the staged address, RS-FEC, whose change takes the link down, and the rings. -/
def writeMac (m x o : Nat) (w : Word) : Act := fun s =>
  let a := MAC x + o
  let rx := 0x100 ≤ o && o < 0x120
  let tx := 0x140 ≤ o && o < 0x168
  let ring := a - o % 8
  if o = 4 then macAddrHi m x w s
  else if o = 5 then macAddrLo m x w s
  else if o = 1 then seq [when (fun s => flag (rd s a) 2 != flag w 2) (linkDown x 0), regStore a w] s
  else if (rx || tx) && o % 8 ≤ 2 then (if flag (rd s (ring + 5)) 35 then [] else regStore a w s)
  else if (rx || tx) && o % 8 = 3 then
    (if rx then rxrTail m x ((o - 0x100) / 8) w s else txrTail m x ((o - 0x140) / 8) w s)
  else if (rx || tx) && o % 8 = 5 then
    (if !flag w 35 then ringDisable m x (if rx then (o - 0x100) / 8 else 4 + (o - 0x140) / 8) s
     else seq [regStore a w,
       (if rx then rxrTail m x ((o - 0x100) / 8) (rd s (ring + 3)) else txrTail m x ((o - 0x140) / 8) (rd s (ring + 3)))] s)
  else regStore a w s

/-- A loop's registers (17): RELOCK and the DPLL's post-divider relock; INT is staged and FRAC commits. MIRROR exists on APLL only,
POSTDIV on DPLL only. -/
def writeLoop (m k o : Nat) (w : Word) : Act := fun s =>
  let a := CLKL k + o
  if o = 0 then
    let keep := if k = 1 then 0x3FF10 else if k = 2 then 0x3FF03 else 0x3FF00
    let div := k = 2 ∧ fld w 1 0 ≠ rdF s a 1 0
    seq [poke a (w &&& wd keep), (if flag w 35 ∨ div then seq [when (fun _ => k == 2) serveQueues, relock k] else nop)] s
  else if o = 1 then stage m a (w &&& wd 0xFF) s
  else if o = 2 then wordCommit m k w s
  else regStore a w s
def writeClk (m o : Nat) (w : Word) : Act :=
  if 0x100 ≤ o ∧ o < 0x200 then writeLoop m ((o - 0x100) / 0x40) (o % 0x40) w else regStore (CLK + o) w

/-- XBR_LOCK_i: FORCE, then RELEASE (R471). -/
def writeXbr (m o : Nat) (w : Word) : Act :=
  if 0x100 ≤ o ∧ o < 0x140 then
    seq [(if flag w 1 then lockForce m (o - 0x100) else nop), (if flag w 0 then lockRelease m (o - 0x100) else nop)]
  else regStore (XBR + o) w

/-- MBX_: posts, acknowledgements, doorbells (R475, R476, R481). Network control posts for the peer of its frame (R473). -/
def writeMbx (m o : Nat) (w : Word) : Act := fun s =>
  if o < 0x30 ∧ o % 16 = 0xD then mbxPost (o / 16) (fld w 13 12) (fld w 11 8) (fld w 3 0) s.xbr.postPeer s
  else if 0x400 ≤ o ∧ o < 0x40C ∧ o % 4 = 0 then mbxAck m ((o - 0x400) / 4) (fld w 3 0) s
  else if 0x410 ≤ o ∧ o < 0x413 then mbxDbellSet m (o - 0x410) w s
  else regStore (MBX + o) w s

def writePdm (m o : Nat) (w : Word) : Act :=
  if o = 0x10C then goCancel w (captureStart m (fld w 3 0)) (captureCancel m) else regStore (PDM + o) w

/-- SEC_: commands, the tamper configuration while no latch is set (R556), the report (R558). Whether a fuse blows is the outside's: on
this path a free value. -/
def writeSec (m o : Nat) (w : Word) : Act := fun s =>
  if o = 0x30 then
    (if fld w 1 0 = 1 then challenge m (fld w 35 24) (fld w 15 12) (fld w 23 16) s
     else if fld w 1 0 = 2 then draw 545 (fun v => submit m (fld w 35 24) (v % 2 == 1)) s else [])
  else if o = 0x80 then
    (if s.cocoon.tamper || s.cocoon.calStop || s.cocoon.vbatLost then []
     else onCocoon (fun _ c => { c with tamperCfg := fld w 15 0 }) s)
  else if o = 0x98 then (if flag w 35 then attestation m (fld w 1 0) s else regStore (SEC + o) w s)
  else if 0x40 ≤ o ∧ o < 0x40 + 61 then poke (SEC + o) (w &&& wd 0xFFFFFFFF) s
  else regStore (SEC + o) w s

def writeLif (m o : Nat) (w : Word) : Act :=
  if o = 4 then stage m (LIF + 4) (w &&& wd 0xFFFF) else if o = 5 then lifCalSet1 m w else nop

/-- Clear the chatter flags of inputs whose bit is 1. -/
def clearChatter (is : List Nat) : Act := onPins fun s t =>
  is.foldl (fun (t : Sparse PinF) i => sparsePut t i { pinOf s i with chatter := false }) t
def writePin (o : Nat) (w : Word) : Act :=
  if 0x100 ≤ o ∧ o < 0x110 then pinGpCfg (o - 0x100) w
  else if o = 0x10 then clearChatter ((if flag w 2 then [16] else []) ++ (if flag w 6 then [17] else []))
  else if o = 0x122 then clearChatter ((List.range 16).filter (fun n => flag w n))
  else regStore (PIN + o) w

def writeLane (m a : Nat) (w : Word) : Act :=
  if a % 0x1000 = 0x22 then
    (let p := (a - LAN 0) / 0x2000
     goCancel w (argumentCommit m p (fld w 9 0) (fld w 20 10)) (argumentCommitCancel m p))
  else regStore a w

/-- A write the register target performs. `sp` performs SYS_CMD and HTH_UPD_CTL. -/
def regWrite (sp : Nat → Nat → Word → Act) (m a : Nat) (w : Word) : Act :=
  if isPairWord a then (if a % 2 = 0 then pairStage m a w else pairCommit m (a - 1) w)
  else if inLaneBlock a then writeLane m a w
  else
    let o := a % 0x10000
    match (a - SYS) / 0x10000 with
    | 0 => if o = 2 then sp m a w else if o = 6 then sysMrstWith lanesFree m w else regStore a w
    | 2 => writeLoc m o w
    | 3 => writeCru m o w
    | 4 => writeTpr m o w
    | 5 => writeBel m o w
    | 6 => writeQch m o w
    | 7 => writeTwn m o w
    | 8 => writeMac m 0 o w
    | 9 => writeMac m 1 o w
    | 10 => seq [when (fun _ => inStreams a && a % 16 == 0) (holdEntry a), regStore a w]
    | 11 => writeClk m o w
    | 13 => writeXbr m o w
    | 14 => writeMbx m o w
    | 16 => writePdm m o w
    | 18 => if o = 0x70 then sp m a w else if o = 0x48 then hthLogSel m w.toNat else regStore a w
    | 19 => writeSec m o w
    | 20 => writeLif m o w
    | 21 => writePin o w
    | _ => regStore a w

/-- A write to HTH_UPD_BUF that is refused because STATUS is BUSY is counted in DISCARDS (R533). -/
def countDiscard (m a : Nat) : Act :=
  when (fun s => decide (m = 1 ∧ HTH + 0x1000 ≤ a ∧ a < HTH + 0x2000) && s.hth.job.isSome) (bump (HTH + 0x73) 35 28 1)

/-- What a write that the target performs does. -/
def performWrite (sp : Nat → Nat → Word → Act) (m a : Nat) (w : Word) : Act :=
  match portOf a with
  | none => nop
  | some .hearthRam => poke a w
  | some .sram => poke a w
  | some .tables => tableStore m a w
  | some .lanes => poke a w
  | some .regs => regWrite sp m a w
  | some .dram => dramStore m a w

/-- Does a write to address a leave the word staged at address g held: its own entry is g and g + 1 (R41, R198, R374)? -/
def keepsStaged (a g : Nat) : Bool := a == g || a == g + 1

/-- One word written by a master: another address than its staged entry's discards what it has staged (R41); then the write is performed,
refused and logged, or counted as DECODE (R464). -/
def writeWordWith (sp : Nat → Nat → Word → Act) (m a : Nat) (w : Word) : Act := seq [
  keepStaged m (keepsStaged a),
  fun s => match writeStatus s m a with
    | 0 => performWrite sp m a w s
    | 1 => seq [countLocked a, countDiscard m a, refused m a true] s
    | _ => decodeErr m a true s]

end Sys2Proof.Machine
end

