-- ==== Sys2Proof/Machine/Image.lean ====
section
/-! DEFINITION. The Chrysalis image as bytes (04: R79-R93): the flash's slots and commit records, the header, the section table, the
checks of steps 2 to 13 of R97, and the records. Nothing here touches a table: a check answers a stop (reason, DETAIL) or what it
read. -/
namespace Sys2Proof.Machine
open Sys2Proof

/-- A hold reason of R73 or R100 with its DETAIL. -/
abbrev Stop := Nat × Nat

/-- Are all bytes zero? -/
def zeros (b : List Nat) : Bool := b.all (· == 0)

/-! ### The flash (R79, R81-R83) -/

/-- A 256-byte page of a slot; an erased page reads 0xFF. -/
def slotPage (f : Flash) (slot p : Nat) : List Nat := (sparseFind f.pages (65536 * slot + p)).getD (List.replicate 256 0xFF)

/-- The first n bytes of a slot. -/
def slotBytes (f : Flash) (slot n : Nat) : List Nat := ((List.range ((n + 255) / 256)).flatMap (slotPage f slot)).take n

/-- Is a commit record valid (R82)? -/
def commitValid (b : List Nat) : Bool :=
  b.length == 128 && b.take 4 == [0x43, 0x4D, 0x49, 0x54] && beAt b 0x7C 4 == crc32 (b.take 0x7C) && b.getD 8 0 ≤ 1
  && zeros ((b.drop 9).take 3) && zeros ((b.drop 0x14).take 12) && zeros ((b.drop 0x58).take 36)

/-- SEQUENCE of a record. -/
def commitSeq (b : List Nat) : Nat := beAt b 4 4
/-- SLOT of a record. -/
def commitSlot (b : List Nat) : Nat := b.getD 8 0

/-- The valid record with the highest SEQUENCE (R82). -/
def latestCommit (f : Flash) : Option (List Nat) :=
  ((f.commits.map (·.2)).filter commitValid).foldl (fun acc b => match acc with
    | none => some b
    | some a => if commitSeq a < commitSeq b then some b else acc) none

/-- The bytes of a new record (R81). -/
def commitBytes (seqn slot len secVer digest time : Nat) : List Nat :=
  let b := [0x43, 0x4D, 0x49, 0x54] ++ toBytes 4 seqn ++ [slot, 0, 0, 0] ++ toBytes 4 len ++ toBytes 4 secVer
    ++ List.replicate 12 0 ++ toBytes 48 digest ++ toBytes 8 time ++ List.replicate 36 0
  b ++ toBytes 4 (crc32 b)

/-! ### Header and section table (R85, R86, R89) -/

/-- IMAGE_LENGTH of a header. -/
def imageLength (b : List Nat) : Nat := beAt b 8 4
/-- SECTION_COUNT. -/
def sectionCount (b : List Nat) : Nat := beAt b 0xC 2
/-- SECURITY_VERSION. -/
def securityVersion (b : List Nat) : Nat := beAt b 0x10 4
/-- BUILD. -/
def imageBuild (b : List Nat) : Nat := beAt b 0x14 4
/-- SIGNER_KEY. -/
def signerKey (b : List Nat) : List Nat := (b.drop 0x80).take 97

/-- Step 3 of R97, its reasons in the order of its row. -/
def headerCheck (b : List Nat) : Option Stop :=
  if b.take 4 ≠ [0x43, 0x48, 0x52, 0x59] ∨ beAt b 6 2 ≠ 0x200 ∨ sectionCount b = 0 ∨ 64 < sectionCount b ∨ 64 < securityVersion b
      ∨ !(zeros ((b.drop 0xE).take 2) && zeros ((b.drop 0x1D).take 3) && zeros ((b.drop 0x48).take 0x38)
          && zeros ((b.drop 0xE1).take 0x11F)) then some (0x12, 0)
  else if beAt b 4 2 ≠ 1 then some (0x13, beAt b 4 2)
  else if imageLength b % 64 ≠ 0 ∨ 0x1000000 < imageLength b ∨ imageLength b < 0x200 + 64 * sectionCount b + 128 then some (0x14, 0)
  else if beAt b 0x18 2 ≠ 0xA7 ∨ beAt b 0x1A 2 ≠ 0x1010 ∨ 0xA1 < b.getD 0x1C 0 then some (0x15, 0)
  else none

/-- Entry i of an image. -/
def secEntry (b : List Nat) (i : Nat) : SecEntry :=
  let e := (b.drop (0x200 + 64 * i)).take 64
  { idx := i, typ := beAt e 0 2, flags := beAt e 2 2, off := beAt e 4 4, len := beAt e 8 4, words := beAt e 12 4, key := beAt e 16 4,
    iv := (e.drop 0x14).take 12, tag := (e.drop 0x20).take 16, crc := beAt e 0x30 4, aad := e.take 0x20, rest := e.drop 0x34 }

def SecEntry.encrypted (e : SecEntry) : Bool := e.flags.testBit 0
def SecEntry.static (e : SecEntry) : Bool := e.flags.testBit 1
def SecEntry.vendor (e : SecEntry) : Bool := e.flags.testBit 2
/-- The section's stored bytes. -/
def SecEntry.stored (e : SecEntry) (b : List Nat) : List Nat := (b.drop e.off).take e.len

/-- The section types of R89. -/
def sectionTypes : List Nat := [1, 2, 3, 4, 5, 6, 7, 8, 9, 0xA, 0xB, 0xC, 0xF0]
/-- Those that enter the render digest. -/
def digestTypes : List Nat := [3, 4, 7, 8, 9, 0xA, 0xB, 0xC]
/-- Those that hold records (R90). -/
def recordTypes : List Nat := [3, 4, 5, 6, 7, 8, 9, 0xA, 0xB, 0xC]

/-- Is the entry's structure as R86, R89 and R94 demand, and clear of the earlier entries? -/
def entryOk (total count : Nat) (earlier : List SecEntry) (e : SecEntry) : Bool :=
  sectionTypes.contains e.typ && e.flags < 8 && zeros e.rest
  && e.off % 64 == 0 && 0x200 + 64 * count ≤ e.off && e.off + e.len + 128 ≤ total
  && (if e.vendor || e.typ == 2 then e.words == 0 else e.len == (e.words + 1) / 2 * 9)
  && (e.encrypted || (e.key == 0 && zeros e.iv && zeros e.tag))
  && (e.typ != 1 || (e.vendor && !e.encrypted)) && (e.typ != 2 || e.flags == 0) && (e.typ != 4 || e.static)
  && (e.typ != 0xF0 || e.words ≤ 65536)
  && earlier.all (fun x => e.off + e.len ≤ x.off || x.off + x.len ≤ e.off)

/-- Step 4 entry by entry: a structure error, then a duplicate (R86, R89). -/
def entriesCheck (total count : Nat) : List SecEntry → List SecEntry → Option Stop
  | _, [] => none
  | earlier, e :: r =>
    if !entryOk total count earlier e then some (0x16, e.idx)
    else if earlier.any (fun x => x.typ == e.typ) then some (0x18, e.typ)
    else entriesCheck total count (earlier ++ [e]) r

/-- The table, or the stop of step 4; a required type that is absent is reported last (R89). -/
def tableCheck (b : List Nat) : Stop ⊕ List SecEntry :=
  let es := (List.range (sectionCount b)).map (secEntry b)
  match entriesCheck (imageLength b) (sectionCount b) [] es with
  | some st => .inl st
  | none =>
    let need := [1, 3, 4] ++ (if es.any (·.encrypted) then [2] else [])
    match need.find? (fun t => !es.any (fun e => e.typ == t)) with
    | some t => .inl (0x17, t)
    | none => .inr es

/-! ### Signer, digest, firmware, keys, decryption (steps 5 to 12) -/

/-- The slot of the ACTIVE owner whose hash is that of SIGNER_KEY (step 5). -/
def signerSlot (s : State) (b : List Nat) : Option Nat :=
  let h := Config.sha384 (signerKey b)
  (List.range 4).find? (fun i => ownerIsActive s i && ownerHash s i == h)

/-- SHA-384 of the signed range (R88). -/
def imageDigest (b : List Nat) : Nat := Config.sha384 (b.take (imageLength b - 128))

/-- Does the signature block hold the image's signature (R88)? -/
def signatureOk (b : List Nat) (digest : Nat) : Bool :=
  let g := (b.drop (imageLength b - 128)).take 128
  g.take 4 == [0x53, 0x49, 0x47, 0x31] && zeros ((g.drop 4).take 28) && Config.ecdsaOk (signerKey b) digest (g.drop 32)

/-- Step 10 on a firmware package (R543, R544). A package whose own fields leave nothing to verify fails its signature. -/
def firmwareCheck (s : State) (p : List Nat) : Option Stop :=
  let slot := p.getD 9 2
  let len := beAt p 12 4
  let pub := (p.drop 16).take 97
  if p.take 4 ≠ [0x48, 0x46, 0x57, 0x31] ∨ 1 < slot ∨ len < 224 ∨ p.length < len ∨ Config.sha384 pub ≠ Config.otpVendorKey slot
      ∨ s.otp.vendorRevoked.testBit slot ∨ !Config.ecdsaOk pub (Config.sha384 (p.take (len - 96))) ((p.drop (len - 96)).take 96)
  then some (0x1E, 0)
  else if beAt p 4 2 < vendorFloor s ∨ 0xA1 < p.getD 8 0 then some (0x1F, 0)
  else none

/-- Unwrap entry e of the wrapped-key list for owner slot s (R548); none where EPH_e is off the curve or the tag fails. -/
def unwrapKey (s : State) (w : List Nat) (slot e : Nat) : Option Nat :=
  let x := (w.drop (32 + 157 * e)).take 157
  match Config.p384MulX (ownerScalar s slot) (x.take 97) with
  | none => none
  | some z =>
    let kek := Config.sha384 (z ++ [0x57, 0x52, 0x41, 0x50] ++ toBytes 2 e ++ [slot]) >>> 128
    (Config.gcmOpen kek ((x.drop 97).take 12) (w.take 32) ((x.drop 109).take 32) (x.drop 141)).map beNat

/-- Unwrap entries in order; the first that fails is the DETAIL. -/
def unwrapAll (s : State) (w : List Nat) (slot : Nat) : List Nat → Stop ⊕ List (Nat × Nat)
  | [] => .inr []
  | e :: r =>
    if beAt w 4 2 ≤ e then .inl (0x20, e) else
    match unwrapKey s w slot e with
    | none => .inl (0x20, e)
    | some k => match unwrapAll s w slot r with
      | .inl st => .inl st
      | .inr ks => .inr ((e, k) :: ks)

/-- Step 11: entry 0 and every entry an encrypted section names (R548), unless the tamper lockout bars it (R557). -/
def keysCheck (s : State) (b : List Nat) (es : List SecEntry) (slot : Nat) : Stop ⊕ List (Nat × Nat) :=
  match es.find? (fun e => e.typ == 2) with
  | none => .inr []
  | some we =>
    let w := we.stored b
    if s.cocoon.tamper && s.cocoon.tamperCfg.testBit 13 then .inl (0x20, 0xFFFFF)
    else if w.take 4 ≠ [0x57, 0x4B, 0x4C, 0x31] ∨ beAt w 4 2 = 0 ∨ 16 < beAt w 4 2 ∨ w.getD 6 0 ≠ slot ∨ !zeros ((w.drop 7).take 25)
        ∨ w.length < 32 + 157 * beAt w 4 2 then .inl (0x20, 0)
    else
      let named := (es.filter (·.encrypted)).map (·.key)
      unwrapAll s w slot (0 :: (named.filter (· != 0)).foldl (fun (l : List Nat) k => if l.contains k then l else l ++ [k]) [])

/-- The packed plaintext of a section (step 12): decrypted under its section key (R87, R549). -/
def sectionPlain (b : List Nat) (keys : List (Nat × Nat)) (e : SecEntry) : Option (List Nat) :=
  if !e.encrypted then some (e.stored b) else
  match keys.find? (fun k => k.1 == e.key) with
  | none => none
  | some k => Config.gcmOpen (kdf k.2 [0x53, 0x45, 0x43, 0x54] (toBytes 2 e.typ)) e.iv e.aad (e.stored b) e.tag

/-- Every section in table order with its plaintext; the first that fails its tag is the DETAIL. -/
def decryptAll (b : List Nat) (keys : List (Nat × Nat)) : List SecEntry → Stop ⊕ List (SecEntry × List Nat)
  | [] => .inr []
  | e :: r => match sectionPlain b keys e with
    | none => .inl (0x21, e.idx)
    | some p => match decryptAll b keys r with
      | .inl st => .inl st
      | .inr ps => .inr ((e, p) :: ps)

/-- The render digest (R103). -/
def renderDigestOf (ps : List (SecEntry × List Nat)) : Nat :=
  Config.sha384 ((ps.filter (fun p => digestTypes.contains p.1.typ)).flatMap (fun p => toBytes 2 p.1.typ ++ p.2))

/-! ### Records (R90) -/

/-- Unpack n words (R84). -/
def unpackWords : Nat → List Nat → List Word
  | 0, _ => []
  | 1, b => [wd (beAt b 0 9 >>> 36)]
  | n + 2, b => wd (beAt b 0 9 >>> 36) :: wd (beAt b 0 9) :: unpackWords n (b.drop 9)

/-- The permitted destinations of a type, first and last address (R89); neighbouring blocks are one range. -/
def permitted (typ : Nat) : List (Nat × Nat) :=
  let render := (0x20000000, 0x27FFFFFF)
  let block (a : Nat) : Nat × Nat := (a, a + 0xFFFF)
  match typ with
  | 4 => [(QCH, TWN + 0xFFFF), block PIN, block CRU]
  | 5 => [(MAC 0, MAC 1 + 0xFFFF)]
  | 6 => [block STM]
  | 7 => [(TDM, PDM + 0xFFFF)]
  | 8 => [block LOC, render]
  | 9 => [block TPR, render]
  | 0xA => [block CRU, render]
  | 0xB => [block LOC, render]
  | 0xC => [(0x28000000, 0x291FFFFF), (0x30200000, 0x30247FFF), block BEL]
  | _ => []

/-- Does a span of n words from a lie in a permitted range? -/
def spanOk (typ a n : Nat) : Bool := (permitted typ).any (fun r => r.1 ≤ a && a + max n 1 ≤ r.2 + 1)

/-- Does a configuration word of a TDM port break a limit taken alone (R500)? -/
def tdmParamOk (w : Word) : Bool :=
  fld w 9 0 == 0 && fld w 29 28 ≤ 2 && 1 ≤ fld w 27 25 && fld w 27 25 ≤ 5 && 1 ≤ fld w 24 19 && fld w 24 19 ≤ 2 ^ fld w 27 25

/-- Is a parameter's value in range, taken alone (R93, R126, R230, R364, R372, R411, R500, R529)? -/
def paramOk (typ id : Nat) (v : List Word) : Bool :=
  let x := (v.headD 0).toNat
  let one := v.length == 1
  let ip (i : Nat) : Bool := (v.getD i 0).toNat < 2 ^ 32
  match typ with
  | 3 => one && (match id with
      | 1 => x ≤ 2
      | 2 => x ≤ 3
      | 3 => x == 0 || (100 ≤ x && x ≤ 60000)
      | 4 => x ≤ 1
      | _ => false)
  | 5 =>
    if id = 0x200 ∨ id = 0x201 ∨ id = 0x223 then one && x ≤ 1
    else if id = 0x202 ∨ id = 0x203 then v.length == 2 && x < 2 ^ 16 && ip 1
    else if id = 0x204 ∨ id = 0x205 then v.length == 3 && ip 0 && 1 ≤ (v.getD 1 0).toNat && (v.getD 1 0).toNat ≤ 30 && ip 2
    else if id = 0x206 ∨ id = 0x207 then
      v.length == 2 && x % 2 ^ 35 < 4095 && (x < 2 ^ 35 || 1 ≤ x % 2 ^ 35) && (v.getD 1 0).toNat < 2 ^ 24
    else if id = 0x208 then one && x < 32
    else if id = 0x209 then one && x < 4
    else if 0x210 ≤ id ∧ id ≤ 0x213 then 1 ≤ v.length && v.length ≤ 16 && v.all (fun w => isGroup w.toNat && w.toNat < 2 ^ 32)
    else if id = 0x220 then v.length == 3 && ip 0 && (v.getD 1 0).toNat < 2 ^ 16 && (v.getD 2 0).toNat < 4
    else if id = 0x221 then one && (x == 0 || (100 ≤ x && x ≤ 60000))
    else if id = 0x222 then one && x < 32
    else if id = 0x230 then v.length == 8 && (List.range 8).all ip && (v.getD 7 0).toNat < 2 ^ 31
    else if id = 0x2E0 ∨ id = 0x2E1 then one && ip 0
    else id == 0x2E2 && one && x < 2 ^ 16
  | 6 => one && (match id with
      | 0x100 => 20000 ≤ x && x ≤ 10000000
      | 0x101 => x ≤ 127
      | 0x102 => x ≤ 1
      | 0x103 => 100 ≤ x && x ≤ 10000
      | 0x104 => 1 ≤ x && x ≤ 3
      | 0x105 => x ≤ 2 || (9 ≤ x && x ≤ 15)
      | 0x106 => 2 ≤ x && x ≤ 10
      | 0x107 => x ≤ 1
      | _ => false)
  | 7 =>
    let w := v.headD 0
    if 0x400 ≤ id ∧ id < 0x408 then one && tdmParamOk w
    else if 0x410 ≤ id ∧ id < 0x414 then one && fld w 34 1 == 0
    else if 0x420 ≤ id ∧ id < 0x430 then one && fld w 32 4 == 0 && fld w 3 0 ≤ 3
    else false
  | 0xB => id == 0x800 && one && (x ≤ 63 || x == 0xFFFF)
  | _ => false

/-- Are the words of a PAIR record complements, two by two? -/
def pairsOk : List Word → Bool
  | a :: b :: r => b == notW a && pairsOk r
  | [] => true
  | [_] => false

/-- The records of a section (R90), on fuel; `idx` and `ord` give the DETAIL (R100). DESIGN CHOICE (log entry 92): the spec gives no code for a
COUNT outside its range (PARAM not 1-16, FILL 0, END not 0) nor for non-zero bits 35:32 of the second word; all are RECORD_FORMAT. Records
are numbered from 0, and a missing END has the number that follows the last one (DESIGN CHOICE: log entry 12). -/
def parseRecs (typ idx : Nat) : Nat → Nat → List Word → Stop ⊕ List Rec
  | 0, ord, _ => .inl (0x22, idx * 2 ^ 14 + min ord 16383)
  | f + 1, ord, ws =>
    let at' := idx * 2 ^ 14 + min ord 16383
    match ws with
    | [] => .inl (0x22, at')
    | h :: r =>
      let kind := fld h 35 28
      let count := fld h 27 0
      let n := if kind = 2 then 1 else if kind = 3 then 2 * count else count
      let d := (r.headD 0).toNat
      let data := (r.drop 1).take n
      if kind = 0 then (if count = 0 ∧ r.isEmpty then .inr [] else .inl (0x22, at'))
      else if 4 < kind ∨ r.isEmpty ∨ 2 ^ 32 ≤ d ∨ data.length < n ∨ (kind = 2 ∧ count = 0) ∨ (kind = 4 ∧ (count = 0 ∨ 16 < count)) then
        .inl (0x22, at')
      else if typ = 4 ∧ kind ≠ 3 then .inl (0x25, at')
      else if kind = 4 ∧ !paramOk typ (d % 2 ^ 16) data then .inl (0x26, d % 2 ^ 16)
      else if kind ≠ 4 ∧ (!spanOk typ d (if kind = 3 then 2 * count else count) ∨ (kind = 3 ∧ d % 2 = 1)) then .inl (0x23, at')
      else if kind = 3 ∧ !pairsOk data then .inl (0x24, at')
      else match parseRecs typ idx f (ord + 1) (r.drop (1 + n)) with
        | .inl st => .inl st
        | .inr rs => .inr ({ kind := kind, dest := if kind = 4 then d % 2 ^ 16 else d, count := count, data := data } :: rs)

/-- Step 13 over the sections in table order. -/
def parseAll : List (SecEntry × List Nat) → Stop ⊕ List Sec'
  | [] => .inr []
  | (e, p) :: r =>
    let ws := unpackWords e.words p
    match (if recordTypes.contains e.typ then parseRecs e.typ e.idx (ws.length + 1) 0 ws else .inr []) with
    | .inl st => .inl st
    | .inr rs => match parseAll r with
      | .inl st => .inl st
      | .inr ss => .inr ({ e := e, recs := rs } :: ss)

/-- The value words of a parameter; the later record stands (R91). -/
def paramOf (ss : List Sec') (id : Nat) : Option (List Word) :=
  ((ss.flatMap (·.recs)).filter (fun r => r.kind == 4 && r.dest == id)).getLast?.map (·.data)

/-- A required parameter that is missing: SAMPLE_RATE, and the address of each port that a NETWORK section enables (R93, R372). It is looked
for after every record has parsed (DESIGN CHOICE: log entry 12). -/
def missingParam (ss : List Sec') : Option Nat :=
  if (paramOf ss 1).isNone then some 1
  else if !ss.any (fun x => x.e.typ == 5) then none
  else
    let en := (((paramOf ss 0x209).getD [3]).headD 0).toNat
    [0, 1].findSome? (fun x => if en.testBit x && (paramOf ss (0x204 + x)).isNone then some (0x204 + x) else none)

/-- Steps 3 to 5: the table and the signer's slot. -/
def headCheck (s : State) (b : List Nat) : Stop ⊕ (List SecEntry × Nat) :=
  match headerCheck b with
  | some st => .inl st
  | none => match tableCheck b with
    | .inl st => .inl st
    | .inr es => match signerSlot s b with
      | none => .inl (0x19, 0)
      | some k => .inr (es, k)

/-- Steps 8 to 12: signature, rollback, firmware, keys, decryption. -/
def bodyCheck (s : State) (b : List Nat) (es : List SecEntry) (slot : Nat) :
    Stop ⊕ (List (Nat × Nat) × List (SecEntry × List Nat)) :=
  let fw := ((es.find? (fun e => e.typ == 1)).map (fun e => e.stored b)).getD []
  if !signatureOk b (imageDigest b) then .inl (0x1C, 0)
  else if securityVersion b < s.otp.rollback then .inl (0x1D, securityVersion b * 2 ^ 8 + s.otp.rollback)
  else match firmwareCheck s fw with
    | some st => .inl st
    | none => match keysCheck s b es slot with
      | .inl st => .inl st
      | .inr ks => match decryptAll b ks es with
        | .inl st => .inl st
        | .inr ps => .inr (ks, ps)

/-- Step 13. -/
def recordCheck (ps : List (SecEntry × List Nat)) : Stop ⊕ List Sec' :=
  match parseAll ps with
  | .inl st => .inl st
  | .inr ss => match missingParam ss with
    | some id => .inl (0x26, id)
    | none => .inr ss

/-- Everything of a verified image, from what its checks read. -/
def imageOf (b : List Nat) (es : List SecEntry) (slot : Nat) (ks : List (Nat × Nat)) (ps : List (SecEntry × List Nat))
    (ss : List Sec') : Image :=
  { bytes := b, digest := imageDigest b, signer := slot,
    fw := ((es.find? (fun e => e.typ == 1)).map (fun e => e.stored b)).getD [], keys := ks, renderDigest := renderDigestOf ps, secs := ss,
    owner := ((ps.find? (fun p => p.1.typ == 0xF0)).map (fun p => unpackWords p.1.words p.2)).getD [] }

/-! ### The staging region (R511) -/

/-- Image bytes as staging words: four bytes each in bits 31:0. -/
def stagingWords (b : List Nat) : List Word := packBytes b ((b.length + 3) / 4)

/-- Write them to the staging region (R97). -/
def stageWords (ws : List Word) : Act := each ws.zipIdx (fun e => dramPut (0x40000000 + e.2) e.1 0)

/-- The first n bytes of the staging region. -/
def stagedBytes (s : State) (n : Nat) : List Nat :=
  ((List.range ((n + 3) / 4)).flatMap (fun i => toBytes 4 (fld (dramWord s (0x40000000 + i)) 31 0))).take n

/-- The first staged word, of the first n bytes, that reads as uncorrectable (R101, R444). -/
def stagedBad (s : State) (n : Nat) : Option Nat :=
  (List.range ((n + 3) / 4)).find? (fun i => dramBad s (0x40000000 + i))

end Sys2Proof.Machine
end

