-- ==== Sys2Proof/Machine/Checks.lean ====
section
/-! DEFINITION. Step 15 of R97: the checks that the owning chapters make of the tables as step 14 left them, each by its type code and
its number (05: R107, R126; 06: R143; 08: R216; 09: R236; 10: R264; 12: R314; 13: R339; 16: R412; 18: R458; 20: R500). -/
namespace Sys2Proof.Machine
open Sys2Proof

/-- What the checks look at: the tables, the verified sections. -/
structure LoadView where
  m : Rd
  secs : List Sec'

/-- Sum of a list. -/
def total (l : List Nat) : Nat := l.foldl (· + ·) 0

/-- Do two runs of numbers, first and length, meet? -/
def meets (a n b k : Nat) : Bool := 0 < n && 0 < k && a < b + k && b < a + n

/-- Do two members of a list of runs meet? -/
def anyMeet : List (Nat × Nat) → Bool
  | [] => false
  | r :: rs => rs.any (fun q => meets r.1 r.2 q.1 q.2) || anyMeet rs

/-- Has the image a section of a type? -/
def LoadView.has (v : LoadView) (typ : Nat) : Bool := v.secs.any (fun x => x.e.typ == typ)

/-- The words a record writes. -/
def Rec.span (r : Rec) : Nat := if r.kind = 3 then 2 * r.count else if r.kind = 4 then 0 else r.count

/-- Did a section of a type write an address? -/
def LoadView.wrote (v : LoadView) (typ a : Nat) : Bool :=
  (v.secs.filter (fun x => x.e.typ == typ)).any (fun x => x.recs.any (fun r => r.dest ≤ a && a < r.dest + r.span && r.kind != 4))

/-- A parameter's first value word. -/
def LoadView.param (v : LoadView) (id d : Nat) : Nat := (((paramOf v.secs id).getD []).headD (wd d)).toNat
/-- SAMPLE_RATE. -/
def LoadView.rate (v : LoadView) : Nat := v.param 1 0

/-! ### Targets and speakers (R106, R137) -/

/-- Targets whose KIND is not OFF. -/
def LoadView.on (v : LoadView) : List Nat := (List.range 8).filter (fun t => tgtKind v.m t != 0)
/-- VIRTUAL_COUNT. -/
def virtualCount (m : Rd) (t : Nat) : Nat := fld (tdesc m t 0) 9 0
/-- The real and virtual speakers of a target: first and number. -/
def speakerRange (m : Rd) (t : Nat) : Nat × Nat := (tgtBase m t, tgtFeeds m t + virtualCount m t)
def isSpeaker (m : Rd) (t k : Nat) : Bool := (speakerRange m t).1 ≤ k && k < (speakerRange m t).1 + (speakerRange m t).2
/-- Speaker numbers of the targets in use, each with its target. DESIGN CHOICE (log entry 72): checks 1 and 5 of R143 name "a speaker" and
"a neighbour list"; an entry of the speaker table that no target in use names is no speaker here, and is not looked at. -/
def LoadView.speakers (v : LoadView) : List (Nat × Nat) :=
  v.on.flatMap (fun t => (List.range (speakerRange v.m t).2).map (fun i => (t, (speakerRange v.m t).1 + i)))
/-- Word j of speaker k. -/
def spk (m : Rd) (k j : Nat) : Word := m (tblLocator + 0x1000 + 16 * k + j)
/-- Word 0 of facet f. -/
def facet (m : Rd) (f : Nat) : Word := m (tblLocator + 0x8000 + 16 * f)
/-- The facet-index region of a target: first cell and cells. -/
def indexRegion (m : Rd) (t : Nat) : Nat × Nat := (fld (tdesc m t 1) 13 0, 4 ^ fld (tdesc m t 1) 18 16)

/-- LAYOUTS checks 1 to 13 (R143, R458). The ranges that R106 gives a target's fields have no check of their own (DESIGN CHOICE: log entry
14). -/
def layoutCheck (v : LoadView) (n : Nat) : Bool :=
  let m := v.m
  match n with
  | 1 => v.speakers.any (fun tk =>
      let sq (j : Nat) : Int := si (spk m tk.2 j) * si (spk m tk.2 j)
      decide (2 ^ 48 < (sq 0 + sq 1 + sq 2 - 2 ^ 68).natAbs))
  | 2 => (List.range 2048).any (fun f =>
      let w := facet m f
      let t := fld w 34 32
      flag w 35 && (tgtKind m t == 0 || !isSpeaker m t (fld w 9 0) || !isSpeaker m t (fld w 19 10)
        || (fld w 29 20 != 0x3FF && !isSpeaker m t (fld w 29 20))))
  | 3 => v.on.any (fun t => 16384 < (indexRegion m t).1 + (indexRegion m t).2) || anyMeet (v.on.map (indexRegion m))
  | 4 => v.on.any (fun t => (List.range (indexRegion m t).2).any (fun i =>
      let c := m (tblLocator + 0x10000 + (indexRegion m t).1 + i)
      let cnt := fld c 20 16
      cnt == 0 || 16 < cnt || 65536 < fld c 15 0 + cnt || (List.range cnt).any (fun j =>
        let w := facet m (fld (m (tblLocator + 0x20000 + fld c 15 0 + j)) 10 0)
        !flag w 35 || fld w 34 32 != t)))
  | 5 => v.speakers.any (fun tk =>
      let w := spk m tk.2 4
      let cnt := fld w 19 16
      12 < cnt || 16384 < fld w 13 0 + cnt || (List.range cnt).any (fun j =>
        let k := fld (m (tblLocator + 0x30000 + fld w 13 0 + j)) 9 0
        !isSpeaker m tk.1 k && v.on.any (fun t => isSpeaker m t k)))
  | 6 => v.on.any (fun t => 16 < fld (tdesc m t 7) 4 0 || (List.range (fld (tdesc m t 7) 4 0)).any (fun i =>
      let k := fld (tdesc m t (16 + i)) 9 0
      k < tgtBase m t || tgtBase m t + tgtFeeds m t ≤ k))
  | 7 => v.on.any (fun t =>
      fld (tdesc m t 1) 18 16 < 3 || fld (tdesc m t 3) 27 0 < 2 ^ 20 || 0x0B400000 < fld (tdesc m t 3) 27 0
      || decide (si (tdesc m t 4) < 0) || decide (si (tdesc m t 5) ≤ 0) || decide (si (tdesc m t 6) < 0))
  | 8 =>
    let sound := fld (m LOC) 24 0
    let drift := fld (m (LOC + 1)) 31 16
    let slope := fld (m (LOC + 1)) 15 0
    let step := (m (LOC + 3)).toNat
    sound < 300 * 2 ^ 16 || 380 * 2 ^ 16 < sound || drift == 0 || 32768 < drift || slope == 0 || 32768 < slope
      || fld (m (LOC + 2)) 19 0 < 16 || step < 2 ^ 23 || 2 ^ 31 < step
  | 9 => anyMeet ((List.range 8).map (speakerRange m))
  | 10 => (List.range 2048).any (fun l => 64 * 2 ^ v.rate < (m (tblLineLen + l)).toNat)
  | 11 => 229376 < total ((List.range 2048).map (fun l => max 1 (fld (m (tblLineLen + l)) 8 0)))
  | 12 => anyMeet (v.on.map (fun t => (tgtFirst m t, tgtFeeds m t)))
  | 13 => v.on.any (fun t => 1024 < (speakerRange m t).1 + (speakerRange m t).2)
  | _ => false

/-! ### SAFETY (R339) -/

/-- Does feed f carry a valid destination? -/
def hasDest (m : Rd) (f : Nat) : Bool := (List.range 4).any (fun d => flag (m (tblDest + 4 * f + d)) 35)

def safetyCheck (v : LoadView) (n : Nat) : Bool :=
  let m := v.m
  let limit := fld (m (QCH + 0x800)) 26 16
  let ceil (f : Nat) : Nat := QCH + 0x1000 + 2 * f
  match n with
  | 1 => !v.wrote 4 (QCH + 0x800) || 1024 < fld (m (QCH + 0x800)) 10 0 || 1024 < limit
  | 2 => (List.range limit).any (fun f =>
      (hasDest m f || v.on.any (fun t => tgtFirst m t ≤ f && f < tgtFirst m t + tgtFeeds m t)) && !v.wrote 4 (ceil f))
  | 3 => (List.range 1024).any (fun f => limit ≤ f && hasDest m f)
  | 4 => (List.range 1024).any (fun f => flag (m (ceil f)) 35) || fld (m (QCH + 0x802)) 7 0 == 0 || fld (m (QCH + 0x802)) 23 8 == 0
  | 5 => [PIN, PIN + 2].any (fun a => fld (m a) 16 0 == 0 || 100000 < fld (m a) 16 0)
  | _ => false

/-! ### STREAMS (R412, R403) -/


/-- The fields that a receive and a transmit entry share, and the payload (R390, R412). -/
def streamFieldsOk (rate portEn : Nat) (w : Word) : Bool :=
  96 ≤ entryPt w && 1 ≤ entryChans w && entryChans w ≤ 64
  && samplesPerPacket (fld w 17 16) rate * entryChans w * entryBytes w ≤ 8192
  && [0, 1].all (fun x => !entryOn w x || portEn.testBit x)

/-- Wire size of a transmit stream's frame on a port, with preamble and inter-frame gap (R403). -/
def streamWire (m : Rd) (rate x t : Nat) : Nat :=
  let w := txE m t 0
  78 + (if macVlan m x then 4 else 0) + samplesPerPacket (fld w 17 16) rate * entryChans w * entryBytes w

def streamsCheck (v : LoadView) (n : Nat) : Bool :=
  let m := v.m
  let rxs := (List.range 128).filter (fun e => entryValid (rxE m e 0))
  let txs := (List.range 128).filter (fun t => entryValid (txE m t 0))
  let en := v.param 0x209 3
  let S (w : Word) : Nat := samplesPerPacket (fld w 17 16) v.rate
  match n with
  | 1 => v.rate == 2 && (!rxs.isEmpty || !txs.isEmpty)
  | 2 =>
    (List.range 128).any (fun e => (List.range 16).any (fun j =>
      (rxE m e j &&& ~~~ (wd (rxMask j))) != 0 || (txE m e j &&& ~~~ (wd (txMask j))) != 0))
    || rxs.any (fun e => !streamFieldsOk v.rate en (rxE m e 0))
    || txs.any (fun t => !streamFieldsOk v.rate en (txE m t 0) || fld (txE m t 1) 15 8 == 0)
  | 3 =>
    let rs := rxs.map (fun e => (fld (rxE m e 1) 10 0, entryChans (rxE m e 0)))
    anyMeet rs || rs.any (fun r => 0x400 < r.1 + r.2)
  | 4 => [0, 1].any (fun x =>
      let on := rxs.filter (fun e => entryOn (rxE m e 0) x)
      let k := 2 + 3 * x
      on.any (fun a => on.any (fun b => a < b && rxE m a k == rxE m b k && rxE m a (k + 1) == rxE m b (k + 1)
        && (rxE m a (k + 2) == 0 || rxE m b (k + 2) == 0 || rxE m a (k + 2) == rxE m b (k + 2)))))
  | 5 => [0, 1].any (fun x =>
      let on := txs.filter (fun t => entryOn (txE m t 0) x)
      98304 < total (on.map (streamWire m v.rate x))
      || 5 * 32 * rateHz v.rate * total (on.map (fun t => streamWire m v.rate x t * (96 / max 1 (S (txE m t 0))))) > 4 * 96 * 10 ^ 11)
  | 6 =>
    let o := fld (m (STM + 1)) 31 0
    480 * 10 ^ 9 < o * rateHz v.rate || rxs.any (fun e => o * rateHz v.rate < S (rxE m e 0) * 10 ^ 9 + 20000 * rateHz v.rate)
  | 7 => [0, 1].any (fun x => flag (m (STM + 2)) (32 + x) && !en.testBit x)
  | _ => false

/-! ### PORTS, EQ_BANKS, ROUTES (R500, R236, R216) -/

/-- PORTS checks 1 to 3 (R500), made whatever EN says of the port (DEDUCED: log entry 97). -/
def portsCheck (v : LoadView) (n : Nat) : Bool :=
  let m := v.m
  match n with
  | 1 => (List.range 8).any (fun p => 32 / 2 ^ v.rate < 2 ^ fld (tdmCfg m p) 27 25)
  | 2 => v.rate == 2 && (List.range 4).any (fun c => flag (m (PDM + c)) 35 && !flag (m (PDM + c)) 0)
  | 3 => (List.range 16).any (fun k => flag (pdmCfg m k) 35 && !flag (m (PDM + k / 4)) 35)
  | _ => false

/-- The initial scene applied to the reset values of R108, where it gives one that parses (R107). Its OBJECT_KEYFRAMES wait for B0
(R128): no budget depends on them. -/
def LoadView.startScene (v : LoadView) : Rd :=
  let m : Rd := fun a => if tblObject ≤ a ∧ a ≤ tblObject + 0xFFFF then resetWord a else v.m a
  match storedScene m (v.param 0x800 0xFFFF) with
  | none => m
  | some cs => tabRd m (initialTab m cs)

/-- Is record r stable in both banks (R236 check 4)? -/
def stable (m : Rd) (r : Nat) : Bool := [0, 1].all (fun b =>
  let a1 := si (m (tblBank b + 8 * r + 3))
  let a2 := si (m (tblBank b + 8 * r + 4))
  decide (a2.natAbs < 2 ^ 33 - 2) && decide ((a1.natAbs : Int) < 2 ^ 33 + a2 - 2))

def eqCheck (v : LoadView) (n : Nat) : Bool :=
  let m := v.m
  let obj (c : Nat) : Nat × Nat := (fld (m (tblObjChain + c)) 13 0, fld (m (tblObjChain + c)) 19 16)
  let feed (f : Nat) : Nat × Nat := (fld (m (tblFeedChain + 2 * f)) 15 0, fld (m (tblFeedChain + 2 * f)) 21 16)
  match n with
  | 1 => (List.range 4095).any (fun c => 14 < (obj c).2 || (0 < (obj c).2 && 16384 < (obj c).1 + (obj c).2))
  | 2 => (List.range 1024).any (fun f =>
      32 < (feed f).2 || (0 < (feed f).2 && ((feed f).1 < 16384 || 49152 < (feed f).1 + (feed f).2)))
  | 3 => (List.range 1024).any (fun f =>
      let al := (m (tblFeedChain + 2 * f + 1)).toNat
      (0 < al && al < 4 * 2 ^ 16) || (lineLen m (1024 + f) - 5) * 2 ^ 16 < al)
  | 4 => ((List.range 4095).map obj ++ (List.range 1024).map feed).any (fun d =>
      (List.range d.2).any (fun i => !stable m (d.1 + i)))
  | 5 =>
    let s := v.startScene
    (List.range 1024).any (fun o => fld (s (objW o 9)) 11 0 != 0xFFF && !v.wrote 9 (tblObjChain + fld (s (objW o 9)) 11 0))
  | _ => false

def routesCheck (v : LoadView) (n : Nat) : Bool :=
  let m := v.m
  match n with
  | 1 => (List.range 4096).any (fun e => !ctrlOk (m (tblRoute + 2 * e)))
  | 2 => (List.range 4096).any (fun i => m (tblDest + i) != 0 && !destOk m i (m (tblDest + i)))
  | 3 => (List.range 4096).any (fun i =>
      let w := m (tblDest + i)
      flag w 35 && (if fld w 34 32 = 0 then !entryValid (txE m (fld w 14 8) 0) else !tdmEn m (fld w 10 8)))
  | _ => false

/-! ### SCENES (R126, R107) -/

/-- Is every value of a stored command in the ranges of R106 and R108? -/
def sceneValueOk (m : Rd) (c : SceneCmd) : Bool :=
  match c with
  | .keyframes o _ kf => o < 1024 && kf.all (fun k => k.2.1 ≤ 2)
  | .objectSet _ _ _ => cmdCheck m 0 c == 0
  | .targetSet _ _ _ => cmdCheck m 0 c == 0
  | .recall _ _ => true
  | .announce _ => true

/-- Does a directory entry run beyond the body region (check 3)? Such an entry has no bytes to parse, so checks 1 and 2 leave it out. -/
def beyondBodies (m : Rd) (i : Nat) : Bool :=
  65536 < fld (m (tblSceneDir + 2 * i)) 15 0 + (fld (m (tblSceneDir + 2 * i + 1)) 17 0 + 3) / 4

def scenesCheck (v : LoadView) (n : Nat) : Bool :=
  let m := v.m
  let valid := (List.range 64).filter (fun i => flag (m (tblSceneDir + 2 * i + 1)) 35)
  let inside := valid.filter (fun i => !beyondBodies m i)
  let init := v.param 0x800 0xFFFF
  match n with
  | 1 => inside.any (fun i => ((storedScene m i).getD []).any (fun c => match c with
      | .recall _ _ => true
      | .announce _ => true
      | _ => false))
  | 2 => inside.any (fun i => match storedScene m i with
      | none => true
      | some cs => !cs.all (sceneValueOk m))
  | 3 => valid.any (beyondBodies m)
  | 4 => init != 0xFFFF && !valid.contains init
  | 5 => fld (m (QCH + 0x800)) 10 0 < (enabledObjects v.startScene).length
  | 6 => 65536 < products v.startScene
  | _ => false

/-! ### LANE_PROGRAMS (R264, R314) -/

/-- The lane a lane-memory or control-block address names. -/
def laneNamed (a : Nat) : Option Nat :=
  if 0x28000000 ≤ a ∧ a ≤ 0x291FFFFF then some ((a - 0x28000000) / 0x40000)
  else if inLaneBlock a then some ((a - LAN 0) / 0x1000) else none

/-- Does a record name a lane it may not (check 1)? A record that runs on past its lane names the next one too. -/
def namesOdd (r : Rec) : Bool :=
  let bad (o : Option Nat) : Bool := match o with
    | some l => l % 2 == 1 || 64 ≤ l
    | none => false
  r.span != 0 && (bad (laneNamed r.dest) || bad (laneNamed (r.dest + r.span - 1)) || laneNamed r.dest != laneNamed (r.dest + r.span - 1))

/-- Is the header of a block inside R248? -/
def blockOk (m : Rd) (lane : Nat) (b : Block) : Bool :=
  let h (j : Nat) : Word := m (yW lane (b.at' + j))
  b.len ≤ 16 && b.at' + 16 * b.len ≤ 0x2000 && 1 ≤ b.codeLen && b.codeLen ≤ 1024 && b.code + b.codeLen ≤ 8192
  && b.xLen ≤ 2048 && b.x + b.xLen ≤ 8192 && 0x1000 ≤ b.y && b.y ≤ 0x1BFF && b.yLen ≤ 2048 && b.y + b.yLen ≤ 0x1C00
  && b.xLen + b.yLen ≤ 2048 && fld (h 0) 35 29 == 0 && fld (h 1) 35 26 == 0 && fld (h 2) 35 26 == 0 && h 3 == 0

/-- Is a valid window entry inside R250? -/
def winOk (w : Word) : Bool :=
  let kind := fld w 34 32
  let cnt := fld w 30 24
  let first := fld w 10 0
  kind ≤ 5 && (kind == 4 || !flag w 31) && 1 ≤ cnt && cnt ≤ 64 && fld w 23 12 + cnt ≤ 4096 && !flag w 11
  && (if kind = 0 then (List.range cnt).all (fun i => !sourceReserved (first + i))
      else if kind = 5 then 0x600 ≤ first && first + cnt ≤ 0x680 else first + cnt ≤ 1024)

/-- The block a valid item's ARG names on its home pair. -/
def itemBlock (m : Rd) (i : Nat) : Option Block :=
  (blocks m (2 * (itemOf m i).pair)).find? (fun b => b.at' == 0x1C00 + 16 * (itemOf m i).arg)

/-- The blocks of a pair that check 2 looks at: those in order in its argument area, and those its valid items name. -/
def namedBlocks (m : Rd) (valid : List Nat) (p : Nat) : List Block :=
  let chain := blocks m (2 * p)
  let named := (valid.filter (fun i => (itemOf m i).pair == p)).map (fun i => 0x1C00 + 16 * (itemOf m i).arg)
  chain ++ ((named.eraseDups.filter (fun a => a < 0x2000 && chain.all (fun b => b.at' != a))).map (blockAt m (2 * p))).filter
    (fun b => b.len != 0)

/-- Do two items' footprints overlap (R249)? -/
def footprintsMeet (a b : Block) : Bool :=
  meets a.code a.codeLen b.code b.codeLen || meets a.x a.xLen b.x b.xLen || meets a.y a.yLen b.y b.yLen
  || meets a.at' (16 * a.len) b.at' (16 * b.len)

/-- The descriptor checks of check 8 (R314) for a valid item. -/
def itemOk (m : Rd) (i : Nat) : Bool :=
  let w0 := m (BEL + 0x1000 + 4 * i)
  let w1 := m (BEL + 0x1001 + 4 * i)
  let it := itemOf m i
  it.cls ≤ 2 && fld w0 29 24 ≤ 31 && fld w0 31 30 == 0 && fld w0 23 20 == 0 && fld w0 15 13 == 0 && fld w1 35 22 == 0 && fld w1 15 14 == 0
  && m (BEL + 0x1002 + 4 * i) == 0 && m (BEL + 0x1003 + 4 * i) == 0
  && (match itemBlock m i with
      | none => false
      | some b => b.code ≤ it.entry && it.entry < b.code + b.codeLen)
  && (if it.cls = 2 then it.bundles == 0 else 1 ≤ it.bundles && it.bundles ≤ 520)

/-- The critical path of a class (R295). -/
def criticalPath (items : List Item) (cls : Nat) : Nat :=
  total ((List.range 16).map (fun st => ((List.range 32).map (fun p =>
    total ((items.filter (fun it => it.cls == cls && it.stage == st && it.pair == p)).map (·.bundles)))).foldl max 0))

/-- An enabled crossbar window of a pair: base, length, writable (R261). -/
def xbarWindows (m : Rd) (p : Nat) : List (Nat × Nat × Bool) :=
  ([0, 1].filter (fun k => flag (m (LAN (2 * p) + 3)) (2 * k))).map (fun k =>
    (fld (m (LAN (2 * p) + 0x10 + 2 * k)) 31 0, fld (m (LAN (2 * p) + 0x11 + 2 * k)) 31 0, flag (m (LAN (2 * p) + 3)) (2 * k + 1)))

/-- Does the code of a block contain UNMASK? -/
def hasUnmask (m : Rd) (lane : Nat) (b : Block) : Bool := (List.range b.codeLen).any (fun i =>
  let g := slotOf (bundleAt m lane (b.code + i)) .g
  bits g 19 18 == 0 && bits g 17 13 == 0x1C)

def lanesCheck (v : LoadView) (n : Nat) : Bool :=
  let m := v.m
  let ps := List.range 32
  let valid := (List.range 2048).filter (fun i => (itemOf m i).valid)
  match n with
  | 1 => (v.secs.filter (fun x => x.e.typ == 0xC)).any (fun x => x.recs.any namesOdd)
  | 2 => ps.any (fun p =>
      let bs := namedBlocks m valid p
      bs.any (fun b => !blockOk m (2 * p) b) || anyMeet (bs.map (fun b => (b.at', 16 * b.len))))
  | 3 => ps.any (fun p => (List.range 32).any (fun e =>
      let w := m (LAN (2 * p) + 0x100 + 2 * e)
      flag w 35 && !winOk w))
  | 4 =>
    ps.any (fun p =>
      let es := winEntries m p
      let words (f : WinEntry → Bool) : Nat := total ((es.filter f).map (·.count))
      1024 < words (fun e => e.kind ≤ 2) || 64 < words (fun e => e.kind == 3) || 64 < words (fun e => e.kind == 4)
      || 128 < words (fun e => e.kind == 5) || anyMeet (es.map (fun e => (e.win, e.count))))
    || anyMeet (ps.flatMap (fun p => ((winEntries m p).filter (fun e => e.kind == 5)).map (fun e => (e.first, e.count))))
  | 5 => ps.any (fun p => (winEntries m p).any (fun e =>
      let it := itemOf m e.owner
      !it.valid || it.pair != p || 2 ≤ it.cls || (it.cls == 1 && (e.kind == 3 || e.kind == 4)) || (it.cls == 0 && e.kind == 5)))
  | 6 => valid.any (fun i => (itemOf m i).cls == 2 && valid.any (fun j =>
      (itemOf m j).cls != 2 && (itemOf m j).pair == (itemOf m i).pair
      && (match itemBlock m i, itemBlock m j with
          | some a, some b => footprintsMeet a b
          | _, _ => false)))
  | 7 =>
    let ws := ps.flatMap (fun p => (xbarWindows m p).map (fun w => (p, w)))
    ws.any (fun w =>
      let a := w.2.1
      let l := w.2.2.1
      l != 0 && !((0x10000000 ≤ a && a + l ≤ 0x10200000) || (0x46000000 ≤ a && a + l ≤ 0x48000000))
      || (w.2.2.2 && ws.any (fun x => x.1 != w.1 && meets a l x.2.1 x.2.2.1)))
  | 8 => valid.any (fun i => !itemOk m i)
  | 9 => ps.any (fun p => [0, 1].all (fun c => valid.any (fun i => (itemOf m i).pair == p && (itemOf m i).cls == c)))
  | 10 =>
    let its := valid.map (itemOf m)
    200 < criticalPath its 0 || 520 < criticalPath its 1
  | 11 => valid.any (fun i => (itemOf m i).cls == 2 && (match itemBlock m i with
      | some b => b.yLen == 0 && hasUnmask m (2 * (itemOf m i).pair) b
      | none => false))
  | _ => false

/-! ### In order -/

/-- One check by type code and number. -/
def tableFails (v : LoadView) (typ n : Nat) : Bool :=
  match typ with
  | 4 => safetyCheck v n
  | 6 => streamsCheck v n
  | 7 => portsCheck v n
  | 8 => layoutCheck v n
  | 9 => eqCheck v n
  | 0xA => routesCheck v n
  | 0xB => scenesCheck v n
  | 0xC => lanesCheck v n
  | _ => false

/-- Type and number of every check: those of R107 first, then each section's in ascending type code and number (log entry 54). -/
def checkList : List (Nat × Nat) :=
  [(8, 12), (8, 13), (0xB, 5), (0xB, 6)]
  ++ ([(4, 5), (6, 7), (7, 3), (8, 11), (9, 5), (0xA, 3), (0xB, 4), (0xC, 11)].flatMap (fun t =>
    (List.range t.2).map (fun n => (t.1, n + 1))))

/-- Step 15: CONSISTENCY with the type code and the number of the first check that fails; a section the image lacks is not checked,
but for the scene that SCENES sets up, whose EQ_CHAIN must name a loaded descriptor all the same (R236 check 5). -/
def crossCheck (v : LoadView) : Option Stop :=
  (checkList.find? (fun c => (v.has c.1 || c == (9, 5)) && tableFails v c.1 c.2)).map (fun c => (0x28, c.1 * 2 ^ 12 + c.2))

end Sys2Proof.Machine
end

