-- ==== Sys2Proof/Machine/Loader.lean ====
section
/-! DEFINITION. The Chrysalis loader as LOAD runs it (03: R65-R75; 04: R91-R102; 17: R417; 18: R454): the start-up steps, the steps of
R97 over the checks of Image.lean, applying the records, CONTINUE, and the check of the STATIC sections (R96). -/
namespace Sys2Proof.Machine
open Sys2Proof

/-! ### Steps that can stop -/

/-- What a step of LOAD ends in: effects, and where it stops the reason, the SLOT and the DETAIL of HOLD. -/
abbrev LoadStep := State → List Eff × Option (Nat × Nat × Nat)

/-- Steps in order, up to the first that stops (R97). -/
def steps : List LoadStep → Act → Act
  | [], fin => fin
  | p :: r, fin => fun s =>
    match p s with
    | (es, none) => es ++ steps r fin (applyAll es s)
    | (es, some (reason, slot, detail)) => es ++ enterHold reason slot detail (applyAll es s)

/-! ### Before the image (R75 steps 2 and 3; R416, R417, R452-R454) -/

/-- The band tables of a cold start and the locks: the first loop in order without a band, or that fails to lock, stops the start
with PLL_CAL, loop and code in DETAIL. -/
def pllStep (e : LoadEnv) : LoadStep := fun s =>
  let store : List Eff := if s.sys.warm then [] else e.bands.map (fun b => .mem (CLK + 0x400 + b.1 % 256) b.2)
  let s' := applyAll store s
  let code (k : Nat) : Nat := if (bandFor (rd s') k (targetWord s' k)).isNone then 1
    else ((e.lockFail.find? (fun f => f.1 == k)).map (·.2)).getD 0
  let lockOne (k : Nat) : Act := fun s => seq [
    setEff k (targetWord s k), pokeF (CLKL k + 5) 31 26 ((bandFor (rd s) k (targetWord s k)).getD 0), setLoop k 2,
    onClk fun s c => { c with lockWord := sparsePut c.lockWord k (targetWord s k) }] s
  match (List.range 4).find? (fun k => code k != 0) with
  | some k => (store ++ each (List.range k) lockOne s', some (3, 3, k * 2 ^ 16 + code k))
  | none => (store ++ seq [each (List.range 4) lockOne, onSys fun _ y => { y with pllDone := true }] s', none)

/-- DRAM training: full at a cold start, where a rank's failure stops it with DRAM_TRAIN; fast retraining of every channel at a warm
one, whose failures mark channels. -/
def trainStep (e : LoadEnv) : LoadStep := fun s =>
  let ok : Act := onSys fun _ y => { y with dramDone := true }
  if s.sys.warm then (seq [each (List.range 4) (fun c => fastRetrain c (e.train.filter (fun f => f.1 / 2 == c)).length), ok] s, none)
  else match e.train.head? with
    | some f => ([], some (4, 3, f.2 % 16 * 16 + f.1 % 16))
    | none => (seq [pokeF DRC 31 24 0xFF, setBits DRC 6, ok] s, none)

/-- The flash answers and identifies itself (R73, R78); no later start of the image from the host needs it. -/
def flashStep (e : LoadEnv) : LoadStep := fun _ => ([], if e.flashOk then none else some (7, 3, 0))

/-- The self-test of the blocks other than lanes (R73). -/
def selfTestStep (e : LoadEnv) (slot : Nat) : LoadStep := fun _ => ([], e.selfTest.map (fun d => (5, slot, d)))

/-- Give a pair whose home lanes are partly retired the lowest free pool lanes; the lane that is left keeps its place (R75, R308). -/
def homePair (p : Nat) : Act := fun s =>
  let bad (l : Nat) : Bool := s.life.retired.testBit l
  let a := 2 * p
  if !bad a && !bad (a + 1) then [] else
  let pool := poolLanes s
  let f := if bad a then pool.headD a else a
  let r := if bad a then pool.drop 1 else pool
  let g := if bad (a + 1) then r.headD (a + 1) else a + 1
  onLan (fun _ l => { l with serve := sparsePut l.serve p (f, g) }) s

/-- Lanes that fail are retired; with more than eight retired the start stops with LANES (R73, R75). -/
def laneStep (e : LoadEnv) (slot : Nat) : LoadStep := fun s =>
  let fresh := (e.lanes.filter (fun n => n < 72 && !s.life.retired.testBit n)).foldl (fun (l : List Nat) n => if l.contains n then l else l ++ [n]) []
  let es := each fresh retireLane s
  let s' := applyAll es s
  if 8 < popBits 72 s'.life.retired then (es, some (6, slot, 0))
  else (es ++ seq [each (List.range 32) homePair, onSys fun _ y => { y with tested := true }] s', none)

/-! ### Steps 1 to 13 of R97 -/

/-- What the image in use shows before step 7: nothing (SYS_IMAGE_BUILD, SYS_IMAGE_INFO). -/
def clearIdentity : Act := seq [poke (SYS + 8) 0, pokeF (SYS + 9) 15 0 0]

/-- BUILD, SECTIONS and SEC_VERSION once step 7 has passed. -/
def showIdentity (b : List Nat) : Act := seq [
  poke (SYS + 8) (wd (imageBuild b)), pokeF (SYS + 9) 15 0 (sectionCount b * 2 ^ 8 + securityVersion b)]

/-- Steps 8 to 13 on bytes whose steps 3 to 7 have passed, with the render digest of R103 after step 12; then the rest. -/
def verifyBody (b : List Nat) (es : List SecEntry) (signer slot : Nat) (k : Image → Act) : Act := seq [showIdentity b, fun s =>
  match bodyCheck s b es signer with
  | .inl st => enterHold st.1 slot st.2 s
  | .inr (keys, ps) => seq [
      onImg fun _ g => { g with renderDigest := renderDigestOf ps },
      (match recordCheck ps with
       | .inl st => enterHold st.1 slot st.2
       | .inr ss => k (imageOf b es signer keys ps ss))] s]

/-- Consecutive time-outs of a block's read: more than three retries stop the load, fewer are logged (R98). -/
def timeoutsOf (t : List (Nat × Nat)) (block : Nat) : Nat := ((t.find? (fun x => x.1 == block)).map (·.2)).getD 0
def logRetries (t : List (Nat × Nat)) (n : Nat) : Act :=
  each ((List.range n).filter (fun b => timeoutsOf t b != 0)) (fun b => report (srcOf HTH) .flashFault b (timeoutsOf t b))

/-- What steps 2 to 6 leave: bytes, section table, the signer's slot. -/
abbrev Streamed := List Nat × List SecEntry × Nat

/-- Steps 2 to 6 on a slot of the flash: its first block, header and table, signer, and the stream into the staging region. -/
def slotSteps (t : List (Nat × Nat)) (slot : Nat) (s : State) : Act × (Stop ⊕ Streamed) :=
  if 4 ≤ timeoutsOf t 0 then (logRetries t 1, .inl (0x1A, 0))
  else if (slotBytes s.flash slot 4096).all (· == 0xFF) then (logRetries t 1, .inl (0x11, 0))
  else match headCheck s (slotBytes s.flash slot 4608) with
    | .inl st => (logRetries t 1, .inl st)
    | .inr (es, signer) =>
      let len := imageLength (slotBytes s.flash slot 512)
      let blocks := (len + 4095) / 4096
      match (List.range blocks).find? (fun b => 4 ≤ timeoutsOf t b) with
      | some b => (seq [logRetries t (b + 1), stageWords (stagingWords (slotBytes s.flash slot (4096 * b)))], .inl (0x1A, b))
      | none =>
        let b := slotBytes s.flash slot len
        (seq [logRetries t blocks, stageWords (stagingWords b)], .inr (b, es, signer))

/-- Steps 1 to 13 from the flash, whose commit record is the latest as it stands (R97, R98, R102). -/
def verifyFlash (e : LoadEnv) (k : Nat → Image → Act) : Act := seq [clearIdentity, fun s =>
  match latestCommit s.flash with
  | none => enterHold 0x10 3 0 s
  | some c =>
    let slot := commitSlot c
    let r := slotSteps e.timeouts slot s
    seq [r.1, (match r.2 with
      | .inl st => enterHold st.1 slot st.2
      | .inr (b, es, signer) =>
        if beAt c 0x20 48 ≠ imageDigest b ∨ beAt c 0xC 4 ≠ imageLength b ∨ beAt c 0x10 4 ≠ securityVersion b then enterHold 0x1B slot 0
        else verifyBody b es signer slot (k slot))] s]

/-- Steps 3 to 5 on staged bytes: the header once its own bytes can be read, then the table and the signer once the table's can. -/
def stagedHead (s : State) (b : List Nat) (bad : Nat → Option Stop) : Stop ⊕ (List SecEntry × Nat) :=
  match bad 512 with
  | some st => .inl st
  | none => match headerCheck b with
    | some st => .inl st
    | none => match bad (512 + 64 * sectionCount b) with
      | some st => .inl st
      | none => headCheck s b

/-- Steps 3 to 13 on the staging region's first `len` bytes; a word that cannot be read stops the step that reads it (R101). -/
def verifyStaged (len slot : Nat) (k : Image → Act) : Act := fun s =>
  let bad (n : Nat) : Option Stop := (stagedBad s (min n len)).map (fun i => (0x29, i / 1024))
  let b := stagedBytes s len
  match stagedHead s b bad with
  | .inl st => enterHold st.1 slot st.2 s
  | .inr (es, signer) => match bad len with
    | some st => enterHold st.1 slot st.2 s
    | none => verifyBody b es signer slot k s

/-- LOAD_HOST: the length check of R512 first, on staging bytes 8-11. -/
def verifyHost (k : Image → Act) : Act := seq [clearIdentity, fun s =>
  let len := (rd s (HPT + 3)).toNat
  if dramBad s 0x40000002 then enterHold 0x29 2 0 s
  else if len = 0 ∨ len % 64 ≠ 0 ∨ 0x1000000 < len ∨ fld (dramWord s 0x40000002) 31 0 ≠ len then enterHold 0x29 2 0 s
  else verifyStaged len 2 k s]

/-! ### Step 14: applying records (R91) -/

/-- Is a word one that a load returns to its reset contents before the records are applied: tables, lane memories, pairs, and the
registers that only a load or its parameters set? -/
def reloaded (a : Nat) : Bool :=
  inTables a || inLaneMem a || isPairWord a || (HTH + 0x60 ≤ a && a ≤ HTH + 0x62) || (SEC + 0x10 ≤ a && a < SEC + 0x18) ||
  (match findReg a with
   | some r => r.who == .loader || r.who == .hearthHostLoader
   | none => false)

/-- Everything an earlier load left goes: an absent section leaves its tables at their reset contents (R89). -/
def beforeApply : Act := seq [
  fun _ => [.memKeep (fun a => !reloaded a)],
  onImg fun _ g => { g with static := 0, timeout := 0, rate := 0, clock := 0, twin := 0, params := [],
                            initialScene := 0xFFFF, copy := [], lanes := [] },
  pokeF CLK 32 31 0,
  onTpr fun _ t => { t with cur := 0, torn := [] },
  onLan fun _ l => { l with run := [], args := [], retry := [], upset := [] },
  onBel fun _ b => { b with bg := [] },
  -- a load rewrites the priority pair and every table, and lets a unit align anew (R341, R357, R361)
  clrBits TWN (2 ^ 29 + 2 ^ 30), onTwn fun _ t => { t with noRetry := false }]

/-- The words a record writes, with their addresses in order (R90, R92). -/
def Rec.writes (r : Rec) : List (Nat × Word) :=
  match r.kind with
  | 1 => r.data.zipIdx.map (fun e => (r.dest + e.2, e.1))
  | 2 => (List.range r.count).map (fun i => (r.dest + i, r.data.headD 0))
  | 3 => r.data.zipIdx.map (fun e => (r.dest + e.2, e.1))
  | _ => []

/-- A lane-memory word of pair p goes to both lanes of the pair, and to the lanes that serve it (R264, R308). -/
def laneTwin (a : Nat) (w : Word) : Act := fun s =>
  let n := (a - 0x28000000) / 0x40000
  let o := (a - 0x28000000) % 0x40000
  if n % 2 = 1 ∨ 64 ≤ n then [] else
  seq [fun s => ([n + 1, (lanesOf s (n / 2)).1, (lanesOf s (n / 2)).2].filter (· != n)).map (fun l => .mem (laneW l o) w),
       onImg fun _ g => { g with lanes := sparsePut g.lanes (0x40000 * (n / 2) + o) w }] s

/-- One word that the loader writes as master 2. Only SAFETY reaches a complement pair. A destination word is written as it stands:
what R208 would refuse is step 15's to find (R216 check 2). -/
def loadWord (typ a : Nat) (w : Word) : Act :=
  if isPairWord a ∧ typ ≠ 4 then nop
  else if tblDest ≤ a ∧ a < tblDest + 4096 then seq [keepStaged 2 (fun _ => false), poke a w]
  else seq [writeWordWith (fun _ _ _ => nop) 2 a w, when (fun _ => inLaneMem a) (laneTwin a w)]

/-! ### Parameters (R93, R126, R372, R411, R500, R529, R364; 23: SEC_PEER_w) -/

/-- A port's unicast address when the image names none: that of OTP, port B's one higher (R372). -/
def otpAddress (x : Nat) : Nat := Config.otpMacBase + x

/-- One PARAM record takes effect. -/
def loadParam (typ id : Nat) (v : List Word) : Act :=
  let w0 := v.headD 0
  let x := w0.toNat
  let w1 := v.getD 1 0
  let stm (hi lo : Nat) : Act := pokeF (STM + 2) hi lo x
  let own : Act := match typ with
    | 3 =>
      (match id with
       | 1 => seq [onSys fun _ y => { y with rate := x }, onImg fun _ g => { g with rate := x }]
       | 2 => seq [onImg fun _ g => { g with clock := x }, pokeF CLK 32 31 x]
       | 3 => onImg fun _ g => { g with timeout := x }
       | 4 => onImg fun _ g => { g with twin := x }
       | _ => nop)
    | 5 =>
      if id < 0x202 then pokeF (MAC (id % 2) + 1) 2 2 x
      else if id < 0x204 then
        (let a := x % 2 ^ 16 * 2 ^ 32 + w1.toNat % 2 ^ 32
         let a := if a = 0 then otpAddress (id % 2) else a
         seq [poke (MAC (id % 2) + 4) (wd (bits a 47 32)), poke (MAC (id % 2) + 5) (wd (bits a 31 0))])
      else if id < 0x206 then poke (MAC (id % 2) + 6) w0
      else if id < 0x208 then seq [poke (MAC (id % 2) + 7) w0, poke (MAC (id % 2) + 8) w1]
      else if id = 0x208 then each [0, 1] (fun p => pokeF (MAC p + 9) 4 0 x)
      else if id = 0x209 then each [0, 1] (fun p => pokeF (MAC p + 1) 1 0 (if w0.toNat.testBit p then 3 else 0))
      else if 0x210 ≤ id ∧ id < 0x214 then
        each [0, 1] (fun p => pokeList (MAC p + 0x40 + 16 * (id - 0x210)) (v.map (fun g => setFld g 35 35 1)))
      else if id = 0x220 then seq [
        poke (HTH + 0x61) w0, poke (HTH + 0x62) w1, pokeF (HTH + 0x60) 34 33 (v.getD 2 0).toNat]
      else if id = 0x221 then pokeF (HTH + 0x60) 15 0 x
      else if id = 0x222 then pokeF (HTH + 0x60) 20 16 x
      else if id = 0x223 then pokeF (HTH + 0x60) 35 35 x
      else if id = 0x230 then pokeList (SEC + 0x10) v
      else nop
    | 6 =>
      (match id with
       | 0x100 => poke (STM + 1) w0
       | 0x101 => stm 31 24
       | 0x102 => stm 34 34
       | 0x103 => stm 13 0
       | 0x104 => stm 33 32
       | 0x105 => stm 19 16
       | 0x106 => stm 23 20
       | 0x107 => stm 35 35
       | _ => nop)
    | 7 =>
      if id < 0x408 then poke (TDM + 16 * (id - 0x400)) w0
      else if id < 0x414 then poke (PDM + (id - 0x410)) w0
      else poke (PDM + 0x10 + (id - 0x420)) w0
    | 0xB => onImg fun _ g => { g with initialScene := x }
    | _ => nop
  seq [own, onImg fun _ g => { g with params := sparsePut g.params id x }]

/-- The defaults of the NETWORK parameters, which hold where no record gives the parameter, NETWORK present or not (R372, R529). -/
def networkDefaults : Act := each [(0x209, 3), (0x221, 1000), (0x222, 0x0F)] (fun e => loadParam 5 e.1 [wd e.2])

/-- One section: its records in order; its words are kept as Hearth's verified copy where it is STATIC (R95, R96). -/
def loadSection (x : Sec') : Act := seq [
  each x.recs (fun r => if r.kind = 4 then loadParam x.e.typ r.dest r.data else each r.writes (fun e => loadWord x.e.typ e.1 e.2)),
  when (fun _ => x.e.static) (onImg fun _ g => { g with
    static := g.static ||| 2 ^ x.e.typ,
    copy := g.copy ++ x.recs.flatMap (fun r => r.writes.map (fun e => (x.e.typ, e.1, e.2))) })]

/-- The CRC of R92 over words. -/
def wordsCrc (ws : List Word) : Nat := crc32 (ws.flatMap (fun w => toBytes 5 w.toNat))

/-- The first section whose read-back does not give its LOAD_CRC (R92). A word that records write twice counts twice, as it reads at the end
(DEDUCED: log entry 11). -/
def readBack (s : State) (ss : List Sec') : Option Nat :=
  (ss.find? (fun x => wordsCrc ((x.recs.flatMap (·.writes)).map (fun e => readWord s e.1)) != x.e.crc)).map (·.e.idx)

/-- The servo listens where CLOCK_SOURCE is PTP (R407), and no reference is locked yet. -/
def ptpStart : Act := seq [
  fun s => pokeF STM 35 32 (if s.img.clock = 0 then 1 else 0) s,
  pokeF CLK 35 33 0,
  onSys fun _ y => { y with condClock := false, condCount := false }]

/-- Steps 14 and 15, and entry to ARMED: `slot` is the source, `ms` the time that BOOT_MS records. The initial scene takes effect
(R128), the ports start (R488, R494), the servo listens where CLOCK_SOURCE is PTP (R407). A QUENCH_IN_L that is low sends the device on
to SAFE (R67). -/
def loadImage (slot ms : Nat) (g : Image) : Act := seq [
  onImg fun _ m => { m with held := none },
  onSys fun _ y => { y with loadMs := ms, cycles := 0, prefetched := [] },
  beforeApply,
  networkDefaults,
  each g.secs loadSection,
  fun _ => g.owner.zipIdx.map (fun e => .mem (tblOwner + e.2) e.1),
  fun s =>
    match readBack s g.secs with
    | some i => enterHold 0x27 slot i s
    | none => match crossCheck { m := rd s, secs := g.secs } with
      | some st => enterHold st.1 slot st.2 s
      | none => seq [
          onImg fun _ m => { m with
            slot := slot, secVer := securityVersion g.bytes, digest := g.digest, renderDigest := g.renderDigest,
            fwVersion := beAt g.fw 4 2, fwFloor := beAt g.fw 6 2 },
          onSec fun _ c => { c with keys := g.keys },
          armedEntry, clearHold, pokeF (SYS + 5) 9 8 slot,
          ptpStart, onStm fun _ t => { t with stepped := false },
          pokeF (SYS + 7) 19 4 (min 65535 ms),
          updateFree,
          when (fun s => !(pinOf s 16).filt) (enterSafe false)] s]

/-! ### LOAD_COMPLETE -/

/-- After step 13: the self-tests where none has passed since the reset (R75 step 6), then, in the load that follows the release of the
reset pins, HOLD with STRAP and the verified image where GP_15 was low (R99), else steps 14 and 15. -/
def afterVerify (e : LoadEnv) (slot : Nat) (g : Image) : Act := fun s =>
  let first := s.img.source == 2
  steps (if s.sys.tested then [] else [selfTestStep e slot, laneStep e slot]) (fun s =>
    if first && s.sys.strap then
      seq [enterHold 1 slot 0, onSys fun _ y => { y with imageKept := true, loadMs := e.ms, cycles := 0 },
           onImg fun _ m => { m with held := some g }] s
    else loadImage slot e.ms g s) s

/-- Steps 2 and 3 of the start-up timeline, as far as they have not passed since the reset: a RETRY or LOAD_HOST after a start that
stopped in them runs them again (R66, R75; DEDUCED: log entry 63). -/
def startSteps (e : LoadEnv) : Act → Act := fun fin s =>
  steps ((if s.sys.pllDone then [] else [pllStep e]) ++ (if s.sys.dramDone then [] else [trainStep e])) fin s

/-- LOAD_COMPLETE: LOAD runs to its end or to its first failure (R66, R75, R97, R101, R102). -/
def loadComplete (e : LoadEnv) : Act := when (fun s => s.sys.state == .load) (fun s =>
  match s.img.source with
  | 1 => startSteps e (verifyHost (afterVerify e 2)) s
  | _ => startSteps e (steps [flashStep e] (verifyFlash e (afterVerify e))) s)
def execLoadComplete (e : LoadEnv) (s : State) : Host.Outcome State Fault Refusal := done (loadComplete e) s

/-! ### CONTINUE (R74, R77, R99) -/

/-- Steps 14 and 15 on the image whose earlier steps passed before the strap held it (R99); the command is DONE, and where one of the
two fails the device is in HOLD again with that reason. BOOT_MS is the time of the end of LOAD and what the calendar's crystal has
counted since (DESIGN CHOICE: log entry 64). -/
def continueStrap (g : Image) : Act := fun s =>
  seq [cmdStatus 2, loadImage (rdF s (SYS + 5) 9 8) (s.sys.loadMs + s.sys.cycles * 1000 / 32768) g] s

/-- CONTINUE: in HOLD for the reasons STRAP and HOST_REQUEST, while the image is kept; in ARMED it clears the stop hold. In HOLD with
another reason it is REFUSED (5): DESIGN CHOICE (log entry 65), since R77 makes CONTINUE valid in HOLD and R74 accepts it for the two
reasons only. -/
def continue' (m key : Nat) : Act :=
  sysCmd m key 2 (fun s => s.sys.state == .hold || s.sys.state == .armed) (fun s =>
    if s.sys.state == .armed then seq [onSys fun _ y => { y with stopHold := false }, cmdStatus 2] s
    else match rdF s (SYS + 5) 7 0 with
      | 1 => (match s.img.held with
        | some g => if s.img.stagedDiscard || !s.sys.imageKept then cmdStatus 5 s else continueStrap g s
        | none => cmdStatus 5 s)
      | 2 => seq [armedEntry, clearHold, ptpStart, cmdStatus 2, when (fun s => !(pinOf s 16).filt) (enterSafe false)] s
      | _ => cmdStatus 5 s)
def execContinueCmd (m key : Nat) (s : State) : Host.Outcome State Fault Refusal := done (continue' m key) s

/-! ### STATIC sections in RUN (R96) -/

/-- Does the check of R96 leave a word of LANE_PROGRAMS out (R263): X memory, program data, the period window, argument words 4 on of
a block? -/
def leftOut (s : State) (a : Nat) : Bool :=
  inLaneMem a &&
  (let o := (a - 0x28000000) % 0x40000
   let y := o - 0x10000
   o < 0x10000 || (0x10000 ≤ o && o < 0x20000 &&
     (y < 0x1C00 || isArgument (blocks (rd s) ((a - 0x28000000) / 0x40000)) y)))

/-- The words of a STATIC section in the check. -/
def checked (s : State) (typ : Nat) : List (Nat × Word) :=
  ((s.img.copy.filter (fun e => e.1 == typ)).map (·.2)).filter (fun e => typ != 12 || !leftOut s e.1)

/-- What the copy gives an address: the later of two records that write it (R91). -/
def copyLast (l : List (Nat × Word)) (a : Nat) : Word := ((l.filter (fun e => e.1 == a)).getLast?.map (·.2)).getD 0

/-- Does a STATIC section's check fail? The CRC of R92 is taken over the words read back, each as often as records write it, and must
be that of the copy. A word that cannot be read fails it too. -/
def staticFails (s : State) (typ : Nat) : Bool :=
  let last := checked s typ
  wordsCrc (last.map (fun e => readWord s e.1)) != wordsCrc (last.map (fun e => copyLast last e.1)) || last.any (fun e => s.bad.contains e.1)

/-- STATIC_CRC_CHECK, once a second in RUN: SAFETY's failure is an internal check failure (R319); another section is rewritten from
Hearth's copy as master 2 at the next boundary, with FAULT, a log entry, a count and taint (R351). It is the part of the cycle that R329
gives the STATIC sections. -/
def staticCrcCheck : Act := when (fun s => s.sys.state == .run && !s.sys.hearthDown) (seq [
  fun s => each ((List.range 16).filter (fun t => s.img.static.testBit t && staticFails s t)) (fun t =>
    if t = secSafety then deviceFault 1
    else seq [
      fun s => each (checked s t) (fun e => seq [poke e.1 e.2, when (fun _ => inLaneMem e.1) (laneTwin e.1 e.2)]) s,
      onWav fun s w => { w with taints := ((s.wav.n + 1) :: w.taints).take 80 },
      ringFault, report (srcOf SYS) .staticRewrite t 0, life 17 1]) s,
  cyclePart 3])
def execStaticCrcCheck (s : State) : Host.Outcome State Fault Refusal := done staticCrcCheck s

end Sys2Proof.Machine
end

