-- ==== Sys2Proof/Machine/Update.lean ====
section
/-! DEFINITION. Updates through the host (22: R533-R539; 23: R545): BEGIN, WRITE, VERIFY, COMMIT, ABORT and FUSE_ADVANCE of HTH_UPD_CTL.
WRITE, VERIFY and FUSE_ADVANCE take time: STATUS is BUSY until they end (log entry 55). -/
namespace Sys2Proof.Machine
open Sys2Proof

/-- STATUS of HTH_UPD_STATUS with REASON; each completion rings UPDATE and is logged (R533). -/
def updDone (st reason : Nat) : Act := seq [
  pokeF (HTH + 0x73) 27 20 reason, pokeF (HTH + 0x73) 3 0 st, ringUpdate, report 0x30 .updateDone st reason]

/-- VERIFIED of HTH_UPD_STATUS: the slot verified, if any (R535, R536). -/
def setVerified (v : Option Nat) : Act := seq [
  onHth fun _ h => { h with verified := v },
  pokeF (HTH + 0x73) 19 18 (match v with
    | none => 0
    | some k => k + 1)]

/-- A command of the update path: only the host port's, in HOLD, ARMED, RUN or SAFE, with its key; while one runs another is refused and
counted, but for ABORT (R533, R537). -/
def updCmd (m key code : Nat) (body : Act) : Act := fun s =>
  if m ≠ 1 then refused m (HTH + 0x70) true s else
  if s.hth.job.isSome && !(code == 5 && key % 4096 == 0xC0C) then bump (HTH + 0x73) 35 28 1 s else
  if s.sys.state == .hold || s.sys.state == .armed || s.sys.state == .run || s.sys.state == .safe then
    seq [pokeF (HTH + 0x73) 7 4 code, if key % 4096 ≠ 0xC0C then updDone 4 0 else body] s
  else if s.sys.state == .load then seq [pokeF (HTH + 0x73) 7 4 code, updDone 3 0] s
  else []

/-! ### A command in progress -/

/-- A command takes time: STATUS is BUSY (R533). -/
def startJob (j : UpdJob) : Act := seq [pokeF (HTH + 0x73) 3 0 1, onHth fun _ h => { h with job := some j }]

/-- A command ends; a RETRY that waited for the flash starts LOAD (R102, R533). -/
def endJob (st reason : Nat) : Act := seq [
  onHth fun _ h => { h with job := none }, updDone st reason,
  when (fun s => s.sys.busyCmd == 1) (seq [onSys fun _ y => { y with busyCmd := 0 }, startRetry])]

/-- Erase a sector of a slot at the first WRITE since BEGIN that touches it (R534, R540). -/
def eraseSector (slot k : Nat) : Act := fun s =>
  if s.hth.erased.contains k then [] else seq [
    onFlash fun _ f => { f with pages := f.pages.filter (fun e => e.1 / 16 != 4096 * slot + k) },
    onHth fun _ h => { h with erased := h.erased ++ [k] }, life 27 1] s

/-- Program a page; bytes beyond the data stay erased. -/
def programPage (slot p : Nat) (b : List Nat) : Act := seq [
  eraseSector slot (p / 16),
  onFlash fun _ f => { f with pages := sparsePut f.pages (65536 * slot + p) (b ++ List.replicate (256 - b.length) 0xFF) },
  onHth fun _ h => { h with written := h.written ++ [p] }]

/-- Steps 8 to 13 on a streamed image: the stop, if any. -/
def bodyStop (s : State) (x : Streamed) : Option Stop :=
  match bodyCheck s x.1 x.2.1 x.2.2 with
  | .inl st => some st
  | .inr (_, ps) => match recordCheck ps with
    | .inl st => some st
    | .inr _ => none

/-- VERIFY's checks: steps 2 to 6 and 8 to 13 of R97 on the slot (R535). -/
def verifySlot (slot : Nat) (timeouts : List (Nat × Nat)) : Act := fun s =>
  let r := slotSteps timeouts slot s
  seq [r.1,
    (match r.2 with
     | .inl st => endJob 8 st.1
     | .inr x => fun s => match bodyStop s x with
       | some st => endJob 8 st.1 s
       | none => seq [
           onHth fun _ h => { h with verDigest := imageDigest x.1, verLen := imageLength x.1, verSec := securityVersion x.1 },
           setVerified (some slot), endJob 2 0] s)] s

/-- The next page of a WRITE, or its failure: the bytes up to the failed page stand (R534). -/
def writeStep (slot p0 : Nat) (data : List Nat) (fail : Option Nat) (i : Nat) : Act :=
  if fail = some i then endJob 9 0 else seq [
  programPage slot (p0 + i) ((data.drop (256 * i)).take 256),
  if data.length ≤ 256 * (i + 1) then endJob 2 0
  else onHth fun _ h => { h with job := some (.write slot p0 data fail (i + 1)) }]

/-- The next fuse, anti-rollback first, or its failure: the count reached stands; a snapshot follows the command (R539, R545). -/
def fuseStep (n f good i : Nat) : Act :=
  if good ≤ i then seq [lifetimeSnapshot, endJob 9 0] else seq [
  fun _ => [.fuse (if i < n then .rollback else .floor)], life 22 1,
  if n + f ≤ i + 1 then seq [lifetimeSnapshot, endJob 2 0] else onHth fun _ h => { h with job := some (.fuses n f good (i + 1)) }]

/-- The running command goes on by one page, one fuse, or to the verdict. -/
def jobStep : Act := fun s =>
  match s.hth.job with
  | none => []
  | some (.write slot p0 data fail i) => writeStep slot p0 data fail i s
  | some (.verify slot timeouts) => verifySlot slot timeouts s
  | some (.fuses n f good i) => fuseStep n f good i s

/-- The running command goes on to its end: a WRITE has at most 64 pages, a FUSE_ADVANCE at most 64 fuses and 16 of the floor. -/
def finishJob : Act := each (List.range 128) (fun _ => jobStep)

/-- What ABORT lets the running command still do: its current page or fuse (R537). A FUSE_ADVANCE that ends so is followed by its
snapshot. -/
def jobCurrent : Act := fun s =>
  match s.hth.job with
  | some (.write slot p0 data fail i) =>
    when (fun _ => fail != some i) (programPage slot (p0 + i) ((data.drop (256 * i)).take 256)) s
  | some (.fuses n _ good i) =>
    seq [when (fun _ => decide (i < good)) (seq [fun _ => [.fuse (if i < n then .rollback else .floor)], life 22 1]), lifetimeSnapshot] s
  | _ => []

/-- The running command in a block with no command waiting: it goes on, but not while LOAD holds the flash or Hearth restarts (R80, R517). -/
def jobIdle : Act := when flashFree jobStep

/-- The slot of the latest valid commit record, if there is one. -/
def committedSlot (s : State) : Option Nat := (latestCommit s.flash).map commitSlot

/-! ### BEGIN and WRITE (R534) -/

/-- BEGIN: the slot that the latest commit does not name; the page map and any verification are cleared, nothing is erased. -/
def begin' (m key slot : Nat) : Act := updCmd m key 1 (fun s =>
  if committedSlot s = some (slot % 2) then updDone 6 0 s
  else seq [onHth fun _ h => { h with beginSlot := some (slot % 2), written := [], erased := [] }, setVerified none, updDone 2 0] s)
def execUpdBegin (m key slot : Nat) (s : State) : Host.Outcome State Fault Refusal := done (writing m (begin' m key slot)) s

/-- The bytes of HTH_UPD_BUF that a WRITE of n bytes programs (R511: four a word, in bits 31:0). -/
def updBytes (s : State) (n : Nat) : List Nat :=
  ((List.range ((n + 3) / 4)).flatMap (fun i => toBytes 4 (rdF s (HTH + 0x1000 + i) 31 0))).take n

/-- WRITE of LEN bytes at offset ARG, or the stop it meets. Without a BEGIN, or to the slot that is committed meanwhile, it is refused (R80;
log entry 56). -/
def updWrite (m key : Nat) (r : FlashRun) : Act := updCmd m key 2 (fun s =>
  let at' := rdF s (HTH + 0x71) 24 0
  let len := rdF s (HTH + 0x72) 24 0
  let p0 := at' / 256
  let n := (len + 255) / 256
  match s.hth.beginSlot with
  | none => updDone 6 0 s
  | some slot =>
    if committedSlot s = some slot then updDone 6 0 s
    else if len = 0 ∨ 16384 < len ∨ at' % 256 ≠ 0 ∨ 16777216 < at' + len then updDone 5 0 s
    else if (List.range n).any (fun i => s.hth.written.contains (p0 + i)) then updDone 5 0 s
    else seq [setVerified none, startJob (.write slot p0 (updBytes s len) r.fail 0),
      (match r.upTo with
       | none => finishJob
       | some k => each (List.range (min k n)) (fun _ => jobStep))] s)
def execUpdateWrite (m key : Nat) (run : FlashRun) (s : State) : Host.Outcome State Fault Refusal := done (writing m (updWrite m key run)) s

/-! ### VERIFY and COMMIT (R535, R536) -/

/-- VERIFY of the slot of BEGIN (R535); in HOLD the staged host image is discarded (R511). -/
def updVerify (m key : Nat) (r : VerifyRun) : Act := updCmd m key 3 (fun s =>
  match s.hth.beginSlot with
  | none => updDone 6 0 s
  | some slot => seq [
      setVerified none,
      when (fun s => s.sys.state == .hold) (seq [
        poke (HPT + 3) 0, onImg fun _ g => { g with stagedDiscard := true },
        when (fun s => rdF s (SYS + 5) 7 0 == 1) (onSys fun _ y => { y with imageKept := false })]),
      startJob (.verify slot r.timeouts), when (fun _ => !r.waits) finishJob] s)
def execUpdVerify (m key : Nat) (run : VerifyRun) (s : State) : Host.Outcome State Fault Refusal := done (writing m (updVerify m key run)) s

/-- Append a commit record (R83): a sector is erased before its first record. -/
def appendCommit (slot : Nat) : Act := onFlash fun s f =>
  let q := match latestCommit f with
    | none => 1
    | some c => commitSeq c + 1
  let sec := (q - 1) / 32 % 2
  let kept := if (q - 1) % 32 = 0 then f.commits.filter (fun e => e.1 / 32 != sec) else f.commits
  let b := commitBytes q slot s.hth.verLen s.hth.verSec s.hth.verDigest s.cocoon.calSec
  { f with commits := sparsePut kept (32 * sec + (q - 1) % 32) b }

/-- COMMIT: only a slot that VERIFY passed, with no BEGIN or WRITE since. -/
def updCommit (m key : Nat) : Act := updCmd m key 4 (fun s =>
  match s.hth.verified with
  | none => updDone 7 0 s
  | some slot => seq [appendCommit slot, life 21 1, lifetimeSnapshot, updDone 2 0] s)
def execUpdCommit (m key : Nat) (s : State) : Host.Outcome State Fault Refusal := done (writing m (updCommit m key)) s

/-- ABORT: a running command ends after its current page, sector or fuse; the verification is cleared (R537). -/
def updAbort (m key : Nat) : Act := updCmd m key 5 (seq [jobCurrent, setVerified none, endJob 2 0])
def execUpdAbort (m key : Nat) (s : State) : Host.Outcome State Fault Refusal := done (writing m (updAbort m key)) s

/-! ### FUSE_ADVANCE (R539, R545) -/

/-- Floor fuses to blow: while FLOOR of the package in use is at least the next multiple of 4,096. -/
def floorFuses (s : State) : Nat := s.img.fwFloor / 4096 - vendorFloor s / 4096

/-- FUSE_ADVANCE: the anti-rollback fuses up to the version of the image in use, then the floor fuses. -/
def fuseAdvance (m key : Nat) (r : FuseRun) : Act := updCmd m key 6 (fun s =>
  let n := s.img.secVer - s.otp.rollback
  if !((s.sys.state == .armed || s.sys.state == .run) && committedSlot s == some s.img.slot && s.otp.rollback < s.img.secVer && vdd1Ok s)
  then updDone 6 0 s
  else seq [startJob (.fuses n (floorFuses s) r.good 0),
      (match r.upTo with
       | none => finishJob
       | some k => each (List.range (min k (n + floorFuses s))) (fun _ => jobStep))] s)
def execFuseAdvance (m key : Nat) (run : FuseRun) (s : State) : Host.Outcome State Fault Refusal := done (writing m (fuseAdvance m key run)) s

/-! ### The register -/

/-- A write to HTH_UPD_CTL as a register write: what the flash and the fuses answer is the outside's, here a free value. -/
def updCtl (m : Nat) (w : Word) : Act :=
  let key := fld w 35 24
  match fld w 3 0 with
  | 1 => begin' m key (fld w 8 8)
  | 2 => draw 534 (fun v => updWrite m key { fail := if v % 2 = 0 then none else some (v / 2 % 64), upTo := some (v / 128 % 64) })
  | 3 => draw 535 (fun v => updVerify m key { timeouts := if v % 2 = 0 then [] else [(v / 2 % 4096, v / 8192 % 5)], waits := true })
  | 4 => updCommit m key
  | 5 => updAbort m key
  | 6 => draw 539 (fun v => fuseAdvance m key { good := v % 65, upTo := some 0 })
  | c => updCmd m key c (updDone 5 0)

end Sys2Proof.Machine
end

