-- ==== Sys2Proof/Machine/Run.lean ====
section
/-! DEFINITION. Entering RUN and leaving it (03: R67-R69; 17: R429): RUN_ENTRY, ARMED_TIMEOUT and STOP_RAMP_COMPLETE. -/
namespace Sys2Proof.Machine
open Sys2Proof

/-! ### The conditions of R67 -/

/-- Condition 3: the tail window of every line in use holds its lead; a line of no length has none to hold (R24, R455). -/
def leadHeld (s : State) : Bool := (List.range 2048).all (fun l => lineLen (rd s) l == 0 || s.sys.prefetched.contains l)
/-- Condition 4: SOLO at once, a pair as ROLE_DECISION set it. -/
def roleDecided (s : State) : Bool := !isTwin s || s.twn.decided.isSome
/-- Conditions 3, 4 and 6; condition 5 is the level of QUENCH_IN_L. -/
def othersMet (s : State) : Bool := leadHeld s && roleDecided s && !s.sys.stopHold

/-! ### RUN_ENTRY (R67) -/

/-- What starts afresh on entry to RUN: sources (R169), lines (R457), feeds and meters (R212), chain state (R223), the streams' packets,
hashes (R350), work items. -/
def freshRender : Act := seq [
  onWav fun s w => { w with flight := none, overruns := [], presented := [], missing := [], srcs := [], idle := 0, short := false,
                            lines := [], missTick := none, taints := [], caught := s.wav.n, catchups := 0 },
  onFeeds fun _ _ => [],
  onTpr fun _ t => { t with objS := [], feedS := [], objFade := [], partnerSum := none },
  -- a cause of announcement mode that holds as RUN begins takes effect at its first boundary (R130)
  onScene fun s c => { c with annOn := false, annK := 0, annWait := [], annPin := (pinOf s 17).filt, annPartner := partnerPin s },
  onStm fun _ t => { t with part := [] },
  onBel fun _ b => { b with list := [], ends := [], late := false },
  fun s => bgStates ((bgItems (rd s)).filter (fun i => !(itemOf (rd s) i).delayed && (bgOf s i).st == 0)) 1 s,
  onTwn fun s t => { t with upAt := s.wav.n, wantAlign := false, own := [], beats := [], pres := [], ppres := [], confirm := 0, returning := false, hint := false, fwdNext := none,
                            fwdHeld := [], fwdGap := none, sendFrom := s.wav.n + 1, lastSend := none, dualAt := none },
  replayReset]

/-- Locator has computed the targets of the first boundary (R67). -/
def firstTargets (b : Nat) : Act := fun s =>
  match s.loc.next with
  | some x => if x.bnd = b then [] else onLoc (fun s c => { c with next := some (locBuffer s b []), unfinished := [] }) s
  | none => onLoc (fun s c => { c with next := some (locBuffer s b []), unfinished := [] }) s

/-- RUN_ENTRY: at a control-tick boundary with the conditions of R67 met; `ms` since the release of the reset pins, for RUN_MS. DESIGN
CHOICE (log entry 66): SYS_BOOT holds the latest entry: RUN_MS is written at every entry to RUN, BOOT_MS by every load that reaches
ARMED; the spec speaks of "the times of the latest start" (R75). -/
def runEntry (ms : Nat) : Act := fun s =>
  if s.sys.state != .armed || (s.wav.n + 1) % 16 != 0 then [] else
  if !(pinOf s 16).filt then enterSafe false s else
  if !(s.sys.condClock && s.sys.condCount && othersMet s) then [] else
  let role := if isTwin s then s.twn.decided.getD .active else .solo
  seq [
    firstTargets (s.wav.n + 1),
    setState .run,
    onSys fun _ y => { y with role := role },
    freshRender,
    onQch fun _ q => { q with rampStart := some 0, rampSafe := none, rampStop := none },
    pokeF (SYS + 7) 35 20 (min 65535 ms),
    (if role == .standby then (if s.twn.together then setAlign 4 else requestAlign) else nop)] s
def execRunEntry (ms : Nat) (s : State) : Host.Outcome State Fault Refusal := done (runEntry ms) s

/-! ### ARMED_TIMEOUT (R68) -/

/-- ARMED_TIMEOUT: conditions 3 to 6 hold but the clock or the count does not: free-run on XO; the next tick establishes the count from
the calendar as it stands (`countAtTick`). -/
def armedTimeout : Act := fun s =>
  if s.sys.state != .armed || s.img.timeout == 0 || !(pinOf s 16).filt || !othersMet s || (s.sys.condClock && s.sys.condCount) then []
  else seq [
    onSys fun _ y => { y with condClock := true, condCount := false },
    pokeF CLK 35 33 4, updateFree, clockEvent .freeRun 0 0] s
def execArmedTimeout (s : State) : Host.Outcome State Fault Refusal := done armedTimeout s

/-! ### STOP_RAMP_COMPLETE (R69, R435) -/

/-- STOP_RAMP_COMPLETE: the 64 samples of the ramp have been released: the device leaves RUN for ARMED. A STOP sets the stop hold and
completes with DONE; a correction that passes through ARMED sets none. -/
def stopRampComplete : Act := fun s =>
  if s.sys.state != .run || s.qch.rampStop != some 64 || s.wav.flight.isSome then [] else seq [
    leaveRun, armedEntry,
    when (fun s => s.sys.busyCmd == 3) (seq [onSys fun _ y => { y with stopHold := true, busyCmd := 0 }, cmdStatus 2])] s
def execStopRampComplete (s : State) : Host.Outcome State Fault Refusal := done stopRampComplete s

end Sys2Proof.Machine
end

