-- ==== Sys2Proof/Machine/Bus.lean ====
section
/-! DEFINITION. Crossbar transactions (19: R461-R468) and the register accesses that are rows of their own (02: R5, R6, R40; 24: R561).
Commands are indivisible, so no transaction is ever outstanding when another begins (log entry 58). -/
namespace Sys2Proof.Machine
open Sys2Proof

/-! ### Masters and ports -/

/-- A master that exists: 0-9, and the even lanes, whose ID a pair's accesses carry (R461). -/
def isMaster (m : Nat) : Bool := m ≤ 9 || (0x10 ≤ m && m ≤ 0x57 && m % 2 == 0)

/-- The master port of a master: 0-9, and 10 + q for pairs 6q to 6q + 5 (R461). -/
def masterPort (m : Nat) : Nat := if m < 0x10 then m else 10 + (m - 0x10) / 2 / 6

/-- The number of a target port. -/
def portNumber (p : Port) : Nat := p.ctorIdx

/-- Is the crossbar running: rails up, no reset pin low? -/
def busUp (s : State) : Bool := s.sys.rails && s.sys.porstHigh && s.sys.wrstHigh

/-- Something a master does on the crossbar: nothing while the block is in reset or there is no such master; a master whose drain is in
progress waits (R468). The target port parks on it (R467). -/
def onBus (m a : Nat) (act : Act) : Act := fun s =>
  if !busUp s || !isMaster m then []
  else if s.sys.draining.contains m then emit (.wait 468) s
  else seq [(match portOf a with
      | some p => onXbr fun _ x => { x with granted := sparsePut x.granted (portNumber p) (masterPort m) }
      | none => nop), act] s

/-! ### Register writes that are commands -/

/-- A word written to SYS_CMD (R76, R77). -/
def sysCmdWord (m : Nat) (w : Word) : Act :=
  let key := fld w 35 24
  match fld w 7 0 with
  | 1 => retry m key
  | 2 => continue' m key
  | 3 => stop m key
  | 4 => safeEnter m key
  | 5 => safeClear m key
  | 6 => warmResetCmd m key
  | 7 => coldResetCmd m key
  | 8 => holdEnter m key
  | 9 => loadHost m key
  | c => sysCmd m key c (fun _ => false) nop

/-- The two command registers that load and check images. -/
def commandWord (m a : Nat) (w : Word) : Act :=
  if a = SYS + 2 then sysCmdWord m w else if a = HTH + 0x70 then updCtl m w else nop

/-- One word written by a master. -/
def writeWord (m a : Nat) (w : Word) : Act := writeWordWith commandWord m a w

/-! ### Transactions (R463, R464) -/

/-- A burst lies in one 16-word block and has 1 to 16 beats (R463). -/
def burstOk (a n : Nat) : Bool := 1 ≤ n && n ≤ 16 && a % 16 + n ≤ 16 && a < 2 ^ 32

/-- A read word for word: each is zero where its status is not OK; the response carries the first status that is not OK (log entry 59). -/
def readWords (m : Nat) : List Nat → Nat → List Word → Act
  | [], st, ws => emit (.resp st ws)
  | a :: r, st, ws => fun s =>
    let x := issueRead s m a
    seq [x.1, confirmRead m x.2, readWords m r (if st = 0 then x.2.status else st) (ws ++ [x.2.word])] s

/-- A write word for word: beats whose strobe is off write nothing, and a word whose status is not OK changes nothing. A reset that a
word causes ends the burst (R468). -/
def writeWords (m : Nat) : List (Nat × Bool × Word) → Nat → Act
  | [], st => emit (.resp st [])
  | (_, false, _) :: r, st => writeWords m r st
  | (a, true, w) :: r, st => fun s =>
    let st' := if st = 0 then writeStatus s m a else st
    seq [writeWord m a w, fun t =>
      if busUp t && t.sys.state != .reset && !t.sys.draining.contains m then writeWords m r st' t else []] s

/-- CROSSBAR_TRANSACTION: a burst of beats, each with its strobe and, in a write, its word. -/
def crossbarTransaction (m a : Nat) (write : Bool) (beats : List (Bool × Word)) : Act :=
  if !burstOk a beats.length then nop else
  onBus m a (
    if write then writeWords m (beats.zipIdx.map (fun b => (a + b.2, b.1))) 0
    else readWords m ((List.range beats.length).map (a + ·)) 0 [])
def execCrossbarTransaction (m a : Nat) (write : Bool) (beats : List (Bool × Word)) (s : State) : Host.Outcome State Fault Refusal :=
  done (crossbarTransaction m a write beats) s

/-! ### Single-word accesses -/

/-- One word written, and one word read. -/
def write1 (m a : Nat) (w : Word) : Act := if a < 2 ^ 32 then onBus m a (writeWords m [(a, true, w)] 0) else nop
def read1 (m a : Nat) : Act := if a < 2 ^ 32 then onBus m a (readWords m [a] 0 []) else nop

/-- REGISTER_WRITE: a register with no row of its own, by the access behaviour of its fields (R5, R8). -/
def execRegisterWrite (m a : Nat) (w : Word) (s : State) : Host.Outcome State Fault Refusal :=
  done (when (fun _ => portOf a == some .regs) (write1 m a w)) s

/-- RC_READ: the fields that a read clears give up what it returned (R5, R6). -/
def execRcRead (m a : Nat) (s : State) : Host.Outcome State Fault Refusal :=
  done (when (fun _ => rcMask a != 0) (read1 m a)) s

/-- LATCHING_READ: the first word of a latched pair latches its companions (R561). -/
def execLatchingRead (m a : Nat) (s : State) : Host.Outcome State Fault Refusal :=
  done (when (fun s => !(captures s a).isEmpty) (read1 m a)) s

/-- PAIR_STAGE_WRITE: the even word of the pair that holds `a` (R40). -/
def execPairStageWrite (m a : Nat) (w : Word) (s : State) : Host.Outcome State Fault Refusal :=
  done (when (fun _ => isPairWord a) (write1 m (a - a % 2) w)) s

/-- PAIR_COMMIT_WRITE: the odd word of the pair that holds `a` (R40). -/
def execPairCommitWrite (m a : Nat) (w : Word) (s : State) : Host.Outcome State Fault Refusal :=
  done (when (fun _ => isPairWord a) (write1 m (a - a % 2 + 1) w)) s

/-- SYS_MRST: a write to the register (R63, R468). -/
def execSysMrst (m : Nat) (w : Word) (s : State) : Host.Outcome State Fault Refusal := done (write1 m (SYS + 6) w) s

end Sys2Proof.Machine
end

