-- ==== Sys2Proof/Machine/HostPort.lean ====
section
/-! DEFINITION. The host port (21: R501-R513, R585; 02: R43, R44; 01: R13): a transaction is its header, its words, and the rise of
HP_CS_L that ends it. -/
namespace Sys2Proof.Machine
open Sys2Proof

/-- A word on lines that nobody drives (R502). -/
def undriven : List Nat := List.replicate 5 0xFF

/-- The five bytes of any word received, its check nibble apart. -/
def rawWord (b : List Nat) : Nat := beNat (b.take 5) % 2 ^ 36

/-- Does the port answer: HP_RDY has risen since the reset, and the master is not draining (R72, R468)? -/
def portUp' (s : State) : Bool := busUp s && s.sys.rdyUp && !s.sys.draining.contains 1

/-! ### The header (R503, R508) -/

/-- Note the first error of the transaction in progress. -/
def firstError (code a : Nat) : Act := onHpt fun _ h => { h with err := some (h.err.getD (code, a)) }

/-- After an error that ends the transaction nothing more is performed. -/
def deaden (code a : Nat) : Act := seq [firstError code a, cancelSpec, onHpt fun _ h => { h with dead := true }]

/-- The port takes the header. A wrong check nibble, a reserved OP or a STATUS with an ADDRESS leaves the rest ignored. -/
def takeHeader (hdr : List Nat) : Act :=
  let op := rawWord hdr / 2 ^ 32
  let a := rawWord hdr % 2 ^ 32
  seq [onHpt fun _ _ => { Hpt.reset with active := some (op, a) },
    (match bytesWord hdr with
     | none => deaden 1 a
     | some _ => if op = 0 ∨ 5 < op ∨ (op = 5 ∧ a ≠ 0) then deaden 3 a else nop)]

/-- The next word's address: the same for a FIXED operation, else one higher, wrapping (R503). -/
def stepAddr : Act := onHpt fun _ h =>
  { h with active := h.active.map (fun t => (t.1, if t.1 < 3 then (t.2 + 1) % 2 ^ 32 else t.2)) }

/-- The word is performed: GOOD_WORDS counts it unless an error came before it. -/
def goodWord : Act := onHpt fun _ h => { h with good := if h.err.isNone then h.good + 1 else h.good }

/-- The error that a crossbar status is (R508). -/
def busError (st a : Nat) : Act := if st = 0 then nop else firstError (st + 3) a

/-! ### Data words -/

/-- A write word arrives: `busy`: HP_RDY showed busy. -/
def writeOne (busy : Bool) (b : List Nat) : Act := fun s =>
  match s.hpt.active with
  | none => []
  | some (_, a) =>
    if s.hpt.dead then [] else
    if busy then deaden 9 a s else
    match bytesWord b with
    | none => deaden 2 a s
    | some w =>
      seq [busError (writeStatus s 1 a) a, goodWord, stepAddr, onBus 1 a (writeWord 1 a w)] s

/-- Issue one speculative read, at the address that follows those in flight (R585). -/
def issueNext : Act := fun s =>
  match s.hpt.active with
  | none => []
  | some (op, a) =>
    let at' := if op = 2 then (a + s.hpt.spec.length) % 2 ^ 32 else a
    let x := issueRead s 1 at'
    onBus 1 at' (seq [x.1, onHpt fun _ h => { h with spec := h.spec ++ [x.2] }]) s

/-- The port reads ahead of the first word: eight words (R585; log entry 60). -/
def readAhead : Act := each (List.range 8) (fun _ => issueNext)

/-- The host clocks the first cycle of the next reply word, which confirms its read; the read-ahead moves on. A word clocked while HP_RDY
shows busy is not confirmed (DEDUCED: log entry 48). -/
def readOne (busy : Bool) : Act := fun s =>
  match s.hpt.active, s.hpt.spec with
  | some (_, a), x :: r =>
    if s.hpt.dead then emit (.host undriven) s else
    if busy then seq [deaden 9 a, emit (.host undriven)] s else
    seq [onHpt fun _ h => { h with spec := r },
         confirmRead 1 x, busError x.status a, goodWord, stepAddr, emit (.host (wordBytes x.word)), issueNext] s
  | _, _ => emit (.host undriven) s

/-- The data phase: what the header's OP makes of the words that the host clocks, each with its busy mark. -/
def dataPhase (ws : List (Bool × List Nat)) : Act := fun s =>
  match s.hpt.active with
  | none => []
  | some (op, _) =>
    if s.hpt.dead then each ws (fun _ => if op = 1 ∨ op = 3 then nop else emit (.host undriven)) s
    else if op = 1 ∨ op = 3 then each ws (fun w => writeOne w.1 w.2) s
    else if op = 2 ∨ op = 4 then seq [readAhead, each ws (fun w => readOne w.1)] s
    else seq [emit (.host (wordBytes (rd s HPT))), each (ws.drop 1) (fun _ => emit (.host undriven))] s

/-- A transaction from the fall of HP_CS_L: its header and the words that follow. After a reset of the port nothing is taken until
HP_CS_L has been high (R510); within a transaction none begins. -/
def transact (hdr : List Nat) (ws : List (Bool × List Nat)) : Act := fun s =>
  if !portUp' s || s.hpt.ignore || s.hpt.active.isSome then [] else seq [takeHeader hdr, dataPhase ws] s

/-- Mark the word at which the host did not wait for HP_RDY. -/
def marked (ws : List (List Nat)) (ov : Option Nat) : List (Bool × List Nat) := ws.zipIdx.map (fun w => (ov == some w.2, w.1))

/-- WRITE and WRITE_FIXED: header and data words as five bytes each; `ov`: the word clocked while HP_RDY showed busy. -/
def execHpWrite (hdr : List Nat) (words : List (List Nat)) (ov : Option Nat) (s : State) : Host.Outcome State Fault Refusal :=
  done (transact hdr (marked words ov)) s
def execHpWriteFixed (hdr : List Nat) (words : List (List Nat)) (ov : Option Nat) (s : State) : Host.Outcome State Fault Refusal :=
  done (transact hdr (marked words ov)) s

/-- READ and READ_FIXED: header and the number of reply words whose first cycle the host clocks. -/
def execHpRead (hdr : List Nat) (n : Nat) (ov : Option Nat) (s : State) : Host.Outcome State Fault Refusal :=
  done (transact hdr (marked (List.replicate n undriven) ov)) s
def execHpReadFixed (hdr : List Nat) (n : Nat) (ov : Option Nat) (s : State) : Host.Outcome State Fault Refusal :=
  done (transact hdr (marked (List.replicate n undriven) ov)) s

/-- STATUS: served by the port itself, without the crossbar (R504); not even a drain holds it back. -/
def hpStatus (hdr : List Nat) : Act := fun s =>
  if !busUp s || !s.sys.rdyUp || s.hpt.ignore || s.hpt.active.isSome then [] else
  seq [takeHeader hdr, dataPhase [(false, undriven)]] s
def execHpStatus (hdr : List Nat) (s : State) : Host.Outcome State Fault Refusal := done (hpStatus hdr) s

/-! ### The end (R508, R509) -/

/-- HP_CS_L rises, inside a word or between two: the transaction ends, its outcome is recorded, unconfirmed reads are cancelled. A reply
word cut short was confirmed by its first cycle. -/
def csRise (inWord : Bool) : Act := fun s =>
  match s.hpt.active with
  | none => onHpt (fun _ _ => Hpt.reset) s
  | some (op, a) =>
    let err := if inWord && op != 5 then some (s.hpt.err.getD (7, a)) else s.hpt.err
    seq [
      when (fun s => inWord && !s.hpt.dead) (fun s => match s.hpt.spec with
        | x :: r => seq [onHpt fun _ h => { h with spec := r }, confirmRead 1 x] s
        | [] => []),
      cancelSpec,
      when (fun _ => op != 5 || err.isSome) (recordTransaction op s.hpt.good err),
      onHpt fun _ _ => Hpt.reset] s
def execHpCsLRise (inWord : Bool) (s : State) : Host.Outcome State Fault Refusal := done (csRise inWord) s

end Sys2Proof.Machine
end

