-- ==== Sys2Proof/Machine/LaneAlu.lean ====
section
/-! DEFINITION. The G slot of a lane (11: R267-R271, R281-R285): integer work, moves, compares, branches, loops, the end of an item. -/
namespace Sys2Proof.Machine
open Sys2Proof

/-! ### The ALU form (R269) -/

/-- An ALU operation with a 36-bit result in D(dd), under guard P(g). -/
def alu (c op dd ds g : Nat) (f : LaneRun → Flagged Word) : Act :=
  issue c .g (encAlu op dd ds g) (fun r => if predOf r g then result c r .g dd 1 (f r) else nop)

/-- A compare, which writes P(g); P0 ignores writes. -/
def cmp (c op dd ds g : Nat) (f : LaneRun → Bool) : Act :=
  issue c .g (encAlu op dd ds g) (fun r => if g = 0 then nop else landsFree c (.pred g) (b2n (f r)) 1)

/-- An ALU operation on the lane's control registers, under guard P(g). -/
def ctl (c op dd ds g : Nat) (f : LaneRun → List Landing) : Act :=
  issue c .g (encAlu op dd ds g) (fun r => if predOf r g then lands c (f r) else nop)

/-- Shift amount of SHL, SHR and SAR. -/
def shiftBy (r : LaneRun) (ds : Nat) : Nat := uD r ds % 64

/-- The encoding of a NOP in a slot: operation code zero and the remaining bits (R267). -/
def encNop (k : LSlot) (rest : Nat) : Option Nat := match k with
  | .g => pack [(0, 7), (rest, 13)]
  | .m => pack [(0, 5), (rest, 15)]
  | .x => pack [(0, 3), (rest, 13)]
  | .y => pack [(0, 3), (rest, 13)]

/-- NOP in any slot: nothing; with a non-zero bit the bundle is ILLEGAL (R267). -/
def execLaneNop (p : Nat) (slot : LSlot) (rest : Nat) (s : State) : Host.Outcome State Fault Refusal :=
  done (issue p slot (encNop slot rest) (fun _ => nop)) s

/-- MOV. -/
def execLaneMov (p dd ds g : Nat) (s : State) : Host.Outcome State Fault Refusal :=
  done (alu p 0x01 dd ds g (fun r => bitResult (rdD r ds))) s

/-- ADD. -/
def execLaneAdd (p dd ds g : Nat) (s : State) : Host.Outcome State Fault Refusal :=
  done (alu p 0x02 dd ds g (fun r => wrapResult (sD r dd + sD r ds))) s

/-- SUB. -/
def execLaneSub (p dd ds g : Nat) (s : State) : Host.Outcome State Fault Refusal :=
  done (alu p 0x03 dd ds g (fun r => wrapResult (sD r dd - sD r ds))) s

/-- ADDS. -/
def execLaneAdds (p dd ds g : Nat) (s : State) : Host.Outcome State Fault Refusal :=
  done (alu p 0x04 dd ds g (fun r => satResult (sD r dd + sD r ds))) s

/-- SUBS. -/
def execLaneSubs (p dd ds g : Nat) (s : State) : Host.Outcome State Fault Refusal :=
  done (alu p 0x05 dd ds g (fun r => satResult (sD r dd - sD r ds))) s

/-- AND. -/
def execLaneAnd (p dd ds g : Nat) (s : State) : Host.Outcome State Fault Refusal :=
  done (alu p 0x06 dd ds g (fun r => bitResult (rdD r dd &&& rdD r ds))) s

/-- OR. -/
def execLaneOr (p dd ds g : Nat) (s : State) : Host.Outcome State Fault Refusal :=
  done (alu p 0x07 dd ds g (fun r => bitResult (rdD r dd ||| rdD r ds))) s

/-- XOR. -/
def execLaneXor (p dd ds g : Nat) (s : State) : Host.Outcome State Fault Refusal :=
  done (alu p 0x08 dd ds g (fun r => bitResult (rdD r dd ^^^ rdD r ds))) s

/-- NOT. -/
def execLaneNot (p dd ds g : Nat) (s : State) : Host.Outcome State Fault Refusal :=
  done (alu p 0x09 dd ds g (fun r => bitResult (notW (rdD r ds)))) s

/-- NEG. -/
def execLaneNeg (p dd ds g : Nat) (s : State) : Host.Outcome State Fault Refusal :=
  done (alu p 0x0A dd ds g (fun r => wrapResult (-(sD r ds)))) s

/-- ABS: the most negative value saturates and sets FSAT. -/
def execLaneAbs (p dd ds g : Nat) (s : State) : Host.Outcome State Fault Refusal :=
  done (alu p 0x0B dd ds g (fun r => satResult (if sD r ds < 0 then -(sD r ds) else sD r ds))) s

/-- MIN, signed. -/
def execLaneMin (p dd ds g : Nat) (s : State) : Host.Outcome State Fault Refusal :=
  done (alu p 0x0C dd ds g (fun r => bitResult (if sD r dd < sD r ds then rdD r dd else rdD r ds))) s

/-- MAX, signed. -/
def execLaneMax (p dd ds g : Nat) (s : State) : Host.Outcome State Fault Refusal :=
  done (alu p 0x0D dd ds g (fun r => bitResult (if sD r dd < sD r ds then rdD r ds else rdD r dd))) s

/-- SHL: by 36 or more gives 0. -/
def execLaneShl (p dd ds g : Nat) (s : State) : Host.Outcome State Fault Refusal :=
  done (alu p 0x0E dd ds g (fun r => bitResult (rdD r dd <<< shiftBy r ds))) s

/-- SHR, logical. -/
def execLaneShr (p dd ds g : Nat) (s : State) : Host.Outcome State Fault Refusal :=
  done (alu p 0x0F dd ds g (fun r => bitResult (rdD r dd >>> shiftBy r ds))) s

/-- SAR: by 36 or more gives all sign bits. -/
def execLaneSar (p dd ds g : Nat) (s : State) : Host.Outcome State Fault Refusal :=
  done (alu p 0x10 dd ds g (fun r => wrapResult (floorShift (sD r dd) (shiftBy r ds)))) s

/-- SHLI. -/
def execLaneShli (p dd imm g : Nat) (s : State) : Host.Outcome State Fault Refusal :=
  done (alu p 0x11 dd imm g (fun r => bitResult (rdD r dd <<< imm))) s

/-- SARI. -/
def execLaneSari (p dd imm g : Nat) (s : State) : Host.Outcome State Fault Refusal :=
  done (alu p 0x12 dd imm g (fun r => wrapResult (floorShift (sD r dd) imm))) s

/-- ADDI: a signed 5-bit value. -/
def execLaneAddi (p dd imm g : Nat) (s : State) : Host.Outcome State Fault Refusal :=
  done (alu p 0x13 dd imm g (fun r => wrapResult (sD r dd + signedN 5 imm))) s

/-- CMPEQ. -/
def execLaneCmpeq (p dd ds g : Nat) (s : State) : Host.Outcome State Fault Refusal :=
  done (cmp p 0x14 dd ds g (fun r => rdD r dd == rdD r ds)) s

/-- CMPLT, signed. -/
def execLaneCmplt (p dd ds g : Nat) (s : State) : Host.Outcome State Fault Refusal :=
  done (cmp p 0x15 dd ds g (fun r => decide (sD r dd < sD r ds))) s

/-- CMPLE, signed. -/
def execLaneCmple (p dd ds g : Nat) (s : State) : Host.Outcome State Fault Refusal :=
  done (cmp p 0x16 dd ds g (fun r => decide (sD r dd ≤ sD r ds))) s

/-- CMPLTU, unsigned. -/
def execLaneCmpltu (p dd ds g : Nat) (s : State) : Host.Outcome State Fault Refusal :=
  done (cmp p 0x17 dd ds g (fun r => decide (uD r dd < uD r ds))) s

/-- MOVS: a special register from D(ds) (R270). -/
def execLaneMovs (p dd ds g : Nat) (s : State) : Host.Outcome State Fault Refusal :=
  done (ctl p 0x18 dd ds g (fun r => movsLands dd (uD r ds))) s

/-- MOVG: D(dd) from a special register (R270). -/
def execLaneMovg (p dd ds g : Nat) (s : State) : Host.Outcome State Fault Refusal :=
  done (alu p 0x19 dd ds g (fun r => bitResult (wd (specialOf r ds)))) s

/-- SETRRB. -/
def execLaneSetrrb (p ds g : Nat) (s : State) : Host.Outcome State Fault Refusal :=
  done (ctl p 0x1A 0 ds g (fun r => [(.rrb, uD r ds % 16, 2, 0)])) s

/-- MASK: IM visible as 1 in the next bundle (R277). -/
def execLaneMask (p g : Nat) (s : State) : Host.Outcome State Fault Refusal :=
  done (ctl p 0x1B 0 0 g (fun _ => [(.im, 1, 1, 0)])) s

/-- UNMASK. -/
def execLaneUnmask (p g : Nat) (s : State) : Host.Outcome State Fault Refusal :=
  done (ctl p 0x1C 0 0 g (fun _ => [(.im, 0, 1, 0)])) s

/-- END and YIELD: the item ends after the two delay slots; `agree` says that both lanes reached this end in this bundle (R256). Under a
guard that reads 0 nothing happens (R284). -/
def endItem (c op g : Nat) (yield agree : Bool) : Act :=
  issue c .g (encAlu op 0 0 g) (fun r =>
    if predOf r g then setRun c fun r => { r with ending := some yield, delay := 3, target := none, agree := r.agree && agree } else nop)

/-- END (R284). -/
def execLaneEnd (p g : Nat) (agree : Bool) (s : State) : Host.Outcome State Fault Refusal :=
  done (endItem p 0x1D g false agree) s

/-- YIELD; in a period item the bundle is ILLEGAL (R284). -/
def execLaneYield (p g : Nat) (agree : Bool) (s : State) : Host.Outcome State Fault Refusal :=
  done (endItem p 0x1E g true agree) s

/-! ### LDI, branches and loops (R268, R271, R281-R283) -/

/-- LDI: IMM, zero-extended. -/
def execLaneLdi (p dd imm : Nat) (s : State) : Host.Outcome State Fault Refusal :=
  done (issue p .g (encLdi dd imm) (fun r => result p r .g dd 1 (bitResult (wd imm)))) s

/-- A branch: its predicate and target are read at issue; two delay slots follow whether or not it is taken (R271). -/
def branch (c kind g t : Nat) (taken : LaneRun → Bool) (target : LaneRun → Nat) : Act :=
  issue c .g (encBranch kind g t) (fun r =>
    setRun c fun q => { q with delay := 3, target := if taken r then some (target r) else none })

/-- BR. -/
def execLaneBr (p g target : Nat) (s : State) : Host.Outcome State Fault Refusal :=
  done (branch p 0 g target (fun r => predOf r g) (fun _ => target)) s

/-- BRN. -/
def execLaneBrn (p g target : Nat) (s : State) : Host.Outcome State Fault Refusal :=
  done (branch p 1 g target (fun r => !predOf r g) (fun _ => target)) s

/-- JR: the target is D(n) bits 12:0. -/
def execLaneJr (p g n : Nat) (s : State) : Host.Outcome State Fault Refusal :=
  done (branch p 2 g n (fun r => predOf r g) (fun r => bits (uD r n) 12 0)) s

/-- A loop instruction at address t: LS = t + 1, LE = (t + END) mod 8,192, LC the count; a count of 0 skips the body (R281). -/
def loop (c sub last n : Nat) (rot : Bool) (count : LaneRun → Nat) : Act :=
  issue c .g (encLoop sub last n) (fun r => seq [
    setRun c fun q => { q with rotates := some rot, skip := if count r = 0 then some ((r.pc + last) % 8192 + 1) else none },
    landsFree c .lc (count r) 1, landsFree c .ls ((r.pc + 1) % 8192) 1, landsFree c .le ((r.pc + last) % 8192) 1])

/-- LOOP. -/
def execLaneLoop (p last count : Nat) (s : State) : Host.Outcome State Fault Refusal :=
  done (loop p 0 last count false (fun _ => count + 1)) s

/-- LOOPR. -/
def execLaneLoopr (p last n : Nat) (s : State) : Host.Outcome State Fault Refusal :=
  done (loop p 1 last n false (fun r => bits (uD r n) 23 0)) s

/-- RLOOP. -/
def execLaneRloop (p last count : Nat) (s : State) : Host.Outcome State Fault Refusal :=
  done (loop p 2 last count true (fun _ => count + 1)) s

/-- RLOOPR. -/
def execLaneRloopr (p last n : Nat) (s : State) : Host.Outcome State Fault Refusal :=
  done (loop p 3 last n true (fun r => bits (uD r n) 23 0)) s

/-- LOOP_BACK: the bundle at LE has issued with LC above 1: LC falls by one and LS issues next, with no step between (R281); a rotating
loop rotates (R283). -/
def loopBack (c : Nat) : Act := fun s =>
  match runOf s c with
  | none => []
  | some r => if !r.loopDue then [] else
    seq [lands c [(.lc, r.lc - 1, 1, 0)], rotateAt c, setRun c fun q => nextBundle q q.ls] s
def execLaneLoopBack (p : Nat) (s : State) : Host.Outcome State Fault Refusal := done (loopBack p) s

end Sys2Proof.Machine
end

