-- ==== Sys2Proof/Machine/LaneMac.lean ====
section
/-! DEFINITION. The M slot of a lane (11: R272-R274): the multiply-accumulate units and the accumulators. -/
namespace Sys2Proof.Machine
open Sys2Proof

/-- New values of accumulators with the flags computing them sets. -/
def setAccs (c : Nat) (vs : List (Nat × Flagged Int)) : Act :=
  each vs (fun e => seq [setRun c fun r => accPut r e.1 e.2.val, flags c e.2.sets])

/-- Additions into ACC(i), in the order given, under a mode suffix (R272). -/
def accumulate (r : LaneRun) (sfx i : Nat) (ts : List Int) : Nat × Flagged Int := (i, accAdds (modeOf r sfx) (accNow r i) ts)

/-- A value that cannot overflow. -/
def exactly (i : Nat) (z : Int) : Nat × Flagged Int := (i, { val := z, gov := false, sov := false, fsat := false })

/-- The four products D(ra + i) × D(rb + i). -/
def products4 (r : LaneRun) (neg : Bool) (aln ra rb : Nat) : List Int :=
  (List.range 4).map (fun i => product r neg aln (ra + i) (rb + i))

/-- MAC: one product into ACC(ac). -/
def macOp (c op sfx ra rb ac aln : Nat) (neg : Bool) : Act :=
  issue c .m (encM op ra rb ac aln neg) (fun r => setAccs c [accumulate r sfx ac [product r neg aln ra rb]])

/-- MAC4V: product i into ACC(i). -/
def mac4vOp (c op sfx ra rb aln : Nat) (neg : Bool) : Act :=
  issue c .m (encM op ra rb 0 aln neg) (fun r =>
    setAccs c ((List.range 4).map (fun i => accumulate r sfx i [product r neg aln (ra + i) (rb + i)])))

/-- MAC4S: D(ra) × D(rb + i) into ACC(i). -/
def mac4sOp (c op sfx ra rb aln : Nat) (neg : Bool) : Act :=
  issue c .m (encM op ra rb 0 aln neg) (fun r =>
    setAccs c ((List.range 4).map (fun i => accumulate r sfx i [product r neg aln ra (rb + i)])))

/-- MAC4R: four products into ACC(ac), in order. -/
def mac4rOp (c op sfx ra rb ac aln : Nat) (neg : Bool) : Act :=
  issue c .m (encM op ra rb ac aln neg) (fun r => setAccs c [accumulate r sfx ac (products4 r neg aln ra rb)])

/-- ADDA: one aligned operand into ACC(ac) (R273). -/
def addaOp (c op sfx ra ac aln : Nat) (neg : Bool) : Act :=
  issue c .m (encM op ra 0 ac aln neg) (fun r => setAccs c [accumulate r sfx ac [operand r neg aln ra]])

/-- MAC. -/
def execLaneMac (p ra rb ac aln : Nat) (neg : Bool) (s : State) : Host.Outcome State Fault Refusal :=
  done (macOp p 1 0 ra rb ac aln neg) s

/-- MACW. -/
def execLaneMacw (p ra rb ac aln : Nat) (neg : Bool) (s : State) : Host.Outcome State Fault Refusal :=
  done (macOp p 2 1 ra rb ac aln neg) s

/-- MACS. -/
def execLaneMacs (p ra rb ac aln : Nat) (neg : Bool) (s : State) : Host.Outcome State Fault Refusal :=
  done (macOp p 3 2 ra rb ac aln neg) s

/-- MAC4V. -/
def execLaneMac4v (p ra rb aln : Nat) (neg : Bool) (s : State) : Host.Outcome State Fault Refusal :=
  done (mac4vOp p 4 0 ra rb aln neg) s

/-- MAC4VW. -/
def execLaneMac4vw (p ra rb aln : Nat) (neg : Bool) (s : State) : Host.Outcome State Fault Refusal :=
  done (mac4vOp p 5 1 ra rb aln neg) s

/-- MAC4VS. -/
def execLaneMac4vs (p ra rb aln : Nat) (neg : Bool) (s : State) : Host.Outcome State Fault Refusal :=
  done (mac4vOp p 6 2 ra rb aln neg) s

/-- MAC4S. -/
def execLaneMac4s (p ra rb aln : Nat) (neg : Bool) (s : State) : Host.Outcome State Fault Refusal :=
  done (mac4sOp p 7 0 ra rb aln neg) s

/-- MAC4SW. -/
def execLaneMac4sw (p ra rb aln : Nat) (neg : Bool) (s : State) : Host.Outcome State Fault Refusal :=
  done (mac4sOp p 8 1 ra rb aln neg) s

/-- MAC4SS. -/
def execLaneMac4ss (p ra rb aln : Nat) (neg : Bool) (s : State) : Host.Outcome State Fault Refusal :=
  done (mac4sOp p 9 2 ra rb aln neg) s

/-- MAC4R. -/
def execLaneMac4r (p ra rb ac aln : Nat) (neg : Bool) (s : State) : Host.Outcome State Fault Refusal :=
  done (mac4rOp p 10 0 ra rb ac aln neg) s

/-- MAC4RW. -/
def execLaneMac4rw (p ra rb ac aln : Nat) (neg : Bool) (s : State) : Host.Outcome State Fault Refusal :=
  done (mac4rOp p 11 1 ra rb ac aln neg) s

/-- MAC4RS. -/
def execLaneMac4rs (p ra rb ac aln : Nat) (neg : Bool) (s : State) : Host.Outcome State Fault Refusal :=
  done (mac4rOp p 12 2 ra rb ac aln neg) s

/-- MUL. -/
def execLaneMul (p ra rb ac aln : Nat) (neg : Bool) (s : State) : Host.Outcome State Fault Refusal :=
  done (issue p .m (encM 0x0D ra rb ac aln neg) (fun r => setAccs p [exactly ac (product r neg aln ra rb)])) s

/-- MUL4R. -/
def execLaneMul4r (p ra rb ac aln : Nat) (neg : Bool) (s : State) : Host.Outcome State Fault Refusal :=
  done (issue p .m (encM 0x0E ra rb ac aln neg) (fun r => setAccs p [exactly ac ((products4 r neg aln ra rb).foldl (· + ·) 0)])) s

/-- CLR. -/
def execLaneClr (p ac : Nat) (s : State) : Host.Outcome State Fault Refusal :=
  done (issue p .m (encM 0x0F 0 0 ac 0 false) (fun _ => setAccs p [exactly ac 0])) s

/-- LDA (R273). -/
def execLaneLda (p ra ac aln : Nat) (neg : Bool) (s : State) : Host.Outcome State Fault Refusal :=
  done (issue p .m (encM 0x10 ra 0 ac aln neg) (fun r => setAccs p [exactly ac (operand r neg aln ra)])) s

/-- ADDA. -/
def execLaneAdda (p ra ac aln : Nat) (neg : Bool) (s : State) : Host.Outcome State Fault Refusal :=
  done (addaOp p 17 0 ra ac aln neg) s

/-- ADDAW. -/
def execLaneAddaw (p ra ac aln : Nat) (neg : Bool) (s : State) : Host.Outcome State Fault Refusal :=
  done (addaOp p 18 1 ra ac aln neg) s

/-- ADDAS. -/
def execLaneAddas (p ra ac aln : Nat) (neg : Bool) (s : State) : Host.Outcome State Fault Refusal :=
  done (addaOp p 19 2 ra ac aln neg) s

/-- RND: a shift of 34 for RB = 0, else of RB bits (R274). -/
def execLaneRnd (p ra sh ac : Nat) (s : State) : Host.Outcome State Fault Refusal :=
  done (issue p .m (encM 0x14 ra sh ac 0 false) (fun r => result p r .m ra 2 (rndResult (accLate r ac) (if sh = 0 then 34 else sh)))) s

/-- ACCGET (R274). -/
def execLaneAccget (p ra part ac : Nat) (s : State) : Host.Outcome State Fault Refusal :=
  done (issue p .m (encM 0x15 ra part ac 0 false) (fun r => result p r .m ra 2 (bitResult (wd (accPart (accLate r ac) part))))) s

/-- ACCPUT: the other parts are those ACCGET would read (R274, R277). -/
def execLaneAccput (p ra part ac : Nat) (s : State) : Host.Outcome State Fault Refusal :=
  done (issue p .m (encM 0x16 ra part ac 0 false) (fun r => setAccs p [exactly ac (accWithPart (accLate r ac) part (uD r ra))])) s

end Sys2Proof.Machine
end

