-- ==== Sys2Proof/Machine/LaneMem.lean ====
section
/-! DEFINITION. The X and Y slots of a lane (11: R275, R276; 10: R243-R252, R256-R261): loads, stores, address modification, crossbar
loads and stores. -/
namespace Sys2Proof.Machine
open Sys2Proof

/-- The slot of a bank, and the bank's offset in a lane's window. -/
def bankSlot (y : Bool) : LSlot := if y then .y else .x
def bankOff (y : Bool) : Nat := if y then 0x10000 else 0

/-- Post-modification of Ak by m, visible in the next bundle; where R245 makes the new Ak unpredictable it is a free value. The Y slot
stands over the X slot (R279). -/
def modify (c : Nat) (r : LaneRun) (y : Bool) (k : Nat) (m : Int) : Act :=
  let rank : Nat := if y then 2 else 1
  match postMod (amOf r k) (bReg r k) (lReg r k) (aReg r k) m with
  | some v => lands c [(.a k, v, 1, rank)]
  | none => draw 245 (fun v => lands c [(.a k, v % 2 ^ 32, 1, rank)])

/-- The check of a local access at word w (R249, R252): the cause of the program fault, if any. -/
def accessCheck (s : State) (c : Nat) (r : LaneRun) (y : Bool) (w : Nat) (store : Bool) : Option Nat :=
  if y then checkY (rd s) r.item r.cls (runBlock s c r) w store else checkX (runBlock s c r) w

/-- A load of the word at A(a) into D(d), then modification by m. A period item sees its own buffered stores (R257). `corr`: a
single-bit error was corrected on the way (R242). -/
def loadOp (c : Nat) (y : Bool) (enc : Option Nat) (d a : Nat) (m : LaneRun → Int) (corr : Bool) : Act :=
  issue c (bankSlot y) enc (fun r s =>
    let w := aReg r a % 8192
    let o := bankOff y + w
    match accessCheck s c r y w false with
    | some cause => progFault c cause s
    | none => match r.buf.find? (fun e => e.1 == o), badLane s c o with
      | some e, _ => seq [lands c [(.d (phys r d), e.2.toNat, 3, (bankSlot y).rank)], modify c r y a (m r)] s
      | none, some l => seq [uncorrectable 1 (laneW l o), compareFail c 2] s
      | none, none => seq [
          when (fun _ => corr) (bump (LAN (ctxLanes s c).1 + 2) 11 0 1), eccRead (bothLanes s c o),
          lands c [(.d (phys r d), (rd s (laneW (ctxLanes s c).1 o)).toNat, 3, (bankSlot y).rank)], modify c r y a (m r)] s)

/-- A store of D(d) at the word at A(a), then modification by m. `agree`: both lanes issue the same store (R256). A period item's goes
into the commit buffer of 512 (R257); a background item's commits at once (R258). -/
def storeOp (c : Nat) (y : Bool) (enc : Option Nat) (d a : Nat) (m : LaneRun → Int) (agree : Bool) : Act :=
  issue c (bankSlot y) enc (fun r s =>
    let w := aReg r a % 8192
    let o := bankOff y + w
    if !agree then compareFail c 1 s else
    match accessCheck s c r y w true with
    | some cause => progFault c cause s
    | none =>
      if r.cls = 2 then seq [putCtx c o (rdD r d), modify c r y a (m r)] s
      else if 512 ≤ r.buf.length then progFault c 8 s
      else seq [setRun c fun q => { q with buf := (o, rdD r d) :: q.buf }, modify c r y a (m r)] s)

/-- The immediate modifier, signed, and the modifier in a register. -/
def immMod (n : Nat) : LaneRun → Int := fun _ => signedN 5 n
def regMod (n : Nat) : LaneRun → Int := fun r => signedN 32 (uD r n)

/-- LD. -/
def execLaneLd (p : Nat) (y : Bool) (d a mod : Nat) (corr : Bool) (s : State) : Host.Outcome State Fault Refusal :=
  done (loadOp p y (encXY 1 d a mod) d a (immMod mod) corr) s

/-- ST. -/
def execLaneSt (p : Nat) (y : Bool) (d a mod : Nat) (agree : Bool) (s : State) : Host.Outcome State Fault Refusal :=
  done (storeOp p y (encXY 2 d a mod) d a (immMod mod) agree) s

/-- LDR. -/
def execLaneLdr (p : Nat) (y : Bool) (d a n : Nat) (corr : Bool) (s : State) : Host.Outcome State Fault Refusal :=
  done (loadOp p y (encXY 3 d a n) d a (regMod n) corr) s

/-- STR. -/
def execLaneStr (p : Nat) (y : Bool) (d a n : Nat) (agree : Bool) (s : State) : Host.Outcome State Fault Refusal :=
  done (storeOp p y (encXY 4 d a n) d a (regMod n) agree) s

/-- AMOD: post-modification only. -/
def execLaneAmod (p : Nat) (y : Bool) (a mod : Nat) (s : State) : Host.Outcome State Fault Refusal :=
  done (issue p (bankSlot y) (encXY 5 0 a mod) (fun r => modify p r y a (signedN 5 mod))) s

/-- The crossbar master of a context: the even lane of the pair, 0x10 + 2p (R237). -/
def ctxMaster (c : Nat) : Nat := 0x10 + 2 * c

/-- A word a lane writes over the crossbar, as the pair's master: shared SRAM or the DRAM lane pool (R237, R261); other addresses are
refused or have no target (R464). -/
def xbarPut (c a : Nat) (w : Word) : Act := fun s =>
  match writeStatus s (ctxMaster c) a with
  | 0 => if 0x40000000 ≤ a then dramPut a w 0 s else poke a w s
  | 1 => refused (ctxMaster c) a true s
  | _ => decodeErr (ctxMaster c) a true s

/-- A word a lane reads over the crossbar, as the pair's master; `fault` as the DRAM read of R441 sees it. None where it is uncorrectable;
a refused read returns zero (R237, R464). -/
def xbarGet (s : State) (c a fault : Nat) : Act × Option Word :=
  match readStatus s (ctxMaster c) a with
  | 1 => (refused (ctxMaster c) a false, some 0)
  | 2 => (decodeErr (ctxMaster c) a false, some 0)
  | _ =>
    if 0x40000000 ≤ a then dramGet s a fault 0
    else if s.bad.contains a then (uncorrectable 1 a, none) else (eccRead [a], some (rd s a))

/-- XLD and XST: background items only (R247), within the windows of the pair that runs the item (R261), issued once after both lanes agree
(R276). -/
def xbarOp (c op d a mod : Nat) (agree : Bool) (body : LaneRun → Nat → Act) : Act :=
  issue c .x (encXY op d a mod) (fun r s =>
    if !agree then compareFail c 1 s
    else if r.cls ≠ 2 then progFault c 6 s
    else if !xbarOk (rd s) c (aReg r a) (op == 7) then progFault c 7 s
    else seq [body r (aReg r a), modify c r false a (signedN 5 mod)] s)

/-- XLD: the load is outstanding until its data arrives (R276). -/
def execLaneXld (p d a mod : Nat) (agree : Bool) (s : State) : Host.Outcome State Fault Refusal :=
  done (xbarOp p 6 d a mod agree (fun r at' => setRun p fun q => { q with xld := some (phys r d, at') })) s

/-- XST: posted (R276). -/
def execLaneXst (p d a mod : Nat) (agree : Bool) (s : State) : Host.Outcome State Fault Refusal :=
  done (xbarOp p 7 d a mod agree (fun r at' => xbarPut p at' (rdD r d))) s

/-- Does a run stand still for its outstanding load: its end, or a bundle that has not begun, waits for it (R276, R284)? -/
def heldByXld (s : State) (c : Nat) (r : LaneRun) : Bool :=
  ended r || (r.issued == 0 && waits r (bundleAt (rd s) (ctxLanes s c).1 r.pc))

/-- The run as the data of its load arrives: the word lands in D(k) in the next step, with the rank of the X slot (R266, R279). A run that
waited has passed `waited` steps, the last of them the one in which the word lands. -/
def LaneRun.arrived (r : LaneRun) (held : Bool) (waited k : Nat) (w : Word) : LaneRun :=
  let n := if held then max 1 waited else 0
  stepsOn n { r with xld := none, fly := r.fly ++ [{ reg := .d k, val := w.toNat, due := r.step + max 1 n, rank := LSlot.x.rank }] }

/-- XLD_ARRIVAL: the data lands and a waiting bundle proceeds; `waited` steps passed while it waited, in which earlier results landed.
A word that cannot be read is a compare failure (R444). -/
def xldArrival (c fault waited : Nat) : Act := fun s =>
  match runOf s c with
  | none => []
  | some r => match r.xld with
    | none => []
    | some (k, a) =>
      let g := xbarGet s c a fault
      match g.2 with
      | none => seq [g.1, compareFail c 2] s
      | some w => seq [
          g.1, setRun c fun q => q.arrived (heldByXld s c r) waited k w,
          when (fun _ => ended r) (finish c)] s
def execLaneXldArrival (p fault waited : Nat) (s : State) : Host.Outcome State Fault Refusal := done (xldArrival p fault waited) s

end Sys2Proof.Machine
end

