-- ==== Sys2Proof/Machine/Dispatch.lean ====
section
/-! DEFINITION. One arm per command, each one direct call of its meaning. -/
namespace Sys2Proof.Machine
open Sys2Proof

def exec (i : Instr) (s : State) : Host.Outcome State Fault Refusal :=
  match i with
  | .registerWrite m a w => Sys2Proof.Machine.execRegisterWrite m a w s
  | .rcRead m a => Sys2Proof.Machine.execRcRead m a s
  | .latchingRead m a => Sys2Proof.Machine.execLatchingRead m a s
  | .pairStageWrite m a w => Sys2Proof.Machine.execPairStageWrite m a w s
  | .pairCommitWrite m a w => Sys2Proof.Machine.execPairCommitWrite m a w s
  | .pairStageTimeout m => Sys2Proof.Machine.execPairStageTimeout m s
  | .mainRailsRise => Sys2Proof.Machine.execMainRailsRise s
  | .mainRailsRemoved => Sys2Proof.Machine.execMainRailsRemoved s
  | .vbatRise => Sys2Proof.Machine.execVbatRise s
  | .porstL widthNs => Sys2Proof.Machine.execPorstL widthNs s
  | .wrstL widthNs => Sys2Proof.Machine.execWrstL widthNs s
  | .railBelowThreshold rail mv => Sys2Proof.Machine.execRailBelowThreshold rail mv s
  | .bootSelfCheckComplete pass otpOk rngOk => Sys2Proof.Machine.execBootSelfCheckComplete pass otpOk rngOk s
  | .loadComplete e => Sys2Proof.Machine.execLoadComplete e s
  | .hearthWatchdog sinceMs => Sys2Proof.Machine.execHearthWatchdog sinceMs s
  | .hearthRestartComplete => Sys2Proof.Machine.execHearthRestartComplete s
  | .retry m key => Sys2Proof.Machine.execRetry m key s
  | .continueCmd m key => Sys2Proof.Machine.execContinueCmd m key s
  | .stop m key => Sys2Proof.Machine.execStop m key s
  | .safeEnter m key => Sys2Proof.Machine.execSafeEnter m key s
  | .safeClear m key => Sys2Proof.Machine.execSafeClear m key s
  | .warmReset m key => Sys2Proof.Machine.execWarmReset m key s
  | .coldReset m key => Sys2Proof.Machine.execColdReset m key s
  | .holdEnter m key => Sys2Proof.Machine.execHoldEnter m key s
  | .loadHost m key => Sys2Proof.Machine.execLoadHost m key s
  | .sysMrst m w => Sys2Proof.Machine.execSysMrst m w s
  | .masterDrainComplete m => Sys2Proof.Machine.execMasterDrainComplete m s
  | .runEntry ms => Sys2Proof.Machine.execRunEntry ms s
  | .armedTimeout => Sys2Proof.Machine.execArmedTimeout s
  | .stopRampComplete => Sys2Proof.Machine.execStopRampComplete s
  | .periodTick g => Sys2Proof.Machine.execPeriodTick g s
  | .wavefrontComplete time => Sys2Proof.Machine.execWavefrontComplete time s
  | .wavefrontWatchdog groups => Sys2Proof.Machine.execWavefrontWatchdog groups s
  | .catchupWavefront => Sys2Proof.Machine.execCatchupWavefront s
  | .controlTick => Sys2Proof.Machine.execControlTick s
  | .meterAutoSnapshot => Sys2Proof.Machine.execMeterAutoSnapshot s
  | .locatorComplete unfinished time => Sys2Proof.Machine.execLocatorComplete unfinished time s
  | .jumpFillComplete l => Sys2Proof.Machine.execJumpFillComplete l s
  | .headWriteBack l => Sys2Proof.Machine.execHeadWriteBack l s
  | .tailFill l => Sys2Proof.Machine.execTailFill l s
  | .sceneFrameTake => Sys2Proof.Machine.execSceneFrameTake s
  | .locHostSubmit m w => Sys2Proof.Machine.execLocHostSubmit m w s
  | .locProbeSel w => Sys2Proof.Machine.execLocProbeSel w s
  | .routeCtrlWrite m e w => Sys2Proof.Machine.execRouteCtrlWrite m e w s
  | .routeGainWrite m e w => Sys2Proof.Machine.execRouteGainWrite m e w s
  | .routeStageTimeout m => Sys2Proof.Machine.execRouteStageTimeout m s
  | .destinationWrite m dest w => Sys2Proof.Machine.execDestinationWrite m dest w s
  | .routeCommit m count => Sys2Proof.Machine.execRouteCommit m count s
  | .routeCommitCancel m => Sys2Proof.Machine.execRouteCommitCancel m s
  | .routeCommitApply => Sys2Proof.Machine.execRouteCommitApply s
  | .snap m w => Sys2Proof.Machine.execSnap m w s
  | .bankSwapRequest m ctl => Sys2Proof.Machine.execBankSwapRequest m ctl s
  | .bankSwapCancel m => Sys2Proof.Machine.execBankSwapCancel m s
  | .bankSwapStart => Sys2Proof.Machine.execBankSwapStart s
  | .fadeEnd => Sys2Proof.Machine.execFadeEnd s
  | .argumentCommit m p first count => Sys2Proof.Machine.execArgumentCommit m p first count s
  | .argumentCommitCancel m p => Sys2Proof.Machine.execArgumentCommitCancel m p s
  | .argumentCommitApply p => Sys2Proof.Machine.execArgumentCommitApply p s
  | .itemDispatch item => Sys2Proof.Machine.execItemDispatch item s
  | .laneNop p slot rest => Sys2Proof.Machine.execLaneNop p slot rest s
  | .laneMov p dd ds g => Sys2Proof.Machine.execLaneMov p dd ds g s
  | .laneAdd p dd ds g => Sys2Proof.Machine.execLaneAdd p dd ds g s
  | .laneSub p dd ds g => Sys2Proof.Machine.execLaneSub p dd ds g s
  | .laneAdds p dd ds g => Sys2Proof.Machine.execLaneAdds p dd ds g s
  | .laneSubs p dd ds g => Sys2Proof.Machine.execLaneSubs p dd ds g s
  | .laneAnd p dd ds g => Sys2Proof.Machine.execLaneAnd p dd ds g s
  | .laneOr p dd ds g => Sys2Proof.Machine.execLaneOr p dd ds g s
  | .laneXor p dd ds g => Sys2Proof.Machine.execLaneXor p dd ds g s
  | .laneNot p dd ds g => Sys2Proof.Machine.execLaneNot p dd ds g s
  | .laneNeg p dd ds g => Sys2Proof.Machine.execLaneNeg p dd ds g s
  | .laneAbs p dd ds g => Sys2Proof.Machine.execLaneAbs p dd ds g s
  | .laneMin p dd ds g => Sys2Proof.Machine.execLaneMin p dd ds g s
  | .laneMax p dd ds g => Sys2Proof.Machine.execLaneMax p dd ds g s
  | .laneShl p dd ds g => Sys2Proof.Machine.execLaneShl p dd ds g s
  | .laneShr p dd ds g => Sys2Proof.Machine.execLaneShr p dd ds g s
  | .laneSar p dd ds g => Sys2Proof.Machine.execLaneSar p dd ds g s
  | .laneShli p dd imm g => Sys2Proof.Machine.execLaneShli p dd imm g s
  | .laneSari p dd imm g => Sys2Proof.Machine.execLaneSari p dd imm g s
  | .laneAddi p dd imm g => Sys2Proof.Machine.execLaneAddi p dd imm g s
  | .laneCmpeq p dd ds g => Sys2Proof.Machine.execLaneCmpeq p dd ds g s
  | .laneCmplt p dd ds g => Sys2Proof.Machine.execLaneCmplt p dd ds g s
  | .laneCmple p dd ds g => Sys2Proof.Machine.execLaneCmple p dd ds g s
  | .laneCmpltu p dd ds g => Sys2Proof.Machine.execLaneCmpltu p dd ds g s
  | .laneMovs p dd ds g => Sys2Proof.Machine.execLaneMovs p dd ds g s
  | .laneMovg p dd ds g => Sys2Proof.Machine.execLaneMovg p dd ds g s
  | .laneSetrrb p ds g => Sys2Proof.Machine.execLaneSetrrb p ds g s
  | .laneMask p g => Sys2Proof.Machine.execLaneMask p g s
  | .laneUnmask p g => Sys2Proof.Machine.execLaneUnmask p g s
  | .laneEnd p g agree => Sys2Proof.Machine.execLaneEnd p g agree s
  | .laneYield p g agree => Sys2Proof.Machine.execLaneYield p g agree s
  | .laneLdi p dd imm => Sys2Proof.Machine.execLaneLdi p dd imm s
  | .laneBr p g target => Sys2Proof.Machine.execLaneBr p g target s
  | .laneBrn p g target => Sys2Proof.Machine.execLaneBrn p g target s
  | .laneJr p g n => Sys2Proof.Machine.execLaneJr p g n s
  | .laneLoop p last count => Sys2Proof.Machine.execLaneLoop p last count s
  | .laneLoopr p last n => Sys2Proof.Machine.execLaneLoopr p last n s
  | .laneRloop p last count => Sys2Proof.Machine.execLaneRloop p last count s
  | .laneRloopr p last n => Sys2Proof.Machine.execLaneRloopr p last n s
  | .laneLoopBack p => Sys2Proof.Machine.execLaneLoopBack p s
  | .laneMac p ra rb ac aln neg => Sys2Proof.Machine.execLaneMac p ra rb ac aln neg s
  | .laneMacw p ra rb ac aln neg => Sys2Proof.Machine.execLaneMacw p ra rb ac aln neg s
  | .laneMacs p ra rb ac aln neg => Sys2Proof.Machine.execLaneMacs p ra rb ac aln neg s
  | .laneMac4v p ra rb aln neg => Sys2Proof.Machine.execLaneMac4v p ra rb aln neg s
  | .laneMac4vw p ra rb aln neg => Sys2Proof.Machine.execLaneMac4vw p ra rb aln neg s
  | .laneMac4vs p ra rb aln neg => Sys2Proof.Machine.execLaneMac4vs p ra rb aln neg s
  | .laneMac4s p ra rb aln neg => Sys2Proof.Machine.execLaneMac4s p ra rb aln neg s
  | .laneMac4sw p ra rb aln neg => Sys2Proof.Machine.execLaneMac4sw p ra rb aln neg s
  | .laneMac4ss p ra rb aln neg => Sys2Proof.Machine.execLaneMac4ss p ra rb aln neg s
  | .laneMac4r p ra rb ac aln neg => Sys2Proof.Machine.execLaneMac4r p ra rb ac aln neg s
  | .laneMac4rw p ra rb ac aln neg => Sys2Proof.Machine.execLaneMac4rw p ra rb ac aln neg s
  | .laneMac4rs p ra rb ac aln neg => Sys2Proof.Machine.execLaneMac4rs p ra rb ac aln neg s
  | .laneMul p ra rb ac aln neg => Sys2Proof.Machine.execLaneMul p ra rb ac aln neg s
  | .laneMul4r p ra rb ac aln neg => Sys2Proof.Machine.execLaneMul4r p ra rb ac aln neg s
  | .laneClr p ac => Sys2Proof.Machine.execLaneClr p ac s
  | .laneLda p ra ac aln neg => Sys2Proof.Machine.execLaneLda p ra ac aln neg s
  | .laneAdda p ra ac aln neg => Sys2Proof.Machine.execLaneAdda p ra ac aln neg s
  | .laneAddaw p ra ac aln neg => Sys2Proof.Machine.execLaneAddaw p ra ac aln neg s
  | .laneAddas p ra ac aln neg => Sys2Proof.Machine.execLaneAddas p ra ac aln neg s
  | .laneRnd p ra sh ac => Sys2Proof.Machine.execLaneRnd p ra sh ac s
  | .laneAccget p ra part ac => Sys2Proof.Machine.execLaneAccget p ra part ac s
  | .laneAccput p ra part ac => Sys2Proof.Machine.execLaneAccput p ra part ac s
  | .laneLd p y d a mod corr => Sys2Proof.Machine.execLaneLd p y d a mod corr s
  | .laneSt p y d a mod agree => Sys2Proof.Machine.execLaneSt p y d a mod agree s
  | .laneLdr p y d a n corr => Sys2Proof.Machine.execLaneLdr p y d a n corr s
  | .laneStr p y d a n agree => Sys2Proof.Machine.execLaneStr p y d a n agree s
  | .laneAmod p y a mod => Sys2Proof.Machine.execLaneAmod p y a mod s
  | .laneXld p d a mod agree => Sys2Proof.Machine.execLaneXld p d a mod agree s
  | .laneXst p d a mod agree => Sys2Proof.Machine.execLaneXst p d a mod agree s
  | .laneXldArrival p fault waited => Sys2Proof.Machine.execLaneXldArrival p fault waited s
  | .preemptionPoint => Sys2Proof.Machine.execPreemptionPoint s
  | .preemptionEntry p agree => Sys2Proof.Machine.execPreemptionEntry p agree s
  | .bellowsWatchdog p => Sys2Proof.Machine.execBellowsWatchdog p s
  | .backgroundItemStart p => Sys2Proof.Machine.execBackgroundItemStart p s
  | .ready m h item => Sys2Proof.Machine.execReady m h item s
  | .delayListCancel m h ticket => Sys2Proof.Machine.execDelayListCancel m h ticket s
  | .crossTestChunk matched => Sys2Proof.Machine.execCrossTestChunk matched s
  | .laneCopy p => Sys2Proof.Machine.execLaneCopy p s
  | .graphStart m count => Sys2Proof.Machine.execGraphStart m count s
  | .graphStop m => Sys2Proof.Machine.execGraphStop m s
  | .nodeComplete k ok => Sys2Proof.Machine.execNodeComplete k ok s
  | .quenchClear m ctl => Sys2Proof.Machine.execQuenchClear m ctl s
  | .quenchClearCancel m => Sys2Proof.Machine.execQuenchClearCancel m s
  | .quenchClearApply => Sys2Proof.Machine.execQuenchClearApply s
  | .latchClear m isFault w => Sys2Proof.Machine.execLatchClear m isFault w s
  | .staticCrcCheck => Sys2Proof.Machine.execStaticCrcCheck s
  | .scrubPass region found => Sys2Proof.Machine.execScrubPass region found s
  | .latentTest t pass => Sys2Proof.Machine.execLatentTest t pass s
  | .latentOverdue => Sys2Proof.Machine.execLatentOverdue s
  | .pinReadback safePin faultPin => Sys2Proof.Machine.execPinReadback safePin faultPin s
  | .quenchInLFiltered runs => Sys2Proof.Machine.execQuenchInLFiltered runs s
  | .emergInFiltered runs => Sys2Proof.Machine.execEmergInFiltered runs s
  | .gpFiltered n runs => Sys2Proof.Machine.execGpFiltered n runs s
  | .pinStuck pin seconds => Sys2Proof.Machine.execPinStuck pin seconds s
  | .pinGpCfg n w => Sys2Proof.Machine.execPinGpCfg n w s
  | .rail rail mv => Sys2Proof.Machine.execRail rail mv s
  | .thermal quarter => Sys2Proof.Machine.execThermal quarter s
  | .xoLoss => Sys2Proof.Machine.execXoLoss s
  | .heartbeat b find => Sys2Proof.Machine.execHeartbeat b find s
  | .forward q item find => Sys2Proof.Machine.execForward q item find s
  | .fwdAck q => Sys2Proof.Machine.execFwdAck q s
  | .forwardResend => Sys2Proof.Machine.execForwardResend s
  | .fwdFail => Sys2Proof.Machine.execFwdFail s
  | .fwdGapTimeout => Sys2Proof.Machine.execFwdGapTimeout s
  | .presence n sources => Sys2Proof.Machine.execPresence n sources s
  | .mend firstSource channels width firstPeriod samples payload => Sys2Proof.Machine.execMend firstSource channels width firstPeriod samples payload s
  | .alignReq => Sys2Proof.Machine.execAlignReq s
  | .alignAt p id => Sys2Proof.Machine.execAlignAt p id s
  | .snapshot id offset ws => Sys2Proof.Machine.execSnapshot id offset ws s
  | .snapDone id words digest => Sys2Proof.Machine.execSnapDone id words digest s
  | .alignAbort id code => Sys2Proof.Machine.execAlignAbort id code s
  | .aligned => Sys2Proof.Machine.execAligned s
  | .alignRetry => Sys2Proof.Machine.execAlignRetry s
  | .tongsLoss => Sys2Proof.Machine.execTongsLoss s
  | .tongsLaneLock k locked => Sys2Proof.Machine.execTongsLaneLock k locked s
  | .roleWireChange samples => Sys2Proof.Machine.execRoleWireChange samples s
  | .twPresentL low => Sys2Proof.Machine.execTwPresentL low s
  | .promotion => Sys2Proof.Machine.execPromotion s
  | .twinHeartbeatSend => Sys2Proof.Machine.execTwinHeartbeatSend s
  | .roleDecision => Sys2Proof.Machine.execRoleDecision s
  | .joinWaitTimeout => Sys2Proof.Machine.execJoinWaitTimeout s
  | .handover m => Sys2Proof.Machine.execHandover m s
  | .handoverApply => Sys2Proof.Machine.execHandoverApply s
  | .realign m => Sys2Proof.Machine.execRealign m s
  | .abortAlign m => Sys2Proof.Machine.execAbortAlign m s
  | .linkUp x status => Sys2Proof.Machine.execLinkUp x status s
  | .linkDown x status => Sys2Proof.Machine.execLinkDown x status s
  | .frameReceived x pcs fcsOk b sec ns frac quanta => Sys2Proof.Machine.execFrameReceived x pcs fcsOk b sec ns frac quanta s
  | .pauseExpiry x => Sys2Proof.Machine.execPauseExpiry x s
  | .rxrTail m x r w => Sys2Proof.Machine.execRxrTail m x r w s
  | .txrTail m x t w => Sys2Proof.Machine.execTxrTail m x t w s
  | .ringDisable m x k => Sys2Proof.Machine.execRingDisable m x k s
  | .transmitPick x whole sec ns frac quanta => Sys2Proof.Machine.execTransmitPick x whole sec ns frac quanta s
  | .stagingToQueue x => Sys2Proof.Machine.execStagingToQueue x s
  | .macAddrHi m x w => Sys2Proof.Machine.execMacAddrHi m x w s
  | .macAddrLo m x w => Sys2Proof.Machine.execMacAddrLo m x w s
  | .igmpReport change => Sys2Proof.Machine.execIgmpReport change s
  | .sync x dom id seqn twoStep t1 t2 corr => Sys2Proof.Machine.execSync x dom id seqn twoStep t1 t2 corr s
  | .announceReceived x dom rank id ip deadA deadB => Sys2Proof.Machine.execAnnounceReceived x dom rank id ip deadA deadB s
  | .delayReq t3 => Sys2Proof.Machine.execDelayReq t3 s
  | .delayResp x dom id seqn t4 corr => Sys2Proof.Machine.execDelayResp x dom id seqn t4 corr s
  | .grandmasterLost => Sys2Proof.Machine.execGrandmasterLost s
  | .lockDeclared g => Sys2Proof.Machine.execLockDeclared g s
  | .settleExpiry k fails => Sys2Proof.Machine.execSettleExpiry k fails s
  | .wordCommit m k w => Sys2Proof.Machine.execWordCommit m k w s
  | .relock m k => Sys2Proof.Machine.execRelock m k s
  | .trackingStep => Sys2Proof.Machine.execTrackingStep s
  | .rampSegment k fails => Sys2Proof.Machine.execRampSegment k fails s
  | .lossOfLock k => Sys2Proof.Machine.execLossOfLock k s
  | .guardTrip k swallowed => Sys2Proof.Machine.execGuardTrip k swallowed s
  | .relockRetry k => Sys2Proof.Machine.execRelockRetry k s
  | .referenceLocked => Sys2Proof.Machine.execReferenceLocked s
  | .referenceLost => Sys2Proof.Machine.execReferenceLost s
  | .referenceReturn j => Sys2Proof.Machine.execReferenceReturn j s
  | .periodCorrection => Sys2Proof.Machine.execPeriodCorrection s
  | .dramWrite src a w lap clash => Sys2Proof.Machine.execDramWrite src a w lap clash s
  | .dramRead src a fault lap clash => Sys2Proof.Machine.execDramRead src a fault lap clash s
  | .temperaturePoll c0 c1 c2 c3 => Sys2Proof.Machine.execTemperaturePoll c0 c1 c2 c3 s
  | .refreshDue r busy => Sys2Proof.Machine.execRefreshDue r busy s
  | .powerDownEntry r => Sys2Proof.Machine.execPowerDownEntry r s
  | .driftCheck r drift centred fails => Sys2Proof.Machine.execDriftCheck r drift centred fails s
  | .patrolRead a fault last => Sys2Proof.Machine.execPatrolRead a fault last s
  | .crossbarTransaction m a write beats => Sys2Proof.Machine.execCrossbarTransaction m a write beats s
  | .lockClaim ms lock => Sys2Proof.Machine.execLockClaim ms lock s
  | .lockRelease m lock => Sys2Proof.Machine.execLockRelease m lock s
  | .lockForce m lock => Sys2Proof.Machine.execLockForce m lock s
  | .mbxPost k r c len peer => Sys2Proof.Machine.execMbxPost k r c len peer s
  | .mbxAck m r c => Sys2Proof.Machine.execMbxAck m r c s
  | .mailboxMessage c inc seqn ws => Sys2Proof.Machine.execMailboxMessage c inc seqn ws s
  | .mailboxAccept c inc seqn => Sys2Proof.Machine.execMailboxAccept c inc seqn s
  | .mailboxResend c => Sys2Proof.Machine.execMailboxResend c s
  | .mbxDbellSet m r w => Sys2Proof.Machine.execMbxDbellSet m r w s
  | .tdmInputFrame p lengthOk slots => Sys2Proof.Machine.execTdmInputFrame p lengthOk slots s
  | .tdmOutputFrame p => Sys2Proof.Machine.execTdmOutputFrame p s
  | .tdmPortStopped p => Sys2Proof.Machine.execTdmPortStopped p s
  | .pdmOutputSample k v => Sys2Proof.Machine.execPdmOutputSample k v s
  | .pdmClockStop c => Sys2Proof.Machine.execPdmClockStop c s
  | .pdmStuck k stuck => Sys2Proof.Machine.execPdmStuck k stuck s
  | .captureStart m count => Sys2Proof.Machine.execCaptureStart m count s
  | .captureCancel m => Sys2Proof.Machine.execCaptureCancel m s
  | .hpWrite hdr words ov => Sys2Proof.Machine.execHpWrite hdr words ov s
  | .hpRead hdr n ov => Sys2Proof.Machine.execHpRead hdr n ov s
  | .hpWriteFixed hdr words ov => Sys2Proof.Machine.execHpWriteFixed hdr words ov s
  | .hpReadFixed hdr n ov => Sys2Proof.Machine.execHpReadFixed hdr n ov s
  | .hpStatus hdr => Sys2Proof.Machine.execHpStatus hdr s
  | .hpCsLRise inWord => Sys2Proof.Machine.execHpCsLRise inWord s
  | .sensorSample k => Sys2Proof.Machine.execSensorSample k s
  | .logEntry => Sys2Proof.Machine.execLogEntry s
  | .logFlush => Sys2Proof.Machine.execLogFlush s
  | .hthLogSel m seqn => Sys2Proof.Machine.execHthLogSel m seqn s
  | .logFetchComplete => Sys2Proof.Machine.execLogFetchComplete s
  | .lifetimeSnapshot => Sys2Proof.Machine.execLifetimeSnapshot s
  | .thermalHistogram => Sys2Proof.Machine.execThermalHistogram s
  | .backupSecondsUpdate => Sys2Proof.Machine.execBackupSecondsUpdate s
  | .lifCalSet1 m w => Sys2Proof.Machine.execLifCalSet1 m w s
  | .calendarDiscipline sec sub => Sys2Proof.Machine.execCalendarDiscipline sec sub s
  | .telemetryReport complete => Sys2Proof.Machine.execTelemetryReport complete s
  | .updBegin m key slot => Sys2Proof.Machine.execUpdBegin m key slot s
  | .updateWrite m key fail => Sys2Proof.Machine.execUpdateWrite m key fail s
  | .updVerify m key timeouts => Sys2Proof.Machine.execUpdVerify m key timeouts s
  | .updCommit m key => Sys2Proof.Machine.execUpdCommit m key s
  | .updAbort m key => Sys2Proof.Machine.execUpdAbort m key s
  | .fuseAdvance m key good => Sys2Proof.Machine.execFuseAdvance m key good s
  | .challenge m key purpose arg => Sys2Proof.Machine.execChallenge m key purpose arg s
  | .challengeExpiry => Sys2Proof.Machine.execChallengeExpiry s
  | .enrollOwner m key fuseOk => Sys2Proof.Machine.execEnrollOwner m key fuseOk s
  | .revokeOwner m key fuseOk => Sys2Proof.Machine.execRevokeOwner m key fuseOk s
  | .debugObserve m key => Sys2Proof.Machine.execDebugObserve m key s
  | .debugFull m key fuseOk => Sys2Proof.Machine.execDebugFull m key fuseOk s
  | .clearTamper m key => Sys2Proof.Machine.execClearTamper m key s
  | .revokeVendor m key fuseOk => Sys2Proof.Machine.execRevokeVendor m key fuseOk s
  | .hostImageDis m key fuseOk => Sys2Proof.Machine.execHostImageDis m key fuseOk s
  | .attestation m slot => Sys2Proof.Machine.execAttestation m slot s
  | .tamper runs => Sys2Proof.Machine.execTamper runs s
  | .calStop => Sys2Proof.Machine.execCalStop s
  | .rngFail => Sys2Proof.Machine.execRngFail s
  | .resetRelease gp15High => Sys2Proof.Machine.execResetRelease gp15High s
  | .vbatLoss => Sys2Proof.Machine.execVbatLoss s
  | .referenceEdge j gap => Sys2Proof.Machine.execReferenceEdge j gap s
  | .pdmClockReturn c => Sys2Proof.Machine.execPdmClockReturn c s
  | .followUp x dom id seqn t1 corr => Sys2Proof.Machine.execFollowUp x dom id seqn t1 corr s
  | .snapshotStreamed => Sys2Proof.Machine.execSnapshotStreamed s

end Sys2Proof.Machine
end

