-- ==== Sys2Proof/Machine/Step.lean ====
section
/-! DEFINITION. One step of the block: the command at the front of the queue, or, with none waiting, what the block does by itself. -/
namespace Sys2Proof.Machine
open Sys2Proof

/-- The block with no command waiting: the DRAM channels issue what waits (R445), a running update command goes on by one page or fuse
(R533), and the 32.768 kHz crystal advances (R527; log entry 1). -/
def idle (s : State) : State := run (seq [serveQueues, jobIdle, calendarTick]) s

/-- One step: the front command runs on the state whose queue is the rest. -/
def step (s : State) : Host.Outcome State Fault Refusal :=
  match s.pending with
  | [] => .next (idle s)
  | c :: rest => exec c { s with pending := rest }

/-- The state with a command put at the front of its queue; commands come from outside the block (log entry 7). -/
def State.withFront (s : State) (c : Instr) : State := { s with pending := c :: s.pending }

/-- The state with the command that a word spells at the front of its queue; unchanged where the word spells none. -/
def State.withFetchWord (s : State) (nbits w : Nat) : State :=
  match decodeTableWord nbits w with
  | none => s
  | some c => s.withFront c

end Sys2Proof.Machine
end

