-- ==== Sys2Proof/Machine/Balls.lean ====
section
/-! DEFINITION. What the device drives on its output balls, and the level a ball has (03: R59, R71, R72; 04: R80; 13: R333, R336; 14: R342;
17: R427; 20: R482, R490; 21: R506; 25: R570, R579). SAFE_L and FAULT_L, which the safety monitor reads back, are in System.lean. -/
namespace Sys2Proof.Machine
open Sys2Proof

/-- What a driver does at one moment: a level, or high impedance (R59). -/
inductive Drive where
  | low | high | released
deriving DecidableEq, Repr

/-- The weak pull of a ball (R579). -/
inductive Pull where
  | up | down | none
deriving DecidableEq, Repr

def Drive.ofBool (b : Bool) : Drive := if b then .high else .low

/-- The level of a ball that nobody outside drives: a released ball follows its weak pull, and without one its level is the board's (R59,
R579). -/
def ballLevel (d : Drive) (p : Pull) : Option Bool :=
  match d, p with
  | .low, _ => some false
  | .high, _ => some true
  | .released, .up => some true
  | .released, .down => some false
  | .released, .none => Option.none

/-- The weak pull of the output and bidirectional balls, by the names of the ball map (R579). -/
def ballPull (signal : String) : Pull :=
  if ["HP_IO_0", "HP_IO_1", "HP_IO_2", "HP_IO_3", "CF_CS_L", "CF_IO_0", "CF_IO_1", "CF_IO_2", "CF_IO_3", "GP", "TDO", "TMS", "TDI",
      "HP_CS_L", "WRST_L", "TW_PRESENT_L"].contains signal then .up
  else if ["TDM_BCLK", "TDM_FSYNC", "TDM_DIN", "TDM_DOUT", "MCLK_OUT", "WCLK_OUT", "PDM_CLK", "PDM_DAT", "HP_SCK", "HP_RDY", "CF_SCK",
      "CF_WP_L", "SAFE_L", "FAULT_L", "QUENCH_IN_L", "EMERG_IN", "REF_WCLK_IN", "REF_PPS_IN", "TCK", "TRST_L"].contains signal then .down
  else .none

/-- A driver that every reset releases (R59). -/
def unlessReset (s : State) (d : Drive) : Drive := if pinsReleased s then .released else d

/-- SAFE_L and FAULT_L (R59, R71). -/
def safeLBall (s : State) : Drive := unlessReset s (.ofBool (safeLDrive s (anyQuenched s)))
def faultLBall (s : State) : Drive := unlessReset s (.ofBool (faultLDrive s))

/-- HP_RDY (R71, R72, R506): low until the port is ready; outside a transaction low for attention; within one low while `busy`, as the
FIFO of R13 stands. -/
def hpRdyBall (s : State) (busy : Bool) : Drive := unlessReset s (
  if !s.sys.rdyUp then .low
  else if s.hpt.active.isSome then .ofBool (!busy)
  else .ofBool (!hostAttention s (dbellLevels s 0)))

/-- The patterns of TW_ROLE_OUT_L (R342). -/
inductive RolePattern where
  | hold | free | none
deriving DecidableEq, Repr

/-- HOLD while the unit is ACTIVE, FREE in any other powered state outside reset, none in reset and unpowered (R342, R71). -/
def rolePattern (s : State) : RolePattern :=
  if pinsReleased s then .none else if s.sys.role == .active then .hold else .free

/-- The open-drain driver of TW_ROLE_OUT_L `us` microseconds of the monitor's oscillator into its pattern: HOLD is low but for 1 us in every
64, FREE released but for 1 us in every 64 (R342). -/
def RolePattern.drive (p : RolePattern) (us : Nat) : Drive :=
  match p with
  | .hold => if us % 64 = 0 then .released else .low
  | .free => if us % 64 = 0 then .low else .released
  | .none => .released

/-- TW_ROLE_OUT_L (R342). -/
def twRoleOutBall (s : State) (us : Nat) : Drive := (rolePattern s).drive us

/-- The levels that the partner's TW_ROLE_IN_L samples, one a microsecond, through the pull-up of the wire (R342, R343). -/
def RolePattern.samples (p : RolePattern) (n : Nat) : List Bool := (List.range n).map (fun us => (p.drive us) != .low)

/-- A clock output: released, held low, running at a frequency, or stopped with the clock it is derived from. -/
inductive ClockDrive where
  | released | low | runs (hz : Nat) | stopped
deriving DecidableEq, Repr

/-- A clock output that `en` enables, in ARMED, RUN and SAFE, at `hz` (R427, R490); with XO the clocks stop (R336). -/
def clockBall (s : State) (en : Bool) (hz : Nat) : ClockDrive :=
  if pinsReleased s then .released else if !(en && counting s) then .low else if s.qch.xoStopped then .stopped else .runs hz

/-- MCLK_OUT at 256 × fs and WCLK_OUT at fs, as CLK_OUT enables them (R427). -/
def mclkBall (s : State) : ClockDrive := clockBall s (flag (rd s (CLK + 8)) 0) (256 * rateHz s.sys.rate)
def wclkBall (s : State) : ClockDrive := clockBall s (flag (rd s (CLK + 8)) 1) (rateHz s.sys.rate)

/-- PDM_CLK_c at R × fs (R490). -/
def pdmClkBall (s : State) (c : Nat) : ClockDrive :=
  clockBall s (flag (rd s (PDM + c)) 35) (pdmRatio (rd s) (4 * c) * rateHz s.sys.rate)

/-- TDM_n_DOUT: released in reset, low in LOAD and HOLD and once XO has stopped, else the frames that the port sends (R59, R71, R336), and
`frames` stands for them. -/
inductive DoutDrive where
  | released | low | frames
deriving DecidableEq, Repr

def tdmDoutBall (s : State) : DoutDrive :=
  if pinsReleased s then .released else if !counting s || s.qch.xoStopped then .low else .frames

/-- CF_WP_L: low at all times but while the update path erases or programs (R80, R533). -/
def cfWpBall (s : State) : Drive := unlessReset s (if flashBusy s then .released else .low)

/-- GP_n: with OE the level of PIN_GP_OUT, else an input (13: PIN_GP_CFG_n). -/
def gpBall (s : State) (n : Nat) : Drive := unlessReset s (
  if flag (rd s (PIN + 0x100 + n)) 35 then .ofBool (flag (rd s (PIN + 0x121)) n) else .released)

end Sys2Proof.Machine
end

