-- ==== Sys2Proof/Safety.lean ====
section
/-! DEFINITION. What the statements mean by a sound state, in terms of the model. -/
namespace Sys2Proof.Machine
open Sys2Proof

/-- The memory is in its canonical form. -/
def State.memOk (s : State) : Bool := Memory.wf s.mem

/-- A role is held in RUN and SAFE only (R65, R76: SYS_STATE.ROLE reads 0xF outside them). -/
def State.roleOk (s : State) : Bool :=
  s.sys.role == .none || s.sys.state == .run || s.sys.state == .safe

/-- Fuses blown in `a` are blown in `b` (R541). -/
def fusesKept (a b : Otp) : Bool :=
  a.ownerActive &&& b.ownerActive == a.ownerActive && a.ownerRevoked &&& b.ownerRevoked == a.ownerRevoked
  && a.vendorRevoked &&& b.vendorRevoked == a.vendorRevoked && a.rollback ≤ b.rollback && a.floorBlown ≤ b.floorBlown
  && (!a.hostImageDis || b.hostImageDis) && (!a.vendorDebugged || b.vendorDebugged)

/-- Does an outcome go on? -/
def goesOn (o : Host.Outcome State Fault Refusal) : Bool :=
  match o with
  | .next _ => true
  | .fault _ => false
  | .refused _ => false

/-- The state as a command finds it: the outputs of the previous command are gone. -/
def State.begun (s : State) : State := applyEff s (.out [])

/-- The state after an act. -/
def State.after (s : State) (a : Act) : State := applyAll (a s) s

/-! ### Lane instructions -/

/-- The state with another run in lane context c. -/
def State.withRun (s : State) (c : Nat) (r : LaneRun) : State := s.after (putRun c r)

/-- An instruction with encoding `enc` stands in slot k of the bundle that context c is at, has not issued yet, nothing stops the
bundle, and its words hold no single-bit error to correct (R242, R256, R260, R267, R276, R285). -/
def Issues (s : State) (c : Nat) (k : LSlot) (enc : Option Nat) (r : LaneRun) : Prop :=
  runOf s c = some r ∧ r.loopDue = false ∧ ended r = false ∧ r.issued.testBit k.bit = false ∧
  enc = some (slotOf (bundleAt (rd s) (ctxLanes s c).1 r.pc) k) ∧
  gate s c r (bundleAt (rd s) (ctxLanes s c).1 r.pc) = none ∧ softFetch s c r = []

/-- The state once the instruction of slot k has issued and left the run `r`: the fourth instruction to issue closes the bundle. -/
def State.issuedAs (s : State) (c : Nat) (k : LSlot) (r : LaneRun) : State :=
  (s.begun.withRun c { r with issued := r.issued ||| 2 ^ k.bit }).after (close c)

/-- The run with results on their way. -/
def LaneRun.sending (r : LaneRun) (ls : List Landing) : LaneRun :=
  { r with fly := r.fly ++ ls.map (fun e => { reg := e.1, val := e.2.1, due := r.step + e.2.2.1, rank := e.2.2.2 }) }

/-- A G-slot result for D(dd), visible in the next step, and the sticky flags it sets, visible after four. -/
def LaneRun.sendingG (r : LaneRun) (dd : Nat) (w : Word) (fs : List Nat) : LaneRun :=
  r.sending ((.d (phys r dd), w.toNat, 1, 0) :: fs.map (fun i => (.sticky i, 1, 4, 1)))

/-- The run with new accumulator values and the sticky flags that computing them set, one accumulator after the other. -/
def LaneRun.withAccs (r : LaneRun) (vs : List (Nat × Flagged Int)) : LaneRun :=
  vs.foldl (fun q e => (accPut q e.1 e.2.val).sending (e.2.sets.map (fun i => (.sticky i, 1, 4, 1)))) r

/-- A post-modification of Ak by m from run r leaves v, with f free values drawn by then: the value of R244, or a free one where R245
makes it unpredictable. -/
def Modifies (s : State) (r : LaneRun) (k : Nat) (m : Int) (v f : Nat) : Prop :=
  (postMod (amOf r k) (bReg r k) (lReg r k) (aReg r k) m = some v ∧ f = s.free) ∨
  (postMod (amOf r k) (bReg r k) (lReg r k) (aReg r k) m = none ∧ v < 2 ^ 32 ∧ f = s.free + 1)

/-- The state with the count of free values drawn at f. -/
def State.drawn (s : State) (f : Nat) : State := applyEff s (.free f)

/-- `t` is `s` with the outputs cleared and at most the run of context c and the count of free values changed. -/
def OnlyRunChanges (s t : State) (c : Nat) : Prop := ∃ (r : LaneRun) (f : Nat), t = (s.begun.drawn f).withRun c r

/-! ### Commands of a master -/

/-- A word in SYS_CMD with its key is heard: from Hearth or the host, the block running, no command BUSY (R76, R77). -/
def CommandHeard (s : State) (m key : Nat) : Prop :=
  m ≤ 1 ∧ s.sys.rails = true ∧ s.sys.porstHigh = true ∧ s.sys.wrstHigh = true ∧ rdF s (SYS + 3) 3 0 ≠ 1 ∧ key % 4096 = 0xC0C ∧
  s.memOk = true

/-- What a cold reset of `s` leaves (R62, R66, R320, R584): RESET without a role, the one cause, the doorbell bits of the change of state and
of the scene frames lost, and the latches of the faults whose condition outlives it; where there are none, every other word is at its reset
contents. -/
def LeftCold (s t : State) (cause : Nat) : Prop :=
  t.sys.state = .reset ∧ t.sys.role = .none ∧ rd t (SYS + 4) = wd (2 ^ cause) ∧ t.flash = s.flash ∧ t.otp = s.otp ∧
  t.qch.fault = 8 * b2n (!s.sys.railsOut.isEmpty) + 16 * b2n s.qch.condThermal + 128 * b2n (!s.qch.failedTests.isEmpty) ∧
  (t.qch.fault = 0 → rd t (MBX + 0x402) = wd (b2n (s.sys.state != .reset) + 256 * b2n (!s.scene.pending.isEmpty)) ∧
    ∀ a, a ≠ SYS + 4 → a ≠ MBX + 0x402 → rd t a = resetWord a)

/-- What a warm reset of `s` leaves (R61-R63): RESET, the cause beside the earlier ones, DRAM and shared SRAM as they were, every incarnation
count one higher. -/
def LeftWarm (s t : State) (cause : Nat) : Prop :=
  t.sys.state = .reset ∧ t.sys.warm = true ∧ rd t (SYS + 4) = rd s (SYS + 4) ||| wd (2 ^ cause) ∧
  (∀ a, 0x40000000 ≤ a → rd t a = rd s a) ∧ (∀ a, 0x10000000 ≤ a → a ≤ 0x101FFFFF → rd t a = rd s a) ∧
  (∀ k, k < 0x58 → rdF t (XBR + 0x40 + k) 7 0 = (rdF s (XBR + 0x40 + k) 7 0 + 1) % 256) ∧ t.flash = s.flash ∧ t.otp = s.otp

/-- What SYS_CMD_STATUS shows of command `code`. -/
def CommandShows (t : State) (code status : Nat) : Prop := rdF t (SYS + 3) 7 4 = code ∧ rdF t (SYS + 3) 3 0 = status

/-- The host's response answers the waiting challenge of purpose `pu`: a signer that the purpose allows and a signature that verifies, where
one is needed, in a state and under a condition that allow it (R553). What the signature function of Config says is not for the model to say. -/
def Answers (s : State) (nonce pu a : Nat) : Prop :=
  s.sec.challenge = some (nonce, pu, a) ∧
  (noSigner s pu = true ∨ signerOk s pu (Config.sha384 ((respBytes s).take 97)) = true ∧
    Config.ecdsaOk ((respBytes s).take 97) (Config.sha384 (challengeBytes nonce pu a ++ ((respBytes s).drop 100).take 48))
      (((respBytes s).drop 148).take 96) = true) ∧
  purposeState s pu = true ∧ purposeCond s pu a = true

/-- Master m may use the crossbar for address a: it exists, the block runs, no drain of its own is in progress, it has nothing staged
(R41, R461, R468). -/
def CanUse (s : State) (m a : Nat) : Prop :=
  isMaster m = true ∧ busUp s = true ∧ s.sys.state ≠ .reset ∧ s.sys.draining.contains m = false ∧ a < 2 ^ 32 ∧ stagedOf s m = none ∧
  s.memOk = true

/-- Every word but those at the addresses of `as` reads in `t` as in `s`. -/
def SameBut (s t : State) (as : List Nat) : Prop := ∀ b, b ∉ as → rd t b = rd s b

end Sys2Proof.Machine
end

