-- ==== Sys2Proof/Certificates/Slice0/Obligations.lean ====
section
/-! DEFINITION. The statements about the block: what its commands do, what they leave alone, what every step keeps. -/
open Sys2Proof Sys2Proof.Machine


/-- The SYS_CMD commands that move the device between its states, and when a word is not obeyed. For a command that is heard: RETRY and
LOAD_HOST in HOLD go to LOAD with the flash or the staged image as source, but RETRY stays BUSY in HOLD while the update path erases or
programs; CONTINUE in ARMED clears the stop hold, and in HOLD for HOST_REQUEST with QUENCH_IN_L high goes to ARMED; STOP in RUN starts the
ramp to zero, or lets one that runs go on, and stays BUSY; SAFE_ENTER goes to SAFE without a fault, from RUN with the SAFE ramp at its
start, from ARMED, whose feeds are muted, with the ramp at its end; SAFE_CLEAR in SAFE with no QCH_FAULT bit and QUENCH_IN_L high goes to
ARMED; HOLD_ENTER in ARMED goes to HOLD with reason HOST_REQUEST. SYS_CMD_STATUS shows the command and its result. A SYS_CMD command of a
master with nothing staged changes nothing but the log's waiting reports where the master is neither Hearth nor the host; one that arrives
while another is BUSY is only counted in DISCARDED; one with a wrong key shows BAD_KEY and one in a state that does not accept it
WRONG_STATE, with the device state, the pins and the image as before. Stated for STOP; the nine commands share the check. Choices of the model here: log entry 55 (when an update command still runs). (R66, R69, R70, R73, R74, R76, R77, R102) -/
def Obligations.SystemCommandsActInTheirStates : Prop :=

  (∀ (s : State) (m key : Nat), CommandHeard s m key →
     (s.sys.state = .hold → flashBusy s = false → ∃ t, exec (.retry m key) s = .next t ∧ t.sys.state = .load ∧ t.sys.prev = .hold ∧
       t.img.source = 0 ∧ rdF t (SYS + 5) 7 0 = 0 ∧ CommandShows t 1 2) ∧
     (s.sys.state = .hold → flashBusy s = true → ∃ t, exec (.retry m key) s = .next t ∧ t.sys = { s.sys with busyCmd := 1 } ∧
       t.img = s.img ∧ CommandShows t 1 1) ∧
     (s.sys.state = .hold → s.otp.hostImageDis = false → ∃ t, exec (.loadHost m key) s = .next t ∧ t.sys.state = .load ∧
       t.sys.prev = .hold ∧ t.img.source = 1 ∧ CommandShows t 9 2) ∧
     (s.sys.state = .armed → ∃ t, exec (.continueCmd m key) s = .next t ∧ t.sys = { s.sys with stopHold := false } ∧ CommandShows t 2 2) ∧
     (s.sys.state = .hold → rdF s (SYS + 5) 7 0 = 2 → (pinOf s 16).filt = true → ∃ t, exec (.continueCmd m key) s = .next t ∧
       t.sys.state = .armed ∧ t.sys.role = .none ∧ CommandShows t 2 2) ∧
     (s.sys.state = .run → ∃ t, exec (.stop m key) s = .next t ∧ t.qch = { s.qch with rampStop := some (s.qch.rampStop.getD 0) } ∧
       t.sys = { s.sys with busyCmd := 3 } ∧ CommandShows t 3 1) ∧
     (s.sys.state = .run → ∃ t, exec (.safeEnter m key) s = .next t ∧ t.sys.state = .safe ∧
       t.sys.safeFault = false ∧ t.qch.rampSafe = some 0 ∧ CommandShows t 4 2) ∧
     (s.sys.state = .armed → ∃ t, exec (.safeEnter m key) s = .next t ∧ t.sys.state = .safe ∧
       t.sys.safeFault = false ∧ t.qch.rampSafe = some 64 ∧ CommandShows t 4 2) ∧
     (s.sys.state = .safe → s.qch.fault = 0 → (pinOf s 16).filt = true → ∃ t, exec (.safeClear m key) s = .next t ∧
       t.sys.state = .armed ∧ t.sys.role = .none ∧ t.qch.rampSafe = none ∧ CommandShows t 5 2) ∧
     (s.sys.state = .armed → ∃ t, exec (.holdEnter m key) s = .next t ∧ t.sys.state = .hold ∧ t.sys.prev = .armed ∧
       t.sys.imageKept = true ∧ rdF t (SYS + 5) 7 0 = 2 ∧ CommandShows t 8 2)) ∧
  (∀ (s : State) (m key : Nat), s.memOk = true → s.sys.rails = true → s.sys.porstHigh = true → s.sys.wrstHigh = true →
     stagedOf s m = none →
     (1 < m → ∃ t, exec (.stop m key) s = .next t ∧ t = { s.begun with log := t.log }) ∧
     (m ≤ 1 → rdF s (SYS + 3) 3 0 = 1 → ∃ t, exec (.stop m key) s = .next t ∧ t = { s.begun with mem := t.mem, bad := t.bad, soft := t.soft, flips := t.flips } ∧
       rdF t (SYS + 3) 15 8 = min 255 (rdF s (SYS + 3) 15 8 + 1) ∧ ∀ a, a ≠ SYS + 3 → rd t a = rd s a) ∧
     (m ≤ 1 → rdF s (SYS + 3) 3 0 ≠ 1 → key % 4096 ≠ 0xC0C → ∃ t, exec (.stop m key) s = .next t ∧
       t = { s.begun with mem := t.mem, bad := t.bad, soft := t.soft, flips := t.flips } ∧ CommandShows t 3 4) ∧
     (m ≤ 1 → rdF s (SYS + 3) 3 0 ≠ 1 → key % 4096 = 0xC0C → s.sys.state ≠ .run → ∃ t, exec (.stop m key) s = .next t ∧
       t = { s.begun with mem := t.mem, bad := t.bad, soft := t.soft, flips := t.flips } ∧ CommandShows t 3 3))

/-- What a cold and a warm reset leave of the memory, the device state and the causes. COLD_RESET, a PORST_L pulse of at least 1 us and a
main rail below its threshold leave the device in RESET with the one cause set, every word but SYS_RESET_CAUSE, the host's doorbells,
which tell of the change of state, and, where a fault's condition outlives the reset, Hearth's, at its reset contents, the latches of
those faults set and no other, and the flash and the fuses as they were. WARM_RESET and a WRST_L pulse of at least 1 us leave it in RESET
with the cause added to the earlier ones, every word of DRAM and of shared SRAM as it was, and each master's incarnation count one higher;
a WRST_L pulse during a cold reset is only recorded among the causes. A pulse below 100 ns does nothing, and one between 100 ns and 1 us
either resets whole or does nothing; without rails neither pin nor rail does anything. Choices of the model here: log entries 62 (the strap
after a reset without a release of the pins) and 95 (how long a rail or a die stays out of range). (R57, R58, R61, R62, R63, R64, R65,
R320) -/
def Obligations.ResetsLeaveResetContents : Prop :=

  ∀ (s : State) (m key widthNs rail mv : Nat), s.memOk = true →
    (CommandHeard s m key → cmdState s = true → ∃ t, exec (.coldReset m key) s = .next t ∧ LeftCold s t 3) ∧
    (s.sys.rails = true → 1000 ≤ widthNs → ∃ t, exec (.porstL widthNs) s = .next t ∧ LeftCold s t 1 ∧ t.sys.porstHigh = false) ∧
    (s.sys.rails = true → belowThreshold rail mv = true →
      ∃ t, exec (.railBelowThreshold rail mv) s = .next t ∧ LeftCold s t 5 ∧ rail ∈ t.sys.railsOut) ∧
    (s.sys.rails = true → belowThreshold rail mv = false → exec (.railBelowThreshold rail mv) s = .next s.begun) ∧
    (CommandHeard s m key → cmdState s = true → ∃ t, exec (.warmReset m key) s = .next t ∧ LeftWarm s t 4) ∧
    (s.sys.rails = true → 1000 ≤ widthNs → coldInProgress s = false →
      ∃ t, exec (.wrstL widthNs) s = .next t ∧ LeftWarm s t 2 ∧ t.sys.wrstHigh = false) ∧
    (s.sys.rails = true → 1000 ≤ widthNs → coldInProgress s = true →
      ∃ t, exec (.wrstL widthNs) s = .next t ∧ t.sys = { s.sys with wrstHigh := false } ∧
        rd t (SYS + 4) = rd s (SYS + 4) ||| wd 4 ∧ ∀ a, a ≠ SYS + 4 → rd t a = rd s a) ∧
    (s.sys.rails = true → 100 ≤ widthNs → widthNs < 1000 →
      (∃ t, exec (.porstL widthNs) s = .next t ∧ (LeftCold s t 1 ∨ t = { s.begun with free := s.free + 1 })) ∧
      (coldInProgress s = false → ∃ t, exec (.wrstL widthNs) s = .next t ∧ (LeftWarm s t 2 ∨ t = { s.begun with free := s.free + 1 }))) ∧
    (s.sys.rails = true → widthNs < 100 → exec (.porstL widthNs) s = .next s.begun ∧ exec (.wrstL widthNs) s = .next s.begun) ∧
    (s.sys.rails = false → exec (.porstL widthNs) s = .next s.begun ∧ exec (.wrstL widthNs) s = .next s.begun ∧
      exec (.railBelowThreshold rail mv) s = .next s.begun)

/-- Rails and VBAT rising and falling. With the rails absent, their rise leaves RESET with POWER_ON and PORST_PIN set and FROM_COCOON
telling where the power-up came from. Their removal leaves COCOON with VBAT, OFF without, every word at its reset contents, and
latches an unannounced loss when PORST_L was still high. VBAT rising in OFF starts COCOON with the calendar at zero and unset;
VBAT lost in COCOON leaves OFF. (R54, R56, R65, R66, R527) -/
def Obligations.SuppliesMoveTheDevice : Prop :=

  ∀ (s : State), s.memOk = true →
    (s.sys.rails = false → ∃ t, exec .mainRailsRise s = .next t ∧ t.sys.state = .reset ∧ t.sys.rails = true ∧
      rdF t (SYS + 4) 1 0 = 3 ∧ t.sys.fromCocoon = (s.sys.state == .cocoon)) ∧
    (s.sys.rails = true → ∃ t, exec .mainRailsRemoved s = .next t ∧ t.sys.rails = false ∧
      t.sys.state = (if s.cocoon.vbat then .cocoon else .off) ∧ (∀ a, rd t a = resetWord a) ∧ t.flash = s.flash ∧
      (s.cocoon.vbat = true → t.cocoon.lossLatch = (s.cocoon.lossLatch || s.sys.porstHigh))) ∧
    (s.sys.state = .off → ∃ t, exec .vbatRise s = .next t ∧ t.sys.state = .cocoon ∧ t.cocoon.vbat = true ∧
      t.cocoon.calSec = 0 ∧ t.cocoon.calSub = 0 ∧ t.cocoon.calSource = 0) ∧
    (s.sys.rails = false → ∃ t, exec .vbatLoss s = .next t ∧ t.sys.state = .off ∧ t.cocoon.vbat = false ∧ t.cocoon.calSource = 0) ∧
    (s.sys.rails = true → ∃ t, exec .vbatLoss s = .next t ∧ t.sys = s.sys ∧ t.cocoon = { s.cocoon with vbat := false } ∧
      rdF t (HTH + 0x31) 12 12 = 1)

/-- The end of LOAD, the reset pins' release, the boot self-check, Hearth's watchdog, a master's reset and its drain. The release of the
reset pins samples GP_15; a passed self-check takes RESET to LOAD and HP_RDY rises, a failed one keeps RESET. The first Hearth watchdog
restarts Hearth without moving the device: its incarnation rises and its doorbells are masked, and under PTP with the reference locked the
reference goes to holdover; a second within ten seconds is a warm reset. At the end of the restart FREE_RUN follows the loops, the
reference and the servo alone. A GO in SYS_MRST for a fixed master raises its incarnation and makes it wait until its drain completes,
which clears GO and BUSY and shows DONE; while Hearth restarts it is absorbed. LOAD_COMPLETE ends in ARMED or HOLD, or passes ARMED into
SAFE: a loop without a band where the loops have not locked since the reset, and, where they and the DRAM are ready, a flash that does not
answer, no commit record, a blank slot, a first block that times out and a staged length of zero each hold with their own reason and
source slot. Choices of the model here: log entry 63 (which start-up steps a load has still to do). (R61, R63, R64, R66, R68, R72, R73, R97,
R98, R101, R417, R468) -/
def Obligations.StartUpAndHearthEvents : Prop :=

  ∀ (s : State) (gp rng : Bool) (ms m : Nat) (w : Word), s.memOk = true → s.sys.rails = true →
    (s.sys.state = .reset → ∃ t, exec (.resetRelease gp) s = .next t ∧
      t = { s.begun with sys := { s.sys with porstHigh := true, wrstHigh := true, strap := !gp, rdyUp := false } }) ∧
    (s.sys.state = .reset → s.sys.bootFailed = false → s.sys.porstHigh = true → s.sys.wrstHigh = true →
      (∃ t, exec (.bootSelfCheckComplete true true true) s = .next t ∧ t.sys.state = .load ∧ t.sys.rdyUp = true ∧ t.sec.rngOk = true) ∧
      (∃ t, exec (.bootSelfCheckComplete true true false) s = .next t ∧ t.sys.state = .hold ∧ rd t (SYS + 5) = wd 0x0130305) ∧
      (∃ t, exec (.bootSelfCheckComplete false true rng) s = .next t ∧ t = { s.begun with sys := { s.sys with bootFailed := true } })) ∧
    (s.sys.state ≠ .reset → s.sys.hearthRecent = false → s.xbr.locks = [] → s.xbr.staged = [] →
      (∃ t, exec (.hearthWatchdog ms) s = .next t ∧ t.sys.state = s.sys.state ∧ t.sys.hearthDown = true ∧ t.sys.hearthRecent = true ∧
        t.sys.freeRun = true ∧ rdF t (XBR + 0x40) 7 0 = (rdF s (XBR + 0x40) 7 0 + 1) % 256 ∧
        rd t (MBX + 0x407) = wd 0xFFFFFFFF ∧ rd t (MBX + 0x40B) = wd 0xFFFFFFFF ∧
        rdF t CLK 35 33 = (if s.img.clock = 0 ∧ rdF s CLK 35 33 = 2 then 3 else rdF s CLK 35 33))) ∧
    (s.sys.state ≠ .reset → s.sys.hearthRecent = true → ms ≤ 10000 →
      ∃ t, exec (.hearthWatchdog ms) s = .next t ∧ t.sys.state = .reset ∧ t.sys.warm = true) ∧
    (∃ t, exec .hearthRestartComplete s = .next t ∧ t = { s.begun with sys := { s.sys with
      hearthDown := false,
      freeRun := loopState s 0 != 2 || loopState s 1 != 2 || 3 ≤ refState s || ptpState s == 2 || ptpState s == 4 } }) ∧
    (s.sys.porstHigh = true → s.sys.wrstHigh = true → s.sys.state ≠ .reset → s.xbr.locks = [] → s.xbr.staged = [] →
      flag (rd s (SYS + 6)) 34 = false → flag w 35 = true → fld w 6 0 = 4 →
      (s.sys.hearthDown = false → s.sys.draining = [] →
        ∃ t, exec (.sysMrst 1 w) s = .next t ∧ t.sys.draining = [4] ∧ rdF t (SYS + 6) 35 32 = 12 ∧ rdF t (SYS + 6) 6 0 = 4 ∧
        rdF t (XBR + 0x44) 7 0 = (rdF s (XBR + 0x44) 7 0 + 1) % 256) ∧
      (s.sys.hearthDown = true → exec (.sysMrst 1 w) s = .next s.begun)) ∧
    (flag (rd s (SYS + 6)) 34 = true → rdF s (SYS + 6) 6 0 = m →
      ∃ t, exec (.masterDrainComplete m) s = .next t ∧ t.sys.draining = s.sys.draining.erase m ∧ rdF t (SYS + 6) 35 32 = 1) ∧
    (∀ e : LoadEnv,
      let holds (reason slot detail : Nat) := ∃ t, exec (.loadComplete e) s = .next t ∧ t.sys.state = .hold ∧ t.sys.prev = .load ∧
        t.sys.role = .none ∧ rdF t (SYS + 5) 7 0 = reason ∧ rdF t (SYS + 5) 9 8 = slot ∧ rdF t (SYS + 5) 35 16 = detail
      (s.sys.state ≠ .load → exec (.loadComplete e) s = .next s.begun) ∧
      (s.sys.state = .load →
        (∃ t, exec (.loadComplete e) s = .next t ∧ (t.sys.prev = .load ∧ (t.sys.state = .hold ∨ t.sys.state = .armed) ∨
          t.sys.prev = .armed ∧ t.sys.state = .safe)) ∧
        (s.sys.pllDone = true → s.sys.dramDone = true →
          (s.img.source ≠ 1 → e.flashOk = false → holds 7 3 0) ∧
          (s.img.source ≠ 1 → e.flashOk = true → latestCommit s.flash = none → holds 0x10 3 0) ∧
          (∀ c, s.img.source ≠ 1 → e.flashOk = true → latestCommit s.flash = some c → commitSlot c < 2 →
            (4 ≤ timeoutsOf e.timeouts 0 → holds 0x1A (commitSlot c) 0) ∧
            (timeoutsOf e.timeouts 0 < 4 → (∀ x ∈ s.flash.pages, x.1 / 65536 ≠ commitSlot c) → holds 0x11 (commitSlot c) 0)) ∧
          (s.img.source = 1 → rd s (HPT + 3) = 0 → holds 0x29 2 0)) ∧
        (s.sys.pllDone = false → s.sys.warm = true → bandFor (rd s) 0 (targetWord s 0) = none → holds 3 3 1)))

/-- A register write, a read that clears, and a read that latches its companions. A write that the register accepts replaces the RW bits,
clears the W1C bits written as 1, leaves the others and every other word, and is answered OK (stated for the blocks whose registers have
no commands of their own). A read of a register with RC flags returns the word and clears those bits; a read of XBR_COUNT returns its four
counts and leaves them zero. A read of WAV_HASH_0 latches the three companion words of the same hash. Choices of the model here: log entry 10
(which blocks refuse a write to a read-only register). (R5, R8, R464, R561, R585) -/
def Obligations.RegisterAccessesFollowTheirFields : Prop :=

  ∀ (s : State) (m a : Nat) (w : Word) (r : Reg), CanUse s m a →
    ((a - SYS) / 0x10000 ∈ [1, 10, 12, 15, 17] → portOf a = some .regs → isPairWord a = false → inLaneBlock a = false →
      findReg a = some r → writeStatus s m a = 0 →
      ∃ t, exec (.registerWrite m a w) s = .next t ∧
        rd t a = ((rd s a &&& ~~~ (wd r.rw)) ||| (w &&& wd r.rw)) &&& ~~~ (w &&& wd r.w1c) ∧ SameBut s t [a] ∧ t.out = [.resp 0 []]) ∧
    (rcMask a ≠ 0 → rcCounts a = [] → ¬ (HTH ≤ a ∧ a < HTH + 0x1A) → isLock a = false → a < 0x40000000 → readStatus s m a = 0 →
      captures s a = [] → ∃ t, exec (.rcRead m a) s = .next t ∧ t.out = [.resp 0 [readWord s a]] ∧
        rd t a = rd s a &&& ~~~ (wd (rcMask a)) ∧ SameBut s t [a]) ∧
    (m < 0x10 → ∃ t, exec (.rcRead m XBR) s = .next t ∧ t.out = [.resp 0 [rd s XBR]] ∧ rd t XBR = 0 ∧ SameBut s t [XBR]) ∧
    (m < 0x10 → ∃ t, exec (.latchingRead m (WAV + 8)) s = .next t ∧ rd t (WAV + 9) = wd (bits s.wav.hash 31 0) ∧
      rd t (WAV + 0xA) = wd (bits s.wav.hashAt 63 32) ∧ rd t (WAV + 0xB) = wd (bits s.wav.hashAt 31 0) ∧
      t.out = [.resp 0 [readWord s (WAV + 8)]] ∧ SameBut s t [WAV + 9, WAV + 0xA, WAV + 0xB])

/-- Complement-pair writes: stage, commit, rejection and timeout. The loader's write to the even word of a pair is only held: no word
changes. Its write of the held word's complement to the odd word commits both in one update, so that the pair reads as the value.
Anything else to the odd word commits nothing, discards what was held and is counted in PAIR_REJECT. A millisecond without the
second write discards it, counted. (R39, R40, R41, R327) -/
def Obligations.ComplementPairsAreStagedAndCommittedWhole : Prop :=

  ∀ (s : State) (a : Nat) (v w : Word), isPairWord a = true → a % 2 = 0 → busUp s = true → s.sys.state ≠ .reset →
    s.sys.draining.contains 2 = false → s.memOk = true →
    (stagedOf s 2 = none → ∃ t, exec (.pairStageWrite 2 a w) s = .next t ∧ stagedOf t 2 = some { addr := a, word := w } ∧
      t.mem = s.mem ∧ t.out = [.resp 0 []]) ∧
    (stagedOf s 2 = some { addr := a, word := v } → ∃ t, exec (.pairCommitWrite 2 a (~~~ v)) s = .next t ∧
      pairVal t a = some v ∧ SameBut s t [a, a + 1] ∧ t.xbr.staged = sparseDrop s.xbr.staged 2) ∧
    (stagedOf s 2 = some { addr := a, word := v } → w ≠ ~~~ v → ∃ t, exec (.pairCommitWrite 2 a w) s = .next t ∧
      SameBut s t [QCH + 4] ∧ rdF t (QCH + 4) 35 24 = min 4095 (rdF s (QCH + 4) 35 24 + 1) ∧ t.xbr.staged = sparseDrop s.xbr.staged 2) ∧
    (stagedOf s 2 = some { addr := a, word := v } → ∃ t, exec (.pairStageTimeout 2) s = .next t ∧
      SameBut s t [QCH + 4] ∧ rdF t (QCH + 4) 35 24 = min 4095 (rdF s (QCH + 4) 35 24 + 1) ∧ t.xbr.staged = sparseDrop s.xbr.staged 2)

/-- Bursts of the host and Hearth over the crossbar to shared SRAM. A burst of 1 to 16 beats within one 16-word block of the SRAM that
Hearth and the host may write stores every strobed word and no other, and is answered OK; a read burst returns the words in order
and changes no word. A read of one word at an address that no target answers returns DECODE with a word of zero. (R4, R462, R463,
R464) -/
def Obligations.CrossbarBurstsReachTheirWords : Prop :=

  ∀ (s : State) (m a : Nat) (beats : List (Bool × Word)), m ≤ 1 → CanUse s m a → s.img.copy = [] → s.bad = [] →
    (0x1008C000 ≤ a → a + beats.length ≤ 0x10100000 → 1 ≤ beats.length → a % 16 + beats.length ≤ 16 →
      (∃ t, exec (.crossbarTransaction m a true beats) s = .next t ∧ t.out = [.resp 0 []] ∧
        (∀ k b, beats[k]? = some b → rd t (a + k) = if b.1 then b.2 else rd s (a + k)) ∧
        ∀ x, x < a ∨ a + beats.length ≤ x → rd t x = rd s x) ∧
      (∃ t, exec (.crossbarTransaction m a false beats) s = .next t ∧ t.mem = s.mem ∧
        t.out = [.resp 0 ((List.range beats.length).map (fun k => rd s (a + k)))])) ∧
    (portOf a = none → ∃ t, exec (.crossbarTransaction m a false [(true, 0)]) s = .next t ∧ t.out = [.resp 2 [0]] ∧
      SameBut s t [XBR, XBR + 1, XBR + 2])

/-- Hardware locks: claimed by a read, released by the owner, forced by Hearth. Of masters that read a free lock in the same instant
exactly one is told that it was granted, and it owns the lock afterwards; the order is a free value. A read of a held lock grants
nothing. The owner's RELEASE frees the lock; another master's only counts LOCK_MISUSE. FORCE by Hearth frees it and is reported;
by another master it does nothing. (R469, R470, R471) -/
def Obligations.LocksHaveOneOwner : Prop :=

  ∀ (s : State) (ms : List Nat) (m i : Nat) (l : Lock), s.memOk = true →
    (ms ≠ [] → ms.Nodup → sparseFind s.xbr.locks i = none → ∃ t w, exec (.lockClaim ms i) s = .next t ∧ w ∈ ms ∧
      sparseFind t.xbr.locks i = some { owner := w, incarn := incarn s w } ∧ t.out.length = ms.length ∧
      (t.out.filter (fun o => o == .resp 0 [lockWord (some { owner := w, incarn := incarn s w }) true])).length = 1 ∧
      (∀ o ∈ t.out, o = .resp 0 [lockWord (some { owner := w, incarn := incarn s w }) true] ∨
        o = .resp 0 [lockWord (some { owner := w, incarn := incarn s w }) false]) ∧ t.mem = s.mem) ∧
    (sparseFind s.xbr.locks i = some l → exec (.lockClaim [m] i) s = .next { s.begun with out := [.resp 0 [lockWord (some l) false]] }) ∧
    (stagedOf s m = none → sparseFind s.xbr.locks i = some l → l.owner = m →
      exec (.lockRelease m i) s = .next { s.begun with xbr := { s.xbr with locks := sparseDrop s.xbr.locks i } }) ∧
    (stagedOf s m = none → sparseFind s.xbr.locks i = some l → l.owner ≠ m → ∃ t, exec (.lockRelease m i) s = .next t ∧ t.xbr = s.xbr ∧
      SameBut s t [XBR] ∧ rdF t XBR 11 6 = min 63 (rdF s XBR 11 6 + 1)) ∧
    (stagedOf s 0 = none → sparseFind s.xbr.locks i = some l → ∃ t, exec (.lockForce 0 i) s = .next t ∧
      t.xbr = { s.xbr with locks := sparseDrop s.xbr.locks i } ∧ t.mem = s.mem ∧ t.log.reports.length = s.log.reports.length + 1) ∧
    (m ≠ 0 → stagedOf s m = none → exec (.lockForce m i) s = .next s.begun)

/-- Mailbox posts, acknowledgements, the partner's messages and the doorbell set register. An allowed post of at most 13 words to a
channel with fewer than three messages puts a message of 16 words, stamped with the sender, its incarnation, the period and the length, at
the channel's end and shows POSTED; the receiver's ACK removes the oldest. On a unit of a twin pair with a lane in lock, a partner's
message that arrives good with the expected SEQ is placed at the end of its channel, raises the expected SEQ and is answered; its ACCEPT
while Tongs is up removes the numbered message from the outbound queue, and a resend while Tongs is up sends a waiting message again,
counted. Hearth's write to MBX_DBELL_SET_0 sets host doorbell bits 15:0. Choices of the model here: log entry 61 (when Tongs is up). (R344,
R472, R473, R475, R476, R478, R481) -/
def Obligations.MailboxesKeepTheirMessagesInOrder : Prop :=

  ∀ (s : State) (k r c len peer m inc seqn : Nat) (ws : List Word) (w : Word) (o : OutMsg), s.memOk = true →
    (stagedOf s (senderMaster k) = none → mayPost k r c = true → len ≤ 13 → r ≠ 2 → (chan s r c).length < 3 →
      ∃ t, exec (.mbxPost k r c len peer) s = .next t ∧ rd t (MBX + 0x10 * k + 0xE) = 1 ∧
        ∃ msg, chan t r c = chan s r c ++ [msg] ∧ msg.length = 16 ∧ fld (msg.headD 0) 3 0 = len ∧
          fld (msg.headD 0) 35 30 = senderMaster k ∧ fld (msg.headD 0) 29 22 = incarn s (senderMaster k)) ∧
    (m = receiverMaster r → stagedOf s m = none → ∀ h rest, chan s r c = h :: rest →
      ∃ t, exec (.mbxAck m r c) s = .next t ∧ t.xbr = { s.xbr with chan := sparseSet (fun _ => []) s.xbr.chan (16 * r + c) rest } ∧
        t.mem = s.mem) ∧
    (s.img.twin = 1 → laneLocked s = true → rdF s (MBX + 0x421) 7 0 = inc % 256 → seqn = sparseGet (fun _ => 0) s.xbr.inSeq c →
      (chan s 2 c).length < 3 →
      ∃ t, exec (.mailboxMessage c inc seqn { find := .good, body := ws }) s = .next t ∧ chan t 2 c = chan s 2 c ++ [ws] ∧
        sparseGet (fun _ => 0) t.xbr.inSeq c = seqn + 1 ∧ t.out ≠ []) ∧
    (s.img.twin = 1 → laneLocked s = true → tongsUp s = true → rdF s (MBX + 0x421) 7 0 = inc % 256 →
      ∃ t, exec (.mailboxAccept c inc { find := .good, body := seqn }) s = .next t ∧ t.mem = s.mem ∧
        t.xbr = { s.xbr with outq := sparseSet (fun _ => []) s.xbr.outq c ((outq s c).filter (fun o => o.seq != seqn)) }) ∧
    (tongsUp s = true → outq s c = [o] → (mailBody 1 c (incarn s 0) o.seq o.words).length ≤ 2048 →
      ∃ t, exec (.mailboxResend c) s = .next t ∧
        t.out = [.tongs 7 (sparseGet (fun _ => 0) s.twn.classSeq 7) false (mailBody 1 c (incarn s 0) o.seq o.words)] ∧
        rdF t (MBX + 0x420) 11 0 = min 4095 (rdF s (MBX + 0x420) 11 0 + 1) ∧ outq t c = [o]) ∧
    (stagedOf s 0 = none → exec (.mbxDbellSet 0 0 w) s = .next (s.begun.after (setBits (MBX + 0x402) (fld w 15 0))))

/-- A word on the host port is five bytes in the order of R43, whose check nibble finds a changed nibble. The five bytes of a word
are: the check nibble and bits 35:32, then bits 31:24, 23:16, 15:8 and 7:0, high nibble first; the check nibble is the NOT of the
XOR of the nine data nibbles. Every word, sent so, is received as itself. If one of the ten nibbles of the five bytes is changed
and nothing else, the receiver rejects the word. (R43) -/
def Obligations.HostWordsCarryTheirCheck : Prop :=

  (∀ w : Word, wordBytes w = [
      16 * (15 - (List.range 9).foldl (fun x i => x ^^^ fld w (4 * i + 3) (4 * i)) 0) + fld w 35 32,
      16 * fld w 31 28 + fld w 27 24, 16 * fld w 23 20 + fld w 19 16, 16 * fld w 15 12 + fld w 11 8, 16 * fld w 7 4 + fld w 3 0]) ∧
  (∀ w : Word, bytesWord (wordBytes w) = some w) ∧
  (∀ (w : Word) (k x : Nat), k < 10 → 0 < x → x < 16 →
    bytesWord ((wordBytes w).zipIdx.map (fun e => if e.2 = k / 2 then e.1 ^^^ (x * 16 ^ (1 - k % 2)) else e.1)) = none)

/-- WRITE, WRITE_FIXED, READ, READ_FIXED, STATUS and the rise of HP_CS_L. With the host port ready and no transaction in progress: a WRITE
or WRITE_FIXED of one good word to a word of shared SRAM that the host may write stores it and counts one good word, WRITE stepping the
address and WRITE_FIXED not; a READ or READ_FIXED of one word drives the five bytes of the word there; STATUS drives the five bytes of
HPT_STATUS. HP_CS_L rising between words ends the transaction and records its OP, its good words and no error. Choices of the model here: log
entry 60 (how far the port reads ahead). (R502, R503, R504, R508, R509, R585) -/
def Obligations.HostTransactionsMoveWords : Prop :=

  ∀ (s : State) (a : Nat) (w : Word), s.memOk = true → busUp s = true → s.sys.rdyUp = true → s.sys.state ≠ .reset → s.hpt.ignore = false →
    s.sys.draining = [] → s.img.copy = [] → s.bad = [] → stagedOf s 1 = none → 0x1008C000 ≤ a → a + 16 < 0x10100000 →
    let hdr (op x : Nat) := wordBytes (wd (op * 2 ^ 32 + x))
    (s.hpt.active = none →
      (∃ t, exec (.hpWrite (hdr 1 a) [wordBytes w] none) s = .next t ∧ rd t a = w ∧ SameBut s t [a] ∧
        t.hpt.active = some (1, a + 1) ∧ t.hpt.good = 1 ∧ t.hpt.err = none) ∧
      (∃ t, exec (.hpWriteFixed (hdr 3 a) [wordBytes w] none) s = .next t ∧ rd t a = w ∧ SameBut s t [a] ∧
        t.hpt.active = some (3, a) ∧ t.hpt.good = 1 ∧ t.hpt.err = none) ∧
      (∃ t, exec (.hpRead (hdr 2 a) 1 none) s = .next t ∧ t.out = [.host (wordBytes (rd s a))] ∧ t.mem = s.mem ∧
        t.hpt.active = some (2, a + 1) ∧ t.hpt.good = 1 ∧ t.hpt.spec.length = 8) ∧
      (∃ t, exec (.hpReadFixed (hdr 4 a) 1 none) s = .next t ∧ t.out = [.host (wordBytes (rd s a))] ∧ t.mem = s.mem ∧
        t.hpt.active = some (4, a) ∧ t.hpt.good = 1) ∧
      (∃ t, exec (.hpStatus (hdr 5 0)) s = .next t ∧ t.out = [.host (wordBytes (rd s HPT))] ∧ t.mem = s.mem)) ∧
    (∀ op x, s.hpt.active = some (op, x) → op < 5 → s.hpt.err = none → s.hpt.spec = [] → s.xbr.locks = [] →
      ∃ t, exec (.hpCsLRise false) s = .next t ∧ t.hpt = Hpt.reset ∧ rdF t HPT 31 28 = op ∧ rdF t HPT 35 32 = 0 ∧
        rdF t HPT 23 0 = min 0xFFFFFF s.hpt.good ∧ SameBut s t [HPT])

/-- Entry to RUN, the ARMED timeout, and the end of STOP's ramp. In ARMED at a control-tick boundary with clock, count, prefetch lead
and role settled, no stop hold and QUENCH_IN_L high, RUN_ENTRY goes to RUN with the role SOLO, or as decided on a pair, the start-
up ramp at its start, no delay line or feed carried over and the count unchanged; with QUENCH_IN_L low the device goes to SAFE,
not by a fault, its feeds at zero as they were in ARMED; with another condition unmet nothing happens. ARMED_TIMEOUT with the other
conditions met takes the clock as settled, free-running on XO, and leaves the count to the next tick, which takes it from the calendar.
STOP_RAMP_COMPLETE once the 64 samples are released leaves RUN for ARMED without a role, with no scene frame pending, and sets the stop
hold if a STOP command was in progress; before that it does nothing. (R67, R68, R69, R70, R71, R429) -/
def Obligations.RunIsEnteredAndLeftAsTheRulesSay : Prop :=

  ∀ (s : State) (ms : Nat) (g : RenderFaults), s.memOk = true →
    (s.sys.state = .armed → (s.wav.n + 1) % 16 = 0 →
      ((pinOf s 16).filt = true → s.sys.condClock = true → s.sys.condCount = true → othersMet s = true →
        ∃ t, exec (.runEntry ms) s = .next t ∧ t.sys.state = .run ∧ t.sys.prev = .armed ∧
          t.sys.role = (if isTwin s = true then s.twn.decided.getD .active else .solo) ∧ t.qch.rampStart = some 0 ∧
          t.wav.n = s.wav.n ∧ t.wav.lines = [] ∧ t.feeds = []) ∧
      ((pinOf s 16).filt = false → ∃ t, exec (.runEntry ms) s = .next t ∧ t.sys.state = .safe ∧ t.sys.safeFault = false ∧
        t.qch.rampSafe = some 64) ∧
      ((pinOf s 16).filt = true → (s.sys.condClock && s.sys.condCount && othersMet s) = false →
        exec (.runEntry ms) s = .next s.begun)) ∧
    (s.sys.state = .armed → s.img.timeout ≠ 0 → (pinOf s 16).filt = true → othersMet s = true →
      (s.sys.condClock && s.sys.condCount) = false → ∃ t, exec .armedTimeout s = .next t ∧ t.sys.state = .armed ∧
        t.wav = s.wav ∧ t.sys.condClock = true ∧ t.sys.condCount = false ∧ t.sys.freeRun = true ∧ rdF t CLK 35 33 = 4) ∧
    (s.sys.state = .armed → s.sys.condCount = false → refState s = 4 → s.qch.xoStopped = false → s.roleOk = true →
      ∃ t, exec (.periodTick g) s = .next t ∧ t.sys.condCount = true ∧ t.wav.n = s.cocoon.calSec * rateHz s.sys.rate) ∧
    (s.sys.state = .run → s.qch.rampStop = some 64 → s.wav.flight = none → ∃ t, exec .stopRampComplete s = .next t ∧
      t.sys.state = .armed ∧ t.sys.role = .none ∧ t.sys.stopHold = (s.sys.stopHold || s.sys.busyCmd == 3) ∧ t.scene.pending = [] ∧
      t.qch.rampStop = none) ∧
    (s.sys.state ≠ .armed → exec (.runEntry ms) s = .next s.begun ∧ exec .armedTimeout s = .next s.begun) ∧
    (s.sys.state ≠ .run ∨ s.qch.rampStop ≠ some 64 ∨ s.wav.flight ≠ none → exec .stopRampComplete s = .next s.begun)

/-- A period tick raises the count by one in ARMED, RUN and SAFE. In ARMED with the count established PERIOD_TICK raises the period count
by one and releases no feed and starts no wavefront, and the device stays in ARMED unless a check of that control tick finds a fault; in
RUN and SAFE with no correction due it raises the count by one whatever falls due, stops or fails in it; in every other state, and while
XO is stopped, it does nothing but let the errors of the memories strike that it is given, and nothing at all with none. Choices of the model here: log entry 26 (the control ticks of ARMED). (R15, R20, R71, R327, R336) -/
def Obligations.TicksCountThePeriods : Prop :=

  ∀ (s : State) (g : RenderFaults), s.memOk = true →
    (s.sys.state = .armed → s.sys.condCount = true → s.qch.xoStopped = false → s.roleOk = true →
      ∃ t, exec (.periodTick g) s = .next t ∧ t.wav.n = s.wav.n + 1 ∧ t.feeds = s.feeds ∧ t.wav.flight = s.wav.flight ∧
        (t.sys.state = .armed ∨ t.sys.state = .safe ∧ (s.wav.n + 1) % 16 = 0)) ∧
    (s.sys.state = .run ∨ s.sys.state = .safe → s.clk.corr = none → s.qch.xoStopped = false →
      ∃ t, exec (.periodTick g) s = .next t ∧ t.wav.n = s.wav.n + 1) ∧
    (counting s = false ∨ s.qch.xoStopped = true → exec (.periodTick g) s = .next (s.begun.after (strike g)) ∧
      exec (.periodTick noFaults) s = .next s.begun)

/-- The end of a wavefront: complete, at the watchdog, and a catch-up wavefront's launch. A wavefront whose lane items have all passed
is released: none is in flight, DONE and HASH name its period, LAST_TIME its time. At the watchdog an incomplete wavefront of the
present ends too: none is in flight, its lane items are abandoned, it is remembered for 16 periods, and the third within 16
periods latches RENDER. With no wavefront in flight, and while XO is stopped, neither does anything, and a catch-up wavefront is not the
watchdog's. A catch-up wavefront is launched for the next past period once the partner's bitmap for it has come, the buffer holds it,
Locator's results for its control tick are ready and every line holds its window; without one of the last two it waits. (R20, R162, R177,
R179, R180, R183, R187, R188, R336) -/
def Obligations.WavefrontsAreReleasedOrStopped : Prop :=

  ∀ (s : State) (f : Flight) (time groups : Nat), s.memOk = true →
    (s.qch.xoStopped = false → s.wav.flight = some f → f.catchup = false →
      ((∀ i ∈ s.bel.list, itemDone s i = true) →
        ∃ t, exec (.wavefrontComplete time) s = .next t ∧ t.wav.flight = none ∧ t.wav.hashAt = f.n ∧
          rdF t WAV 15 0 = min 65535 time) ∧
      ∃ t, exec (.wavefrontWatchdog groups) s = .next t ∧ t.wav.flight = none ∧
        t.bel.list = [] ∧ t.wav.overruns = (f.n :: s.wav.overruns).filter (fun k => f.n < k + 16) ∧
        (3 ≤ ((f.n :: s.wav.overruns).filter (fun k => f.n < k + 16)).length → t.qch.fault.testBit 0 = true)) ∧
    (s.wav.flight = none ∨ s.qch.xoStopped = true →
      exec (.wavefrontComplete time) s = .next s.begun ∧ exec (.wavefrontWatchdog groups) s = .next s.begun) ∧
    (s.wav.flight = some f → f.catchup = true → exec (.wavefrontWatchdog groups) s = .next s.begun) ∧
    (∀ p raw, s.qch.xoStopped = false → align s = 3 → s.wav.flight = none → s.wav.caught < s.wav.n →
      resultsReady s (s.wav.caught + 1) = true → windowsHeld s (s.wav.caught + 1) = true →
      s.twn.ppres.find? (fun e => e.1 == s.wav.caught + 1) = some p → catchupRaw s (s.wav.caught + 1) p.2 = some raw →
      ∃ t, exec .catchupWavefront s = .next t ∧ t.wav.n = s.wav.n ∧
        t.wav.flight.map (fun x => (x.n, x.catchup)) = some (s.wav.caught + 1, true)) ∧
    (resultsReady s (s.wav.caught + 1) = false ∨ windowsHeld s (s.wav.caught + 1) = false →
      exec .catchupWavefront s = .next s.begun)

/-- The control-tick boundary, Locator's results for it, the probe, and meter snapshots. In RUN or SAFE, when the coming period is a
multiple of 16 not yet dealt with, CONTROL_TICK deals with that boundary: no frame for it is left pending, an armed probe has latched, and
in RUN no keyframe of the initial scene waits any more, while in SAFE they wait on. Elsewhere it does nothing. LOCATOR_COMPLETE while
periods are counted puts what Locator computes for the next boundary into the inactive buffer, the pairs that an internal fault or an
unreadable table kept from finishing named with it, and shows its time. A write to LOC_PROBE_SEL clears READY and arms the latch, and
changes no other word. A write with bit 0 set to CRU_METER_SNAP makes a snapshot wait for the next launch and shows it; a write without it
does nothing. METER_AUTO_SNAPSHOT in RUN or SAFE makes one due when the coming period begins a control tick that AUTO names, and does
nothing with AUTO zero. Choices of the model here: log entries 26 (in which states a control tick begins) and 83 (which pairs an unreadable
word keeps from finishing). (R21, R22, R49, R122, R128, R161, R213, R330) -/
def Obligations.ControlTicksMoveTheScene : Prop :=

  (∀ (s : State) (l : List Nat) (time : Nat) (w : Word), s.memOk = true →
     (s.sys.state = .run ∨ s.sys.state = .safe → (renderN s + 1) % 16 = 0 → s.scene.boundary ≠ renderN s + 1 →
       ∃ t, exec .controlTick s = .next t ∧ t.scene.boundary = renderN s + 1 ∧
         t.scene.initKf = (if s.sys.state = .run then [] else s.scene.initKf) ∧
         (∀ f ∈ t.scene.pending, f.bnd ≠ renderN s + 1) ∧ t.loc.probeArmed = false) ∧
     (s.sys.state ≠ .run → s.sys.state ≠ .safe → exec .controlTick s = .next s.begun) ∧
     (counting s = true → ∃ t gone, exec (.locatorComplete l time) s = .next t ∧
       gone = l ++ (badPairs s).filter (fun k => (objTargets (rd s) (k / 8)).testBit (k % 8)) ∧
       t.loc = { s.loc with next := some (locBuffer s.begun (nextBoundary s) gone), unfinished := gone } ∧
       rdF t (LOC + 0x10) 15 0 = min 0xFFFF time ∧ SameBut s t [LOC + 0x10]) ∧
     (counting s = false → exec (.locatorComplete l time) s = .next s.begun) ∧
     (∃ t, exec (.locProbeSel w) s = .next t ∧ rd t (LOC + 0x20) = w &&& wd 0x1FFF ∧ rdF t (LOC + 0x21) 35 35 = 0 ∧
       t.loc = { s.loc with probeArmed := true } ∧ SameBut s t [LOC + 0x20, LOC + 0x21])) ∧
  (∀ (s : State) (m : Nat) (w : Word), s.memOk = true → stagedOf s m = none →
     (flag w 0 = true → ∃ t, exec (.snap m w) s = .next t ∧ t.cru = { s.cru with snapReq := true } ∧ rdF t (CRU + 0x23) 0 0 = 1 ∧
       SameBut s t [CRU + 0x23]) ∧
     (flag w 0 = false → exec (.snap m w) s = .next s.begun) ∧
     (s.sys.state = .run ∨ s.sys.state = .safe → (s.wav.n + 1) % 16 = 0 → rdF s (CRU + 0x20) 35 24 ≠ 0 →
       (s.wav.n + 1) / 16 % rdF s (CRU + 0x20) 35 24 = 0 →
       exec .meterAutoSnapshot s = .next { s.begun with cru := { s.cru with snapReq := true } }) ∧
     (rdF s (CRU + 0x20) 35 24 = 0 → exec .meterAutoSnapshot s = .next s.begun))

/-- The delay lines' window filler, head write-back and jump fills. While the dies accept traffic: TAIL_FILL gives a line the 512 samples
from the oldest tap of the present read and, where they hold the full lead, feeds the line again, clears its STARVED bit and counts it as
prefetched; HEAD_WRITE_BACK writes every head sample not yet in DRAM at its place in the line's region and no word outside that region;
JUMP_FILL_COMPLETE gives a line that waits for a jump the 512 samples around its target and counts it. A fill that needs no word of DRAM
changes no other word. While the dies do not accept traffic none of them does anything, nor a jump fill that nothing requested. Choices
of the model here: log entry 25 (where a tail fill begins). (R24, R171, R172, R173, R174, R456) -/
def Obligations.DelayLinesKeepTheirSamples : Prop :=

  ∀ (s : State) (l : Nat), s.memOk = true →
    (∀ p, l < 2048 → dramUp s = true → p = renderN s - (lineDelay s l (renderN s) + 4) →
      ∃ t, exec (.tailFill l) s = .next t ∧
        t.wav = { s.wav with lines := sparseSet (fun _ => Line.init) s.wav.lines l { lineOf s l with
          tailAt := p, tail := windowFrom s l p,
          fade := { (lineOf s l).fade with lost := (lineOf s l).fade.lost && !holdsLead s p (windowFrom s l p) } } } ∧
        (holdsLead s p (windowFrom s l p) = true → l ∈ t.sys.prefetched ∧ flag (rd t (WAV + 0xA0 + l / 32)) (l % 32) = false) ∧
        (holdsLead s p (windowFrom s l p) = false → t.sys = s.sys) ∧
        (windowReads s l p = [] → SameBut s t [WAV + 0xA0 + l / 32])) ∧
    (l < 2048 → dramUp s = true → chanFailed s 0 = false → chanFailed s 4 = false → chanFailed s 8 = false → chanFailed s 12 = false →
      s.drc.queue = [] → 0 < lineLen (rd s) l → (lineOf s l).head.length ≤ lineLen (rd s) l →
      lineStart (rd s) l + lineLen (rd s) l ≤ 0x80000000 →
      ∃ t, exec (.headWriteBack l) s = .next t ∧
        t.wav = { s.wav with lines := sparseSet (fun _ => Line.init) s.wav.lines l { lineOf s l with wb := renderN s + 1 } } ∧
        (∀ age v, (lineOf s l).head[age]? = some (some v) → age ≤ renderN s → (lineOf s l).wb ≤ renderN s - age →
          rd t (lineAddr (rd s) l (renderN s - age)) = wdI v) ∧
        ∀ a, a ≠ DRC → (a < lineStart (rd s) l ∨ lineStart (rd s) l + lineLen (rd s) l ≤ a) → rd t a = rd s a) ∧
    (∀ p, dramUp s = true → (lineOf s l).jumpAt = some p → ∃ t, exec (.jumpFillComplete l) s = .next t ∧
      t.wav = { s.wav with lines := sparseSet (fun _ => Line.init) s.wav.lines l { lineOf s l with jump := windowFrom s l p } } ∧
      (windowReads s l p = [] → rdF t (DRC + 5) 11 0 = min 4095 (rdF s (DRC + 5) 11 0 + 1) ∧ SameBut s t [DRC + 5])) ∧
    (dramUp s = true → (lineOf s l).jumpAt = none → exec (.jumpFillComplete l) s = .next s.begun) ∧
    (dramUp s = false → exec (.tailFill l) s = .next s.begun ∧ exec (.headWriteBack l) s = .next s.begun ∧
      exec (.jumpFillComplete l) s = .next s.begun)

/-- The host's submission of a scene frame, and the taking of the oldest one. A write to LOC_HOST_SUBMIT while no host frame is BUSY
queues the frame and shows BUSY; while one is BUSY it is only counted in DISCARDS. Taking the oldest frame of the queue removes it: one
that the checks of R121 pass joins the pending frames for its boundary with its commands and is counted as accepted, one that they refuse
changes nothing pending and is counted as rejected. A frame taken outside RUN fails with STATE, one taken by a unit that is not
authoritative with NOT_ACTIVE. With an empty queue nothing happens. Choices of the model here: log entries 24 (any master may submit) and 68
(what step 7 checks keyframes against). (R118, R120, R121, R123, R125) -/
def Obligations.SceneFramesAreTakenOneAtATime : Prop :=

  ∀ (s : State) (m : Nat) (w : Word) (f : SceneIn) (r : List SceneIn), s.memOk = true → stagedOf s m = none →
    (flag (rd s (LOC + 0x105)) 35 = false → ∃ t, exec (.locHostSubmit m w) s = .next t ∧ flag (rd t (LOC + 0x105)) 35 = true ∧
      t.scene.queue = s.scene.queue ++ [{ host := true, port := 0, srcIp := 0, srcPort := 0, bytes := hostFrameBytes s (fld w 12 0) }] ∧
      SameBut s t [LOC + 0x105]) ∧
    (flag (rd s (LOC + 0x105)) 35 = true → ∃ t, exec (.locHostSubmit m w) s = .next t ∧ t.scene = s.scene ∧
      rdF t (LOC + 0x105) 25 18 = min 255 (rdF s (LOC + 0x105) 25 18 + 1) ∧ SameBut s t [LOC + 0x105]) ∧
    (s.scene.queue = [] → exec .sceneFrameTake s = .next s.begun) ∧
    (s.scene.queue = f :: r → (f.host && s.scene.hostDirty) = false →
      (∀ c i, takeCheck s f = .inl (c, i) → ∃ t, exec .sceneFrameTake s = .next t ∧ t.scene.queue = r ∧
        t.scene.pending = s.scene.pending ∧ rdF t (LOC + 0x103) 23 12 = min 4095 (rdF s (LOC + 0x103) 23 12 + 1)) ∧
      (∀ b h, takeCheck s f = .inr (b, h) → ∃ t, exec .sceneFrameTake s = .next t ∧ t.scene.queue = r ∧
        (t.scene.pending.map (fun p => (p.bnd, p.cmds))) = (s.scene.pending.map (fun p => (p.bnd, p.cmds))) ++ [(b, h.cmds)] ∧
        rdF t (LOC + 0x103) 35 24 = min 4095 (rdF s (LOC + 0x103) 35 24 + 1))) ∧
    (s.sys.state ≠ .run → takeCheck s f = .inl (0x17, 0xFFFF)) ∧
    (s.sys.state = .run → authoritative s = false → takeCheck s f = .inl (0x19, 0xFFFF))

/-- Direct writes of route entries and destinations. Routes not STATIC and nothing staged: Hearth's or the host's write of CTRL
changes no word and is only held; GAIN then writes both words of the entry in one update, or neither when the held CTRL is not
allowed, counted in ROUTE_REFUSED; GAIN alone writes only GAIN, and discards a CTRL held for another entry, of which nothing is
committed. The loader writes each word directly. A millisecond with CTRL held discards it, and no word changes. A destination word is
written if R208 allows it, else only counted. A master other than Hearth, the host and the loader changes no route or destination.
(R41, R197, R198, R199, R207, R208) -/
def Obligations.RouteEntriesAreWrittenWhole : Prop :=

  ∀ (s : State) (m e i : Nat) (w c : Word), s.memOk = true → e < 4096 → i < 4096 → staticOf s secRoutes = false →
    let a := tblRoute + 2 * e
    (m ≤ 1 → stagedOf s m = none →
      (∃ t, exec (.routeCtrlWrite m e w) s = .next t ∧ stagedOf t m = some { addr := a, word := w } ∧ t.mem = s.mem) ∧
      (∃ t, exec (.routeGainWrite m e w) s = .next t ∧ rd t (a + 1) = w ∧ SameBut s t [a + 1] ∧ t.xbr = s.xbr)) ∧
    (m ≤ 1 → stagedOf s m = some { addr := a, word := c } →
      (ctrlOk c = true → ∃ t, exec (.routeGainWrite m e w) s = .next t ∧ rd t a = c ∧ rd t (a + 1) = w ∧ SameBut s t [a, a + 1] ∧
        t.xbr.staged = sparseDrop s.xbr.staged m) ∧
      (ctrlOk c = false → ∃ t, exec (.routeGainWrite m e w) s = .next t ∧ SameBut s t [CRU + 2] ∧
        rdF t (CRU + 2) 35 24 = min 4095 (rdF s (CRU + 2) 35 24 + 1) ∧ t.xbr.staged = sparseDrop s.xbr.staged m) ∧
      (∃ t, exec (.routeStageTimeout m) s = .next t ∧ SameBut s t [] ∧ t.xbr.staged = sparseDrop s.xbr.staged m)) ∧
    (∀ b, m ≤ 1 → stagedOf s m = some { addr := b, word := c } → b ≠ a → isPairWord b = false →
      ∃ t, exec (.routeGainWrite m e w) s = .next t ∧ rd t (a + 1) = w ∧ SameBut s t [a + 1] ∧
        t.xbr.staged = sparseDrop s.xbr.staged m) ∧
    (stagedOf s m = none → exec (.routeStageTimeout m) s = .next s.begun) ∧
    ((∃ t, exec (.routeCtrlWrite 2 e w) s = .next t ∧ rd t a = w ∧ SameBut s t [a]) ∧
      (∃ t, exec (.routeGainWrite 2 e w) s = .next t ∧ rd t (a + 1) = w ∧ SameBut s t [a + 1])) ∧
    (m ≤ 2 → stagedOf s m = none →
      (destOk (rd s) i w = true → ∃ t, exec (.destinationWrite m i w) s = .next t ∧ rd t (tblDest + i) = w ∧ SameBut s t [tblDest + i]) ∧
      (destOk (rd s) i w = false → ∃ t, exec (.destinationWrite m i w) s = .next t ∧ SameBut s t [CRU + 2] ∧
        rdF t (CRU + 2) 23 12 = min 4095 (rdF s (CRU + 2) 23 12 + 1))) ∧
    (2 < m → stagedOf s m = none →
      (∃ t, exec (.routeCtrlWrite m e w) s = .next t ∧ SameBut s t [XBR, XBR + 1, XBR + 2] ∧ t.xbr = s.xbr) ∧
      (∃ t, exec (.routeGainWrite m e w) s = .next t ∧ SameBut s t [XBR, XBR + 1, XBR + 2] ∧ t.xbr = s.xbr) ∧
      (∃ t, exec (.destinationWrite m i w) s = .next t ∧ SameBut s t [XBR, XBR + 1, XBR + 2] ∧ t.xbr = s.xbr))

/-- A route commit's request, its refusals, its cancel and its application. From an authoritative unit in RUN for a period P at least
32 and at most 2^24 ahead, with none pending, a commit whose entries all pass is captured and PENDING; one bad entry makes it
RANGE with that entry's index and nothing pending. A period too near is TOO_LATE, one too far TOO_FAR, one while pending BUSY,
outside RUN STATE: nothing is captured. On a unit that is no STANDBY a cancel at least 32 periods ahead removes it, a later one is too
late, and with none pending it says so; a STANDBY is NOT_ACTIVE. At the launch of P the captured entries take effect and the commit is
APPLIED; before P nothing happens. (R201, R202, R203, R204, R205, R206) -/
def Obligations.RouteCommitsAreAllOrNothing : Prop :=

  ∀ (s : State) (m count p : Nat), s.memOk = true → m ≤ 2 → stagedOf s m = none →
    let es := (List.range count).map (stageEntry (rd s))
    let shows (t : State) (code pend : Nat) := rdF t (CRU + 0x13) 7 0 = code ∧ rdF t (CRU + 0x13) 35 35 = pend
    (s.sys.state = .run → authoritative s = true → s.cru.pend = none → atOf s (CRU + 0x10) = p → s.wav.n + 32 ≤ p →
      p ≤ s.wav.n + 2 ^ 24 → 1 ≤ count → count ≤ 512 →
      (badEntry (rd s) 0 [] es = none → ∃ t, exec (.routeCommit m count) s = .next t ∧ t.cru = { s.cru with pend := some { at' := p, what := es } } ∧
        shows t 1 1 ∧ rdF t (CRU + 0x13) 19 10 = 0x3FF ∧ SameBut s t [CRU + 0x13]) ∧
      (∀ i, badEntry (rd s) 0 [] es = some i → i < 1023 → ∃ t, exec (.routeCommit m count) s = .next t ∧ t.cru = s.cru ∧ shows t 5 0 ∧
        rdF t (CRU + 0x13) 19 10 = i ∧ SameBut s t [CRU + 0x13])) ∧
    (s.sys.state = .run → authoritative s = true → s.cru.pend = none → atOf s (CRU + 0x10) = p → 0 < p → p < s.wav.n + 32 →
      ∃ t, exec (.routeCommit m count) s = .next t ∧ t.cru = s.cru ∧ shows t 3 0) ∧
    (s.sys.state = .run → authoritative s = true → s.cru.pend = none → atOf s (CRU + 0x10) = p → s.wav.n + 2 ^ 24 < p →
      ∃ t, exec (.routeCommit m count) s = .next t ∧ t.cru = s.cru ∧ shows t 4 0) ∧
    (s.sys.state = .run → authoritative s = true → s.cru.pend.isSome = true →
      ∃ t, exec (.routeCommit m count) s = .next t ∧ t.cru = s.cru ∧ shows t 7 1) ∧
    (s.sys.state ≠ .run → s.cru.pend = none → ∃ t, exec (.routeCommit m count) s = .next t ∧ t.cru = s.cru ∧ shows t 0x0B 0) ∧
    (∀ x, s.cru.pend = some x → s.sys.role ≠ .standby →
      (s.wav.n + 32 ≤ x.at' → ∃ t, exec (.routeCommitCancel m) s = .next t ∧ t.cru = { s.cru with pend := none } ∧ shows t 8 0 ∧
        SameBut s t [CRU + 0x13]) ∧
      (x.at' < s.wav.n + 32 → ∃ t, exec (.routeCommitCancel m) s = .next t ∧ t.cru = s.cru ∧ shows t 9 1)) ∧
    (s.cru.pend = none → s.sys.role ≠ .standby → ∃ t, exec (.routeCommitCancel m) s = .next t ∧ t.cru = s.cru ∧ shows t 0x0A 0) ∧
    (s.cru.pend = none → s.sys.role = .standby → ∃ t, exec (.routeCommitCancel m) s = .next t ∧ t.cru = s.cru ∧ shows t 6 0) ∧
    (∀ x, s.cru.pend = some x → x.at' = renderN s + 1 → x.at' < 2 ^ 64 → ∃ t, exec .routeCommitApply s = .next t ∧
      t.cru = { s.cru with pend := none } ∧ shows t 2 0 ∧ rdPair t (CRU + 0x14) = x.at' ∧
      (∀ e, x.what = [e] → e.valid = true → e.isDest = false →
        rd t (tblRoute + 2 * e.index) = e.v0 ∧ rd t (tblRoute + 2 * e.index + 1) = e.v1) ∧
      ∀ a, a ∉ [CRU + 2, CRU + 0x13, CRU + 0x14, CRU + 0x15] → (a < tblRoute ∨ tblRoute + 8192 ≤ a) → (a < tblDest ∨ tblDest + 4096 ≤ a) →
        rd t a = rd s a) ∧
    (∀ x, s.cru.pend = some x → x.at' ≠ renderN s + 1 → exec .routeCommitApply s = .next s.begun)

/-- Temper's bank swaps: requested, queued, cancelled, started, and the end of a fade. From an authoritative unit in RUN a request for
a period at least 32 and at most 2^24 ahead, hard or with a fade of 2^4 to 2^14 periods, is PENDING, or QUEUED while a fade runs.
While EQ_BANKS is STATIC only the loader may request. On a unit that is no STANDBY a cancel at least 32 periods ahead removes it, a later
one is too late, and with nothing held it says so; a STANDBY is NOT_ACTIVE. At its boundary a hard swap makes its target current, a
fading one starts the fade with the old bank current, one to the current bank is a no-op. At the fade's last boundary its target becomes
current, and a request queued for a later period waits as PENDING. (R228, R229, R230, R231, R232, R233) -/
def Obligations.BankSwapsStartAndFadeAtTheirPeriods : Prop :=

  ∀ (s : State) (m p : Nat) (ctl : Word) (q : SwapReq), s.memOk = true → m ≤ 2 → stagedOf s m = none →
    (m < 2 → staticOf s secEq = true → ∃ t, exec (.bankSwapRequest m ctl) s = .next t ∧ t.tpr = s.tpr ∧ SameBut s t [XBR, XBR + 1, XBR + 2]) ∧
    (swapMaster s m = true → s.sys.state = .run → authoritative s = true → atOf s (TPR + 0x10) = p → s.wav.n + 32 ≤ p → p ≤ s.wav.n + 2 ^ 24 →
      s.tpr.pend = none → s.tpr.queued = none → (flag ctl 1 = true → 4 ≤ fld ctl 7 4 ∧ fld ctl 7 4 ≤ 14) →
      (s.tpr.fade = none → ∃ t, exec (.bankSwapRequest m ctl) s = .next t ∧ t.tpr = { s.tpr with pend := some (swapReq ctl p) } ∧
        rdF t (TPR + 0x13) 7 0 = 1 ∧ SameBut s t [TPR + 0x13]) ∧
      (s.tpr.fade.isSome = true → ∃ t, exec (.bankSwapRequest m ctl) s = .next t ∧ t.tpr = { s.tpr with queued := some (swapReq ctl p) } ∧
        rdF t (TPR + 0x13) 7 0 = 2 ∧ SameBut s t [TPR + 0x13])) ∧
    (swapMaster s m = true → s.sys.role ≠ .standby →
      (s.tpr.pend = some q → s.wav.n + 32 ≤ q.at' → ∃ t, exec (.bankSwapCancel m) s = .next t ∧ t.tpr = { s.tpr with pend := none } ∧
        rdF t (TPR + 0x13) 7 0 = 0x0C) ∧
      (s.tpr.pend = some q → q.at' < s.wav.n + 32 → ∃ t, exec (.bankSwapCancel m) s = .next t ∧ t.tpr = s.tpr ∧ rdF t (TPR + 0x13) 7 0 = 0x0D) ∧
      (s.tpr.pend = none → s.tpr.queued = none → ∃ t, exec (.bankSwapCancel m) s = .next t ∧ t.tpr = s.tpr ∧ rdF t (TPR + 0x13) 7 0 = 0x0E)) ∧
    (swapMaster s m = true → s.sys.role = .standby → ∃ t, exec (.bankSwapCancel m) s = .next t ∧ t.tpr = s.tpr ∧ rdF t (TPR + 0x13) 7 0 = 0x0A) ∧
    (s.tpr.pend = some q → q.at' = renderN s + 1 → q.at' < 2 ^ 64 → s.tpr.partnerSum = none →
      (q.target ≠ s.tpr.cur → q.fade = none → ∃ t, exec .bankSwapStart s = .next t ∧
        t.tpr = { s.tpr with pend := none, cur := q.target } ∧ rdF t (TPR + 0x13) 7 0 = 4 ∧ rdPair t (TPR + 0x14) = q.at') ∧
      (∀ lg, q.target ≠ s.tpr.cur → q.fade = some lg → ∃ t, exec .bankSwapStart s = .next t ∧
        t.tpr = { s.tpr with pend := none, fade := some (q.at', lg, q.target) } ∧ rdF t (TPR + 0x13) 7 0 = 3 ∧
        rdPair t (TPR + 0x14) = q.at') ∧
      (q.target = s.tpr.cur → ∃ t, exec .bankSwapStart s = .next t ∧ t.tpr = { s.tpr with pend := none } ∧ rdF t (TPR + 0x13) 7 0 = 5)) ∧
    (s.tpr.pend = some q → q.at' ≠ renderN s + 1 → exec .bankSwapStart s = .next s.begun) ∧
    (∀ st lg tg, s.tpr.fade = some (st, lg, tg) →
      (renderN s + 1 = st + 2 ^ lg → s.tpr.queued = none → ∃ t, exec .fadeEnd s = .next t ∧
        t.tpr = { s.tpr with fade := none, cur := tg } ∧ rdF t (TPR + 0x13) 7 0 = 4 ∧ SameBut s t [TPR + 0x13]) ∧
      (renderN s + 1 = st + 2 ^ lg → s.tpr.queued = some q → renderN s + 1 < q.at' → ∃ t, exec .fadeEnd s = .next t ∧
        t.tpr = { s.tpr with fade := none, cur := tg, queued := none, pend := some q } ∧ rdF t (TPR + 0x13) 7 0 = 1) ∧
      (renderN s + 1 ≠ st + 2 ^ lg → exec .fadeEnd s = .next s.begun))

/-- Argument words committed for a lane pair. From an authoritative unit in RUN, for a period at least 32 and at most 2^24 ahead with none
pending for the pair, a commit of words that all lie in argument blocks is PENDING with the values as they stand in the commit buffer; one
word outside any block makes it RANGE with that word's index. On a unit that is no STANDBY a cancel at least 32 periods ahead removes it.
At the launch of its period the words change in the Y memory of every lane that serves the pair, and the commit is APPLIED. Choices of
the model here: log entry 30 (where argument blocks start). (R205, R237, R262) -/
def Obligations.ArgumentCommitsChangeBothLanes : Prop :=

  ∀ (s : State) (m p first count P : Nat), s.memOk = true → m ≤ 1 → p < 36 → stagedOf s m = none →
    let b := LAN (2 * p)
    let bs := blocks (rd s) (firstLane s p)
    let shows (t : State) (code pend : Nat) := rdF t (b + 0x23) 7 0 = code ∧ rdF t (b + 0x23) 35 35 = pend
    (s.sys.state = .run → authoritative s = true → sparseFind s.lan.args p = none → atOf s (b + 0x20) = P → s.wav.n + 32 ≤ P →
      P ≤ s.wav.n + 2 ^ 24 → 1 ≤ count → first + count ≤ 1024 →
      ((∀ i, i < count → isArgument bs (0x1C00 + first + i) = true) → ∃ t, exec (.argumentCommit m p first count) s = .next t ∧
        t.lan = { s.lan with args := sparsePut s.lan.args p { at' := P, what := (first, rdList s (b + 0x400 + first) count) } } ∧
        shows t 1 1 ∧ SameBut s t [b + 0x23]) ∧
      (∀ i, i < count → isArgument bs (0x1C00 + first + i) = false → (∀ j, j < i → isArgument bs (0x1C00 + first + j) = true) →
        ∃ t, exec (.argumentCommit m p first count) s = .next t ∧ t.lan = s.lan ∧ shows t 5 0 ∧ rdF t (b + 0x23) 19 10 = first + i)) ∧
    (∀ x, sparseFind s.lan.args p = some x → s.sys.role ≠ .standby →
      (s.wav.n + 32 ≤ x.at' → ∃ t, exec (.argumentCommitCancel m p) s = .next t ∧
        t.lan = { s.lan with args := sparseDrop s.lan.args p } ∧ shows t 8 0) ∧
      (x.at' < s.wav.n + 32 → ∃ t, exec (.argumentCommitCancel m p) s = .next t ∧ t.lan = s.lan ∧ shows t 9 1)) ∧
    (∀ x, sparseFind s.lan.args p = some x → x.at' = renderN s + 1 → x.what.1 + x.what.2.length ≤ 1024 →
      (∀ l ∈ commitLanes s p, l < 72) → ∃ t, exec (.argumentCommitApply p) s = .next t ∧
        t.lan = { s.lan with args := sparseDrop s.lan.args p } ∧ shows t 2 0 ∧
        ∀ l ∈ commitLanes s p, ∀ k w, x.what.2[k]? = some w → rd t (yW l (0x1C00 + x.what.1 + k)) = w) ∧
    (∀ x, sparseFind s.lan.args p = some x → x.at' ≠ renderN s + 1 → exec (.argumentCommitApply p) s = .next s.begun)

/-- Every ALU-form lane operation with a data-register result, under its guard, by the table of R269. For every state, operands and run
whose bundle issues: under a guard that reads 1, MOV, ADD, SUB, ADDS, SUBS, AND, OR, XOR, NOT, NEG, ABS, MIN, MAX, SHL, SHR, SAR, SHLI,
SARI, ADDI and MOVG answer the next state in which D(DD) receives the table's result in the next step, with FSAT on saturation; under a
guard that reads 0 nothing is sent. CMPEQ, CMPLT, CMPLE and CMPLTU write P(P), and a write that names P0 is ignored. SETRRB, MASK and
UNMASK write RRB and IM. Choices of the model here: log entry 49 (when a lane command acts). (R239, R268, R269, R277) -/
def Obligations.LaneIntegerOperationsGiveTheirResults : Prop :=

  ∀ (s : State) (p dd ds g : Nat) (r : LaneRun),
    let res (w : Word) (fs : List Nat) := Host.Outcome.next (φ := Fault) (ρ := Refusal)
      (s.issuedAs p .g (if predOf r g then r.sendingG dd w fs else r))
    let sat (z : Int) := res (wdI (sat36 z)) (if sat36 z = z then [] else [2])
    let prd (b : Bool) := Host.Outcome.next (φ := Fault) (ρ := Refusal)
      (s.issuedAs p .g (if g = 0 then r else r.sending [(.pred g, b2n b, 1, 0)]))
    let ctl (l : List Landing) := Host.Outcome.next (φ := Fault) (ρ := Refusal)
      (s.issuedAs p .g (if predOf r g then r.sending l else r))
    (Issues s p .g (encAlu 0x01 dd ds g) r → exec (.laneMov p dd ds g) s = res (rdD r ds) []) ∧
    (Issues s p .g (encAlu 0x02 dd ds g) r → exec (.laneAdd p dd ds g) s = res (rdD r dd + rdD r ds) []) ∧
    (Issues s p .g (encAlu 0x03 dd ds g) r → exec (.laneSub p dd ds g) s = res (rdD r dd - rdD r ds) []) ∧
    (Issues s p .g (encAlu 0x04 dd ds g) r → exec (.laneAdds p dd ds g) s = sat (sD r dd + sD r ds)) ∧
    (Issues s p .g (encAlu 0x05 dd ds g) r → exec (.laneSubs p dd ds g) s = sat (sD r dd - sD r ds)) ∧
    (Issues s p .g (encAlu 0x06 dd ds g) r → exec (.laneAnd p dd ds g) s = res (rdD r dd &&& rdD r ds) []) ∧
    (Issues s p .g (encAlu 0x07 dd ds g) r → exec (.laneOr p dd ds g) s = res (rdD r dd ||| rdD r ds) []) ∧
    (Issues s p .g (encAlu 0x08 dd ds g) r → exec (.laneXor p dd ds g) s = res (rdD r dd ^^^ rdD r ds) []) ∧
    (Issues s p .g (encAlu 0x09 dd ds g) r → exec (.laneNot p dd ds g) s = res (~~~ rdD r ds) []) ∧
    (Issues s p .g (encAlu 0x0A dd ds g) r → exec (.laneNeg p dd ds g) s = res (- rdD r ds) []) ∧
    (Issues s p .g (encAlu 0x0B dd ds g) r → exec (.laneAbs p dd ds g) s = sat |sD r ds|) ∧
    (Issues s p .g (encAlu 0x0C dd ds g) r → exec (.laneMin p dd ds g) s = res (wdI (min (sD r dd) (sD r ds))) []) ∧
    (Issues s p .g (encAlu 0x0D dd ds g) r → exec (.laneMax p dd ds g) s = res (wdI (max (sD r dd) (sD r ds))) []) ∧
    (Issues s p .g (encAlu 0x0E dd ds g) r → exec (.laneShl p dd ds g) s = res (wd (uD r dd * 2 ^ (uD r ds % 64))) []) ∧
    (Issues s p .g (encAlu 0x0F dd ds g) r → exec (.laneShr p dd ds g) s = res (wd (uD r dd / 2 ^ (uD r ds % 64))) []) ∧
    (Issues s p .g (encAlu 0x10 dd ds g) r → exec (.laneSar p dd ds g) s = res ((rdD r dd).sshiftRight (uD r ds % 64)) []) ∧
    (Issues s p .g (encAlu 0x11 dd ds g) r → exec (.laneShli p dd ds g) s = res (wd (uD r dd * 2 ^ ds)) []) ∧
    (Issues s p .g (encAlu 0x12 dd ds g) r → exec (.laneSari p dd ds g) s = res ((rdD r dd).sshiftRight ds) []) ∧
    (Issues s p .g (encAlu 0x13 dd ds g) r → exec (.laneAddi p dd ds g) s =
      res (rdD r dd + ((BitVec.ofNat 5 ds).signExtend 36)) []) ∧
    (Issues s p .g (encAlu 0x14 dd ds g) r → r.fly.any (fun f => f.reg == .pred g && f.due == r.step + 1) = false →
      exec (.laneCmpeq p dd ds g) s = prd (rdD r dd = rdD r ds)) ∧
    (Issues s p .g (encAlu 0x15 dd ds g) r → r.fly.any (fun f => f.reg == .pred g && f.due == r.step + 1) = false →
      exec (.laneCmplt p dd ds g) s = prd (sD r dd < sD r ds)) ∧
    (Issues s p .g (encAlu 0x16 dd ds g) r → r.fly.any (fun f => f.reg == .pred g && f.due == r.step + 1) = false →
      exec (.laneCmple p dd ds g) s = prd (sD r dd ≤ sD r ds)) ∧
    (Issues s p .g (encAlu 0x17 dd ds g) r → r.fly.any (fun f => f.reg == .pred g && f.due == r.step + 1) = false →
      exec (.laneCmpltu p dd ds g) s = prd (uD r dd < uD r ds)) ∧
    (Issues s p .g (encAlu 0x19 dd ds g) r → exec (.laneMovg p dd ds g) s = res (wd (specialOf r ds)) []) ∧
    (Issues s p .g (encAlu 0x1A 0 ds g) r → exec (.laneSetrrb p ds g) s = ctl [(.rrb, uD r ds % 16, 2, 0)]) ∧
    (Issues s p .g (encAlu 0x1B 0 0 g) r → exec (.laneMask p g) s = ctl [(.im, 1, 1, 0)]) ∧
    (Issues s p .g (encAlu 0x1C 0 0 g) r → exec (.laneUnmask p g) s = ctl [(.im, 0, 1, 0)])

/-- MOVS and MOVG by the special register code. A MOVS whose guard reads 1 lands, two steps later, the bits of D(DS) that R270 gives
each code: 31:0 in Ak and Bk, 19:0 in Lk, 15:0 in AM, 23:0 in LC, 12:0 in LS and LE, 11 and 4 in IM and SAT with 7:5 in the sticky
flags, 7:1 in P7-P1. MOVG of each allowed code lands the register, zero-extended, in D(DD) in the next step, PRED with bit 0
reading 1. MOVS to 28 or 31 and MOVG of 31 are illegal. (R270) -/
def Obligations.LaneSpecialRegisterMovesByCode : Prop :=

  ∀ (s : State) (p dd ds g : Nat) (r : LaneRun), predOf r g = true →
    let v := uD r ds
    let movs (l : List Landing) := Issues s p .g (encAlu 0x18 dd ds g) r →
      exec (.laneMovs p dd ds g) s = .next (s.issuedAs p .g (r.sending l))
    let movg (n : Nat) := Issues s p .g (encAlu 0x19 dd ds g) r →
      exec (.laneMovg p dd ds g) s = .next (s.issuedAs p .g (r.sendingG dd (wd n) []))
    (dd < 8 → movs [(.a dd, v % 2 ^ 32, 2, 0)]) ∧
    (8 ≤ dd → dd < 16 → movs [(.b (dd - 8), v % 2 ^ 32, 2, 0)]) ∧
    (16 ≤ dd → dd < 24 → movs [(.l (dd - 16), v % 2 ^ 20, 2, 0)]) ∧
    (dd = 24 → movs [(.am, v % 2 ^ 16, 2, 0)]) ∧
    (dd = 25 → movs [(.lc, v % 2 ^ 24, 2, 1)]) ∧
    (dd = 26 → movs [(.ls, v % 2 ^ 13, 2, 1)]) ∧
    (dd = 27 → movs [(.le, v % 2 ^ 13, 2, 1)]) ∧
    (dd = 29 → movs [(.im, bits v 11 11, 2, 1), (.satm, bits v 4 4, 2, 1), (.sticky 0, bits v 5 5, 2, 0),
      (.sticky 1, bits v 6 6, 2, 0), (.sticky 2, bits v 7 7, 2, 0)]) ∧
    (dd = 30 → movs ((List.range 7).map (fun i => (.pred (i + 1), bits v (i + 1) (i + 1), 2, 1)))) ∧
    (ds < 8 → movg (aReg r ds)) ∧
    (8 ≤ ds → ds < 16 → movg (bReg r (ds - 8))) ∧
    (16 ≤ ds → ds < 24 → movg (lReg r (ds - 16))) ∧
    (ds = 24 → movg r.am) ∧ (ds = 25 → movg r.lc) ∧ (ds = 26 → movg r.ls) ∧ (ds = 27 → movg r.le) ∧ (ds = 28 → movg r.rrb) ∧
    (ds = 29 → movg (b2n r.im * 2 ^ 11 + r.sticky % 8 * 2 ^ 5 + b2n r.satm * 2 ^ 4)) ∧
    (ds = 30 → movg (r.preds % 256 / 2 * 2 + 1)) ∧
    (∀ b w, encAlu 0x18 28 ds g = some b → slotOf w .g = b → illegal r w = true) ∧
    (∀ b w, encAlu 0x18 31 ds g = some b → slotOf w .g = b → illegal r w = true) ∧
    (∀ b w, encAlu 0x19 dd 31 g = some b → slotOf w .g = b → illegal r w = true)

/-- LDI, branches, END, YIELD and NOP as they issue. LDI sends IMM, zero-extended, to D(DD). BR is taken when P(P) is 1, BRN when it is 0,
JR when it is 1 with D(n) bits 12:0 as target; each opens two delay slots, taken or not. END and YIELD under a guard that reads 1 open two
delay slots and end or return the item; under a guard that reads 0 they do nothing. A NOP of any slot sends nothing. The statement of what
the delay slots lead to is LaneBundlesFollowOneAnother. Choices of the model here: log entry 49 (when a lane command acts). (R268, R271, R281,
R284) -/
def Obligations.LaneBranchesAndEndsTakeEffectAtIssue : Prop :=

  ∀ (s : State) (p dd g imm target n : Nat) (agree : Bool) (k : LSlot) (r : LaneRun),
    let go (to' : Option Nat) := Host.Outcome.next (φ := Fault) (ρ := Refusal) (s.issuedAs p .g { r with delay := 3, target := to' })
    (Issues s p .g (encLdi dd imm) r → exec (.laneLdi p dd imm) s = .next (s.issuedAs p .g (r.sendingG dd (wd imm) []))) ∧
    (Issues s p .g (encBranch 0 g target) r →
      exec (.laneBr p g target) s = go (if predOf r g then some target else none)) ∧
    (Issues s p .g (encBranch 1 g target) r →
      exec (.laneBrn p g target) s = go (if predOf r g then none else some target)) ∧
    (Issues s p .g (encBranch 2 g n) r →
      exec (.laneJr p g n) s = go (if predOf r g then some (uD r n % 2 ^ 13) else none)) ∧
    (Issues s p .g (encAlu 0x1D 0 0 g) r → exec (.laneEnd p g agree) s = .next (s.issuedAs p .g
      (if predOf r g then { r with ending := some false, delay := 3, target := none, agree := r.agree && agree } else r))) ∧
    (Issues s p .g (encAlu 0x1E 0 0 g) r → exec (.laneYield p g agree) s = .next (s.issuedAs p .g
      (if predOf r g then { r with ending := some true, delay := 3, target := none, agree := r.agree && agree } else r))) ∧
    (Issues s p k (some 0) r → exec (.laneNop p k 0) s = .next (s.issuedAs p k r))

/-- The four loop instructions and the loop-back. A loop instruction at address t, to whose registers nothing else lands in the next
step, sends LC the count (COUNT + 1, or D(n) bits 23:0), LS t + 1 and LE (t + END) mod 8192; a count of 0 makes LE + 1 the next
bundle; RLOOP and RLOOPR mark the loop as rotating. LOOP_BACK with a loop-back due sends LC - 1, rotates RRB where the loop instruction
in front of LS, or else the latest one, rotates (that it is the latest for a loop that MOVS set up is the model's choice: log entry 51),
and makes LS the next bundle; with none due it does nothing. (R281, R282, R283) -/
def Obligations.LaneLoopsSetTheirRegisters : Prop :=

  ∀ (s : State) (p last count n : Nat) (r : LaneRun),
    let free := r.fly.any (fun f => (f.reg == .lc || f.reg == .ls || f.reg == .le) && f.due == r.step + 1) = false
    let looped (rot : Bool) (cnt : Nat) := Host.Outcome.next (φ := Fault) (ρ := Refusal) (s.issuedAs p .g
      ({ r with rotates := some rot, skip := if cnt = 0 then some ((r.pc + last) % 8192 + 1) else none }.sending
        [(.lc, cnt, 1, 0), (.ls, (r.pc + 1) % 8192, 1, 0), (.le, (r.pc + last) % 8192, 1, 0)]))
    (Issues s p .g (encLoop 0 last count) r → free → exec (.laneLoop p last count) s = looped false (count + 1)) ∧
    (Issues s p .g (encLoop 1 last n) r → free → exec (.laneLoopr p last n) s = looped false (uD r n % 2 ^ 24)) ∧
    (Issues s p .g (encLoop 2 last count) r → free → exec (.laneRloop p last count) s = looped true (count + 1)) ∧
    (Issues s p .g (encLoop 3 last n) r → free → exec (.laneRloopr p last n) s = looped true (uD r n % 2 ^ 24)) ∧
    (runOf s p = some r → r.loopDue = true → ∀ b, loopRotates s p r = some b →
      exec (.laneLoopBack p) s = .next (s.begun.withRun p
        (nextBundle (r.sending ((.lc, r.lc - 1, 1, 0) :: if b then [(.rotate, 0, 1, 1)] else [])) r.ls))) ∧
    (runOf s p = some r → r.loopDue = false → exec (.laneLoopBack p) s = .next s.begun)

/-- Which bundle issues next once all four slots have issued. For a run whose four slots have issued, no END or YIELD completing in
this bundle: at LE with LC above 1 (and no branch target due) a loop-back is due at this same bundle; otherwise the next bundle is
the target of a taken branch once its two delay slots have issued, the bundle after LE for a loop instruction with count 0, else
the next address modulo 8192; one step passes, and one delay slot fewer remains. No word of memory changes. (R271, R281, R284) -/
def Obligations.LaneBundlesFollowOneAnother : Prop :=

  ∀ (s : State) (c : Nat) (r : LaneRun), runOf s c = some r → r.issued = 15 → ¬ (r.delay = 1 ∧ r.ending.isSome = true) →
    ¬ (r.pc = r.le ∧ r.lc = 1) → ¬ (r.delay = 1 ∧ r.target.isSome = true ∧ r.pc = r.le ∧ 1 < r.lc) →
    ∃ q, runOf (s.after (close c)) c = some q ∧ (s.after (close c)).mem = s.mem ∧
      (r.pc = r.le ∧ 1 < r.lc → q.loopDue = true ∧ q.pc = r.pc ∧ q.step = r.step) ∧
      (¬ (r.pc = r.le ∧ 1 < r.lc) → q.loopDue = false ∧ q.issued = 0 ∧ q.step = r.step + 1 ∧ q.delay = r.delay - 1 ∧
        q.pc = (if r.delay = 1 then r.target.getD (r.skip.getD (r.pc + 1)) else r.skip.getD (r.pc + 1)) % 8192)

/-- Every operation of the M slot, by the table of R272. MAC, MAC4V, MAC4S, MAC4R and their W and S forms add the aligned products,
negated under NEG, into their accumulators in the mode of the suffix or of SR.SAT; MUL and MUL4R replace ACC(AC) by the product or the sum
of four; CLR clears it; LDA loads and ADDA, ADDAW, ADDAS add an aligned operand; RND stores a rounded value and ACCGET a part into D(RA),
two steps later; ACCPUT replaces a part. GOV and SOV are sent as accAdds says (see AccumulatorsWrapOrSaturate). Choices of the model here: log
entry 49 (when a lane command acts). (R31, R240, R272, R273, R274) -/
def Obligations.LaneMultiplyAccumulates : Prop :=

  ∀ (s : State) (p ra rb ac aln sh part : Nat) (neg : Bool) (r : LaneRun),
    let sign : Int := if neg then -1 else 1
    let prod (i j : Nat) : Int := sign * (sD r i * sD r j * 2 ^ (if aln = 1 then 1 else if aln = 2 then 3 else 0))
    let opnd : Int := sign * (sD r ra * 2 ^ (if aln = 0 then 0 else if aln = 3 then 34 else 30 + aln))
    let mode (sfx : Nat) : Bool := if sfx = 0 then r.satm else sfx == 2
    let add (sfx i : Nat) (ts : List Int) : Nat × Flagged Int := (i, accAdds (mode sfx) (accNow r i) ts)
    let put (z : Int) : Nat × Flagged Int := (ac, { val := z, gov := false, sov := false, fsat := false })
    let accs (vs : List (Nat × Flagged Int)) := Host.Outcome.next (φ := Fault) (ρ := Refusal) (s.issuedAs p .m (r.withAccs vs))
    let mac (c : Nat → Nat → Nat → Nat → Nat → Bool → Instr) (op sfx : Nat) := Issues s p .m (encM op ra rb ac aln neg) r →
      exec (c p ra rb ac aln neg) s = accs [add sfx ac [prod ra rb]]
    let mac4v (c : Nat → Nat → Nat → Nat → Bool → Instr) (op sfx : Nat) := Issues s p .m (encM op ra rb 0 aln neg) r →
      exec (c p ra rb aln neg) s = accs ((List.range 4).map (fun i => add sfx i [prod (ra + i) (rb + i)]))
    let mac4s (c : Nat → Nat → Nat → Nat → Bool → Instr) (op sfx : Nat) := Issues s p .m (encM op ra rb 0 aln neg) r →
      exec (c p ra rb aln neg) s = accs ((List.range 4).map (fun i => add sfx i [prod ra (rb + i)]))
    let mac4r (c : Nat → Nat → Nat → Nat → Nat → Bool → Instr) (op sfx : Nat) := Issues s p .m (encM op ra rb ac aln neg) r →
      exec (c p ra rb ac aln neg) s = accs [add sfx ac [prod ra rb, prod (ra + 1) (rb + 1), prod (ra + 2) (rb + 2), prod (ra + 3) (rb + 3)]]
    let adda (c : Nat → Nat → Nat → Nat → Bool → Instr) (op sfx : Nat) := Issues s p .m (encM op ra 0 ac aln neg) r →
      exec (c p ra ac aln neg) s = accs [add sfx ac [opnd]]
    mac .laneMac 1 0 ∧ mac .laneMacw 2 1 ∧ mac .laneMacs 3 2 ∧
    mac4v .laneMac4v 4 0 ∧ mac4v .laneMac4vw 5 1 ∧ mac4v .laneMac4vs 6 2 ∧
    mac4s .laneMac4s 7 0 ∧ mac4s .laneMac4sw 8 1 ∧ mac4s .laneMac4ss 9 2 ∧
    mac4r .laneMac4r 10 0 ∧ mac4r .laneMac4rw 11 1 ∧ mac4r .laneMac4rs 12 2 ∧
    (Issues s p .m (encM 13 ra rb ac aln neg) r → exec (.laneMul p ra rb ac aln neg) s = accs [put (prod ra rb)]) ∧
    (Issues s p .m (encM 14 ra rb ac aln neg) r → exec (.laneMul4r p ra rb ac aln neg) s =
      accs [put (prod ra rb + prod (ra + 1) (rb + 1) + prod (ra + 2) (rb + 2) + prod (ra + 3) (rb + 3))]) ∧
    (Issues s p .m (encM 15 0 0 ac 0 false) r → exec (.laneClr p ac) s = accs [put 0]) ∧
    (Issues s p .m (encM 16 ra 0 ac aln neg) r → exec (.laneLda p ra ac aln neg) s = accs [put opnd]) ∧
    adda .laneAdda 17 0 ∧ adda .laneAddaw 18 1 ∧ adda .laneAddas 19 2 ∧
    (Issues s p .m (encM 20 ra sh ac 0 false) r → exec (.laneRnd p ra sh ac) s =
      let z := roundEven (accLate r ac) (if sh = 0 then 34 else sh)
      .next (s.issuedAs p .m (r.sending ((.d (phys r ra), (wdI (sat36 z)).toNat, 2, 1) :: if sat36 z = z then [] else [(.sticky 2, 1, 4, 1)])))) ∧
    (Issues s p .m (encM 21 ra part ac 0 false) r → exec (.laneAccget p ra part ac) s =
      .next (s.issuedAs p .m (r.sending [(.d (phys r ra), (wd (accPart (accLate r ac) part)).toNat, 2, 1)]))) ∧
    (Issues s p .m (encM 22 ra part ac 0 false) r → exec (.laneAccput p ra part ac) s =
      accs [put (accWithPart (accLate r ac) part (uD r ra))])

/-- Additions into an accumulator wrap with GOV or clamp with SOV. In WRAP mode the accumulator after any list of additions is the
exact sum modulo 2^80, in two's complement, so a sum in range is exact and the order of the terms does not matter; each further
addition sets GOV, which is sticky, exactly when its true result leaves the 80-bit range, and SOV never. In SAT mode each addition
gives the nearer extreme from the value clamped so far, with SOV exactly when it clamps, and GOV never; the result always stays in
range. (R34) -/
def Obligations.AccumulatorsWrapOrSaturate : Prop :=

  (∀ (z : Int) (ts : List Int), -(2 ^ 79) ≤ z → z < 2 ^ 79 → (accAdds false z ts).val = Int.bmod (z + ts.sum) (2 ^ 80) ∧ (accAdds false z ts).sov = false) ∧
  (∀ (z : Int) (ts : List Int), -(2 ^ 79) ≤ z → z < 2 ^ 79 → -(2 ^ 79) ≤ z + ts.sum → z + ts.sum < 2 ^ 79 → (accAdds false z ts).val = z + ts.sum) ∧
  (∀ (z : Int) (ts us : List Int), -(2 ^ 79) ≤ z → z < 2 ^ 79 → ts.Perm us → (accAdds false z ts).val = (accAdds false z us).val) ∧
  (∀ (z t : Int) (ts : List Int), (accAdds false z (ts ++ [t])).gov = true ↔ (accAdds false z ts).gov = true ∨
    ¬ (-(2 ^ 79) ≤ (accAdds false z ts).val + t ∧ (accAdds false z ts).val + t ≤ 2 ^ 79 - 1)) ∧
  (∀ (z t : Int) (ts : List Int), (accAdds true z (ts ++ [t])).val = max (-(2 ^ 79)) (min (2 ^ 79 - 1) ((accAdds true z ts).val + t)) ∧
    ((accAdds true z (ts ++ [t])).sov = true ↔ (accAdds true z ts).sov = true ∨
      (accAdds true z (ts ++ [t])).val ≠ (accAdds true z ts).val + t)) ∧
  (∀ (z t : Int) (ts : List Int), (accAdds true z (t :: ts)).gov = false ∧ -(2 ^ 79) ≤ (accAdds true z (t :: ts)).val ∧
    (accAdds true z (t :: ts)).val ≤ 2 ^ 79 - 1)

/-- LD, LDR, ST, STR and AMOD of an item within its footprint; XLD, XST and the arrival of a load's data. Within the footprint and window
of the item, a load sends the word at A(a), or the item's own buffered store to it, to D(D), visible after three steps; a store of a
period item goes into its commit buffer of fewer than 512 stores, a store of a background item into both lanes' memories; each then
post-modifies A(a) by the signed immediate or by D(n), visible in the next step, to the value of R244 or, where R245 calls it
unpredictable, to some value. A corrected single-bit error on a load is counted in ECC_CORR, in the first lane where the command tells of
it, in its own lane where the memory held it. A background item's XLD whose address its pair's windows allow leaves the load outstanding,
and an XST stores D(D) at an address below DRAM that its pair may write; both post-modify A(a). When the data of an outstanding load from
shared SRAM arrives and the item has not ended, the load is no longer outstanding and the word is on its way to the register named at
issue, to be there in the next step; where the run waited for it, those steps have passed and the register holds it. Choices of the model
here: log entry 49 (when a lane command acts). (R237, R242, R244, R245, R257, R258, R261, R266, R275, R276, R277, R279, R286) -/
def Obligations.LaneLoadsAndStoresReachTheirMemories : Prop :=

  (∀ (s : State) (p : Nat) (y : Bool) (d a n : Nat) (r : LaneRun) (m : Int),
     let k : LSlot := if y then .y else .x
     let rank : Nat := if y then 2 else 1
     let w := aReg r a % 8192
     let o := (if y then 0x10000 else 0) + w
     let lane := (ctxLanes s p).1
     let hit := r.buf.find? (fun e => e.1 == o)
     let data : Word := match hit with
       | some e => e.2
       | none => rd s (laneW lane o)
     let stepTo (t : State) (q : LaneRun) (l : List Landing) (i : Instr) :=
       ∃ v f, Modifies s r a m v f ∧ exec i s = .next ((t.drawn f).issuedAs p k (q.sending (l ++ [(.a a, v, 1, rank)])))
     let load (i : Instr) (corr : Bool) := accessCheck s p r y w false = none → (hit = none → badLane s p o = none) →
       stepTo (if hit.isSome then s else (if corr then s.after (bump (LAN lane + 2) 11 0 1) else s).after (eccRead (bothLanes s p o))) r
         [(.d (phys r d), data.toNat, 3, if y then 3 else 2)] i
     let store (i : Instr) := accessCheck s p r y w true = none →
       (r.cls = 2 → stepTo (s.after (putCtx p o (rdD r d))) r [] i) ∧
       (r.cls ≠ 2 → r.buf.length < 512 → stepTo s { r with buf := (o, rdD r d) :: r.buf } [] i)
     (m = signedN 5 n → Issues s p k (encXY 1 d a n) r → ∀ corr, load (.laneLd p y d a n corr) corr) ∧
     (m = signedN 32 (uD r n) → Issues s p k (encXY 3 d a n) r → ∀ corr, load (.laneLdr p y d a n corr) corr) ∧
     (m = signedN 5 n → Issues s p k (encXY 2 d a n) r → store (.laneSt p y d a n true)) ∧
     (m = signedN 32 (uD r n) → Issues s p k (encXY 4 d a n) r → store (.laneStr p y d a n true)) ∧
     (m = signedN 5 n → Issues s p k (encXY 5 0 a n) r → stepTo s r [] (.laneAmod p y a n))) ∧
  (∀ (s : State) (p d a n fault waited : Nat) (r : LaneRun),
     (r.cls = 2 → xbarOk (rd s) p (aReg r a) false = true → Issues s p .x (encXY 6 d a n) r →
       ∃ v f, Modifies s r a (signedN 5 n) v f ∧ exec (.laneXld p d a n true) s = .next ((s.drawn f).issuedAs p .x
         ({ r with xld := some (phys r d, aReg r a) }.sending [(.a a, v, 1, 1)]))) ∧
     (r.cls = 2 → xbarOk (rd s) p (aReg r a) true = true → Issues s p .x (encXY 7 d a n) r →
       aReg r a < 0x40000000 → writeStatus s (0x10 + 2 * p) (aReg r a) = 0 →
       ∃ v f, Modifies s r a (signedN 5 n) v f ∧ exec (.laneXst p d a n true) s = .next
         (((s.after (poke (aReg r a) (rdD r d))).drawn f).issuedAs p .x (r.sending [(.a a, v, 1, 1)]))) ∧
     (∀ k x, runOf s p = some r → r.xld = some (k, x) → readStatus s (0x10 + 2 * p) x = 0 → x < 0x40000000 →
       s.bad.contains x = false → s.soft.contains x = false → ended r = false →
       ∃ q, exec (.laneXldArrival p fault waited) s = .next (s.begun.withRun p q) ∧ q.xld = none ∧
         (heldByXld s p r = false → q = { r with xld := none }.sending [(.d k, (rd s x).toNat, 1, 2)]) ∧
         (heldByXld s p r = true → sparseWf (fun _ => 0) r.d = true → (∀ f ∈ r.fly, f.reg ≠ .d k) →
           sparseGet (fun _ => 0) q.d k = rd s x ∧ q.step = r.step + max 1 waited)) ∧
     (runOf s p = some r → r.xld = none → exec (.laneXldArrival p fault waited) s = .next s.begun))

/-- The frame of every lane instruction that stores nothing. For every lane instruction of the G and M slots, and AMOD, when it issues and
the bundle has a slot still to issue: the next state differs from the state before in nothing but that context's run (and the count of
free values and the cleared outputs): every word of memory, every other run, every other block is as before. Choices of the model here: log
entry 49 (when a lane command acts). (R238, R254, R266) -/
def Obligations.LaneInstructionsTouchOnlyTheirRun : Prop :=

  ∀ (s : State) (p dd ds g imm n ra rb ac aln : Nat) (neg agree y : Bool) (a m : Nat) (k : LSlot) (r : LaneRun),
    runOf s p = some r →
    ∀ e ∈ ([(.laneNop p k 0, k, some 0), (.laneMov p dd ds g, .g, encAlu 1 dd ds g), (.laneAdd p dd ds g, .g, encAlu 2 dd ds g),
      (.laneSub p dd ds g, .g, encAlu 3 dd ds g), (.laneAdds p dd ds g, .g, encAlu 4 dd ds g), (.laneSubs p dd ds g, .g, encAlu 5 dd ds g),
      (.laneAnd p dd ds g, .g, encAlu 6 dd ds g), (.laneOr p dd ds g, .g, encAlu 7 dd ds g), (.laneXor p dd ds g, .g, encAlu 8 dd ds g),
      (.laneNot p dd ds g, .g, encAlu 9 dd ds g), (.laneNeg p dd ds g, .g, encAlu 10 dd ds g), (.laneAbs p dd ds g, .g, encAlu 11 dd ds g),
      (.laneMin p dd ds g, .g, encAlu 12 dd ds g), (.laneMax p dd ds g, .g, encAlu 13 dd ds g), (.laneShl p dd ds g, .g, encAlu 14 dd ds g),
      (.laneShr p dd ds g, .g, encAlu 15 dd ds g), (.laneSar p dd ds g, .g, encAlu 16 dd ds g), (.laneShli p dd ds g, .g, encAlu 17 dd ds g),
      (.laneSari p dd ds g, .g, encAlu 18 dd ds g), (.laneAddi p dd ds g, .g, encAlu 19 dd ds g), (.laneCmpeq p dd ds g, .g, encAlu 20 dd ds g),
      (.laneCmplt p dd ds g, .g, encAlu 21 dd ds g), (.laneCmple p dd ds g, .g, encAlu 22 dd ds g), (.laneCmpltu p dd ds g, .g, encAlu 23 dd ds g),
      (.laneMovs p dd ds g, .g, encAlu 24 dd ds g), (.laneMovg p dd ds g, .g, encAlu 25 dd ds g), (.laneSetrrb p ds g, .g, encAlu 26 0 ds g),
      (.laneMask p g, .g, encAlu 27 0 0 g), (.laneUnmask p g, .g, encAlu 28 0 0 g), (.laneEnd p g agree, .g, encAlu 29 0 0 g),
      (.laneYield p g agree, .g, encAlu 30 0 0 g), (.laneLdi p dd imm, .g, encLdi dd imm), (.laneBr p g n, .g, encBranch 0 g n),
      (.laneBrn p g n, .g, encBranch 1 g n), (.laneJr p g n, .g, encBranch 2 g n), (.laneLoop p m n, .g, encLoop 0 m n),
      (.laneLoopr p m n, .g, encLoop 1 m n), (.laneRloop p m n, .g, encLoop 2 m n), (.laneRloopr p m n, .g, encLoop 3 m n),
      (.laneMac p ra rb ac aln neg, .m, encM 1 ra rb ac aln neg), (.laneMacw p ra rb ac aln neg, .m, encM 2 ra rb ac aln neg),
      (.laneMacs p ra rb ac aln neg, .m, encM 3 ra rb ac aln neg), (.laneMac4v p ra rb aln neg, .m, encM 4 ra rb 0 aln neg),
      (.laneMac4vw p ra rb aln neg, .m, encM 5 ra rb 0 aln neg), (.laneMac4vs p ra rb aln neg, .m, encM 6 ra rb 0 aln neg),
      (.laneMac4s p ra rb aln neg, .m, encM 7 ra rb 0 aln neg), (.laneMac4sw p ra rb aln neg, .m, encM 8 ra rb 0 aln neg),
      (.laneMac4ss p ra rb aln neg, .m, encM 9 ra rb 0 aln neg), (.laneMac4r p ra rb ac aln neg, .m, encM 10 ra rb ac aln neg),
      (.laneMac4rw p ra rb ac aln neg, .m, encM 11 ra rb ac aln neg), (.laneMac4rs p ra rb ac aln neg, .m, encM 12 ra rb ac aln neg),
      (.laneMul p ra rb ac aln neg, .m, encM 13 ra rb ac aln neg), (.laneMul4r p ra rb ac aln neg, .m, encM 14 ra rb ac aln neg),
      (.laneClr p ac, .m, encM 15 0 0 ac 0 false), (.laneLda p ra ac aln neg, .m, encM 16 ra 0 ac aln neg),
      (.laneAdda p ra ac aln neg, .m, encM 17 ra 0 ac aln neg), (.laneAddaw p ra ac aln neg, .m, encM 18 ra 0 ac aln neg),
      (.laneAddas p ra ac aln neg, .m, encM 19 ra 0 ac aln neg), (.laneRnd p ra rb ac, .m, encM 20 ra rb ac 0 false),
      (.laneAccget p ra rb ac, .m, encM 21 ra rb ac 0 false), (.laneAccput p ra rb ac, .m, encM 22 ra rb ac 0 false),
      (.laneAmod p y a m, if y then .y else .x, encXY 5 0 a m)] : List (Instr × LSlot × Option Nat)),
      Issues s p e.2.1 e.2.2 r → r.issued ||| 2 ^ e.2.1.bit ≠ 15 →
      ∃ t, exec e.1 s = .next t ∧ OnlyRunChanges s t p

/-- A result on its way appears in its register at the step it is due, and not before. One step of a run whose data registers are a
canonical table: a result for a data register due in that step, with no other result for that register due then, is what the
register holds afterwards; a register with no result due keeps its value; results not yet due stay on their way, and the canonical
table is kept. (R277, R279) -/
def Obligations.LaneResultsLandWhenDue : Prop :=

  ∀ (r : LaneRun) (n : Nat), sparseWf (fun _ => 0) r.d = true →
    (∀ f ∈ r.fly, f.reg = .d n → f.due ≤ r.step + 1 → f.rank < 4 → (∀ g ∈ r.fly, g.reg = .d n → g.due ≤ r.step + 1 → g = f) →
      sparseGet (fun _ => 0) (stepOn r).d n = wd f.val) ∧
    ((∀ f ∈ r.fly, f.reg = .d n → r.step + 1 < f.due) → sparseGet (fun _ => 0) (stepOn r).d n = sparseGet (fun _ => 0) r.d n) ∧
    (∀ f ∈ r.fly, r.step + 1 < f.due → f ∈ (stepOn r).fly) ∧
    sparseWf (fun _ => 0) (stepOn r).d = true ∧ (stepOn r).step = r.step + 1

/-- Items start on their pairs; a pre-emption request is taken; the watchdog of masked runs. With a wavefront in flight, an item of
the period list whose earlier stages are done and whose pair is idle starts on its home pair with the dispatch values; one whose
turn has not come does not. In the slack, when no graph node waits for the pair, BACKGROUND_ITEM_START starts the pair's next
background item, frees the delay-list slots it kept and makes it RUNNING; with no slack nothing starts. PREEMPTION_POINT raises
the request of every running background item and of no other. A request that is due on a home pair, with no crossbar load
outstanding, the lanes agreeing and a Y range to hold the link word, stores the link word with the present bundle's address in
every lane that serves the pair, masks further requests and goes on at CODE_START. With no Y range, or lanes that disagree, the
run ends. A masked run about to exceed 2,048 bundles is stopped by the Bellows watchdog and its item is READY again, counted;
another run is left alone. (R241, R285, R286, R287, R290, R294, R296, R297, R302) -/
def Obligations.ItemsStartWhenTheirTurnComes : Prop :=

  (∀ (s : State) (i p : Nat) (f : Flight), s.memOk = true →
     (s.wav.flight = some f → mayDispatch s i = true → ∃ t, exec (.itemDispatch i) s = .next t ∧
       runOf t (itemOf (rd s) i).pair = some (newRun (rd s) i f.n none) ∧ endOf t i = some .running ∧ t.mem = s.mem) ∧
     (mayDispatch s i = false → exec (.itemDispatch i) s = .next s.begun) ∧
     (slackOpen s p = true → nodeOn s p = none → nextBackground s p = some i →
       ∃ t, exec (.backgroundItemStart p) s = .next t ∧ runOf t p = some (newRun (rd s) i s.wav.n none) ∧ (bgOf t i).st = 2 ∧
         (∀ k ∈ (bgOf s i).slots, sparseFind t.bel.mark k = some 1) ∧ t.mem = s.mem) ∧
     (slackOpen s p = false → nodeOn s p = none → exec (.backgroundItemStart p) s = .next s.begun) ∧
     (∃ t, exec .preemptionPoint s = .next t ∧ t.bel = { s.bel with late := true } ∧ t.mem = s.mem ∧
       ∀ c r, runOf s c = some r → runOf t c = some (if r.cls = 2 then { r with request := true } else r))) ∧
  (∀ (s : State) (c : Nat) (r : LaneRun), s.memOk = true → c < 32 → runOf s c = some r →
     let b := runBlock s c r
     (entryDue r = true → r.xld = none → b.yLen ≠ 0 → ∃ t q, exec (.preemptionEntry c true) s = .next t ∧ runOf t c = some q ∧ q.im = true ∧
       q.request = false ∧ q.taken = true ∧ q.pc = b.code ∧
       (∀ l ∈ commitLanes s c, rd t (laneW l (0x10000 + b.y + b.yLen - 1)) = wd (2 ^ 35 + r.pc)) ∧
       SameBut s t ((commitLanes s c).map (fun l => laneW l (0x10000 + b.y + b.yLen - 1)))) ∧
     (entryDue r = true → r.xld = none → b.yLen = 0 → ∃ t, exec (.preemptionEntry c true) s = .next t ∧ t.lan.run = sparseDrop s.lan.run c) ∧
     (entryDue r = true → r.xld = none → ∃ t, exec (.preemptionEntry c false) s = .next t ∧
       ∀ e ∈ t.lan.run, e ∈ sparseDrop s.lan.run c) ∧
     (entryDue r = false → exec (.preemptionEntry c true) s = .next s.begun) ∧
     (maskLimit r = true → r.issued = 0 → ∃ t, exec (.bellowsWatchdog c) s = .next t ∧ t.lan = { s.lan with run := sparseDrop s.lan.run c } ∧ (bgOf t r.item).st = 1 ∧
       rdF t (BEL + 3) 23 12 = min 4095 (rdF s (BEL + 3) 23 12 + 1) ∧ SameBut s t [BEL + 3]) ∧
     (maskLimit r = false → exec (.bellowsWatchdog c) s = .next s.begun))

/-- The delay list: READY and DELAY_LIST_CANCEL. In RUN an authoritative unit accepts READY from Hearth or the host at its own port for a
valid DELAYED period item and a period 32 to 2^24 ahead that the list does not yet hold for it: the entry takes the next free slot, and
the status shows ACCEPTED with a ticket of slot and generation. A period too near is refused with TOO_LATE, too far TOO_FAR, an item that
is no DELAYED item with BAD_ITEM, a second entry for the same period DUPLICATE, outside RUN STATE; nothing joins the list. A cancel of a
live ticket at least 32 periods ahead frees the slot and marks it REMOVED; every other cancel only shows its code. A command written while
its port is BUSY is only counted in DISCARDS. Choices of the model here: log entry 79 (that a port is BUSY is an operand). (R299, R300, R301,
R302, R303, R305) -/
def Obligations.DelayListEntriesAreKeptAndCancelled : Prop :=

  ∀ (s : State) (m item k p ticket : Nat), s.memOk = true → m ≤ 1 → stagedOf s m = none →
    let a := BEL + 0x13 + 4 * m
    (s.sys.state = .run → (itemOf (rd s) item).valid = true → (itemOf (rd s) item).delayed = true → (itemOf (rd s) item).cls ≠ 2 →
      authoritative s = true → atOf s (BEL + 0x10 + 4 * m) = p →
      (s.wav.n + 32 ≤ p → p ≤ s.wav.n + 2 ^ 24 → s.bel.delay.any (fun e => e.2.item == item && e.2.at' == p) = false → nextSlot s false = some k →
        ∃ t, exec (.ready m ⟨m, false⟩ item) s = .next t ∧ t.bel.delay = sparsePut s.bel.delay k { item := item, at' := p } ∧ rdF t a 27 20 = 1 ∧
          rdF t a 19 0 = k * 256 + (sparseGet (fun _ => 0) s.bel.gen k + 1) % 256 ∧ SameBut s t [a]) ∧
      (0 < p → p < s.wav.n + 32 → ∃ t, exec (.ready m ⟨m, false⟩ item) s = .next t ∧ t.bel = s.bel ∧ rdF t a 27 20 = 5) ∧
      (s.wav.n + 2 ^ 24 < p → ∃ t, exec (.ready m ⟨m, false⟩ item) s = .next t ∧ t.bel = s.bel ∧ rdF t a 27 20 = 6) ∧
      (s.wav.n + 32 ≤ p → p ≤ s.wav.n + 2 ^ 24 → s.bel.delay.any (fun e => e.2.item == item && e.2.at' == p) = true →
        ∃ t, exec (.ready m ⟨m, false⟩ item) s = .next t ∧ t.bel = s.bel ∧ rdF t a 27 20 = 9)) ∧
    (s.sys.state = .run → ((itemOf (rd s) item).valid && (itemOf (rd s) item).delayed) = false →
      ∃ t, exec (.ready m ⟨m, false⟩ item) s = .next t ∧ t.bel = s.bel ∧ rdF t a 27 20 = 8) ∧
    (s.sys.state ≠ .run → ∃ t, exec (.ready m ⟨m, false⟩ item) s = .next t ∧ t.bel = s.bel ∧ rdF t a 27 20 = 0x0B) ∧
    (ticket < 2 ^ 20 → cancelCode s ticket = 2 → ticket / 256 < 2048 → (sparseFind s.bel.delay (ticket / 256)).isSome = true →
      s.bel.bg.any (fun e => e.2.slots.contains (ticket / 256)) = false →
      ∃ t, exec (.delayListCancel m ⟨m, false⟩ ticket) s = .next t ∧ t.bel.delay = sparseDrop s.bel.delay (ticket / 256) ∧
        sparseFind t.bel.mark (ticket / 256) = some 2 ∧ rdF t a 27 20 = 2) ∧
    (ticket < 2 ^ 20 → cancelCode s ticket ≠ 2 → ∃ t, exec (.delayListCancel m ⟨m, false⟩ ticket) s = .next t ∧ t.bel = s.bel ∧
      rdF t a 27 20 = cancelCode s ticket) ∧
    (∃ t, exec (.ready m ⟨m, true⟩ item) s = .next t ∧ t.bel = s.bel ∧ rdF t a 34 28 = min 127 (rdF s a 34 28 + 1) ∧ SameBut s t [a]) ∧
    (∃ t, exec (.delayListCancel m ⟨m, true⟩ ticket) s = .next t ∧ t.bel = s.bel ∧ rdF t a 34 28 = min 127 (rdF s a 34 28 + 1) ∧
      SameBut s t [a])

/-- Cross-tests chunk by chunk, retirement, and the copy to a new lane. With the lane under test idle in the slack, outside an alignment,
a matched chunk other than the 128th goes on to the next; the last one of the first lane goes on with the second lane; the last one of the second with no lane at fault ends
the test with the pair's suspect bit cleared and TRANSIENT counted; one lane at fault is retired for ever and the pair is re-
formed with the tester in its place. LANE_COPY for such a pair in the slack makes every word of the new lane's three memories equal to
the surviving lane's and changes no other word. Without the slack neither a chunk nor the copy runs. (R19, R306, R307, R308, R309) -/
def Obligations.SuspectPairsAreTestedAndReformed : Prop :=

  ∀ (s : State) (t0 : CrossTest) (p a b : Nat), s.memOk = true →
    (s.bel.test = some t0 → (lanesRun s && testOpen s (testedLane t0)) = false → exec (.crossTestChunk true) s = .next s.begun) ∧
    (s.bel.test = some t0 → lanesRun s = true → testOpen s (testedLane t0) = true →
      (t0.chunk ≠ 127 → ∃ t, exec (.crossTestChunk true) s = .next t ∧ t.bel = { s.bel with test := some { t0 with chunk := t0.chunk + 1 } } ∧
        t.mem = s.mem) ∧
      (t0.chunk = 127 → t0.which = 0 → ∃ t y, exec (.crossTestChunk true) s = .next t ∧
        t.bel.test = some { t0 with which := 1, chunk := 0, tester := y } ∧ t.mem = s.mem) ∧
      (t0.chunk = 127 → t0.which = 1 → t0.bad = [] → t0.pair < 32 → ∃ t, exec (.crossTestChunk true) s = .next t ∧ t.bel.test = none ∧
        flag (rd t (BEL + 2)) t0.pair = false ∧ t.life.retired = s.life.retired ∧
        rdF t (BEL + 4) 23 12 = min 4095 (rdF s (BEL + 4) 23 12 + 1)) ∧
      (t0.chunk = 127 → t0.which = 1 → t0.bad = [(a, b)] → t0.pair < 32 → ∃ t, exec (.crossTestChunk true) s = .next t ∧
        t.bel.test = none ∧ t.life.retired = s.life.retired ||| 2 ^ a ∧ t.bel.rebuild = s.bel.rebuild ++
          [{ pair := t0.pair, lanes := replaceLane t0.lanes a b, new := [b], reload := false, copied := false }])) ∧
    (s.bel.rebuild = [{ pair := p, lanes := (a, b), new := [b], reload := false, copied := false }] → a ≠ b → a < 72 → b < 72 →
      ((lanesRun s && copyOpen s a b) = false → exec (.laneCopy p) s = .next s.begun) ∧
      (lanesRun s = true → copyOpen s a b = true → ∃ t, exec (.laneCopy p) s = .next t ∧ t.bel.rebuild = [{ pair := p, lanes := (a, b), new := [b], reload := false, copied := true }] ∧
        (∀ k o, k < 3 → o < (if k = 2 then 16384 else 8192) → rd t (laneMem b k + o) = rd s (laneMem a k + o)) ∧
        ∀ x, inLanePart b 0 x = false → inLanePart b 1 x = false → inLanePart b 2 x = false → rd t x = rd s x))

/-- Dataflow graphs: start, a node's end, and stop. GRAPH_START by Hearth with no graph running, for a graph of one node with
threshold 0: a NOTIFY without successors rings its doorbell bit and is DONE, and so is the graph; a TEST runs and so does the
graph. While a graph runs START only writes COUNT. A running TEST of that graph whose lanes have their slack passes where its signatures
agree and ends the graph DONE; where they do not it makes it FAILED with that node and is recorded against TARGET_A. STOP while a node runs is remembered. A master other than Hearth does neither.
(R312, R313) -/
def Obligations.GraphsRunTheirNodes : Prop :=

  ∀ (s : State) (m k count : Nat) (ok : Bool), s.memOk = true → stagedOf s 0 = none →
    let w := rd s (nodeA 0 0)
    (graphRuns s = false → flag w 35 = true → fld w 31 24 = 0 →
      (nodeKind s 0 = 3 → successors s 0 = [] → ∃ t, exec (.graphStart 0 1) s = .next t ∧ nodeState t 0 = 2 ∧ rdF t (BEL + 0x21) 35 32 = 2 ∧
        rdF t (BEL + 0x21) 10 0 = 1 ∧ flag (rd t (MBX + 0x406)) (rdF s (nodeA 0 3) 4 0) = true ∧ t.bel.nodes = []) ∧
      (nodeKind s 0 = 1 → ∃ t, exec (.graphStart 0 1) s = .next t ∧ nodeState t 0 = 1 ∧ rdF t (BEL + 0x21) 35 32 = 1 ∧ t.bel.nodes = [0])) ∧
    (graphRuns s = true → count < 2048 → ∃ t, exec (.graphStart 0 count) s = .next t ∧ t.bel = s.bel ∧ rdF t (BEL + 0x20) 10 0 = count ∧
      SameBut s t [BEL + 0x20]) ∧
    (graphRuns s = true → s.bel.nodes = [0] → nodeKind s 0 = 1 → graphNodes s = [0] → successors s 0 = [] →
      (s.sys.state = .run → testOpen s (nodeTarget s 0) = true ∧ testOpen s (nodeOther s 0) = true) →
      ∃ t, exec (.nodeComplete 0 ok) s = .next t ∧ nodeState t 0 = (if ok then 2 else 3) ∧ t.bel.nodes = [] ∧
        (ok = false → nodeTarget s 0 ∈ t.bel.faulty) ∧
        (s.bel.graphStop = false → rdF t (BEL + 0x21) 35 32 = (if ok then 2 else 3)) ∧ (ok = false → rdF t (BEL + 0x21) 25 16 = 0)) ∧
    (s.bel.nodes.contains k = false → exec (.nodeComplete k ok) s = .next s.begun) ∧
    (graphRuns s = true → s.bel.nodes ≠ [] → exec (.graphStop 0) s = .next { s.begun with bel := { s.bel with graphStop := true } }) ∧
    (graphRuns s = false → exec (.graphStop 0) s = .next s.begun) ∧
    (m ≠ 0 → stagedOf s m = none → (∃ t, exec (.graphStart m count) s = .next t ∧ t.bel = s.bel ∧ SameBut s t [XBR, XBR + 1, XBR + 2]) ∧
      ∃ t, exec (.graphStop m) s = .next t ∧ t.bel = s.bel ∧ SameBut s t [XBR, XBR + 1, XBR + 2])

/-- Rail, temperature, latent-test, pin and XO faults: latched, and SAFE from ARMED or RUN. A main rail out of range, a die above 145 C, a
failed latent test, the tenth mismatch in succession of a driven pin, and the loss of XO each set their latch in QCH_FAULT and leave the
other latches; from ARMED or RUN the device goes to SAFE by a fault, from RUN with the safe ramp at its start, from ARMED, or without XO,
at its end; in another state the state stays. A pin is held against what is driven, SAFE_L low with a feed in its quench ramp. A reading
inside the range, a temperature at or below 145 C, a matching pin and a passing test latch nothing. Choices of the model here: log entry 95
(how long a rail or a die stays out of range). (R66, R70, R317, R319, R331, R333, R336) -/
def Obligations.DeviceFaultsLatchAndMuteTheDevice : Prop :=

  ∀ (s : State) (i mv k : Nat) (q : Int) (a b : Bool), s.memOk = true →
    let latched (t : State) (bit ramp : Nat) := t.qch.fault = s.qch.fault ||| 2 ^ bit ∧
      (s.sys.state = .armed ∨ s.sys.state = .run → t.sys.state = .safe ∧ t.sys.prev = s.sys.state ∧ t.sys.safeFault = true ∧
        t.qch.rampSafe = some (if s.sys.state = .armed then 64 else ramp)) ∧
      (s.sys.state ≠ .armed → s.sys.state ≠ .run → t.sys.state = s.sys.state)
    let quiet (t : State) := t.qch.fault = s.qch.fault ∧ t.sys.state = s.sys.state ∧ t.mem = s.mem
    let mismatch := pinsReleased s = false ∧ (a ≠ safeLDrive s (anyQuenched s) ∨ b ≠ faultLDrive s)
    (outOfRange i mv = true → ∃ t, exec (.rail i mv) s = .next t ∧ latched t 3 0 ∧ i ∈ t.sys.railsOut) ∧
    (outOfRange i mv = false → ∃ t, exec (.rail i mv) s = .next t ∧ quiet t ∧ t.sys.railsOut = s.sys.railsOut.erase i) ∧
    (580 < q → ∃ t, exec (.thermal q) s = .next t ∧ latched t 4 0 ∧ t.qch.condThermal = true) ∧
    (q ≤ 580 → ∃ t, exec (.thermal q) s = .next t ∧ quiet t ∧ t.qch.condThermal = false) ∧
    (∃ t, exec (.latentTest k false) s = .next t ∧ latched t 7 0 ∧ k ∈ t.qch.failedTests) ∧
    (∃ t, exec (.latentTest k true) s = .next t ∧ t.qch.fault = s.qch.fault ∧ t.sys = s.sys ∧ t.qch.failedTests = s.qch.failedTests.erase k) ∧
    (mismatch → s.qch.pinMiss = 9 → ∃ t, exec (.pinReadback a b) s = .next t ∧ latched t 6 0 ∧ t.qch.pinMiss = 10) ∧
    (mismatch → s.qch.pinMiss < 9 → ∃ t, exec (.pinReadback a b) s = .next t ∧ quiet t ∧ t.qch.pinMiss = s.qch.pinMiss + 1) ∧
    (¬ mismatch → ∃ t, exec (.pinReadback a b) s = .next t ∧ quiet t ∧ t.qch.pinMiss = 0) ∧
    (∃ t, exec .xoLoss s = .next t ∧ latched t 5 64 ∧ t.qch.xoStopped = true)

/-- Clearing QCH_FAULT and QCH_WARN bits, and the clearing of quench latches at a period. A write by Hearth or the host of one bit of
QCH_FAULT or of QCH_WARN clears that latch if it is set and its condition is absent; if its condition is present the latches stay and the
write is counted in CLEAR_REFUSED; if it is not set nothing happens. A write by another master changes no latch. From an authoritative
unit in RUN a clear for a period P at least 32 and at most 2^24 ahead with none pending is PENDING for the named feed or for all; on a
unit that is no STANDBY a cancel at least 32 periods ahead removes it. At the launch of P every named feed that is quenched has its cause
cleared and its clear ramp at the start; other feeds and every feed that is not quenched stay as they were. Choices of the model here: log
entry 95 (how long a rail or a die stays out of range). (R205, R319, R320, R325) -/
def Obligations.LatchesClearOnlyWithoutTheirCondition : Prop :=

  (∀ (s : State) (m b : Nat) (w : Word), s.memOk = true → stagedOf s m = none → fld w 31 0 = 2 ^ b →
     let refusedClear (t : State) := t.qch = s.qch ∧ SameBut s t [QCH + 4] ∧
       rdF t (QCH + 4) 23 12 = min 4095 (rdF s (QCH + 4) 23 12 + 1)
     (m ≤ 1 → b < 9 →
       (s.qch.fault.testBit b = true → faultPresent s b = false → ∃ t, exec (.latchClear m true w) s = .next t ∧
         t = { s.begun with qch := { s.qch with fault := s.qch.fault - 2 ^ b } }) ∧
       (s.qch.fault.testBit b = true → faultPresent s b = true → ∃ t, exec (.latchClear m true w) s = .next t ∧ refusedClear t) ∧
       (s.qch.fault.testBit b = false → exec (.latchClear m true w) s = .next s.begun)) ∧
     (m ≤ 1 → b < 4 →
       (s.qch.warn.testBit b = true → warnPresent s b = false → ∃ t, exec (.latchClear m false w) s = .next t ∧
         t = { s.begun with qch := { s.qch with warn := s.qch.warn - 2 ^ b } }) ∧
       (s.qch.warn.testBit b = true → warnPresent s b = true → ∃ t, exec (.latchClear m false w) s = .next t ∧ refusedClear t) ∧
       (s.qch.warn.testBit b = false → exec (.latchClear m false w) s = .next s.begun)) ∧
     (1 < m → ∀ f, ∃ t, exec (.latchClear m f w) s = .next t ∧ t.qch = s.qch ∧ SameBut s t [XBR, XBR + 1, XBR + 2])) ∧
  (∀ (s : State) (m p : Nat) (ctl : Word), s.memOk = true → m ≤ 2 → stagedOf s m = none →
     let shows (t : State) (code pend : Nat) := rdF t (QCH + 0x13) 7 0 = code ∧ rdF t (QCH + 0x13) 35 35 = pend
     (s.sys.state = .run → authoritative s = true → s.qch.clear = none → atOf s (QCH + 0x10) = p → s.wav.n + 32 ≤ p →
       p ≤ s.wav.n + 2 ^ 24 → ∃ t, exec (.quenchClear m ctl) s = .next t ∧
         t.qch = { s.qch with clear := some { at' := p, what := if flag ctl 33 then none else some (fld ctl 9 0) } } ∧
         shows t 1 1 ∧ SameBut s t [QCH + 0x13]) ∧
     (∀ x, s.qch.clear = some x → s.sys.role ≠ .standby →
       (s.wav.n + 32 ≤ x.at' → ∃ t, exec (.quenchClearCancel m) s = .next t ∧ t.qch = { s.qch with clear := none } ∧ shows t 8 0) ∧
       (x.at' < s.wav.n + 32 → ∃ t, exec (.quenchClearCancel m) s = .next t ∧ t.qch = s.qch ∧ shows t 9 1)) ∧
     (∀ x, s.qch.clear = some x → x.at' = renderN s + 1 → ∃ t, exec .quenchClearApply s = .next t ∧
       t.qch = { s.qch with clear := none } ∧ shows t 2 0 ∧ SameBut s t [QCH + 0x13] ∧
       (∀ k d, sparseFind s.feeds k = some d → sparseFind t.feeds k =
         some (if (x.what = none ∨ x.what = some k) ∧ d.cause ≠ 0 then { d with e := 0, cause := 0, ck := 0 } else d))) ∧
     (∀ x, s.qch.clear = some x → x.at' ≠ renderN s + 1 → exec .quenchClearApply s = .next s.begun))

/-- The scrubber's pass, the STATIC check, and an overdue cycle. A single error that the scrubber finds in a word of the region is written
back corrected, in a lane memory counted in the lane's ECC_CORR, unless a master wrote the word meanwhile; an uncorrectable one latches
the warning UNCORR and marks the word; a word outside the region is not looked at. In RUN a STATIC section that fails its check is
rewritten word for word from Hearth's copy, and SAFETY failing latches INTERNAL and leads to SAFE; with no section failing only the cycle
moves on; with Hearth down or outside RUN nothing happens. Sixty seconds without a complete cycle latch LATENT_OVERDUE and show an age of
at least 60. Choices of the model here: log entries 11 (what a word written twice contributes to a CRC), 81 (the time of AGE) and 82 (which
corrections are counted). (R319, R328, R329, R330, R332) -/
def Obligations.ScrubbingAndStaticChecksRepair : Prop :=

  ∀ (s : State) (g a k : Nat) (w : Word), s.memOk = true →
    let failing := (List.range 16).filter (fun x => s.img.static.testBit x && staticFails s x)
    (s.soft = [] → inRegion g a = true →
      (∃ t, exec (.scrubPass g [(a, some w, false)]) s = .next t ∧ rd t a = w ∧
        (∀ l, laneOfWord a = some l → rdF t (LAN l + 2) 11 0 = min 4095 (rdF s (LAN l + 2) 11 0 + 1)) ∧
        SameBut s t (a :: (QCH + 5) :: ((laneOfWord a).toList.map (fun l => LAN l + 2)))) ∧
      (∃ t, exec (.scrubPass g [(a, some w, true)]) s = .next t ∧ SameBut s t [QCH + 5]) ∧
      (∃ t, exec (.scrubPass g [(a, none, false)]) s = .next t ∧ a ∈ t.bad ∧ t.qch.warn.testBit 2 = true ∧
        ∀ x, x < SYS → rd t x = rd s x)) ∧
    (inRegion g a = false → exec (.scrubPass g [(a, some w, false)]) s = exec (.scrubPass g []) s) ∧
    (s.sys.state = .run → s.sys.hearthDown = false → failing = [k] → k ≠ secSafety → ((checked s k).map (·.1)).Nodup →
      (∀ e ∈ checked s k, inLaneMem e.1 = false ∧ e.1 ≠ MBX + 0x402 ∧ e.1 ≠ QCH + 5) → ∃ t, exec .staticCrcCheck s = .next t ∧
        ∀ e ∈ checked s k, rd t e.1 = e.2) ∧
    (s.sys.state = .run → s.sys.hearthDown = false → failing = [secSafety] → ∃ t, exec .staticCrcCheck s = .next t ∧
      t.sys.state = .safe ∧ t.qch.fault.testBit 1 = true) ∧
    (s.sys.state = .run → s.sys.hearthDown = false → failing = [] → ∃ t, exec .staticCrcCheck s = .next t ∧ SameBut s t [QCH + 5] ∧
      t.sys = s.sys ∧ (3 ∈ t.qch.cycleDone ∨ t.qch.cycleDone = [])) ∧
    (s.sys.state ≠ .run ∨ s.sys.hearthDown = true → exec .staticCrcCheck s = .next s.begun) ∧
    (∃ t, exec .latentOverdue s = .next t ∧ t.qch.warn.testBit 3 = true ∧ 60 ≤ rdF t (QCH + 5) 23 16 ∧ t.sys.state = s.sys.state)

/-- The pin filters: GP inputs, QUENCH_IN_L, EMERG_IN, stuck inputs and a new configuration. An input whose raw level changes and then
stands for k steps takes that level as its filtered level exactly when k - 1 reaches FILT_US. QUENCH_IN_L filtered low takes ARMED
or RUN to SAFE without a fault. A change of EMERG_IN's filtered level waits for the second control-tick boundary. With the
configuration pair of QUENCH_IN_L failing its fault is latched. An input held for STUCK_S seconds at an enabled level is stuck; a
write to PIN_GP_CFG_n stores the configuration. (R66, R130, R327, R333, R334, R335) -/
def Obligations.InputsAreFiltered : Prop :=

  ∀ (s : State) (n k sec : Nat) (v : Bool) (w : Word), s.memOk = true → 1 ≤ k →
    (n < 16 → filtOk (pinCfg s n) = true → (pinOf s n).raw ≠ v → ∃ t, exec (.gpFiltered n [(v, k)]) s = .next t ∧
      (pinOf t n).raw = v ∧ ((pinCfg s n).filt ≤ k - 1 → (pinOf t n).filt = v) ∧
      (k - 1 < (pinCfg s n).filt → (pinOf t n).filt = (pinOf s n).filt) ∧ (∀ j, j ≠ n → pinOf t j = pinOf s j) ∧ t.mem = s.mem) ∧
    ((pairVal s PIN).isSome = true → (pinOf s 16).raw = true → (pinCfg s 16).filt ≤ k - 1 → (s.sys.state = .armed ∨ s.sys.state = .run) →
      ∃ t, exec (.quenchInLFiltered [(false, k)]) s = .next t ∧ (pinOf t 16).filt = false ∧ t.sys.state = .safe ∧
        t.sys.safeFault = false ∧ t.qch.fault = s.qch.fault) ∧
    (pairVal s PIN = none → ∃ t, exec (.quenchInLFiltered [(v, k)]) s = .next t ∧ t.qch.fault.testBit 8 = true) ∧
    ((pairVal s (PIN + 2)).isSome = true → (pinOf s 17).raw ≠ v → (pinOf s 17).filt ≠ v → (pinCfg s 17).filt ≤ k - 1 →
      ∃ t, exec (.emergInFiltered [(v, k)]) s = .next t ∧ t.scene.annWait = s.scene.annWait ++ [(annBoundary s.wav.n, false, v)] ∧
        (pinOf t 17).filt = v) ∧
    (n < 18 → (n < 16 → filtOk (pinCfg s n) = true) → (pinOf s n).raw = (pinOf s n).filt → (pinCfg s n).stuckS ≠ 0 → (pinCfg s n).stuckS ≤ sec →
      (if (pinOf s n).filt then (pinCfg s n).stuckHi else (pinCfg s n).stuckLo) = true →
      ∃ t, exec (.pinStuck n sec) s = .next t ∧ (pinOf t n).stuck = true ∧ (pinOf t n).filt = (pinOf s n).filt) ∧
    (n < 16 → ∃ t, exec (.pinGpCfg n w) s = .next t ∧ rd t (PIN + 0x100 + n) = w ∧ SameBut s t [PIN + 0x100 + n])

/-- Heartbeats, presence, the loss of Tongs, its lanes, the role wire, and the network heartbeat. On a unit of a pair with a lane locked
and Tongs up a heartbeat that passes its checks becomes what is known of the partner, is kept with its hash for 64 periods, and sets the
period mismatch when it is more than two periods away or at another rate; one that fails its CRC, its LENGTH or its class is only counted.
A presence bitmap is kept for 64 periods. With Tongs down any frame that passes its checks brings Tongs up. Without a lane, or without a
partner configured, nothing arrives. The loss of Tongs, once four heartbeats in a row are missed, is counted and drops the partner's
hashes and every outstanding forward; an ALIGNED STANDBY whose partner HOLDS its wire becomes DETACHED; before that nothing is lost. A
lane's lock, the wire's state and TW_PRESENT_L show in TWN_STATUS. The wire's samples of a partner that drives HOLD show HOLDS, those of
one that drives FREE show FREE, and a wire that does not change is DEAD. Each millisecond raises the age of the partner's datagrams and
the counter of our own by one for each port. Choices of the model here: log entries 33 (COUNTER) and 61 (when Tongs comes up and is lost).
(R342, R343, R344, R345, R346, R347, R349, R350, R362, R364) -/
def Obligations.HeartbeatsAndPathsTellOfThePartner : Prop :=

  (∀ (s : State) (b : Beat) (find : FrameFind) (n k : Nat) (l : List Nat) (v low : Bool), s.memOk = true →
    (isTwin s = true → laneLocked s = true →
      (tongsUp s = true → (∃ t, exec (.heartbeat b .good) s = .next t ∧ t.twn.partner = some b ∧
          (s.wav.n < b.period + 64 → b ∈ t.twn.beats) ∧
          t.twn.mismatch = (s.wav.n + 2 < b.period || b.period + 2 < s.wav.n || b.rate != s.sys.rate)) ∧
        (∃ t, exec (.presence n ⟨.good, l⟩) s = .next t ∧ (s.wav.n < n + 64 → (n, l) ∈ t.twn.ppres) ∧ t = { s.begun with twn := t.twn })) ∧
      (tongsUp s = false → ∃ t, exec (.presence n ⟨.good, l⟩) s = .next t ∧ tongsUp t = true ∧ t.twn.upAt = s.wav.n) ∧
      (find ≠ .good → (∃ t, exec (.heartbeat b find) s = .next t ∧ t.twn = s.twn ∧ SameBut s t [TWN + 8] ∧
          rdF t (TWN + 8) 35 24 = min 4095 (rdF s (TWN + 8) 35 24 + 1)) ∧
        ∃ t, exec (.presence n ⟨find, l⟩) s = .next t ∧ t.twn = s.twn ∧ SameBut s t [TWN + 8] ∧
          rdF t (TWN + 8) 35 24 = min 4095 (rdF s (TWN + 8) 35 24 + 1))) ∧
    (isTwin s = false ∨ laneLocked s = false →
      exec (.heartbeat b find) s = .next s.begun ∧ exec (.presence n ⟨find, l⟩) s = .next s.begun) ∧
    (tongsUp s = false → exec .tongsLoss s = .next s.begun) ∧
    (counting s = true → beatsMissed s s.wav.n = false → exec .tongsLoss s = .next s.begun) ∧
    (tongsUp s = true → (counting s = false ∨ beatsMissed s s.wav.n = true) → ∃ t, exec .tongsLoss s = .next t ∧ tongsUp t = false ∧
      t.twn.beats = [] ∧ t.twn.fwdOut = [] ∧ rdF t (TWN + 7) 35 24 = min 4095 (rdF s (TWN + 7) 35 24 + 1) ∧
      (s.sys.role = .standby → align s = 5 → s.twn.wire = 1 → s.sys.state = .run → t.sys.role = .detached)) ∧
    (k < 2 → (v = true ∨ flag (rd s TWN) (27 - k) = true) → ∃ t, exec (.tongsLaneLock k v) s = .next t ∧
      flag (rd t TWN) (26 + k) = v ∧ t.twn = s.twn ∧ SameBut s t [TWN]) ∧
    (∀ w, w = wireShows ((low :: s.twn.wireSeen).take 200) → tongsUp s = false → s.sys.role ≠ .active →
      ((s.sys.role ≠ .standby ∨ align s ≠ 5 ∨ w ≠ 1) → ∃ t, exec (.roleWireChange [low]) s = .next t ∧
        t.twn = { s.twn with wire := w, wireSeen := (low :: s.twn.wireSeen).take 200 } ∧
        flag (rd t TWN) 24 = decide (w ≠ 2) ∧ flag (rd t TWN) 23 = decide (w = 1) ∧ t.sys = s.sys ∧ SameBut s t [TWN, MBX + 0x40A]) ∧
      (s.sys.role = .standby → align s = 5 → s.sys.state = .run → w = 1 → ∃ t, exec (.roleWireChange [low]) s = .next t ∧
        t.twn.wire = 1 ∧ t.sys.role = .detached)) ∧
    (∃ t, exec (.twPresentL v) s = .next t ∧ flag (rd t TWN) 4 = v ∧ SameBut s t [TWN] ∧ t.twn = s.twn) ∧
    (isTwin s = true → counting s = true → ∃ t, exec .twinHeartbeatSend s = .next t ∧ t.twn.netAge = min 3 (s.twn.netAge + 1) ∧
      ((keyZero s).isSome = true → s.sec.twinOwn + 2 ≤ t.sec.twinOwn))) ∧
  (∀ s : State, pinsReleased s = false → (s.sys.role = .active → rolePattern s = .hold) ∧
    (s.sys.role ≠ .active → rolePattern s = .free)) ∧
  (∀ ph, let seen (p : RolePattern) : List Bool := (List.range 200).map (fun i => p.drive (ph + 199 - i) == .low)
    wireShows (seen .hold) = 1 ∧ wireShows (seen .free) = 0 ∧ wireShows (seen .none) = 2)

/-- Forwarded changes: applied in sequence, acknowledged, sent again, given up; MEND packets from the partner. On a STANDBY with Tongs up
the forward next in sequence takes effect (a route commit becomes pending) and is acknowledged with its number; one beyond the next is
held, changes nothing, and the gap is remembered; one that fails its CRC is only counted. FWD_ACK ends every forward up to its number.
Each outstanding forward is sent again and counted. A forward outstanding for 16 periods sets FWD_FAIL; a gap that stays 16 periods makes
a STANDBY forget the sequence. A MEND with Tongs up that matches a receive entry in force adds its packet, unless recorded, to that
stream's record with its samples; one that matches none is counted and dropped. Without a lane nothing arrives. Choices of the model here: log
entries 22 (how items are packed) and 61 (when Tongs is up). (R345, R353, R354, R355, R356, R391, R394) -/
def Obligations.ForwardsAreAppliedInOrder : Prop :=

  ∀ (s : State) (q n p : Nat) (es : List StageEntry) (it : FwdItem) (f : FwdOut) (find : FrameFind), s.memOk = true →
    (isTwin s = true → laneLocked s = true →
      (tongsUp s = true →
        (s.sys.role = .standby → s.twn.fwdHeld = [] → s.twn.fwdNext = some q → q < 2 ^ 32 - 1 →
          ∃ t, exec (.forward q (.routeCommit p es) .good) s = .next t ∧
            t.cru = { s.cru with pend := some { at' := p, what := es } } ∧ rdF t (CRU + 0x13) 7 0 = 1 ∧ t.twn.fwdNext = some (q + 1) ∧
            t.twn.fwdHeld = [] ∧ t.out = [.tongs 3 (sparseGet (fun _ => 0) s.twn.classSeq 3) false (toBytes 4 q)]) ∧
        (s.sys.role = .standby → s.twn.fwdHeld = [] → s.twn.fwdNext = some n → n < q → q < n + 2 ^ 31 → q < 2 ^ 32 →
          ∃ t, exec (.forward q it .good) s = .next t ∧ t.cru = s.cru ∧ t.mem = s.mem ∧ t.twn.fwdNext = some n ∧
            t.twn.fwdHeld = [(q, it)] ∧ t.twn.fwdGap = some (s.twn.fwdGap.getD s.wav.n)) ∧
        (∃ t, exec (.fwdAck ⟨.good, q⟩) s = .next t ∧ t.twn.fwdOut = s.twn.fwdOut.filter (fun x => seqBefore q x.seq))) ∧
      (find ≠ .good → (∃ t, exec (.forward q it find) s = .next t ∧ t.twn = s.twn ∧ SameBut s t [TWN + 8] ∧
          rdF t (TWN + 8) 35 24 = min 4095 (rdF s (TWN + 8) 35 24 + 1)) ∧
        ∃ t, exec (.fwdAck ⟨find, q⟩) s = .next t ∧ t.twn = s.twn ∧ SameBut s t [TWN + 8])) ∧
    (isTwin s = false ∨ laneLocked s = false → exec (.forward q it find) s = .next s.begun ∧ exec (.fwdAck ⟨find, q⟩) s = .next s.begun) ∧
    (tongsUp s = false → exec .forwardResend s = .next s.begun) ∧
    (tongsUp s = true → s.twn.fwdOut = [f] → ∃ t, exec .forwardResend s = .next t ∧ t.out ≠ [] ∧ t.twn.fwdOut = [f] ∧
      SameBut s t [TWN + 8] ∧ rdF t (TWN + 8) 23 12 = min 4095 (rdF s (TWN + 8) 23 12 + 1)) ∧
    (s.twn.fwdFail = false → f ∈ s.twn.fwdOut → f.accept + 16 ≤ s.wav.n → ∃ t, exec .fwdFail s = .next t ∧ t.twn.fwdFail = true ∧
      t.twn.fwdOut.map (·.seq) = s.twn.fwdOut.map (·.seq)) ∧
    ((∀ x ∈ s.twn.fwdOut, s.wav.n < x.accept + 16) → exec .fwdFail s = .next s.begun) ∧
    (s.twn.fwdGap = some p → s.sys.role = .standby → p + 16 ≤ s.wav.n → ∃ t, exec .fwdGapTimeout s = .next t ∧ t.twn.fwdGap = none ∧
      t.twn.fwdHeld = [] ∧ t.twn.fwdNext = none) ∧
    (s.twn.fwdGap = none → exec .fwdGapTimeout s = .next s.begun) ∧
    (∀ (first ch width per k : Nat) (b : List Nat), isTwin s = true → laneLocked s = true → tongsUp s = true →
      let fits (e : Nat) : Bool := let w := rxE (streamRd s) e 0
        entryValid w && fld (rxE (streamRd s) e 1) 10 0 == first && entryChans w == ch && 8 * entryBytes w == width &&
        entryS s w == k && b.length == k * ch * (width / 8) && k != 0
      ((∀ e, e < 128 → fits e = false) → ∃ t, exec (.mend first ch width per k ⟨.good, b⟩) s = .next t ∧ t.stm = s.stm ∧
        rdF t (TWN + 8) 11 0 = min 4095 (rdF s (TWN + 8) 11 0 + 1) ∧ SameBut s t [TWN + 8]) ∧
      (∀ e, (List.range 128).find? fits = some e → (∀ x ∈ record s e k, x.1 ≠ per) →
        ∃ t, exec (.mend first ch width per k ⟨.good, b⟩) s = .next t ∧
          t.stm.recs = sparseSet (fun _ => []) s.stm.recs e (record s e k ++ [(per, none)]) ∧ t.out = [] ∧
          (ch = 1 → latest s < per → per + k ≤ latest s + 512 → ∀ i, i < k →
            rd t (netAddr first (per + i)) = wdI (intToF36 width (beAt b (i * (width / 8)) (width / 8))).toInt ∧
            sparseGet (fun _ => false) t.wav.netPresent (netAddr first (per + i)) = true)))

/-- The steps of an alignment on both units. An ACTIVE unit in RUN with no correction pending and no period mismatch answers ALIGN_REQ
with P, the least multiple of 16 at or after C + 64, and a new number. A STANDBY that asked takes P and the number; its snapshot's words
are staged in order; SNAP_DONE with the wrong word count or digest fails with code SNAPSHOT_CHECK, one that this package cannot read with
VERSION, one whose history has another length with SNAPSHOT_CHECK, and a good one goes on to CATCHUP. An abort ends an alignment with the
code it carries; on the ACTIVE it ends the serving. Sixteen equal hashes in CONFIRMING make the STANDBY ALIGNED, fewer do nothing. The
frozen state and its history are streamed once; a history overwritten or unreadable ends the serving instead. A retry with AUTO_ALIGN asks
again. Choices of the model here: log entries 32, 45, 86 and 87 (the words of a snapshot, CONFIRM, the packages, the history). (R357, R358,
R359, R360, R361, R434) -/
def Obligations.AlignmentRunsThroughItsSteps : Prop :=

  ∀ (s : State) (p id o words digest code : Nat) (ws : List Word) (pid pat : Nat) (fr : SnapPart) (plan : List (Nat × Nat)) (b : Beat),
    s.memOk = true →
    (tongsUp s = true → s.sys.role = .active → s.sys.state = .run → s.clk.corr = none → s.twn.mismatch = false →
      ∃ t, exec .alignReq s = .next t ∧ t.twn.serve = some ((s.twn.snapId + 1) % 2 ^ 32, (s.wav.n + 79) / 16 * 16) ∧
        t.twn.fwdOut = [] ∧ t.twn.frozen = none) ∧
    ((tongsUp s = false ∨ s.sys.role ≠ .active ∨ s.clk.corr.isSome = true ∨ s.twn.mismatch = true) → exec .alignReq s = .next s.begun) ∧
    (isTwin s = true → laneLocked s = true → tongsUp s = true →
      (s.sys.role = .standby → align s = 1 → exec (.alignAt p ⟨.good, id⟩) s = .next { s.begun with
        twn := { s.twn with snapId := id, alignP := p, snapWords := [], inbuf := [] } }) ∧
      (align s = 2 → (id = s.twn.snapId → o = s.twn.snapWords.length →
          exec (.snapshot id o ⟨.good, ws⟩) s = .next { s.begun with twn := { s.twn with snapWords := s.twn.snapWords ++ ws } }) ∧
        (id ≠ s.twn.snapId → exec (.snapshot id o ⟨.good, ws⟩) s = .next s.begun ∧
          exec (.snapDone id words ⟨.good, digest⟩) s = .next s.begun) ∧
        (id = s.twn.snapId → words ≠ s.twn.snapWords.length ∨ digest ≠ Config.sha384 (packWords s.twn.snapWords) →
          ∃ t, exec (.snapDone id words ⟨.good, digest⟩) s = .next t ∧ align t = 0 ∧
          rdF t TWN 3 0 = 5 ∧ t.twn.snapWords = [] ∧ t.twn.ownSnap = none) ∧
        (id = s.twn.snapId → words = s.twn.snapWords.length → digest = Config.sha384 (packWords s.twn.snapWords) →
          (snapDecode s.twn.snapWords = none → ∃ t, exec (.snapDone id words ⟨.good, digest⟩) s = .next t ∧ align t = 0 ∧
            rdF t TWN 3 0 = 2 ∧ t.twn.snapWords = []) ∧
          (∀ used s', snapDecode s.twn.snapWords = some (fr, used) →
            s' = s.begun.after (seq [onTwn fun s t => { t with ownSnap := some (snapOf s), snapWords := [] }, applySnap fr.fromPartner]) →
            (splitHistory (historyPlan s' s.twn.alignP) (s.twn.snapWords.drop used) = none →
              ∃ t, exec (.snapDone id words ⟨.good, digest⟩) s = .next t ∧ align t = 0 ∧ rdF t TWN 3 0 = 5 ∧ t.twn.snapWords = []) ∧
            (∀ hs, splitHistory (historyPlan s' s.twn.alignP) (s.twn.snapWords.drop used) = some hs →
              ∃ t, exec (.snapDone id words ⟨.good, digest⟩) s = .next t ∧ align t = 3 ∧ t.twn.snapWords = [] ∧
                t.wav.caught = s.twn.alignP - 1 ∧ t.scene.boundary = 0)))) ∧
      (id = s.twn.snapId → (s.sys.role = .standby → 1 ≤ align s → align s ≤ 4 → ∃ t, exec (.alignAbort id ⟨.good, code⟩) s = .next t ∧
          align t = 0 ∧ rdF t TWN 3 0 = code % 16) ∧
        (s.sys.role = .active → exec (.alignAbort id ⟨.good, code⟩) s = .next { s.begun with
          twn := { s.twn with serve := none, frozen := none } }))) ∧
    (s.sys.role = .standby → (16 ≤ s.twn.confirm → align s = 4 → ∃ t, exec .aligned s = .next t ∧ align t = 5 ∧
        t.twn.sendFrom = s.wav.n ∧ t.twn.ownSnap = none ∧ flag (rd t TWN) 30 = false) ∧
      (s.twn.confirm < 16 → exec .aligned s = .next s.begun)) ∧
    (s.sys.role = .active → tongsUp s = true → exec .aligned s = .next { s.begun with twn := { s.twn with serve := none, frozen := none } }) ∧
    (s.twn.serve = some (pid, pat) → s.twn.frozen = some (fr, plan) → tongsUp s = true → ∃ t, exec .snapshotStreamed s = .next t ∧
      t.twn.frozen = none ∧ t.out ≠ [] ∧ t.mem = s.mem ∧
      t.twn.serve = (if historyOverwritten s pat plan = false ∧ (plan.flatMap (fun e => historyOf s pat e.1 e.2)).all (·.isSome) = true
        then s.twn.serve else none)) ∧
    (s.twn.frozen = none → exec .snapshotStreamed s = .next s.begun) ∧
    (flag (rd s (TWN + 1)) 35 = true → align s = 0 → s.sys.role = .standby → s.sys.state = .run → tongsUp s = true → s.twn.noRetry = false →
      s.twn.partner = some b → b.role = 1 → b.digest = digest8 s → samePackage s = true → s.twn.mismatch = false →
      ∃ t, exec .alignRetry s = .next t ∧ align t = 1 ∧ t.twn.reqAt = s.wav.n ∧ t.out ≠ [] ∧ SameBut s t [TWN, MBX + 0x40A]) ∧
    (flag (rd s (TWN + 1)) 35 = false → exec .alignRetry s = .next s.begun)

/-- Promotion, handover, the decision of roles, and TWN_CMD. A unit that may promote itself becomes ACTIVE, unaligned, counted; another
does nothing. HANDOVER by Hearth or the host on the ACTIVE in RUN, for a multiple of 16 at least 32 ahead with the partner ALIGNED, is
PENDING; at the launch of P the ACTIVE becomes an ALIGNED STANDBY and the STANDBY ACTIVE. In ARMED an undecided unit of a pair becomes
STANDBY where its partner HOLDS its wire, arbitrates with a partner in ARMED, and becomes ACTIVE with no partner fitted or at the end of
the wait; two units in ARMED reach RUN together only with equal digests and packages. REALIGN and ABORT_ALIGN are for a STANDBY: an
alignment in progress ends with code HOST. Choices of the model here: log entries 46, 47 and 86 (who won the last arbitration, the order of
two failures, the packages). (R341, R361, R362, R363, R367) -/
def Obligations.RolesArePromotedHandedOverAndDecided : Prop :=

  ∀ (s : State) (m p : Nat) (b : Beat), s.memOk = true →
    (promotes s = true → ∃ t, exec .promotion s = .next t ∧ t.sys.role = .active ∧ align t = 0 ∧ t.twn.fwdOut = []) ∧
    (promotes s = false → exec .promotion s = .next s.begun) ∧
    (m ≤ 1 → stagedOf s m = none →
      (s.sys.role = .active → s.sys.state = .run → tongsUp s = true → s.twn.partner = some b → b.aligned = true → b.role = 2 →
        rdPair s (TWN + 2) = p → p % 16 = 0 → s.wav.n + 32 ≤ p → ∃ t, exec (.handover m) s = .next t ∧ t.twn.handover = some p ∧
          rdF t (TWN + 5) 7 0 = 1 ∧ SameBut s t [TWN + 5]) ∧
      (s.sys.role ≠ .active → ∃ t, exec (.handover m) s = .next t ∧ t.twn = s.twn ∧ rdF t (TWN + 5) 7 0 = 3) ∧
      (s.sys.role = .standby → 1 ≤ align s → align s ≤ 4 → ∃ t, exec (.abortAlign m) s = .next t ∧ align t = 0 ∧ rdF t TWN 3 0 = 0xC ∧
        t.twn.noRetry = true ∧ rdF t (TWN + 5) 7 0 = 2) ∧
      (s.sys.role = .standby → tongsUp s = false → ∃ t, exec (.realign m) s = .next t ∧ align t = 0 ∧ t.twn.noRetry = false ∧
        rdF t (TWN + 5) 7 0 = 2) ∧
      (s.sys.role ≠ .standby → (∃ t, exec (.abortAlign m) s = .next t ∧ t.twn = s.twn ∧ rdF t (TWN + 5) 7 0 = 3) ∧
        ∃ t, exec (.realign m) s = .next t ∧ t.twn = s.twn ∧ rdF t (TWN + 5) 7 0 = 3)) ∧
    (s.twn.handover = some p → p = s.wav.n + 1 →
      (s.sys.role = .active → ∃ t, exec .handoverApply s = .next t ∧ t.sys.role = .standby ∧ align t = 5 ∧ t.twn.handover = none ∧
        rdF t (TWN + 5) 7 0 = 2) ∧
      (s.sys.role = .standby → ∃ t, exec .handoverApply s = .next t ∧ t.sys.role = .active ∧ align t = 0 ∧ t.twn.handover = none)) ∧
    (s.twn.handover = some p → p ≠ s.wav.n + 1 → exec .handoverApply s = .next s.begun) ∧
    (isTwin s = true → s.sys.state = .armed → s.twn.decided = none →
      (tongsUp s = false → s.twn.wire = 1 → ∃ t, exec .roleDecision s = .next t ∧ t.twn.decided = some .standby) ∧
      (tongsUp s = false → s.twn.wire ≠ 1 → flag (rd s TWN) 4 = false → ∃ t, exec .roleDecision s = .next t ∧ t.twn.decided = some .active) ∧
      (tongsUp s = false → s.twn.wire ≠ 1 → flag (rd s TWN) 4 = true → ∃ t, exec .roleDecision s = .next t ∧ t.twn = s.twn ∧ t.sys = s.sys) ∧
      (tongsUp s = true → s.twn.partner = some b → b.role ≠ 1 → b.state = 5 → ∃ t, exec .roleDecision s = .next t ∧
        t.twn.decided = some (if winsOver s b.priority b.serial then .active else .standby) ∧
        t.twn.together = (b.digest == digest8 s && samePackage s)) ∧
      (∃ t, exec .joinWaitTimeout s = .next t ∧ t.twn.decided = some .active)) ∧
    (isTwin s = false → exec .roleDecision s = .next s.begun ∧ exec .joinWaitTimeout s = .next s.begun)

/-- The media ports: link up and down, the transmit pick, staging, PAUSE running out, IGMP reports. A port whose link conditions hold
comes up with its event; one that goes down shows it, its event and its count, and the other port stays. With no pause and no ring
in use the pick sends the oldest frame of the highest queue that holds one, padded to 60 bytes, and counts it. The oldest staged
frame passes to queue 6 when it fits. PAUSE_EXPIRY leaves no pause time. A membership report joins queue 3 of an enabled port with
receive groups; while Hearth restarts or the ports are off none is sent. (R369, R371, R382, R383, R384, R385, R392, R402) -/
def Obligations.PortsComeUpSendAndGoDown : Prop :=

  ∀ (s : State) (x q status sec ns frac quanta : Nat) (p : MacPort) (f : TxFrame) (rest : List TxFrame) (b fr : List Nat)
    (staged : List (List Nat)) (change : Bool), s.memOk = true → x < 2 →
    (portUp s x = false → portIsland s = true → status % 32 = 16 ∨ status % 32 = 20 → (flag (rd s (MAC x + 1)) 2 = true → status % 32 = 20) →
      ∃ t, exec (.linkUp x status) s = .next t ∧ portUp t x = true ∧ portUp t (1 - x) = portUp s (1 - x) ∧
        rdF t (MAC x) 9 5 = status % 32 ∧ flag (rd t (MAC x + 2)) 0 = true ∧ SameBut s t [MAC x, MAC x + 2, STM]) ∧
    (portUp s x = true → exec (.linkUp x status) s = .next s.begun) ∧
    (portUp s x = true → (∀ k, k ∈ [4, 5, 7] → ∀ y ∈ txq s x k, y.ring = none) →
      ∃ t, exec (.linkDown x status) s = .next t ∧ portUp t x = false ∧ portUp t (1 - x) = portUp s (1 - x) ∧
        flag (rd t (MAC x + 2)) 1 = true ∧ rd t (MAC x + 0x416) = wd (((rd s (MAC x + 0x416)).toNat + 1) % 2 ^ 36)) ∧
    (txOn s x = true → rdF s (MAC x + 9) 31 16 = 0 → q < 8 → txq s x q = f :: rest → (∀ k, q < k → k < 8 → txq s x k = []) →
      f.ring = none → f.body = .raw b → (∀ k, k < 5 → flag (rd s (txr x k + 5)) 35 = false) →
      ∃ t, exec (.transmitPick x true sec ns frac quanta) s = .next t ∧ t.out = [.net x q (b ++ List.replicate (60 - b.length) 0)] ∧
        rd t (MAC x + 0x418) = wd (((rd s (MAC x + 0x418)).toNat + 1) % 2 ^ 36) ∧
        rd t (MAC x + 0x424 + q) = wd (((rd s (MAC x + 0x424 + q)).toNat + 1) % 2 ^ 36)) ∧
    (txOn s x = false → exec (.transmitPick x true sec ns frac quanta) s = .next s.begun) ∧
    (s.macs = [(x, p)] → p.staging = fr :: staged →
      ((txq s x 6).map (txLen (rd s) x)).foldl (· + ·) 0 + txLen (rd s) x { body := .raw fr, ring := none, descs := [], ts := false } ≤ 16384 →
      ∃ t, exec (.stagingToQueue x) s = .next t ∧ (macOf t x).staging = staged ∧
        txq t x 6 = txq s x 6 ++ [{ body := .raw fr, ring := none, descs := [], ts := false }] ∧ t.mem = s.mem) ∧
    (macOf s x = MacPort.init → exec (.stagingToQueue x) s = .next s.begun) ∧
    (∃ t, exec (.pauseExpiry x) s = .next t ∧ rdF t (MAC x + 9) 31 16 = 0) ∧
    (s.sys.hearthDown = false → portsOn s = true → netParam s 0x209 3 = 1 → igmpFrame (rd s) 0 change = some b →
      ∃ t, exec (.igmpReport change) s = .next t ∧ txq t 0 3 = txq s 0 3 ++ [{ body := .raw b, ring := none, descs := [], ts := false }] ∧
        t.mem = s.mem) ∧
    (s.sys.hearthDown = true ∨ portsOn s = false → exec (.igmpReport change) s = .next s.begun)

/-- FRAME_RECEIVED: each failed check is counted in its own counter, a PAUSE frame sets the timer, ARP goes to ring 1. On a port that
receives, with no pause time left and nothing waiting for its rings: a frame with a PCS error, a bad FCS, under 64 bytes, over
9,216 bytes or for another address is counted in the one counter of that check; a PAUSE frame sets the timer and is counted; an
untagged ARP frame for this port is counted as good and waits for ring 1 when that is enabled but exhausted. With RS-FEC the symbols that
it corrected are counted too. A port that does not receive does nothing. (R371, R375, R385, R386) -/
def Obligations.ReceivedFramesAreCheckedInOrder : Prop :=

  ∀ (s : State) (x sec ns frac quanta n : Nat) (b : List Nat) (fcs : Bool), s.memOk = true → x < 2 →
    let quiet (inFrame : Bool) : PcsFinds := { inFrame := inFrame, blocks := 0, corrected := 0, uncorrected := 0 }
    let counted (inFrame fcs : Bool) (off : Nat) := ∃ t, exec (.frameReceived x (quiet inFrame) fcs b sec ns frac quanta) s = .next t ∧
      rd t (MAC x + off) = wd (((rd s (MAC x + off)).toNat + 1) % 2 ^ 36) ∧ t.macs = s.macs ∧
      SameBut s t [MAC x + off, MAC x + 9, MAC x + 0x480, MBX + 0x402]
    (∀ pcs, rxOn s x = false → exec (.frameReceived x pcs fcs b sec ns frac quanta) s = .next s.begun) ∧
    (rxOn s x = true → rdF s (MAC x + 9) 31 16 = 0 →
      counted true fcs 0x413 ∧ counted false false 0x401 ∧
      (flag (rd s (MAC x + 1)) 2 = true → n ≠ 0 → ∃ t,
        exec (.frameReceived x { quiet true with corrected := n } fcs b sec ns frac quanta) s = .next t ∧
        rd t (MAC x + 0x414) = wd (((rd s (MAC x + 0x414)).toNat + n) % 2 ^ 36) ∧
        rd t (MAC x + 0x413) = wd (((rd s (MAC x + 0x413)).toNat + 1) % 2 ^ 36)) ∧
      (b.length < 60 → counted false true 0x402) ∧ (9212 < b.length → counted false true 0x403) ∧
      (60 ≤ b.length → b.length ≤ 9212 →
        (beAt b 12 2 = 0x8808 → beAt b 14 2 = 1 → beAt b 0 6 = 0x0180C2000001 →
          ∃ t, exec (.frameReceived x (quiet false) true b sec ns frac quanta) s = .next t ∧
            rdF t (MAC x + 9) 31 16 = beAt b 16 2 % 2 ^ 16 ∧ t.macs = s.macs) ∧
        (beAt b 12 2 ≠ 0x8808 → etherOk (streamRd s) x (beAt b 0 6) = false → counted false true 0x404) ∧
        (beAt b 12 2 = 0x0806 → etherOk (streamRd s) x (beAt b 0 6) = true → macVlan (streamRd s) x = false → s.macs = [] →
          flag (rd s (rxr x 1 + 5)) 35 = true → rdF s (rxr x 1 + 4) 9 0 = rdF s (rxr x 1 + 3) 9 0 →
          ∃ t, exec (.frameReceived x (quiet false) true b sec ns frac quanta) s = .next t ∧ (rxq t x 1).map (·.bytes) = [b] ∧
            rd t (MAC x + 0x400) = wd (((rd s (MAC x + 0x400)).toNat + 1) % 2 ^ 36))))

/-- Ring tails, disabling a ring, and the port's address. Hearth's write of TXR_TAIL shows; on an enabled ring it fetches a whole
frame given in one buffer into the ring's queue. Its write of RXR_TAIL shows; a waiting frame that fits the buffer so given is
written there, its descriptor returned with the length and the head advanced. Disabling a ring clears EN and returns HEAD to TAIL.
A master other than Hearth changes no ring. A master that may write the port's configuration has HI held and both words committed
by LO. (R374, R378, R379, R381, R383, R384) -/
def Obligations.RingsAndTheAddressAreWrittenByHearth : Prop :=

  ∀ (s : State) (m x r k d : Nat) (w g : Word) (f : RxFrame) (p : MacPort), s.memOk = true → x < 2 → k < 9 → stagedOf s 0 = none →
    let ringOf (k : Nat) := if k < 4 then rxr x k else txr x (k - 4)
    (r < 4 → s.macs = [] → ∃ t, exec (.rxrTail 0 x r w) s = .next t ∧ rdF t (rxr x r + 3) 9 0 = fld w 9 0 ∧ t.macs = s.macs ∧ SameBut s t [rxr x r + 3]) ∧
    (r < 4 → s.macs = [(x, p)] → p.rings = [(r, [f])] → f.put = 0 → 1 ≤ f.bytes.length → f.bytes.length ≤ rdF s (rxr x r + 2) 31 0 →
      flag (rd s (rxr x r + 5)) 35 = true → rdF s (rxr x r + 4) 9 0 ≠ fld w 9 0 → d = rdF s (rxr x r) 31 0 + 8 * rdF s (rxr x r + 4) 9 0 →
      ringArea d 8 = true → flag (seenWord s d) 35 = true → ringArea (fld (seenWord s d) 31 0) ((rdF s (rxr x r + 2) 31 0 + 3) / 4) = true →
      ∃ t, exec (.rxrTail 0 x r w) s = .next t ∧ flag (rd t d) 35 = false ∧ rd t (d + 2) = wd f.bytes.length ∧
        rdF t (rxr x r + 4) 9 0 = (rdF s (rxr x r + 4) 9 0 + 1) % max 1 (rdF s (rxr x r + 1) 31 0) % 1024 ∧ rxq t x r = []) ∧
    (r < 5 → flag (rd s (txr x r + 5)) 35 = false → ∃ t, exec (.txrTail 0 x r w) s = .next t ∧ rdF t (txr x r + 3) 9 0 = fld w 9 0 ∧
      t.macs = s.macs ∧ SameBut s t [txr x r + 3]) ∧
    (r < 4 → s.macs = [] → flag (rd s (txr x r + 5)) 35 = true → rdF s (txr x r + 1) 31 0 = 2 → rdF s (txr x r + 4) 9 0 = 0 → fld w 9 0 = 1 →
      d = rdF s (txr x r) 31 0 → ringArea d 8 = true → flag (seenWord s d) 35 = true → flag (seenWord s d) 33 = true → flag (seenWord s d) 32 = false →
      1 ≤ fld (seenWord s d) 13 0 → fld (seenWord s d) 13 0 ≤ 9212 →
      ringArea (fld (seenWord s (d + 1)) 31 0) ((fld (seenWord s d) 13 0 + 3) / 4) = true →
      ∃ t, exec (.txrTail 0 x r w) s = .next t ∧ txq t x r =
        [{ body := .raw (withTag (rd s) x r (bufBytes (seenWord s) (fld (seenWord s (d + 1)) 31 0) (fld (seenWord s d) 13 0))), ring := some r,
           descs := [d], ts := false }]) ∧
    (∃ t, exec (.ringDisable 0 x k) s = .next t ∧ flag (rd t (ringOf k + 5)) 35 = false ∧
      rdF t (ringOf k + 4) 9 0 = rdF s (ringOf k + 3) 9 0 ∧ SameBut s t [ringOf k + 4, ringOf k + 5]) ∧
    (m ≠ 0 → stagedOf s m = none → (∃ t, exec (.rxrTail m x r w) s = .next t ∧ t.macs = s.macs ∧ SameBut s t [XBR, XBR + 1, XBR + 2]) ∧
      (∃ t, exec (.txrTail m x r w) s = .next t ∧ t.macs = s.macs ∧ SameBut s t [XBR, XBR + 1, XBR + 2]) ∧
      ∃ t, exec (.ringDisable m x k) s = .next t ∧ t.macs = s.macs ∧ SameBut s t [XBR, XBR + 1, XBR + 2]) ∧
    (macWriter s m = true → stagedOf s m = none →
      (∃ t, exec (.macAddrHi m x w) s = .next t ∧ stagedOf t m = some { addr := MAC x + 4, word := w &&& wd 0xFFFF } ∧ t.mem = s.mem) ∧
      ∃ t, exec (.macAddrLo m x w) s = .next t ∧ rd t (MAC x + 5) = w &&& wd 0xFFFFFFFF ∧ SameBut s t [MAC x + 5]) ∧
    (macWriter s m = true → stagedOf s m = some { addr := MAC x + 4, word := g } → ∃ t, exec (.macAddrLo m x w) s = .next t ∧
      rd t (MAC x + 4) = g ∧ rd t (MAC x + 5) = w &&& wd 0xFFFFFFFF ∧ t.xbr.staged = sparseDrop s.xbr.staged m ∧
      SameBut s t [MAC x + 4, MAC x + 5])

/-- PTP: Announce, Sync and Follow_Up, the path-delay exchange, the grandmaster lost. On a port where PTP is heard a master's second
Announce selects it when it is the only one, with the servo ACQUIRING; its first only counts. Of the selected grandmaster a one- step Sync
gives ms = t2 - t1 - corrections, a two-step one waits for its Follow_Up, which gives ms the same way; with one path delay known the
offset is ms less half the exchange's sum. A Delay_Req is remembered with its egress time; its Delay_Resp completes the exchange, and one
more than 2 us from the median is counted. A lost grandmaster leaves HOLDOVER from LOCKED and LISTENING else. Messages of others do
nothing. Choices of the model here: log entries 6 (the second Announce, taken from the standard), 37 and 38 (the mean and the median of
exchanges). (R404, R405, R406, R407, R408) -/
def Obligations.PtpFollowsItsGrandmaster : Prop :=

  ∀ (s : State) (x dom id rank ip seqn t1 t2 t3 t4 : Nat) (corr sum ms : Int) (g : Master) (y : PtpSync), s.memOk = true → x < 2 →
    (ptpHears s x dom = false → exec (.announceReceived x dom rank id ip [] []) s = .next s.begun ∧
      exec (.sync x dom id seqn true t1 t2 corr) s = .next s.begun ∧ exec (.followUp x dom id seqn t1 corr) s = .next s.begun ∧
      exec (.delayResp x dom id seqn t4 corr) s = .next s.begun) ∧
    (ptpHears s x dom = true →
      (s.stm.masters = [] → ∃ t, exec (.announceReceived x dom rank id ip [] []) s = .next t ∧ t.stm.masters.map (fun h => (h.id, h.count)) = [(id, 1)] ∧
        t.stm.gm = s.stm.gm ∧ t.mem = s.mem) ∧
      (s.stm.masters = [g] → g.id = id → 1 ≤ g.count → s.stm.gm = none → id < 2 ^ 64 → ptpState s ≠ 2 →
        ∃ t, exec (.announceReceived x dom rank id ip [] []) s = .next t ∧ t.stm.gm = some id ∧ ptpState t = 2 ∧ rdPair t (STM + 6) = id)) ∧
    (fromGm s x dom id = true →
      (∃ t, exec (.sync x dom id seqn true t1 t2 corr) s = .next t ∧
        t = { s.begun with stm := { s.stm with syncs := ({ seq := seqn, t2 := (t2 : Int), corr := corr } :: s.stm.syncs).take 16 } }) ∧
      (s.stm.exch = [] → (∃ t, exec (.sync x dom id seqn false t1 t2 corr) s = .next t ∧ t.stm.ms = some ((t2 : Int) - t1 - corr) ∧ t.mem = s.mem) ∧
        (s.stm.syncs = [y] → y.seq = seqn → 0 ≤ y.t2 → ∃ t, exec (.followUp x dom id seqn t1 corr) s = .next t ∧
          t.stm.ms = some (y.t2 - t1 - (y.corr + corr)) ∧ t.stm.syncs = [])) ∧
      (s.stm.exch = [2 * sum] → ∃ t, exec (.sync x dom id seqn false t1 t2 corr) s = .next t ∧
        rd t (STM + 3) = wdI (sat36 ((t2 : Int) - t1 - corr - sum)) ∧ rd t (STM + 4) = wd (min (2 ^ 36 - 1) sum.toNat)) ∧
      (s.stm.req = some (seqn, (t3 : Int)) → s.stm.ms = some ms →
        (s.stm.exch = [] → exec (.delayResp x dom id seqn t4 corr) s =
          .next { s.begun with stm := { s.stm with req := none, exch := [ms + ((t4 : Int) - t3 - corr)] } }) ∧
        (s.stm.exch = [sum] → 64000 < (ms + ((t4 : Int) - t3 - corr) - sum).natAbs → ∃ t, exec (.delayResp x dom id seqn t4 corr) s = .next t ∧
          t.stm = { s.stm with req := none } ∧ rdF t (STM + 0x12) 11 0 = min 4095 (rdF s (STM + 0x12) 11 0 + 1) ∧ SameBut s t [STM + 0x12]))) ∧
    (s.img.clock = 0 → s.sys.hearthDown = false → ptpPort s = x + 1 → s.stm.masters = [g] → s.stm.gm = some g.id → txOn s x = true →
      ∃ t, exec (.delayReq t3) s = .next t ∧ t.stm = { s.stm with req := some (s.stm.reqSeq, (t3 : Int)), reqSeq := (s.stm.reqSeq + 1) % 2 ^ 16 } ∧
        t.mem = s.mem) ∧
    (s.stm.gm = some id → ∃ t, exec .grandmasterLost s = .next t ∧ t.stm.gm = none ∧
      ptpState t = (if ptpState s = 3 ∨ ptpState s = 4 then 4 else 1) ∧ ptpPort t = 0) ∧
    (s.stm.gm = none → exec .grandmasterLost s = .next s.begun)

/-- Phase-locked loops: lock declared, settled, relocked, lost, tripped and retried. A declared lock takes every acquiring loop of its
group into settling and leaves the others; the end of settling locks the loop and, for DPLL, ends self-refresh. A relock makes the
target word effective and the loop ACQUIRING if a band holds it, else in BYPASS; Hearth alone requests one. A loop that is locked
loses lock with its event and count and relocks; one neither locked nor settling is left alone. A guard trip counts the swallowed
cycles and shows its event. A failed attempt is begun again. (R417, R418, R419, R421, R424, R426, R453) -/
def Obligations.LoopsLockSettleAndRelock : Prop :=

  ∀ (s : State) (g k m n : Nat) (fails : List Nat), s.memOk = true → k < 4 →
    (k = 3 → portUp s 0 = false ∧ portUp s 1 = false ∧ tongsUp s = false) → (k = 2 → s.drc.queue = []) →
    let acquired (t : State) := effWord t k = targetWord s k ∧ loopState t k = (if (bandFor (rd s) k (targetWord s k)).isSome then 1 else 3)
    let mine := if g % 2 = 0 then k < 2 else 2 ≤ k
    (∃ t, exec (.lockDeclared g) s = .next t ∧ (mine → loopState s k = 1 → loopState t k = 3 ∧ k ∈ t.clk.settling) ∧
      (¬ (mine ∧ loopState s k = 1) → loopState t k = loopState s k)) ∧
    (k ∈ s.clk.settling → ∃ t, exec (.settleExpiry k fails) s = .next t ∧ loopState t k = 2 ∧
      t.clk = { s.clk with settling := s.clk.settling.erase k } ∧ (k = 2 → dramUp t = true)) ∧
    (k ∉ s.clk.settling → exec (.settleExpiry k fails) s = .next s.begun) ∧
    (stagedOf s 0 = none → ∃ t, exec (.relock 0 k) s = .next t ∧ acquired t ∧ t.clk.ramp = sparseDrop s.clk.ramp k) ∧
    (m ≠ 0 → stagedOf s m = none → ∃ t, exec (.relock m k) s = .next t ∧ t.clk = s.clk ∧ SameBut s t [XBR, XBR + 1, XBR + 2]) ∧
    (loopState s k = 2 → (∃ t, exec (.lossOfLock k) s = .next t ∧ acquired t ∧ flag (rd t (CLK + 1)) k = true ∧
        rdF t (CLK + 2) 35 24 = min 4095 (rdF s (CLK + 2) 35 24 + 1)) ∧
      ∃ t, exec (.guardTrip k n) s = .next t ∧ acquired t ∧ flag (rd t (CLK + 1)) (4 + k) = true ∧
        rdF t (CLK + 2) 23 12 = min 4095 (rdF s (CLK + 2) 23 12 + n)) ∧
    (loopState s k ≠ 2 → k ∉ s.clk.settling → exec (.lossOfLock k) s = .next s.begun) ∧
    (loopState s k = 1 → ∃ t, exec (.relockRetry k) s = .next t ∧ acquired t ∧ t.clk.retryLogged = true) ∧
    (loopState s k = 2 → exec (.relockRetry k) s = .next s.begun)

/-- A loop's target word: committed, refused, acquired in a relock, approached by tracking steps and by ramps. Hearth's write of FRAC
commits it with the INT it staged: on a locked MPLL or APLL, not ramping, a word that a band holds within 0.1 percent of the word at lock
becomes the target with RESULT OK and the effective word unchanged; one further away is refused with its own RESULT, one that no band
holds with NO_BAND, and while a ramp runs with BUSY. While the loop acquires lock, a word that a band holds becomes its target and its
effective word. A tracking step moves the effective word of a locked MPLL toward its target by at most one millionth. A ramp's segment
that is not the last goes on to the next; after the last the effective word is the goal. (R415, R417, R422, R423, R425) -/
def Obligations.WordsAreCommittedTrackedAndRamped : Prop :=

  ∀ (s : State) (k int : Nat) (w : Word) (r : Ramp) (g : Staged) (fails : List Nat), s.memOk = true →
    (k < 2 → stagedOf s 0 = some g → g.addr = CLKL k + 1 → fld g.word 7 0 = int →
      let v := int * 2 ^ 36 + w.toNat
      let lw := sparseGet (fun _ => 0) s.clk.lockWord k
      (loopState s k = 2 →
        (flag (rd s (CLKL k + 5)) 33 = false → (bandFor (rd s) k v).isSome = true →
          (1000 * ((v : Int) - lw).natAbs ≤ lw → ∃ t, exec (.wordCommit 0 k w) s = .next t ∧ targetWord t k = v ∧ effWord t k = effWord s k ∧
            rdF t (CLKL k + 5) 3 0 = 1 ∧ t.xbr.staged = sparseDrop s.xbr.staged 0) ∧
          (lw < 1000 * ((v : Int) - lw).natAbs → ∃ t, exec (.wordCommit 0 k w) s = .next t ∧ targetWord t k = targetWord s k ∧
            rdF t (CLKL k + 5) 3 0 = 4)) ∧
        (flag (rd s (CLKL k + 5)) 33 = false → bandFor (rd s) k v = none → ∃ t, exec (.wordCommit 0 k w) s = .next t ∧
          targetWord t k = targetWord s k ∧ rdF t (CLKL k + 5) 3 0 = 3) ∧
        (flag (rd s (CLKL k + 5)) 33 = true → ∃ t, exec (.wordCommit 0 k w) s = .next t ∧ targetWord t k = targetWord s k ∧
          rdF t (CLKL k + 5) 3 0 = 2)) ∧
      (loopState s k = 1 → flag (rd s (CLKL k + 5)) 33 = false → (bandFor (rd s) k v).isSome = true →
        ∃ t, exec (.wordCommit 0 k w) s = .next t ∧ targetWord t k = v ∧ effWord t k = v ∧ loopState t k = 1 ∧
          rdF t (CLKL k + 5) 3 0 = 1)) ∧
    (s.clk.slew = 0 → loopState s 0 = 2 → ∃ t, exec .trackingStep s = .next t ∧ effWord t 0 =
      (if effWord s 0 + effWord s 0 / 1000000 < targetWord s 0 then effWord s 0 + effWord s 0 / 1000000
       else if targetWord s 0 + effWord s 0 / 1000000 < effWord s 0 then effWord s 0 - effWord s 0 / 1000000 else targetWord s 0)) ∧
    (k < 4 → (k = 2 → s.drc.queue = []) → sparseFind s.clk.ramp k = some r →
      (nextSeg (rd s) k (r.seg + 1) < 16 → ∃ t, exec (.rampSegment k fails) s = .next t ∧
        t.clk = { s.clk with ramp := sparsePut s.clk.ramp k { r with seg := nextSeg (rd s) k (r.seg + 1) } }) ∧
      (16 ≤ nextSeg (rd s) k (r.seg + 1) → r.goal < 2 ^ 44 → ∃ t, exec (.rampSegment k fails) s = .next t ∧ effWord t k = r.goal ∧
        t.clk = { s.clk with ramp := sparseDrop s.clk.ramp k } ∧ flag (rd t (CLKL k + 5)) 33 = false)) ∧
    (k < 4 → sparseFind s.clk.ramp k = none → exec (.rampSegment k fails) s = .next s.begun)

/-- The reference: locked, lost, returned, its edges, and a period correction at its P. While periods are counted a source whose lock
condition holds is LOCKED and settles the clock condition, and the count stands as it is. A locked reference other than XO that is lost
leaves HOLDOVER; one that returns is ACQUIRING again with the phase error shown. A pulse out of its range loses the reference and restarts
the edge count, a good one counts; in ARMED without a count a pulse of a locked REF_PPS_IN establishes it from the calendar's second, if
the calendar is set. A correction due drops its whole periods from the count, asks for the short hold-and-ramp and slews the rest; one
that passes through ARMED starts the ramp to zero and settles clock and count anew. (R428, R429, R430, R431, R433, R434, R435, R528) -/
def Obligations.TheReferenceIsLockedLostAndCorrected : Prop :=

  ∀ (s : State) (j : Int) (gap : Nat) (c : Realign), s.memOk = true →
    (s.img.clock = 3 → loopState s 0 = 2 → counting s = true → ∃ t, exec .referenceLocked s = .next t ∧ refState t = 2 ∧ t.sys.condClock = true ∧
      t.sys.condCount = s.sys.condCount ∧ t.wav = s.wav) ∧
    (s.img.clock = 0 → ptpState s ≠ 3 → exec .referenceLocked s = .next s.begun) ∧
    (refState s = 2 → s.img.clock ≠ 3 → ∃ t, exec .referenceLost s = .next t ∧ refState t = 3 ∧ t.sys.condClock = false ∧
      flag (rd t (CLK + 1)) 8 = true ∧ t.clk.edges = 0) ∧
    (refState s ≠ 2 → exec .referenceLost s = .next s.begun) ∧
    (refState s = 3 → ∃ t, exec (.referenceReturn j) s = .next t ∧ refState t = 1 ∧ flag (rd t (CLK + 1)) 9 = true ∧
      rd t (CLK + 4) = wdI (sat36 j)) ∧
    (refState s ≠ 3 → exec (.referenceReturn j) s = .next s.begun) ∧
    (s.img.clock = 1 → counting s = true →
      (32000 < ((gap : Int) - 16000000000).natAbs → ∃ t, exec (.referenceEdge j gap) s = .next t ∧ t.clk.edges = 0 ∧
        refState t = (if refState s = 2 then 3 else refState s)) ∧
      (((gap : Int) - 16000000000).natAbs ≤ 32000 → j.natAbs ≤ 16000 → ∃ t, exec (.referenceEdge j gap) s = .next t ∧
        t.clk.edges = s.clk.edges + 1) ∧
      (((gap : Int) - 16000000000).natAbs ≤ 32000 → s.sys.state = .armed → refState s = 2 → s.sys.condCount = false → s.twn.partner = none →
        ∃ t, exec (.referenceEdge j gap) s = .next t ∧
          (s.cocoon.calSource ≠ 0 → t.sys.condCount = true ∧ t.wav.n = countAt s (16000000000 * s.cocoon.calSec)) ∧
          (s.cocoon.calSource = 0 → t.sys.condCount = false ∧ t.wav.n = s.wav.n))) ∧
    (s.img.clock = 0 → exec (.referenceEdge j gap) s = .next s.begun) ∧
    (s.clk.corr = some c → c.at' = s.wav.n + 1 →
      (c.viaArmed = false → 0 < c.k → ∃ t, exec .periodCorrection s = .next t ∧ t.wav.n = s.wav.n + c.k.toNat ∧ t.wav.short = true ∧
        t.clk.corr = none ∧ t.clk.slew = (if (c.rest * 62500).natAbs < 100000000 then 0 else c.rest * 62500)) ∧
      (c.viaArmed = true → ∃ t, exec .periodCorrection s = .next t ∧ t.wav.n = s.wav.n ∧ t.clk.corr = none ∧
        t.qch.rampStop = some (s.qch.rampStop.getD 0) ∧ t.sys.condCount = false ∧ t.sys.condClock = false)) ∧
    (s.clk.corr = some c → c.at' ≠ s.wav.n + 1 → exec .periodCorrection s = .next s.begun)

/-- The DRAM controller: writes, reads, its queues, temperature classes, refresh, power-down, drift and patrol. In a channel that has not
failed, out of self-refresh and with nothing waiting, an allowed write stores the word and no other in DRAM, with its lap in the delay
lines, and is answered OK; a read of a good word returns it; one flipped bit is corrected and counted; three flipped bits and a delay-line
word of another lap are answered with an error and counted. A source that may not write or read is refused. In self-refresh, or where its
channel has no time for it, a request waits, and a read that meets the row of a write that waits is answered after it. A poll shows the
four dies' classes. A due refresh raises the debt of a busy rank up to 7 and pays an idle one's, whose rows close. A rank idle for PD_NS
in range powers down. Drift is counted, and a channel that fails retraining twice is FAILED. A patrol that finds nothing changes no word,
one that finds a flipped bit writes the word back whole, and the last read of a patrol counts the pass. Choices of the model here: log entries
39 (the numbers of the three ports) and 89 (which requests wait). (R438, R440, R441, R442, R444, R446, R449, R451, R452, R453, R454, R460)
-/
def Obligations.DramWordsAreKeptCheckedAndRefreshed : Prop :=

  ∀ (s : State) (src a lap r c0 c1 c2 c3 fails : Nat) (w : Word) (busy waits forced : Bool), s.memOk = true →
    sparseWf (fun _ => 0) s.flips = true → stagedOf s src = none →
    let req (v : Option Word) : DramReq :=
      { src := src, a := a, write := v, lap := if inLines a then lap else 0, cls := dramClass src, flip := 0, cause := false }
    let lapOk := if inLines a = true then lapOf s a = lap % 16 else lapOf s a = 0
    (0x40000000 ≤ a → a ≤ 0x7FFFFFFF → chanFailed s a = false →
      (chanQueue s (dramChan a) = [] →
        (dramMayWrite s src a = true → dramUp s = true → ∃ t, exec (.dramWrite src a w lap false) s = .next t ∧ rd t a = w ∧ t.out = [.resp 0 []] ∧
          SameBut s t [a, DRC] ∧ flipsOf t a = 0 ∧ (inLines a = true → lap % 16 ≠ 0 → lapOf t a = lap % 16)) ∧
        (dramMayWrite s src a = true → dramUp s = false ∨ waits = true → exec (.dramWrite src a w lap waits) s =
          .next { s.begun with drc := { s.drc with queue := s.drc.queue ++ [req (some w)] }, out := [.wait a] }) ∧
        (dramMayRead src a = true → dramUp s = true → flipsOf s a = 0 →
          (lapOk → (∃ t, exec (.dramRead src a 0 lap false) s = .next t ∧ t.out = [.resp 0 [rd s a]] ∧ SameBut s t [DRC]) ∧
            ∃ t, exec (.dramRead src a 1 lap false) s = .next t ∧ t.out = [.resp 0 [rd s a]] ∧ SameBut s t [DRC, DRC + 3] ∧
              rdF t (DRC + 3) 35 24 = min 4095 (rdF s (DRC + 3) 35 24 + 1)) ∧
          (inLines a = true → lapOf s a ≠ lap % 16 → src ≠ portTongs → ∃ t, exec (.dramRead src a 0 lap false) s = .next t ∧
            t.out = [.resp 3 [0]] ∧ rdF t (DRC + 4) 35 24 = min 4095 (rdF s (DRC + 4) 35 24 + 1)) ∧
          (src ≠ portTongs → ∃ t, exec (.dramRead src a 7 lap false) s = .next t ∧ t.out = [.resp 3 [0]] ∧ flipsOf t a = 7 ∧
            rd t (DRC + 7) = wd (2 ^ 32 + a) ∧ rdF t (DRC + 3) 11 0 = min 4095 (rdF s (DRC + 3) 11 0 + 1)))) ∧
      (dramMayRead src a = true → dramUp s = true → s.drc.queue = [req (some w)] → (inLines a = false → lapOf s a = 0) →
        (inLines a = true → lap % 16 ≠ 0) → ∃ t, exec (.dramRead src a 0 lap false) s = .next t ∧ t.drc.queue = [] ∧ rd t a = w ∧
          t.out = [.resp 0 [], .resp 0 [w]]) ∧
      (dramMayWrite s src a = false → ∃ t, exec (.dramWrite src a w lap false) s = .next t ∧ t.out = [.resp 1 []] ∧
        SameBut s t [XBR, XBR + 1, XBR + 2])) ∧
    (a < 0x40000000 → exec (.dramWrite src a w lap false) s = .next s.begun ∧ exec (.dramRead src a 0 lap false) s = .next s.begun) ∧
    (∃ t, exec (.temperaturePoll c0 c1 c2 c3) s = .next t ∧ rdF t (DRC + 2) 1 0 = c0 % 4 ∧ rdF t (DRC + 2) 3 2 = c1 % 4 ∧
      rdF t (DRC + 2) 5 4 = c2 % 4 ∧ rdF t (DRC + 2) 7 6 = c3 % 4) ∧
    (r < 8 → flag (rd s DRC) (4 + r) = false →
      (∃ t, exec (.refreshDue r busy) s = .next t ∧ t.drc.queue = s.drc.queue ∧ t.drc.debt = sparseSet (fun _ => 0) s.drc.debt r
          (if (busy || servesWindows s r) = true then min (sparseGet (fun _ => 0) s.drc.debt r + 1) 7 else 0) ∧
        ((busy || servesWindows s r) = false → ∀ e ∈ t.drc.rows, e.1 / 8 ≠ r) ∧
        flag (rd t DRC) (12 + r) = false ∧ SameBut s t [DRC]) ∧
      (64 ≤ rdF s (DRC + 1) 19 0 → rdF s (DRC + 1) 19 0 ≤ 1000000 → (∀ q ∈ s.drc.queue, dramRank q.a ≠ r) →
        ∃ t, exec (.powerDownEntry r) s = .next t ∧ flag (rd t DRC) (12 + r) = true ∧ SameBut s t [DRC]) ∧
      (rdF s (DRC + 1) 19 0 = 0 → exec (.powerDownEntry r) s = .next s.begun) ∧
      (∃ t, exec (.driftCheck r true true fails) s = .next t ∧ rdF t (DRC + 5) 35 24 = min 4095 (rdF s (DRC + 5) 35 24 + 1) ∧
        SameBut s t [DRC + 5]) ∧
      (2 ≤ fails → ∃ t, exec (.driftCheck r true false fails) s = .next t ∧ flag (rd t DRC) (32 + r / 2) = true) ∧
      exec (.driftCheck r false busy fails) s = .next s.begun) ∧
    (r < 8 → flag (rd s DRC) (4 + r) = true → exec (.refreshDue r busy) s = .next s.begun ∧ exec (.powerDownEntry r) s = .next s.begun) ∧
    (0x40000000 ≤ a → a ≤ 0x7FFFFFFF → a % 4 = 0 → dramUp s = true → chanFailed s a = false → chanQueue s (dramChan a) = [] →
      (∀ i, i < 4 → flipsOf s (a + i) = 0 ∧ (if inLines (a + i) = true then lapOf s (a + i) < 16 else lapOf s (a + i) = 0)) →
      (∃ t, exec (.patrolRead a [] { last := true, forced := forced }) s = .next t ∧
        rdF t (DRC + 6) 15 0 = (rdF s (DRC + 6) 15 0 + 1) % 2 ^ 16 ∧ ∀ b, 0x40000000 ≤ b → rd t b = rd s b) ∧
      (∃ t, exec (.patrolRead a [1] { last := false, forced := forced }) s = .next t ∧ flipsOf t a = 0 ∧
        rdF t (DRC + 3) 35 24 = min 4095 (rdF s (DRC + 3) 35 24 + 1) ∧ ∀ b, 0x40000000 ≤ b → rd t b = rd s b) ∧
      ∃ t, exec (.patrolRead a [7] { last := false, forced := forced }) s = .next t ∧ flipsOf t a = 7 ∧ t.qch.warn.testBit 2 = true ∧
        rd t (DRC + 7) = wd (2 ^ 32 + a))

/-- TDM and PDM ports, frame by frame and sample by sample, and the capture engine. A frame of the right length, or any on a master port,
joins a running port's FIFO as the data words of its slots; one of the wrong length on a target port is counted and held by nobody. An
output frame of a running port in ARMED carries zeros; else it carries the waiting period that it may carry, or repeats the last, counted
as a slip: in the first 100 ns after a tick a target port's frame may not carry yet what a later one may. A stopped port holds nothing and
sends nothing. A PDM sample joins its FIFO marked settled or not; a stopped clock takes its inputs out and is counted, its return lets
them settle anew; a stuck line is counted, and its first transition after that is logged once. A capture from Hearth or the host for a
period 32 to 2^24 ahead is PENDING, refused otherwise, and a pending one can be cancelled; of another master it is refused. Choices of
the model here: log entry 90 (the arithmetic of the decimator, which stays open). (R71, R482, R484, R486, R487, R488, R490, R492, R493, R494,
R496, R497, R498, R499) -/
def Obligations.LocalAudioMovesFrameByFrame : Prop :=

  ∀ (s : State) (p k c m count P ns n : Nat) (fs din line : List (Bool × Bool)) (fr g : List Int), s.memOk = true → stagedOf s m = none →
    (tdmLive s p = true →
      (tdmMaster (rd s) p = false → tdmFrameOk (rd s) p fs = false → ∃ t, exec (.tdmInputFrame p fs din) s = .next t ∧
        SameBut s t [TDM + 16 * p + 2] ∧ rdF t (TDM + 16 * p + 2) 11 0 = min 4095 (rdF s (TDM + 16 * p + 2) 11 0 + 1) ∧
        t.aud = { s.aud with tdm := sparseSet (fun _ => TdmPort.init) s.aud.tdm p { tdmOf s p with good := 0 } }) ∧
      ((tdmOf s p).st = 1 →
        (tdmMaster (rd s) p = true ∨ tdmFrameOk (rd s) p fs = true → (tdmOf s p).held.length < 4 →
          ∃ t, exec (.tdmInputFrame p fs din) s = .next t ∧ (tdmOf t p).held = (tdmOf s p).held ++
            [(tdmWords (rd s) p din).map (fun v => (intToF36 (tdmWidth (rd s) p) v).toInt)] ∧ t.mem = s.mem) ∧
        (s.sys.state = .armed → exec (.tdmOutputFrame { port := p, ns := ns }) s =
          .next { s.begun with out := [.tdm p (tdmDrives (rd s) p (List.replicate (tdmSlots (rd s) p) 0))] }) ∧
        (s.sys.state ≠ .armed → tdmMaster (rd s) p = true ∨ 100 < ns →
          ((tdmOf s p).fifo = [(n, fr)] → n < s.wav.n → ∃ t, exec (.tdmOutputFrame { port := p, ns := ns }) s = .next t ∧
            t.out = [.tdm p (tdmDrives (rd s) p fr)] ∧ (tdmOf t p).fifo = [] ∧ (tdmOf t p).last = fr ∧ t.mem = s.mem) ∧
          ((tdmOf s p).fifo = [] → (tdmOf s p).last = fr → fr ≠ [] → ∃ t, exec (.tdmOutputFrame { port := p, ns := ns }) s = .next t ∧
            t.out = [.tdm p (tdmDrives (rd s) p fr)] ∧
            rdF t (TDM + 16 * p + 2) 23 12 = min 4095 (rdF s (TDM + 16 * p + 2) 23 12 + 1))) ∧
        (s.sys.state ≠ .armed → tdmMaster (rd s) p = false → ns < 100 → (tdmOf s p).fifo = [(n, fr)] → s.wav.n = n + 1 →
          (tdmOf s p).last = g → g ≠ [] → ∃ t, exec (.tdmOutputFrame { port := p, ns := ns }) s = .next t ∧
            t.out = [.tdm p (tdmDrives (rd s) p g)] ∧ (tdmOf t p).fifo = [(n, fr)])) ∧
      ((tdmOf s p).st ≠ 1 → exec (.tdmOutputFrame { port := p, ns := ns }) s = .next s.begun) ∧
      (∃ t, exec (.tdmPortStopped p) s = .next t ∧ (tdmOf t p).st = 2 ∧ (tdmOf t p).held = [] ∧ (tdmOf t p).fifo = [])) ∧
    (tdmLive s p = false → exec (.tdmInputFrame p fs din) s = .next s.begun ∧
      exec (.tdmOutputFrame { port := p, ns := ns }) s = .next s.begun ∧ exec (.tdmPortStopped p) s = .next s.begun) ∧
    (k < 16 → pdmEn (rd s) k = true → pdmRuns s k = true → (pdmOf s k).held.length < 4 →
      ∃ t, exec (.pdmOutputSample k line) s = .next t ∧ (pdmOf t k).settle = (pdmOf s k).settle - 1 ∧ t.mem = s.mem ∧
        let o := Config.pdmStep (pdmPreset (rd s) k) (pdmRatio (rd s) k) (pdmOf s k).dec (pdmBits (rd s) k line)
        (pdmOf t k).held = (pdmOf s k).held ++ [(sat36 o.2, (pdmOf s k).settle == 0)] ∧ (pdmOf t k).dec = o.1) ∧
    (k < 16 → pdmRuns s k = false → exec (.pdmOutputSample k line) s = .next s.begun) ∧
    (c < 4 → k / 4 = c → pdmEn (rd s) k = true →
      (∃ t, exec (.pdmClockStop c) s = .next t ∧ (pdmOf t k).clockOk = false ∧ (pdmOf t k).held = [] ∧ SameBut s t [PDM + 0x30] ∧
        rdF t (PDM + 0x30) 35 24 = min 4095 (rdF s (PDM + 0x30) 35 24 + 1)) ∧
      ((pdmOf s k).clockOk = false → 1 ≤ pdmPreset (rd s) k → pdmPreset (rd s) k ≤ 3 → ∃ t, exec (.pdmClockReturn c) s = .next t ∧
        (pdmOf t k).clockOk = true ∧ (pdmOf t k).settle = settleOf (pdmPreset (rd s) k) ∧ t.mem = s.mem)) ∧
    (k < 16 → (pdmOf s k).stuck = false → ∃ t, exec (.pdmStuck k true) s = .next t ∧ (pdmOf t k).stuck = true ∧ SameBut s t [PDM + 0x30] ∧
      rdF t (PDM + 0x30) 23 12 = min 4095 (rdF s (PDM + 0x30) 23 12 + 1)) ∧
    (k < 16 → (pdmOf s k).stuck = true → exec (.pdmStuck k true) s = .next s.begun ∧
      ∃ t, exec (.pdmStuck k false) s = .next t ∧ (pdmOf t k).stuck = false ∧ t.mem = s.mem ∧
        t.log.reports.length = s.log.reports.length + b2n (!(pdmOf s k).logged)) ∧
    (m ≤ 1 → rdPair s (PDM + 0x10A) = P →
      (s.sys.state = .run → rdF s TWN 35 33 = 0 ∨ rdF s TWN 35 33 = 5 →
        (s.aud.cap = none → s.wav.n + 32 ≤ P → P ≤ s.wav.n + 2 ^ 24 → 1 ≤ count → count ≤ 8 →
          (∀ i, i < count → sourceReserved (rdF s (PDM + 0x100 + i) 10 0) = false) → 0x10100000 ≤ rdF s (PDM + 0x108) 31 0 →
          1 ≤ rdF s (PDM + 0x109) 31 0 → rdF s (PDM + 0x109) 31 0 ≤ 524288 →
          rdF s (PDM + 0x108) 31 0 + rdF s (PDM + 0x109) 31 0 * (count + 1) ≤ 0x10200000 →
          ∃ t, exec (.captureStart m count) s = .next t ∧ t.aud.cap = some (P, count) ∧ rdF t (PDM + 0x10D) 7 0 = 1) ∧
        (s.aud.cap = none → P < s.wav.n + 32 → ∃ t, exec (.captureStart m count) s = .next t ∧ t.aud = s.aud ∧ rdF t (PDM + 0x10D) 7 0 = 4) ∧
        (s.aud.cap.isSome = true → ∃ t, exec (.captureStart m count) s = .next t ∧ t.aud = s.aud ∧ rdF t (PDM + 0x10D) 7 0 = 7)) ∧
      (s.sys.state ≠ .run → ∃ t, exec (.captureStart m count) s = .next t ∧ t.aud = s.aud ∧ rdF t (PDM + 0x10D) 7 0 = 8) ∧
      (s.aud.cap.isSome = true → s.aud.capRun = false → ∃ t, exec (.captureCancel m) s = .next t ∧ t.aud.cap = none ∧
        rdF t (PDM + 0x10D) 7 0 = 9) ∧
      (s.aud.cap = none → ∃ t, exec (.captureCancel m) s = .next t ∧ t.aud = s.aud ∧ rdF t (PDM + 0x10D) 7 0 = 10)) ∧
    (1 < m → (∃ t, exec (.captureStart m count) s = .next t ∧ t.aud = s.aud ∧ SameBut s t [XBR, XBR + 1, XBR + 2]) ∧
      ∃ t, exec (.captureCancel m) s = .next t ∧ t.aud = s.aud ∧ SameBut s t [XBR, XBR + 1, XBR + 2])

/-- Sensors are published, the lifetime record is kept and saved, the calendar is set and disciplined. A sample of a sensor is
published in its register and no other reading moves; the thermal warning goes on at WARN_C, off once every sensor is HYST_C below
it, and stays between; a voltage outside its 3 percent sets the rail's bit; a duty that misses its interval shows and is logged where that
is due; while Hearth restarts nothing is published. Once a second the hottest reading's bin grows by one and the lowest value since the
last counted thermal cycle is followed. Where Hearth may program the flash, which it may not in LOAD nor while it restarts, a snapshot goes
to the next lifetime sector, with the backup bits fresh; every 10 s the backup bits take the seconds since. The host sets the calendar with
its two staged words unless PTP is locked; PTP corrects it only beyond 100 microseconds. (R80, R514, R515, R516, R517, R523, R524, R525,
R526, R528) -/
def Obligations.SensorsAndTheRecordAreKept : Prop :=

  ∀ (s : State) (i : Nat), s.memOk = true →
    (s.sys.hearthDown = true → (∀ k, exec (.sensorSample k) s = .next s.begun) ∧ exec .thermalHistogram s = .next s.begun ∧
      exec .backupSecondsUpdate s = .next s.begun) ∧
    (flashFree s = false → exec .lifetimeSnapshot s = .next s.begun) ∧
    (s.sys.hearthDown = true ∨ s.sys.state = .load → flashFree s = false) ∧
    (s.sys.hearthDown = false →
      (∀ v : Int, i < 8 → -2048 ≤ v → v < 2048 → ∃ t, exec (.sensorSample (.temp i v)) s = .next t ∧ tempRd t i = v ∧
        (∀ j, j < 8 → j ≠ i → rd t (HTH + j) = rd s (HTH + j)) ∧
        flag (rd t (HTH + 0x31)) 10 = (if (4 * rdF s (HTH + 0x30) 7 0 : Int) ≤ hottest t then true
          else if hottest t < 4 * ((rdF s (HTH + 0x30) 7 0 : Int) - rdF s (HTH + 0x30) 11 8) then false else flag (rd s (HTH + 0x31)) 10)) ∧
      (∀ mv, i < 10 → mv < 4096 → ∃ t, exec (.sensorSample (.volt i mv)) s = .next t ∧ rdF t (HTH + 0x10 + i) 11 0 = mv ∧
        flag (rd t (HTH + 0x31)) i = voltWarn i mv ∧ (voltWarn i mv = true → i ∈ t.hth.voltLogged)) ∧
      (∀ p dev, i < 6 → ∃ t, exec (.sensorSample (.clock i p dev)) s = .next t ∧ SameBut s t [HTH + 0x20 + i] ∧
        rd t (HTH + 0x20 + i) = wd (b2n p * 2 ^ 35 + clkDev dev)) ∧
      (i < 10 → ∃ t, exec (.sensorSample (.late i)) s = .next t ∧ flag (rd t (HTH + 0x32)) i = true ∧ SameBut s t [HTH + 0x32] ∧
        t.log.reports.length = s.log.reports.length + b2n (sparseFind s.hth.lateLogged i).isNone) ∧
      (s.sys.rails = true → (∃ t, exec .thermalHistogram s = .next t ∧ t.mem = s.mem ∧
          (let b := histBin (hottest s)
           let off := (hottest s + 220).toNat
           t.life.hist = sparseSet (fun _ => 0) s.life.hist b (min (2 ^ 36 - 1) (sparseGet (fun _ => 0) s.life.hist b + 1)) ∧
           t.life.cycleMin = (match s.life.cycleMin with
             | none => some off
             | some m => if m + 160 ≤ off then some off else some (min m off)))) ∧
        exec .backupSecondsUpdate s = .next { s.begun with cocoon := { s.cocoon with
          backupSeq := s.life.snapSeq % 2 ^ 16, backupSecs := (lifeGet s 0 - s.life.snapPower) % 2 ^ 32 } }) ∧
      (flashFree s = true →
        (let sec := if s.life.snapSeq = 0 then 0 else (s.life.snapSector + 1) % 256
         let q := s.life.snapSeq + 1
         ∃ t, exec .lifetimeSnapshot s = .next t ∧ t.life.snapSeq = q ∧ t.life.snapSector = sec ∧
           t.flash = { s.flash with life := sparsePut s.flash.life sec (snapBytes (s.after (life 26 1)) q) } ∧
           t.cocoon = { s.cocoon with backupSeq := q % 2 ^ 16, backupSecs := 0 } ∧ t.mem = s.mem))) ∧
    (∀ m w, m ≠ 1 → stagedOf s m = none → ∃ t, exec (.lifCalSet1 m w) s = .next t ∧ t.cocoon = s.cocoon ∧ SameBut s t [XBR, XBR + 1, XBR + 2]) ∧
    (∀ w g, stagedOf s 1 = some g → g.addr = LIF + 4 → ∃ t, exec (.lifCalSet1 1 w) s = .next t ∧
      t.xbr.staged = sparseDrop s.xbr.staged 1 ∧ SameBut s t [LIF + 6] ∧
      (if s.img.clock = 0 ∧ ptpLocked s = true then t.cocoon = s.cocoon ∧ rdF t (LIF + 6) 3 2 = 2
       else t.cocoon = { s.cocoon with calSec := fld g.word 15 0 * 2 ^ 32 + fld w 31 0, calSub := 0, calSource := 1 } ∧
         rdF t (LIF + 6) 3 2 = 1)) ∧
    (∀ sec sub : Nat, ptpLocked s = true → s.sys.hearthDown = false →
      let d : Int := ((sec : Int) - s.cocoon.calSec) * 32768 + sub - s.cocoon.calSub
      (100 * 32768 < d.natAbs * 1000000 → exec (.calendarDiscipline sec sub) s =
        .next { s.begun with cocoon := { s.cocoon with calSec := sec % 2 ^ 48, calSub := sub % 2 ^ 15, calSource := 2 } }) ∧
      (d.natAbs * 1000000 ≤ 100 * 32768 → exec (.calendarDiscipline sec sub) s = .next s.begun)) ∧
    (∀ sec sub : Nat, ptpLocked s = false → exec (.calendarDiscipline sec sub) s = .next s.begun)

/-- The event log: placed, discarded by severity, copied to flash, fetched; telemetry reports. The oldest waiting report becomes the
ring's last entry with the next sequence number. A full ring first discards one entry, counted: one already in flash if there is
one, else the least severe below FAULT; the first such discard is itself reported. Where Hearth may program the flash, a flush writes the
next entry at the write point while the bucket holds a token, and on entering a sector erases the one after it. HTH_LOG_SEL starts a
fetch, whose completion shows the entry with FOUND, or zeros without. A telemetry report advances the report number; one that is late is
counted as missed and keeps its log entries. While Hearth restarts none of this happens. (R80, R518, R519, R520, R521, R522, R530, R532) -/
def Obligations.TheLogKeepsItsEntries : Prop :=

  ∀ (s : State), s.memOk = true →
    (∀ (ring : List LogEntry) (fl : Option Nat) (v : LogEntry), victim ring fl = some v → v ∈ ring ∧
      (∀ f, fl = some f → (∃ e ∈ ring, e.seq ≤ f) → v.seq ≤ f) ∧
      ((∀ f, fl = some f → ∀ e ∈ ring, f < e.seq) → ∀ k, k < 3 → (∃ e ∈ ring, e.sev = k) → v.sev ≤ k)) ∧
    (s.sys.hearthDown = true → ∀ c, c = Instr.logEntry ∨ c = .logFlush ∨ c = .logFetchComplete ∨ c = .telemetryReport true →
      exec c s = .next s.begun) ∧
    (s.log.reports = [] → exec .logEntry s = .next s.begun) ∧
    (∀ r rest, s.log.reports = r :: rest → s.sys.hearthDown = false →
      let e : LogEntry := { seq := s.log.next, sev := r.sev, words := logWords s.log.next r }
      (s.log.ring.length < 8192 → ∃ t, exec .logEntry s = .next t ∧ t.log = { s.log with
        reports := rest, ring := s.log.ring ++ [e], next := s.log.next + 1, wasFull := false,
        telemetry := if rdF s (HTH + 0x43) 1 0 ≤ r.sev then s.log.telemetry ++ [s.log.next] else s.log.telemetry } ∧
        rd t (HTH + 0x40) = wd s.log.next) ∧
      (8192 ≤ s.log.ring.length → ∀ v, victim s.log.ring s.log.flashed = some v → ∃ t, exec .logEntry s = .next t ∧
        t.log.ring = s.log.ring.filter (fun x => x.seq != v.seq) ++ [e] ∧ t.log.wasFull = true ∧
        rdF t (HTH + 0x44) 35 24 = min 4095 (rdF s (HTH + 0x44) 35 24 + 1) ∧
        t.log.reports.length = rest.length + (if s.log.wasFull then 0 else 1))) ∧
    (s.log.tokens = 0 ∨ flashFree s = false → exec .logFlush s = .next s.begun) ∧
    (let after (e : LogEntry) : Bool := match s.log.flashed with
       | some f => f < e.seq
       | none => true
     flashFree s = true → s.log.tokens ≠ 0 →
      (s.log.ring.find? after = none → exec .logFlush s = .next s.begun) ∧
      (∀ e, s.log.ring.find? after = some e → ∃ t, exec .logFlush s = .next t ∧ t.log.flashed = some e.seq ∧
        t.log.writePos = (s.log.writePos + 1) % 244736 ∧ t.log.tokens = s.log.tokens - 1 ∧ t.log.ring = s.log.ring ∧
        (s.log.writePos % 64 ≠ 0 → t.flash = { s.flash with log := sparsePut s.flash.log s.log.writePos (logRecord e.words) }) ∧
        (s.log.writePos % 64 = 0 → ∀ x ∈ t.flash.log, x = (s.log.writePos, logRecord e.words) ∨
          x ∈ s.flash.log ∧ x.1 / 64 ≠ (s.log.writePos / 64 + 1) % 3824))) ∧
    (∀ m q, stagedOf s m = none → (m ≤ 1 → ∃ t, exec (.hthLogSel m q) s = .next t ∧ t.log = { s.log with fetching := true } ∧ rd t (HTH + 0x48) = wd q ∧
        rdF t (HTH + 0x49) 35 34 = 0 ∧ SameBut s t [HTH + 0x48, HTH + 0x49]) ∧
      (1 < m → ∃ t, exec (.hthLogSel m q) s = .next t ∧ t.log.fetching = s.log.fetching ∧ SameBut s t [XBR, XBR + 1, XBR + 2])) ∧
    (s.log.fetching = false → exec .logFetchComplete s = .next s.begun) ∧
    (s.log.fetching = true → s.sys.hearthDown = false →
      (∀ ws, findEntry s (rd s (HTH + 0x48)).toNat = some ws → ws.length = 8 → ∃ t, exec .logFetchComplete s = .next t ∧
        t.log = { s.log with fetching := false } ∧ rdF t (HTH + 0x49) 35 34 = 3 ∧ ∀ k, k < 8 → rd t (HTH + 0x50 + k) = ws.getD k 0) ∧
      (findEntry s (rd s (HTH + 0x48)).toNat = none → ∃ t, exec .logFetchComplete s = .next t ∧
        t.log = { s.log with fetching := false } ∧ rdF t (HTH + 0x49) 35 34 = 2 ∧ ∀ k, k < 8 → rd t (HTH + 0x50 + k) = 0)) ∧
    (counting s = true → s.sys.hearthDown = false → rdF s (HTH + 0x60) 15 0 ≠ 0 → keyZero s ≠ none →
      (∃ t, exec (.telemetryReport true) s = .next t ∧ t.hth = { s.hth with report := s.hth.report + 1 } ∧
        t.log = { s.log with telemetry := if (rdF s (HTH + 0x60) 20 16).testBit 3 then s.log.telemetry.drop 32 else s.log.telemetry }) ∧
      (∃ t, exec (.telemetryReport false) s = .next t ∧ t.hth = { s.hth with report := s.hth.report + 1 } ∧ t.log = s.log ∧
        t.macs = s.macs ∧ rdF t (HTH + 0x44) 23 12 = min 4095 (rdF s (HTH + 0x44) 23 12 + 1) ∧ SameBut s t [HTH + 0x44])) ∧
    (rdF s (HTH + 0x60) 15 0 = 0 ∨ keyZero s = none → ∀ c, exec (.telemetryReport c) s = .next s.begun)

/-- The update commands: who may give them, and what each leaves in flash, fuses and status. From another master an update command changes
neither flash nor fuses; in LOAD it shows a wrong state, with a wrong key BAD_KEY; while one is in progress another is discarded and
counted. BEGIN opens the slot that is not committed and refuses the other. WRITE programs its pages into that slot alone, once each since
BEGIN, and refuses bad lengths and offsets; a failing page ends it. VERIFY passes or fails with nothing written, discards a staged host
image in HOLD and never passes a blank slot. COMMIT appends a record for the verified slot and saves the lifetime record; without a
verified slot it is refused. FUSE_ADVANCE raises the anti-rollback count to the image's version and blows the floor fuses; it stops at the
first fuse that does not read back. A WRITE, VERIFY or FUSE_ADVANCE that a further command may interrupt shows BUSY; with no command
waiting a WRITE goes on by a page. ABORT clears the verification, and ends a WRITE in progress after its current page. Choices of the model
here: log entries 55 (how update commands take time) and 56 (a WRITE that names no slot it may write). (R80, R83, R511, R533, R534, R535,
R536, R537, R539, R545) -/
def Obligations.UpdatesGoThroughTheirSlots : Prop :=

  ∀ (s : State) (m key slot : Nat) (r : FlashRun) (v : VerifyRun) (u : FuseRun) (tos : List (Nat × Nat)), s.memOk = true → stagedOf s m = none →
    let shows (t : State) (code st : Nat) := rdF t (HTH + 0x73) 7 4 = code ∧ rdF t (HTH + 0x73) 3 0 = st
    let kept (t : State) := t.flash = s.flash ∧ t.otp = s.otp
    let open' := s.sys.state = .hold ∨ s.sys.state = .armed ∨ s.sys.state = .run ∨ s.sys.state = .safe
    (∀ e ∈ [(1, Instr.updBegin m key slot), (2, .updateWrite m key r), (3, .updVerify m key v), (4, .updCommit m key),
        (5, .updAbort m key), (6, .fuseAdvance m key u)],
      (m ≠ 1 → ∃ t, exec e.2 s = .next t ∧ kept t ∧ SameBut s t [XBR, XBR + 1, XBR + 2]) ∧
      (m = 1 → s.hth.job.isSome = true → e.1 ≠ 5 ∨ key % 4096 ≠ 0xC0C → ∃ t, exec e.2 s = .next t ∧ kept t ∧ t.hth = s.hth ∧
        SameBut s t [HTH + 0x73] ∧ rdF t (HTH + 0x73) 35 28 = min 255 (rdF s (HTH + 0x73) 35 28 + 1)) ∧
      (m = 1 → s.hth.job = none →
        (s.sys.state = .load → ∃ t, exec e.2 s = .next t ∧ kept t ∧ shows t e.1 3) ∧
        (open' → key % 4096 ≠ 0xC0C → ∃ t, exec e.2 s = .next t ∧ kept t ∧ t.hth = s.hth ∧ shows t e.1 4) ∧
        (s.sys.state ≠ .load → ¬ open' → exec e.2 s = .next s.begun))) ∧
    (m = 1 → open' → key % 4096 = 0xC0C → s.hth.job = none → s.sys.busyCmd ≠ 1 →
      (committedSlot s = some (slot % 2) → ∃ t, exec (.updBegin m key slot) s = .next t ∧ kept t ∧ t.hth = s.hth ∧ shows t 1 6) ∧
      (committedSlot s ≠ some (slot % 2) → ∃ t, exec (.updBegin m key slot) s = .next t ∧ kept t ∧ shows t 1 2 ∧
        rdF t (HTH + 0x73) 19 18 = 0 ∧
        t.hth = { s.hth with beginSlot := some (slot % 2), written := [], erased := [], verified := none }) ∧
      (s.hth.beginSlot = none → (∃ t, exec (.updateWrite m key r) s = .next t ∧ kept t ∧ shows t 2 6) ∧
        ∃ t, exec (.updVerify m key v) s = .next t ∧ kept t ∧ shows t 3 6) ∧
      (∀ k, s.hth.beginSlot = some k → committedSlot s ≠ some k →
        let p0 := rdF s (HTH + 0x71) 24 0 / 256
        let len := rdF s (HTH + 0x72) 24 0
        let n := (len + 255) / 256
        (rdF s (HTH + 0x71) 24 0 % 256 ≠ 0 ∨ len = 0 ∨ 16384 < len → ∃ t, exec (.updateWrite m key r) s = .next t ∧ kept t ∧ shows t 2 5) ∧
        (rdF s (HTH + 0x71) 24 0 % 256 = 0 → 0 < len → len ≤ 16384 → 256 * p0 + len ≤ 16777216 →
          ((∃ i, i < n ∧ p0 + i ∈ s.hth.written) → ∃ t, exec (.updateWrite m key r) s = .next t ∧ kept t ∧ shows t 2 5) ∧
          ((∀ i, i < n → p0 + i ∉ s.hth.written) →
            (∃ t, exec (.updateWrite m key { fail := none, upTo := none }) s = .next t ∧ shows t 2 2 ∧ t.otp = s.otp ∧
              t.hth.verified = none ∧ t.hth.job = none ∧ t.hth.written = s.hth.written ++ (List.range n).map (fun i => p0 + i) ∧
              (∀ e ∈ t.flash.pages, e ∈ s.flash.pages ∨ e.1 / 65536 = k) ∧
              (∀ e ∈ s.flash.pages, e.1 / 65536 ≠ k → e ∈ t.flash.pages) ∧
              (n = 1 → sparseGet (fun _ => []) t.flash.pages (65536 * k + p0) = updBytes s len ++ List.replicate (256 - len) 0xFF)) ∧
            (∃ t, exec (.updateWrite m key { fail := some 0, upTo := none }) s = .next t ∧ kept t ∧ shows t 2 9 ∧ t.hth.job = none) ∧
            ∃ t, exec (.updateWrite m key { fail := r.fail, upTo := some 0 }) s = .next t ∧ kept t ∧ shows t 2 1 ∧
              t.hth.job = some (.write k p0 (updBytes s len) r.fail 0)))) ∧
      (∀ k, s.hth.beginSlot = some k →
        (∃ t, exec (.updVerify m key { timeouts := tos, waits := false }) s = .next t ∧ kept t ∧ t.hth.job = none ∧
          (shows t 3 2 ∧ t.hth.verified = some k ∨ shows t 3 8 ∧ t.hth.verified = none) ∧
          ((∀ e ∈ s.flash.pages, e.1 / 65536 ≠ k) → shows t 3 8) ∧
          (s.sys.state = .hold → rd t (HPT + 3) = 0 ∧ t.img.stagedDiscard = true)) ∧
        ∃ t, exec (.updVerify m key { timeouts := tos, waits := true }) s = .next t ∧ kept t ∧ shows t 3 1 ∧ t.hth.verified = none ∧
          t.hth.job = some (.verify k tos)) ∧
      (s.hth.verified = none → ∃ t, exec (.updCommit m key) s = .next t ∧ kept t ∧ shows t 4 7) ∧
      (∀ k, s.hth.verified = some k →
        let q := match latestCommit s.flash with
          | none => 1
          | some c => commitSeq c + 1
        let sec := (q - 1) / 32 % 2
        let old := if (q - 1) % 32 = 0 then s.flash.commits.filter (fun e => e.1 / 32 != sec) else s.flash.commits
        ∃ t, exec (.updCommit m key) s = .next t ∧ shows t 4 2 ∧ t.life.snapSeq = s.life.snapSeq + 1 ∧ t.otp = s.otp ∧
          t.flash.pages = s.flash.pages ∧ t.flash.commits = sparsePut old (32 * sec + (q - 1) % 32)
            (commitBytes q k s.hth.verLen s.hth.verSec s.hth.verDigest s.cocoon.calSec)) ∧
      (∃ t, exec (.updAbort m key) s = .next t ∧ kept t ∧ t.hth = { s.hth with verified := none } ∧ shows t 5 2) ∧
      (let may := (s.sys.state = .armed ∨ s.sys.state = .run) ∧ committedSlot s = some s.img.slot ∧ s.otp.rollback < s.img.secVer ∧
         vdd1Ok s = true
       let n := s.img.secVer - s.otp.rollback
       let f := floorFuses s
       (¬ may → ∃ t, exec (.fuseAdvance m key u) s = .next t ∧ kept t ∧ shows t 6 6) ∧
       (may → n + f ≤ 128 →
         (∃ t, exec (.fuseAdvance m key { good := u.good, upTo := some 0 }) s = .next t ∧ kept t ∧ shows t 6 1 ∧
           t.hth.job = some (.fuses n f u.good 0)) ∧
         (n + f ≤ u.good → ∃ t, exec (.fuseAdvance m key { good := u.good, upTo := none }) s = .next t ∧ shows t 6 2 ∧ t.hth.job = none ∧
           t.otp = { s.otp with rollback := min 64 s.img.secVer, floorBlown := s.otp.floorBlown + f }) ∧
         (u.good < n + f → ∃ t, exec (.fuseAdvance m key { good := u.good, upTo := none }) s = .next t ∧ shows t 6 9 ∧ t.hth.job = none ∧
           t.otp = { s.otp with
             rollback := if u.good = 0 then s.otp.rollback else min 64 (s.otp.rollback + min u.good n),
             floorBlown := s.otp.floorBlown + (u.good - n) })))) ∧
    (∀ k p0 data i, s.hth.job = some (.write k p0 data none i) → s.sys.busyCmd ≠ 1 → flashFree s = true →
      (open' → key % 4096 = 0xC0C → m = 1 → ∃ t, exec (.updAbort m key) s = .next t ∧ shows t 5 2 ∧ t.hth.job = none ∧ t.hth.verified = none ∧
        t.hth.written = s.hth.written ++ [p0 + i]) ∧
      (s.pending = [] → s.drc.queue = [] → ∃ t, step s = .next t ∧ t.hth.written = s.hth.written ++ [p0 + i] ∧
        t.hth.job = (if data.length ≤ 256 * (i + 1) then none else some (.write k p0 data none (i + 1)))))

/-- Challenges, signed commands, tamper latches, the random source and attestation. CHALLENGE draws a nonce, shows the challenge and
replaces the old one; it lapses. A SUBMIT by another master changes no security state. Any of the host's consumes the challenge; with a
wrong key it fails with 9, without a challenge with 3, else in the order signer (4), signature (5), state (6), condition (7), fuse (8), each
counted and blowing nothing, or it has the effect of its purpose: a fuse, the debug level, a cold reset or the cleared latches (the order,
and the answer of a CHALLENGE without a random source, are the model's choice: log entry 91). ENROLL_OWNER needs no signer while every
owner slot is empty. TAMPER latches while armed at a filtered level of LEVEL, and with LOCKOUT in RUN erases the derived keys; a stopped
crystal latches once; a failed random source stops challenges and attestation but nothing else. Attestation shows its signed report. (R541,
R542, R551, R553, R554, R555, R556, R557, R558) -/
def Obligations.SignedCommandsAnswerTheirChallenge : Prop :=

  ∀ (s : State) (m key purpose arg slot n : Nat) (ok b : Bool) (runs : List (Bool × Nat)), s.memOk = true →
    stagedOf s m = none → stagedOf s 1 = none →
    let shows (t : State) (code : Nat) := rd t (SEC + 0x31) = wd code
    let outside (t : State) := t.sec = s.sec ∧ t.otp = s.otp ∧ SameBut s t [XBR, XBR + 1, XBR + 2]
    let failed (t : State) (code : Nat) := shows t code ∧ t.otp = s.otp ∧ t.sec = { s.sec with challenge := none } ∧ t.cocoon = s.cocoon ∧
      rdF t (SEC + 0x18) 35 24 = min 4095 (rdF s (SEC + 0x18) 35 24 + 1)
    let level := s.cocoon.tamperCfg.testBit 14
    (m ≠ 1 → (∃ t, exec (.challenge m key purpose arg) s = .next t ∧ outside t) ∧ ∃ t, exec (.attestation m slot) s = .next t ∧ outside t) ∧
    (key % 4096 ≠ 0xC0C → ∃ t, exec (.challenge 1 key purpose arg) s = .next t ∧ t.sec = s.sec ∧ shows t 9) ∧
    (key % 4096 = 0xC0C →
      (s.sec.rngOk = false → ∃ t, exec (.challenge 1 key purpose arg) s = .next t ∧ t.sec = s.sec ∧ shows t 7) ∧
      (s.sec.rngOk = true → ∃ t n, exec (.challenge 1 key purpose arg) s = .next t ∧ n < 2 ^ 256 ∧
        t.sec = { s.sec with challenge := some (n, purpose % 16, arg % 256) } ∧ shows t 2 ∧
        ∀ k, k < 12 → rd t (SEC + 0x20 + k) = (packBytes (challengeBytes n (purpose % 16) (arg % 256)) 12).getD k 0)) ∧
    exec .challengeExpiry s = .next { s.begun with sec := { s.sec with challenge := none } } ∧
    (∀ e ∈ [(Instr.enrollOwner m key ok, ok), (.revokeOwner m key ok, ok), (.debugObserve m key, true), (.debugFull m key ok, ok),
        (.clearTamper m key, true), (.revokeVendor m key ok, ok), (.hostImageDis m key ok, ok)],
      (m ≠ 1 → ∃ t, exec e.1 s = .next t ∧ outside t) ∧
      (m = 1 → key % 4096 ≠ 0xC0C → ∃ t, exec e.1 s = .next t ∧ failed t 9) ∧
      (m = 1 → key % 4096 = 0xC0C → s.sec.challenge = none → ∃ t, exec e.1 s = .next t ∧ failed t 3) ∧
      (m = 1 → key % 4096 = 0xC0C → ∀ nonce pu a, s.sec.challenge = some (nonce, pu, a) →
        let r := respBytes s
        let hash := (r.drop 100).take 48
        let signer := noSigner s pu || signerOk s pu (Config.sha384 (r.take 97))
        let signature := noSigner s pu ||
          Config.ecdsaOk (r.take 97) (Config.sha384 (challengeBytes nonce pu a ++ hash)) ((r.drop 148).take 96)
        ∃ t, exec e.1 s = .next t ∧ t.sec.challenge = none ∧
          (if signer = false then failed t 4
           else if signature = false then failed t 5
           else if purposeState s pu = false then failed t 6
           else if purposeCond s pu a = false then failed t 7
           else if blowsFuse pu = true ∧ e.2 = false then failed t 8
           else (pu = 1 → t.otp = blow s.otp (.owner a (beNat hash)) ∧ shows t 2) ∧
             (pu = 2 → t.otp = blow s.otp (.revokeOwner a) ∧ shows t 2) ∧
             (pu = 3 → t.otp = s.otp ∧ t.sec.debug = max s.sec.debug 1 ∧ shows t 2) ∧
             (pu = 4 → t.otp = { s.otp with vendorDebugged := true } ∧ t.sys.state = .reset) ∧
             (pu = 5 → t.otp = s.otp ∧ t.cocoon = { s.cocoon with tamper := false, calStop := false, vbatLost := false } ∧ shows t 2) ∧
             (pu = 6 → t.otp = blow s.otp (.revokeVendor a) ∧ shows t 2) ∧
             (pu = 7 → t.otp = { s.otp with hostImageDis := true } ∧ shows t 2)))) ∧
    (∀ nonce a, key % 4096 = 0xC0C →
      (Answers s nonce 2 a → ∃ t, exec (.revokeOwner 1 key true) s = .next t ∧ shows t 2 ∧ t.otp = blow s.otp (.revokeOwner a)) ∧
      (Answers s nonce 3 a → ∃ t, exec (.debugObserve 1 key) s = .next t ∧ shows t 2 ∧ t.otp = s.otp ∧
        t.sec = { s.sec with challenge := none, debug := max s.sec.debug 1 }) ∧
      (Answers s nonce 4 a → ∃ t, exec (.debugFull 1 key true) s = .next t ∧ t.otp = { s.otp with vendorDebugged := true } ∧
        t.sys.state = .reset) ∧
      (Answers s nonce 5 a → ∃ t, exec (.clearTamper 1 key) s = .next t ∧ shows t 2 ∧ t.otp = s.otp ∧
        t.cocoon = { s.cocoon with tamper := false, calStop := false, vbatLost := false }) ∧
      (Answers s nonce 6 a → ∃ t, exec (.revokeVendor 1 key true) s = .next t ∧ shows t 2 ∧ t.otp = blow s.otp (.revokeVendor a)) ∧
      (Answers s nonce 7 a → ∃ t, exec (.hostImageDis 1 key true) s = .next t ∧ shows t 2 ∧ t.otp = { s.otp with hostImageDis := true })) ∧
    (∀ nonce a, key % 4096 = 0xC0C → s.sec.challenge = some (nonce, 1, a) → s.otp.ownerActive = 0 → s.otp.ownerRevoked = 0 → a < 4 →
      vdd1Ok s = true → s.sys.state = .armed → ∃ t, exec (.enrollOwner 1 key true) s = .next t ∧ shows t 2 ∧
        ownerIsActive t a = true ∧ t.sec = { s.sec with challenge := none }) ∧
    (s.cocoon.tamperCfg.testBit 15 = false ∨ s.sys.state = .off → exec (.tamper runs) s = .next s.begun) ∧
    (s.cocoon.tamperCfg.testBit 15 = true → s.sys.state ≠ .off →
      (∃ t, exec (.tamper runs) s = .next t ∧ (s.cocoon.tamper = true → t.cocoon.tamper = true)) ∧
      (n ≠ 0 → ∃ t, exec (.tamper [(b, n)]) s = .next t ∧
        t.cocoon.tamper = (s.cocoon.tamper || (pinOf s 18).filt == level || (pinOf t 18).filt == level) ∧
        (s.cocoon.tamper = false → t.cocoon.tamper = true → s.cocoon.tamperCfg.testBit 13 = true → s.sys.state = .run → t.sec.keys = []))) ∧
    (s.sys.state ≠ .off → s.cocoon.calStop = false → ∃ t, exec .calStop s = .next t ∧ t.cocoon.calStop = true ∧ t.mem = s.mem ∧
      (s.sys.rails = true → t.life.ctr = sparseSet (fun _ => 0) s.life.ctr 24 (min (2 ^ 36 - 1) (lifeGet s 24 + 1)))) ∧
    (s.cocoon.calStop = true → exec .calStop s = .next s.begun) ∧
    (∃ t, exec .rngFail s = .next t ∧ t.sec = { s.sec with rngOk := false } ∧ t.sys = s.sys ∧ t.qch = s.qch ∧
      t.log.reports.length = s.log.reports.length + 1) ∧
    (s.sec.rngOk = false → ∃ t, exec (.attestation 1 slot) s = .next t ∧ rd t (SEC + 0x98) = wd (slot % 4) ∧ SameBut s t [SEC + 0x98]) ∧
    (s.sec.rngOk = true → ∃ t, exec (.attestation 1 slot) s = .next t ∧ rd t (SEC + 0x98) = wd (2 ^ 34 + slot % 4) ∧
      rdF t (SEC + 0x18) 11 0 = min 4095 (rdF s (SEC + 0x18) 11 0 + 1) ∧
      ∀ k, k < 96 → rd t (SEC + 0x100 + k) = (packBytes (attestBytes s (slot % 4) ++
        Config.ecdsaSign Config.otpRoot Config.otpSerial (Config.sha384 (attestBytes s (slot % 4)))) 96).getD k 0)

/-- A step takes the command at the front of the queue; with none waiting the block goes on by itself (model's choice, log entry 1). With a
command at the front of its queue the block's step is that command's exec on the state whose queue is the rest. With an empty queue the
step is the model's own choice (log entries 1, 55 and 89): the DRAM channels issue what waits, a running update command goes on, and the
calendar's crystal runs one cycle; where neither a DRAM request nor an update command waits, in OFF nothing happens, and elsewhere the
calendar's fraction and the count of cycles advance, and at a full second the seconds. (R527) -/
def Obligations.AStepRunsTheFrontCommand : Prop :=

  (∀ (c : Instr) (rest : List Instr) (s : State), step { s with pending := c :: rest } = exec c { s with pending := rest }) ∧
  (∀ s : State, s.pending = [] → step s = .next (s.begun.after (seq [serveQueues, jobIdle, calendarTick])) ∧
    (s.drc.queue = [] → s.hth.job = none →
      (s.sys.state = .off → step s = .next s.begun) ∧
      (s.sys.state ≠ .off → s.cocoon.calSub + 1 < 32768 →
        step s = .next { s.begun with
          cocoon := { s.cocoon with calSub := s.cocoon.calSub + 1 }, sys := { s.sys with cycles := s.sys.cycles + 1 } }) ∧
      (s.sys.state ≠ .off → 32768 ≤ s.cocoon.calSub + 1 → ∃ t, step s = .next t ∧
        t.cocoon = { s.cocoon with calSub := 0, calSec := (s.cocoon.calSec + 1) % 2 ^ 48 } ∧
        t.sys = { s.sys with cycles := s.sys.cycles + 1 })))

/-- After reset the memory is canonical, no role is held, nothing waits, and any command runs from there. The state after reset meets
the invariants that every step keeps: its memory is in canonical form (it lists nothing), no role is held, no command waits, the
device is in RESET; a command put at the front of the queue is what the next step runs. (R57, R65, R66) -/
def Obligations.TheBlockComesOutOfResetSound : Prop :=

  State.reset.memOk = true ∧ State.reset.roleOk = true ∧ State.reset.pending = [] ∧ State.reset.mem = [] ∧
    State.reset.sys.state = .reset ∧ ∀ c : Instr, step (State.reset.withFront c) = exec c State.reset

/-- Every step answers a next state, keeps the memory's canonical form, and removes exactly one command from the queue. From every
state whose memory is canonical a step answers a next state: the block neither faults nor refuses a command. In that next state
the memory is canonical again, and the queue is the old queue without its front command. (R4, R5, R462) -/
def Obligations.EveryStepKeepsTheMemoryAndGoesOn : Prop :=

  ∀ s : State, s.memOk = true → goesOn (step s) = true ∧
    ∀ t, step s = .next t → t.memOk = true ∧ t.pending = s.pending.tail

/-- A blown fuse is never unblown, whatever the step. In every step from every state, each fuse that is blown stays blown: no owner
slot's ACTIVE or REVOKED fuse, no vendor revocation, no anti-rollback or floor count, neither HOST_IMAGE_DIS nor VENDOR_DEBUGGED
goes back. This formalises R541's sentence about blown fuses; the enrolled hash of an active owner slot stays as well. (R541,
R539, R545, R553) -/
def Obligations.BlownFusesStayBlown : Prop :=

  ∀ s t : State, s.otp.rollback ≤ 64 → step s = .next t → fusesKept s.otp t.otp = true ∧ t.otp.rollback ≤ 64 ∧
    ∀ i, s.otp.ownerActive.testBit i = true → sparseWf (fun _ => 0) s.otp.ownerHash = true → ownerHash t i = ownerHash s i
end

