-- ==== Sys2Proof/Laws/Sparse.lean ====
section
/-! SUPPORT. The laws of sparse tables: reading after a write, and the canonical form that every operation keeps. -/
namespace Sys2Proof.Machine
open Sys2Proof

variable {α : Type}

/-- Every key of the table is above `k`. -/
def keysAbove (k : Nat) (t : List (Nat × α)) : Prop := ∀ e ∈ t, k < e.1

/-- The canonical form as a proposition: keys rising, no entry equal to the default. -/
theorem sparseWf_cons [DecidableEq α] (d : Nat → α) (j : Nat) (v : α) (r : List (Nat × α)) :
    sparseWf d ((j, v) :: r) = true ↔ v ≠ d j ∧ keysAbove j r ∧ sparseWf d r = true := by
  induction r generalizing j v with
  | nil => simp [sparseWf, keysAbove]
  | cons e r ih =>
    obtain ⟨k, w⟩ := e
    rw [sparseWf]
    simp only [Bool.and_eq_true, decide_eq_true_eq]
    constructor
    · rintro ⟨⟨h1, h2⟩, h3⟩
      refine ⟨h1, ?_, h3⟩
      intro e he
      rcases List.mem_cons.1 he with h | h
      · simpa [h] using h2
      · exact Nat.lt_trans h2 (((ih k w).1 h3).2.1 e h)
    · rintro ⟨h1, h2, h3⟩
      exact ⟨⟨h1, h2 (k, w) (by simp)⟩, h3⟩

theorem sparseGet_above (d : Nat → α) (t : List (Nat × α)) (k : Nat) (h : keysAbove k t) : sparseGet d t k = d k := by
  cases t with
  | nil => rfl
  | cons e r =>
    obtain ⟨j, v⟩ := e
    have hj : k < j := h (j, v) (by simp)
    simp [sparseGet, hj, Nat.ne_of_gt hj]

theorem sparseGet_put_same (d : Nat → α) (t : List (Nat × α)) (k : Nat) (v : α) : sparseGet d (sparsePut t k v) k = v := by
  induction t with
  | nil => simp [sparsePut, sparseGet]
  | cons e r ih =>
    obtain ⟨j, w⟩ := e
    simp only [sparsePut]
    split
    · simp [sparseGet]
    · split
      · simp [sparseGet]
      · simp [sparseGet, *]

theorem sparseGet_put_other (d : Nat → α) (t : List (Nat × α)) (k j : Nat) (v : α) (h : j ≠ k) :
    sparseGet d (sparsePut t k v) j = sparseGet d t j := by
  induction t with
  | nil =>
    simp only [sparsePut, sparseGet]
    split <;> simp_all
  | cons e r ih =>
    obtain ⟨i, w⟩ := e
    simp only [sparsePut]
    split
    · subst_vars; simp [sparseGet, Ne.symm h]
    · split
      · simp only [sparseGet]
        repeat' split
        all_goals first | rfl | omega
      · simp only [sparseGet, ih]

theorem sparseGet_drop_same [DecidableEq α] (d : Nat → α) (t : List (Nat × α)) (k : Nat) (h : sparseWf d t = true) :
    sparseGet d (sparseDrop t k) k = d k := by
  induction t with
  | nil => rfl
  | cons e r ih =>
    obtain ⟨j, v⟩ := e
    obtain ⟨-, ha, hr⟩ := (sparseWf_cons d j v r).1 h
    simp only [sparseDrop]
    split
    · subst_vars; exact sparseGet_above d r _ ha
    · split
      · simp [sparseGet, *]
      · simp [sparseGet, *]

theorem sparseGet_drop_other [DecidableEq α] (d : Nat → α) (t : List (Nat × α)) (k j : Nat) (h : sparseWf d t = true)
    (hj : j ≠ k) : sparseGet d (sparseDrop t k) j = sparseGet d t j := by
  induction t with
  | nil => rfl
  | cons e r ih =>
    obtain ⟨i, v⟩ := e
    obtain ⟨-, ha, hr⟩ := (sparseWf_cons d i v r).1 h
    simp only [sparseDrop]
    split
    · subst_vars
      simp only [sparseGet, Ne.symm hj, if_false]
      split
      · exact sparseGet_above d r j (fun e he => by have := ha e he; omega)
      · rfl
    · split
      · rfl
      · simp only [sparseGet, ih hr]

/-- Reading the key that was written gives the value written. -/
theorem sparseGet_set_same [DecidableEq α] (d : Nat → α) (t : List (Nat × α)) (k : Nat) (v : α) (h : sparseWf d t = true) :
    sparseGet d (sparseSet d t k v) k = v := by
  simp only [sparseSet]
  split
  · simp_all [sparseGet_drop_same]
  · exact sparseGet_put_same d t k v

/-- A write leaves every other key as it was. -/
theorem sparseGet_set_other [DecidableEq α] (d : Nat → α) (t : List (Nat × α)) (k j : Nat) (v : α) (h : sparseWf d t = true)
    (hj : j ≠ k) : sparseGet d (sparseSet d t k v) j = sparseGet d t j := by
  simp only [sparseSet]
  split
  · exact sparseGet_drop_other d t k j h hj
  · exact sparseGet_put_other d t k j v hj

theorem keysAbove_drop (t : List (Nat × α)) (j k : Nat) (h : keysAbove j t) : keysAbove j (sparseDrop t k) := by
  induction t with
  | nil => exact h
  | cons e r ih =>
    obtain ⟨i, v⟩ := e
    have hr : keysAbove j r := fun e he => h e (List.mem_cons_of_mem _ he)
    simp only [sparseDrop]
    split
    · exact hr
    · split
      · exact h
      · intro e he
        rcases List.mem_cons.1 he with rfl | he
        · exact h _ (by simp)
        · exact ih hr e he

theorem keysAbove_put (t : List (Nat × α)) (j k : Nat) (v : α) (h : keysAbove j t) (hk : j < k) :
    keysAbove j (sparsePut t k v) := by
  induction t with
  | nil => intro e he; simp [sparsePut] at he; simpa [he] using hk
  | cons e r ih =>
    obtain ⟨i, w⟩ := e
    have hi : j < i := h (i, w) (by simp)
    have hr : keysAbove j r := fun e he => h e (List.mem_cons_of_mem _ he)
    simp only [sparsePut]
    split
    · intro e he
      rcases List.mem_cons.1 he with rfl | he
      · exact hk
      · exact hr e he
    · split
      · intro e he
        rcases List.mem_cons.1 he with rfl | he
        · exact hk
        · exact h e he
      · intro e he
        rcases List.mem_cons.1 he with rfl | he
        · exact hi
        · exact ih hr e he

theorem sparseWf_drop [DecidableEq α] (d : Nat → α) (t : List (Nat × α)) (k : Nat) (h : sparseWf d t = true) :
    sparseWf d (sparseDrop t k) = true := by
  induction t with
  | nil => exact h
  | cons e r ih =>
    obtain ⟨j, v⟩ := e
    obtain ⟨hv, ha, hr⟩ := (sparseWf_cons d j v r).1 h
    simp only [sparseDrop]
    split
    · exact hr
    · split
      · exact h
      · exact (sparseWf_cons d j v _).2 ⟨hv, keysAbove_drop r j k ha, ih hr⟩

theorem sparseWf_put [DecidableEq α] (d : Nat → α) (t : List (Nat × α)) (k : Nat) (v : α) (h : sparseWf d t = true)
    (hv : v ≠ d k) : sparseWf d (sparsePut t k v) = true := by
  induction t with
  | nil => simpa [sparsePut, sparseWf] using hv
  | cons e r ih =>
    obtain ⟨j, w⟩ := e
    obtain ⟨hw, ha, hr⟩ := (sparseWf_cons d j w r).1 h
    simp only [sparsePut]
    split
    · subst_vars; exact (sparseWf_cons d _ v r).2 ⟨hv, ha, hr⟩
    · split
      · rename_i h1 h2
        refine (sparseWf_cons d k v _).2 ⟨hv, ?_, h⟩
        intro e he
        rcases List.mem_cons.1 he with rfl | he
        · exact h2
        · exact Nat.lt_trans h2 (ha e he)
      · exact (sparseWf_cons d j w _).2 ⟨hw, keysAbove_put r j k v ha (by omega), ih hr⟩

/-- A write keeps the canonical form. -/
theorem sparseWf_set [DecidableEq α] (d : Nat → α) (t : List (Nat × α)) (k : Nat) (v : α) (h : sparseWf d t = true) :
    sparseWf d (sparseSet d t k v) = true := by
  simp only [sparseSet]
  split
  · exact sparseWf_drop d t k h
  · exact sparseWf_put d t k v h ‹_›

/-- Leaving entries out keeps the canonical form. -/
theorem sparseWf_filter [DecidableEq α] (d : Nat → α) (t : List (Nat × α)) (p : Nat × α → Bool) (h : sparseWf d t = true) :
    sparseWf d (t.filter p) = true := by
  induction t with
  | nil => rfl
  | cons e r ih =>
    obtain ⟨j, v⟩ := e
    obtain ⟨hv, ha, hr⟩ := (sparseWf_cons d j v r).1 h
    rw [List.filter_cons]
    split
    · exact (sparseWf_cons d j v _).2 ⟨hv, fun e he => ha e (List.mem_filter.1 he).1, ih hr⟩
    · exact ih hr

/-- Two tables in canonical form that read alike are equal data. -/
theorem sparse_ext [DecidableEq α] (d : Nat → α) (t u : List (Nat × α)) (ht : sparseWf d t = true) (hu : sparseWf d u = true)
    (h : ∀ k, sparseGet d t k = sparseGet d u k) : t = u := by
  induction t generalizing u with
  | nil =>
    cases u with
    | nil => rfl
    | cons e r =>
      obtain ⟨j, v⟩ := e
      have := ((sparseWf_cons d j v r).1 hu).1
      have h' := h j
      simp [sparseGet] at h'
      exact absurd h'.symm this
  | cons e r ih =>
    obtain ⟨j, v⟩ := e
    obtain ⟨hv, ha, hr⟩ := (sparseWf_cons d j v r).1 ht
    cases u with
    | nil =>
      have h' := h j
      simp [sparseGet] at h'
      exact absurd h' hv
    | cons e' r' =>
      obtain ⟨k, w⟩ := e'
      obtain ⟨hw, hb, hr'⟩ := (sparseWf_cons d k w r').1 hu
      have hj := h j
      have hk := h k
      simp only [sparseGet] at hj hk
      have e1 : j = k := by
        by_contra hne
        rcases Nat.lt_or_gt_of_ne hne with hlt | hlt
        · simp [hlt, Ne.symm hne] at hj; exact hv hj
        · simp [hlt, hne] at hk; exact hw hk.symm
      subst e1
      simp at hj
      subst hj
      congr 1
      refine ih r' hr hr' (fun i => ?_)
      by_cases hi : j < i
      · have := h i
        simpa [sparseGet, Nat.ne_of_lt hi, Nat.not_lt_of_gt hi] using this
      · rw [sparseGet_above d r i (fun e he => by have := ha e he; omega),
            sparseGet_above d r' i (fun e he => by have := hb e he; omega)]

end Sys2Proof.Machine
end

