-- ==== Sys2Proof/Laws/State.lean ====
section
/-! SUPPORT. Every field after one effect: one lemma per field per effect, so that no proof unfolds a record update. -/
namespace Sys2Proof.Machine
open Sys2Proof

variable (s : State)

@[simp] theorem mem_mem (a : Nat) (w : Word) : (applyEff s (.mem a w)).mem = sparseSet resetWord s.mem a w := by rfl
@[simp] theorem mem_free (a : Nat) (w : Word) : (applyEff s (.mem a w)).free = s.free := by rfl
@[simp] theorem mem_out (a : Nat) (w : Word) : (applyEff s (.mem a w)).out = s.out := by rfl
@[simp] theorem mem_sys (a : Nat) (w : Word) : (applyEff s (.mem a w)).sys = s.sys := by rfl
@[simp] theorem mem_cocoon (a : Nat) (w : Word) : (applyEff s (.mem a w)).cocoon = s.cocoon := by rfl
@[simp] theorem mem_flash (a : Nat) (w : Word) : (applyEff s (.mem a w)).flash = s.flash := by rfl
@[simp] theorem mem_life (a : Nat) (w : Word) : (applyEff s (.mem a w)).life = s.life := by rfl
@[simp] theorem mem_log (a : Nat) (w : Word) : (applyEff s (.mem a w)).log = s.log := by rfl
@[simp] theorem mem_hth (a : Nat) (w : Word) : (applyEff s (.mem a w)).hth = s.hth := by rfl
@[simp] theorem mem_sec (a : Nat) (w : Word) : (applyEff s (.mem a w)).sec = s.sec := by rfl
@[simp] theorem mem_xbr (a : Nat) (w : Word) : (applyEff s (.mem a w)).xbr = s.xbr := by rfl
@[simp] theorem mem_hpt (a : Nat) (w : Word) : (applyEff s (.mem a w)).hpt = s.hpt := by rfl
@[simp] theorem mem_qch (a : Nat) (w : Word) : (applyEff s (.mem a w)).qch = s.qch := by rfl
@[simp] theorem mem_pins (a : Nat) (w : Word) : (applyEff s (.mem a w)).pins = s.pins := by rfl
@[simp] theorem mem_img (a : Nat) (w : Word) : (applyEff s (.mem a w)).img = s.img := by rfl
@[simp] theorem mem_scene (a : Nat) (w : Word) : (applyEff s (.mem a w)).scene = s.scene := by rfl
@[simp] theorem mem_loc (a : Nat) (w : Word) : (applyEff s (.mem a w)).loc = s.loc := by rfl
@[simp] theorem mem_wav (a : Nat) (w : Word) : (applyEff s (.mem a w)).wav = s.wav := by rfl
@[simp] theorem mem_feeds (a : Nat) (w : Word) : (applyEff s (.mem a w)).feeds = s.feeds := by rfl
@[simp] theorem mem_cru (a : Nat) (w : Word) : (applyEff s (.mem a w)).cru = s.cru := by rfl
@[simp] theorem mem_tpr (a : Nat) (w : Word) : (applyEff s (.mem a w)).tpr = s.tpr := by rfl
@[simp] theorem mem_lan (a : Nat) (w : Word) : (applyEff s (.mem a w)).lan = s.lan := by rfl
@[simp] theorem mem_bel (a : Nat) (w : Word) : (applyEff s (.mem a w)).bel = s.bel := by rfl
@[simp] theorem mem_aud (a : Nat) (w : Word) : (applyEff s (.mem a w)).aud = s.aud := by rfl
@[simp] theorem mem_macs (a : Nat) (w : Word) : (applyEff s (.mem a w)).macs = s.macs := by rfl
@[simp] theorem mem_stm (a : Nat) (w : Word) : (applyEff s (.mem a w)).stm = s.stm := by rfl
@[simp] theorem mem_clk (a : Nat) (w : Word) : (applyEff s (.mem a w)).clk = s.clk := by rfl
@[simp] theorem mem_twn (a : Nat) (w : Word) : (applyEff s (.mem a w)).twn = s.twn := by rfl
@[simp] theorem mem_bad (a : Nat) (w : Word) : (applyEff s (.mem a w)).bad = s.bad.filter (· != a) := by rfl
@[simp] theorem mem_soft (a : Nat) (w : Word) : (applyEff s (.mem a w)).soft = s.soft.filter (· != a) := by rfl
@[simp] theorem mem_flips (a : Nat) (w : Word) : (applyEff s (.mem a w)).flips = sparseDrop s.flips a := by rfl
@[simp] theorem mem_drc (a : Nat) (w : Word) : (applyEff s (.mem a w)).drc = s.drc := by rfl
@[simp] theorem mem_otp (a : Nat) (w : Word) : (applyEff s (.mem a w)).otp = s.otp := by rfl
@[simp] theorem mem_pending (a : Nat) (w : Word) : (applyEff s (.mem a w)).pending = s.pending := by rfl

@[simp] theorem memKeep_mem (k : Nat → Bool) : (applyEff s (.memKeep k)).mem = s.mem.filter (fun c => k c.1) := rfl
@[simp] theorem memKeep_free (k : Nat → Bool) : (applyEff s (.memKeep k)).free = s.free := rfl
@[simp] theorem memKeep_out (k : Nat → Bool) : (applyEff s (.memKeep k)).out = s.out := rfl
@[simp] theorem memKeep_sys (k : Nat → Bool) : (applyEff s (.memKeep k)).sys = s.sys := rfl
@[simp] theorem memKeep_cocoon (k : Nat → Bool) : (applyEff s (.memKeep k)).cocoon = s.cocoon := rfl
@[simp] theorem memKeep_flash (k : Nat → Bool) : (applyEff s (.memKeep k)).flash = s.flash := rfl
@[simp] theorem memKeep_life (k : Nat → Bool) : (applyEff s (.memKeep k)).life = s.life := rfl
@[simp] theorem memKeep_log (k : Nat → Bool) : (applyEff s (.memKeep k)).log = s.log := rfl
@[simp] theorem memKeep_hth (k : Nat → Bool) : (applyEff s (.memKeep k)).hth = s.hth := rfl
@[simp] theorem memKeep_sec (k : Nat → Bool) : (applyEff s (.memKeep k)).sec = s.sec := rfl
@[simp] theorem memKeep_xbr (k : Nat → Bool) : (applyEff s (.memKeep k)).xbr = s.xbr := rfl
@[simp] theorem memKeep_hpt (k : Nat → Bool) : (applyEff s (.memKeep k)).hpt = s.hpt := rfl
@[simp] theorem memKeep_qch (k : Nat → Bool) : (applyEff s (.memKeep k)).qch = s.qch := rfl
@[simp] theorem memKeep_pins (k : Nat → Bool) : (applyEff s (.memKeep k)).pins = s.pins := rfl
@[simp] theorem memKeep_img (k : Nat → Bool) : (applyEff s (.memKeep k)).img = s.img := rfl
@[simp] theorem memKeep_scene (k : Nat → Bool) : (applyEff s (.memKeep k)).scene = s.scene := rfl
@[simp] theorem memKeep_loc (k : Nat → Bool) : (applyEff s (.memKeep k)).loc = s.loc := rfl
@[simp] theorem memKeep_wav (k : Nat → Bool) : (applyEff s (.memKeep k)).wav = s.wav := rfl
@[simp] theorem memKeep_feeds (k : Nat → Bool) : (applyEff s (.memKeep k)).feeds = s.feeds := rfl
@[simp] theorem memKeep_cru (k : Nat → Bool) : (applyEff s (.memKeep k)).cru = s.cru := rfl
@[simp] theorem memKeep_tpr (k : Nat → Bool) : (applyEff s (.memKeep k)).tpr = s.tpr := rfl
@[simp] theorem memKeep_lan (k : Nat → Bool) : (applyEff s (.memKeep k)).lan = s.lan := rfl
@[simp] theorem memKeep_bel (k : Nat → Bool) : (applyEff s (.memKeep k)).bel = s.bel := rfl
@[simp] theorem memKeep_aud (k : Nat → Bool) : (applyEff s (.memKeep k)).aud = s.aud := rfl
@[simp] theorem memKeep_macs (k : Nat → Bool) : (applyEff s (.memKeep k)).macs = s.macs := rfl
@[simp] theorem memKeep_stm (k : Nat → Bool) : (applyEff s (.memKeep k)).stm = s.stm := rfl
@[simp] theorem memKeep_clk (k : Nat → Bool) : (applyEff s (.memKeep k)).clk = s.clk := rfl
@[simp] theorem memKeep_twn (k : Nat → Bool) : (applyEff s (.memKeep k)).twn = s.twn := rfl
@[simp] theorem memKeep_bad (k : Nat → Bool) : (applyEff s (.memKeep k)).bad = s.bad.filter k := rfl
@[simp] theorem memKeep_soft (k : Nat → Bool) : (applyEff s (.memKeep k)).soft = s.soft.filter k := rfl
@[simp] theorem memKeep_flips (k : Nat → Bool) : (applyEff s (.memKeep k)).flips = s.flips.filter (fun c => k c.1) := rfl
@[simp] theorem memKeep_drc (k : Nat → Bool) : (applyEff s (.memKeep k)).drc = s.drc := rfl
@[simp] theorem memKeep_otp (k : Nat → Bool) : (applyEff s (.memKeep k)).otp = s.otp := rfl
@[simp] theorem memKeep_pending (k : Nat → Bool) : (applyEff s (.memKeep k)).pending = s.pending := rfl

@[simp] theorem fuse_mem (f : Fuse) : (applyEff s (.fuse f)).mem = s.mem := rfl
@[simp] theorem fuse_free (f : Fuse) : (applyEff s (.fuse f)).free = s.free := rfl
@[simp] theorem fuse_out (f : Fuse) : (applyEff s (.fuse f)).out = s.out := rfl
@[simp] theorem fuse_sys (f : Fuse) : (applyEff s (.fuse f)).sys = s.sys := rfl
@[simp] theorem fuse_cocoon (f : Fuse) : (applyEff s (.fuse f)).cocoon = s.cocoon := rfl
@[simp] theorem fuse_flash (f : Fuse) : (applyEff s (.fuse f)).flash = s.flash := rfl
@[simp] theorem fuse_life (f : Fuse) : (applyEff s (.fuse f)).life = s.life := rfl
@[simp] theorem fuse_log (f : Fuse) : (applyEff s (.fuse f)).log = s.log := rfl
@[simp] theorem fuse_hth (f : Fuse) : (applyEff s (.fuse f)).hth = s.hth := rfl
@[simp] theorem fuse_sec (f : Fuse) : (applyEff s (.fuse f)).sec = s.sec := rfl
@[simp] theorem fuse_xbr (f : Fuse) : (applyEff s (.fuse f)).xbr = s.xbr := rfl
@[simp] theorem fuse_hpt (f : Fuse) : (applyEff s (.fuse f)).hpt = s.hpt := rfl
@[simp] theorem fuse_qch (f : Fuse) : (applyEff s (.fuse f)).qch = s.qch := rfl
@[simp] theorem fuse_pins (f : Fuse) : (applyEff s (.fuse f)).pins = s.pins := rfl
@[simp] theorem fuse_img (f : Fuse) : (applyEff s (.fuse f)).img = s.img := rfl
@[simp] theorem fuse_scene (f : Fuse) : (applyEff s (.fuse f)).scene = s.scene := rfl
@[simp] theorem fuse_loc (f : Fuse) : (applyEff s (.fuse f)).loc = s.loc := rfl
@[simp] theorem fuse_wav (f : Fuse) : (applyEff s (.fuse f)).wav = s.wav := rfl
@[simp] theorem fuse_feeds (f : Fuse) : (applyEff s (.fuse f)).feeds = s.feeds := rfl
@[simp] theorem fuse_cru (f : Fuse) : (applyEff s (.fuse f)).cru = s.cru := rfl
@[simp] theorem fuse_tpr (f : Fuse) : (applyEff s (.fuse f)).tpr = s.tpr := rfl
@[simp] theorem fuse_lan (f : Fuse) : (applyEff s (.fuse f)).lan = s.lan := rfl
@[simp] theorem fuse_bel (f : Fuse) : (applyEff s (.fuse f)).bel = s.bel := rfl
@[simp] theorem fuse_aud (f : Fuse) : (applyEff s (.fuse f)).aud = s.aud := rfl
@[simp] theorem fuse_macs (f : Fuse) : (applyEff s (.fuse f)).macs = s.macs := rfl
@[simp] theorem fuse_stm (f : Fuse) : (applyEff s (.fuse f)).stm = s.stm := rfl
@[simp] theorem fuse_clk (f : Fuse) : (applyEff s (.fuse f)).clk = s.clk := rfl
@[simp] theorem fuse_twn (f : Fuse) : (applyEff s (.fuse f)).twn = s.twn := rfl
@[simp] theorem fuse_bad (f : Fuse) : (applyEff s (.fuse f)).bad = s.bad := rfl
@[simp] theorem fuse_soft (f : Fuse) : (applyEff s (.fuse f)).soft = s.soft := rfl
@[simp] theorem fuse_flips (f : Fuse) : (applyEff s (.fuse f)).flips = s.flips := rfl
@[simp] theorem fuse_drc (f : Fuse) : (applyEff s (.fuse f)).drc = s.drc := rfl
@[simp] theorem fuse_otp (f : Fuse) : (applyEff s (.fuse f)).otp = blow s.otp f := rfl
@[simp] theorem fuse_pending (f : Fuse) : (applyEff s (.fuse f)).pending = s.pending := rfl
@[simp] theorem fuse_rd (f : Fuse) : rd (applyEff s (.fuse f)) = rd s := rfl
@[simp] theorem fuse_memOk (f : Fuse) : (applyEff s (.fuse f)).memOk = s.memOk := rfl

@[simp] theorem free_mem (v) : (applyEff s (.free v)).mem = s.mem := rfl
@[simp] theorem free_free (v) : (applyEff s (.free v)).free = v := rfl
@[simp] theorem free_out (v) : (applyEff s (.free v)).out = s.out := rfl
@[simp] theorem free_sys (v) : (applyEff s (.free v)).sys = s.sys := rfl
@[simp] theorem free_cocoon (v) : (applyEff s (.free v)).cocoon = s.cocoon := rfl
@[simp] theorem free_flash (v) : (applyEff s (.free v)).flash = s.flash := rfl
@[simp] theorem free_life (v) : (applyEff s (.free v)).life = s.life := rfl
@[simp] theorem free_log (v) : (applyEff s (.free v)).log = s.log := rfl
@[simp] theorem free_hth (v) : (applyEff s (.free v)).hth = s.hth := rfl
@[simp] theorem free_sec (v) : (applyEff s (.free v)).sec = s.sec := rfl
@[simp] theorem free_xbr (v) : (applyEff s (.free v)).xbr = s.xbr := rfl
@[simp] theorem free_hpt (v) : (applyEff s (.free v)).hpt = s.hpt := rfl
@[simp] theorem free_qch (v) : (applyEff s (.free v)).qch = s.qch := rfl
@[simp] theorem free_pins (v) : (applyEff s (.free v)).pins = s.pins := rfl
@[simp] theorem free_img (v) : (applyEff s (.free v)).img = s.img := rfl
@[simp] theorem free_scene (v) : (applyEff s (.free v)).scene = s.scene := rfl
@[simp] theorem free_loc (v) : (applyEff s (.free v)).loc = s.loc := rfl
@[simp] theorem free_wav (v) : (applyEff s (.free v)).wav = s.wav := rfl
@[simp] theorem free_feeds (v) : (applyEff s (.free v)).feeds = s.feeds := rfl
@[simp] theorem free_cru (v) : (applyEff s (.free v)).cru = s.cru := rfl
@[simp] theorem free_tpr (v) : (applyEff s (.free v)).tpr = s.tpr := rfl
@[simp] theorem free_lan (v) : (applyEff s (.free v)).lan = s.lan := rfl
@[simp] theorem free_bel (v) : (applyEff s (.free v)).bel = s.bel := rfl
@[simp] theorem free_aud (v) : (applyEff s (.free v)).aud = s.aud := rfl
@[simp] theorem free_macs (v) : (applyEff s (.free v)).macs = s.macs := rfl
@[simp] theorem free_stm (v) : (applyEff s (.free v)).stm = s.stm := rfl
@[simp] theorem free_clk (v) : (applyEff s (.free v)).clk = s.clk := rfl
@[simp] theorem free_twn (v) : (applyEff s (.free v)).twn = s.twn := rfl
@[simp] theorem free_bad (v) : (applyEff s (.free v)).bad = s.bad := rfl
@[simp] theorem free_soft (v) : (applyEff s (.free v)).soft = s.soft := rfl
@[simp] theorem free_flips (v) : (applyEff s (.free v)).flips = s.flips := rfl
@[simp] theorem free_drc (v) : (applyEff s (.free v)).drc = s.drc := rfl
@[simp] theorem free_otp (v) : (applyEff s (.free v)).otp = s.otp := rfl
@[simp] theorem free_pending (v) : (applyEff s (.free v)).pending = s.pending := rfl
@[simp] theorem free_rd (v) : rd (applyEff s (.free v)) = rd s := rfl
@[simp] theorem free_memOk (v) : (applyEff s (.free v)).memOk = s.memOk := rfl

@[simp] theorem out_mem (v) : (applyEff s (.out v)).mem = s.mem := rfl
@[simp] theorem out_free (v) : (applyEff s (.out v)).free = s.free := rfl
@[simp] theorem out_out (v) : (applyEff s (.out v)).out = v := rfl
@[simp] theorem out_sys (v) : (applyEff s (.out v)).sys = s.sys := rfl
@[simp] theorem out_cocoon (v) : (applyEff s (.out v)).cocoon = s.cocoon := rfl
@[simp] theorem out_flash (v) : (applyEff s (.out v)).flash = s.flash := rfl
@[simp] theorem out_life (v) : (applyEff s (.out v)).life = s.life := rfl
@[simp] theorem out_log (v) : (applyEff s (.out v)).log = s.log := rfl
@[simp] theorem out_hth (v) : (applyEff s (.out v)).hth = s.hth := rfl
@[simp] theorem out_sec (v) : (applyEff s (.out v)).sec = s.sec := rfl
@[simp] theorem out_xbr (v) : (applyEff s (.out v)).xbr = s.xbr := rfl
@[simp] theorem out_hpt (v) : (applyEff s (.out v)).hpt = s.hpt := rfl
@[simp] theorem out_qch (v) : (applyEff s (.out v)).qch = s.qch := rfl
@[simp] theorem out_pins (v) : (applyEff s (.out v)).pins = s.pins := rfl
@[simp] theorem out_img (v) : (applyEff s (.out v)).img = s.img := rfl
@[simp] theorem out_scene (v) : (applyEff s (.out v)).scene = s.scene := rfl
@[simp] theorem out_loc (v) : (applyEff s (.out v)).loc = s.loc := rfl
@[simp] theorem out_wav (v) : (applyEff s (.out v)).wav = s.wav := rfl
@[simp] theorem out_feeds (v) : (applyEff s (.out v)).feeds = s.feeds := rfl
@[simp] theorem out_cru (v) : (applyEff s (.out v)).cru = s.cru := rfl
@[simp] theorem out_tpr (v) : (applyEff s (.out v)).tpr = s.tpr := rfl
@[simp] theorem out_lan (v) : (applyEff s (.out v)).lan = s.lan := rfl
@[simp] theorem out_bel (v) : (applyEff s (.out v)).bel = s.bel := rfl
@[simp] theorem out_aud (v) : (applyEff s (.out v)).aud = s.aud := rfl
@[simp] theorem out_macs (v) : (applyEff s (.out v)).macs = s.macs := rfl
@[simp] theorem out_stm (v) : (applyEff s (.out v)).stm = s.stm := rfl
@[simp] theorem out_clk (v) : (applyEff s (.out v)).clk = s.clk := rfl
@[simp] theorem out_twn (v) : (applyEff s (.out v)).twn = s.twn := rfl
@[simp] theorem out_bad (v) : (applyEff s (.out v)).bad = s.bad := rfl
@[simp] theorem out_soft (v) : (applyEff s (.out v)).soft = s.soft := rfl
@[simp] theorem out_flips (v) : (applyEff s (.out v)).flips = s.flips := rfl
@[simp] theorem out_drc (v) : (applyEff s (.out v)).drc = s.drc := rfl
@[simp] theorem out_otp (v) : (applyEff s (.out v)).otp = s.otp := rfl
@[simp] theorem out_pending (v) : (applyEff s (.out v)).pending = s.pending := rfl
@[simp] theorem out_rd (v) : rd (applyEff s (.out v)) = rd s := rfl
@[simp] theorem out_memOk (v) : (applyEff s (.out v)).memOk = s.memOk := rfl

@[simp] theorem sys_mem (v) : (applyEff s (.sys v)).mem = s.mem := rfl
@[simp] theorem sys_free (v) : (applyEff s (.sys v)).free = s.free := rfl
@[simp] theorem sys_out (v) : (applyEff s (.sys v)).out = s.out := rfl
@[simp] theorem sys_sys (v) : (applyEff s (.sys v)).sys = v := rfl
@[simp] theorem sys_cocoon (v) : (applyEff s (.sys v)).cocoon = s.cocoon := rfl
@[simp] theorem sys_flash (v) : (applyEff s (.sys v)).flash = s.flash := rfl
@[simp] theorem sys_life (v) : (applyEff s (.sys v)).life = s.life := rfl
@[simp] theorem sys_log (v) : (applyEff s (.sys v)).log = s.log := rfl
@[simp] theorem sys_hth (v) : (applyEff s (.sys v)).hth = s.hth := rfl
@[simp] theorem sys_sec (v) : (applyEff s (.sys v)).sec = s.sec := rfl
@[simp] theorem sys_xbr (v) : (applyEff s (.sys v)).xbr = s.xbr := rfl
@[simp] theorem sys_hpt (v) : (applyEff s (.sys v)).hpt = s.hpt := rfl
@[simp] theorem sys_qch (v) : (applyEff s (.sys v)).qch = s.qch := rfl
@[simp] theorem sys_pins (v) : (applyEff s (.sys v)).pins = s.pins := rfl
@[simp] theorem sys_img (v) : (applyEff s (.sys v)).img = s.img := rfl
@[simp] theorem sys_scene (v) : (applyEff s (.sys v)).scene = s.scene := rfl
@[simp] theorem sys_loc (v) : (applyEff s (.sys v)).loc = s.loc := rfl
@[simp] theorem sys_wav (v) : (applyEff s (.sys v)).wav = s.wav := rfl
@[simp] theorem sys_feeds (v) : (applyEff s (.sys v)).feeds = s.feeds := rfl
@[simp] theorem sys_cru (v) : (applyEff s (.sys v)).cru = s.cru := rfl
@[simp] theorem sys_tpr (v) : (applyEff s (.sys v)).tpr = s.tpr := rfl
@[simp] theorem sys_lan (v) : (applyEff s (.sys v)).lan = s.lan := rfl
@[simp] theorem sys_bel (v) : (applyEff s (.sys v)).bel = s.bel := rfl
@[simp] theorem sys_aud (v) : (applyEff s (.sys v)).aud = s.aud := rfl
@[simp] theorem sys_macs (v) : (applyEff s (.sys v)).macs = s.macs := rfl
@[simp] theorem sys_stm (v) : (applyEff s (.sys v)).stm = s.stm := rfl
@[simp] theorem sys_clk (v) : (applyEff s (.sys v)).clk = s.clk := rfl
@[simp] theorem sys_twn (v) : (applyEff s (.sys v)).twn = s.twn := rfl
@[simp] theorem sys_bad (v) : (applyEff s (.sys v)).bad = s.bad := rfl
@[simp] theorem sys_soft (v) : (applyEff s (.sys v)).soft = s.soft := rfl
@[simp] theorem sys_flips (v) : (applyEff s (.sys v)).flips = s.flips := rfl
@[simp] theorem sys_drc (v) : (applyEff s (.sys v)).drc = s.drc := rfl
@[simp] theorem sys_otp (v) : (applyEff s (.sys v)).otp = s.otp := rfl
@[simp] theorem sys_pending (v) : (applyEff s (.sys v)).pending = s.pending := rfl
@[simp] theorem sys_rd (v) : rd (applyEff s (.sys v)) = rd s := rfl
@[simp] theorem sys_memOk (v) : (applyEff s (.sys v)).memOk = s.memOk := rfl

@[simp] theorem cocoon_mem (v) : (applyEff s (.cocoon v)).mem = s.mem := rfl
@[simp] theorem cocoon_free (v) : (applyEff s (.cocoon v)).free = s.free := rfl
@[simp] theorem cocoon_out (v) : (applyEff s (.cocoon v)).out = s.out := rfl
@[simp] theorem cocoon_sys (v) : (applyEff s (.cocoon v)).sys = s.sys := rfl
@[simp] theorem cocoon_cocoon (v) : (applyEff s (.cocoon v)).cocoon = v := rfl
@[simp] theorem cocoon_flash (v) : (applyEff s (.cocoon v)).flash = s.flash := rfl
@[simp] theorem cocoon_life (v) : (applyEff s (.cocoon v)).life = s.life := rfl
@[simp] theorem cocoon_log (v) : (applyEff s (.cocoon v)).log = s.log := rfl
@[simp] theorem cocoon_hth (v) : (applyEff s (.cocoon v)).hth = s.hth := rfl
@[simp] theorem cocoon_sec (v) : (applyEff s (.cocoon v)).sec = s.sec := rfl
@[simp] theorem cocoon_xbr (v) : (applyEff s (.cocoon v)).xbr = s.xbr := rfl
@[simp] theorem cocoon_hpt (v) : (applyEff s (.cocoon v)).hpt = s.hpt := rfl
@[simp] theorem cocoon_qch (v) : (applyEff s (.cocoon v)).qch = s.qch := rfl
@[simp] theorem cocoon_pins (v) : (applyEff s (.cocoon v)).pins = s.pins := rfl
@[simp] theorem cocoon_img (v) : (applyEff s (.cocoon v)).img = s.img := rfl
@[simp] theorem cocoon_scene (v) : (applyEff s (.cocoon v)).scene = s.scene := rfl
@[simp] theorem cocoon_loc (v) : (applyEff s (.cocoon v)).loc = s.loc := rfl
@[simp] theorem cocoon_wav (v) : (applyEff s (.cocoon v)).wav = s.wav := rfl
@[simp] theorem cocoon_feeds (v) : (applyEff s (.cocoon v)).feeds = s.feeds := rfl
@[simp] theorem cocoon_cru (v) : (applyEff s (.cocoon v)).cru = s.cru := rfl
@[simp] theorem cocoon_tpr (v) : (applyEff s (.cocoon v)).tpr = s.tpr := rfl
@[simp] theorem cocoon_lan (v) : (applyEff s (.cocoon v)).lan = s.lan := rfl
@[simp] theorem cocoon_bel (v) : (applyEff s (.cocoon v)).bel = s.bel := rfl
@[simp] theorem cocoon_aud (v) : (applyEff s (.cocoon v)).aud = s.aud := rfl
@[simp] theorem cocoon_macs (v) : (applyEff s (.cocoon v)).macs = s.macs := rfl
@[simp] theorem cocoon_stm (v) : (applyEff s (.cocoon v)).stm = s.stm := rfl
@[simp] theorem cocoon_clk (v) : (applyEff s (.cocoon v)).clk = s.clk := rfl
@[simp] theorem cocoon_twn (v) : (applyEff s (.cocoon v)).twn = s.twn := rfl
@[simp] theorem cocoon_bad (v) : (applyEff s (.cocoon v)).bad = s.bad := rfl
@[simp] theorem cocoon_soft (v) : (applyEff s (.cocoon v)).soft = s.soft := rfl
@[simp] theorem cocoon_flips (v) : (applyEff s (.cocoon v)).flips = s.flips := rfl
@[simp] theorem cocoon_drc (v) : (applyEff s (.cocoon v)).drc = s.drc := rfl
@[simp] theorem cocoon_otp (v) : (applyEff s (.cocoon v)).otp = s.otp := rfl
@[simp] theorem cocoon_pending (v) : (applyEff s (.cocoon v)).pending = s.pending := rfl
@[simp] theorem cocoon_rd (v) : rd (applyEff s (.cocoon v)) = rd s := rfl
@[simp] theorem cocoon_memOk (v) : (applyEff s (.cocoon v)).memOk = s.memOk := rfl

@[simp] theorem flash_mem (v) : (applyEff s (.flash v)).mem = s.mem := rfl
@[simp] theorem flash_free (v) : (applyEff s (.flash v)).free = s.free := rfl
@[simp] theorem flash_out (v) : (applyEff s (.flash v)).out = s.out := rfl
@[simp] theorem flash_sys (v) : (applyEff s (.flash v)).sys = s.sys := rfl
@[simp] theorem flash_cocoon (v) : (applyEff s (.flash v)).cocoon = s.cocoon := rfl
@[simp] theorem flash_flash (v) : (applyEff s (.flash v)).flash = v := rfl
@[simp] theorem flash_life (v) : (applyEff s (.flash v)).life = s.life := rfl
@[simp] theorem flash_log (v) : (applyEff s (.flash v)).log = s.log := rfl
@[simp] theorem flash_hth (v) : (applyEff s (.flash v)).hth = s.hth := rfl
@[simp] theorem flash_sec (v) : (applyEff s (.flash v)).sec = s.sec := rfl
@[simp] theorem flash_xbr (v) : (applyEff s (.flash v)).xbr = s.xbr := rfl
@[simp] theorem flash_hpt (v) : (applyEff s (.flash v)).hpt = s.hpt := rfl
@[simp] theorem flash_qch (v) : (applyEff s (.flash v)).qch = s.qch := rfl
@[simp] theorem flash_pins (v) : (applyEff s (.flash v)).pins = s.pins := rfl
@[simp] theorem flash_img (v) : (applyEff s (.flash v)).img = s.img := rfl
@[simp] theorem flash_scene (v) : (applyEff s (.flash v)).scene = s.scene := rfl
@[simp] theorem flash_loc (v) : (applyEff s (.flash v)).loc = s.loc := rfl
@[simp] theorem flash_wav (v) : (applyEff s (.flash v)).wav = s.wav := rfl
@[simp] theorem flash_feeds (v) : (applyEff s (.flash v)).feeds = s.feeds := rfl
@[simp] theorem flash_cru (v) : (applyEff s (.flash v)).cru = s.cru := rfl
@[simp] theorem flash_tpr (v) : (applyEff s (.flash v)).tpr = s.tpr := rfl
@[simp] theorem flash_lan (v) : (applyEff s (.flash v)).lan = s.lan := rfl
@[simp] theorem flash_bel (v) : (applyEff s (.flash v)).bel = s.bel := rfl
@[simp] theorem flash_aud (v) : (applyEff s (.flash v)).aud = s.aud := rfl
@[simp] theorem flash_macs (v) : (applyEff s (.flash v)).macs = s.macs := rfl
@[simp] theorem flash_stm (v) : (applyEff s (.flash v)).stm = s.stm := rfl
@[simp] theorem flash_clk (v) : (applyEff s (.flash v)).clk = s.clk := rfl
@[simp] theorem flash_twn (v) : (applyEff s (.flash v)).twn = s.twn := rfl
@[simp] theorem flash_bad (v) : (applyEff s (.flash v)).bad = s.bad := rfl
@[simp] theorem flash_soft (v) : (applyEff s (.flash v)).soft = s.soft := rfl
@[simp] theorem flash_flips (v) : (applyEff s (.flash v)).flips = s.flips := rfl
@[simp] theorem flash_drc (v) : (applyEff s (.flash v)).drc = s.drc := rfl
@[simp] theorem flash_otp (v) : (applyEff s (.flash v)).otp = s.otp := rfl
@[simp] theorem flash_pending (v) : (applyEff s (.flash v)).pending = s.pending := rfl
@[simp] theorem flash_rd (v) : rd (applyEff s (.flash v)) = rd s := rfl
@[simp] theorem flash_memOk (v) : (applyEff s (.flash v)).memOk = s.memOk := rfl

@[simp] theorem life_mem (v) : (applyEff s (.life v)).mem = s.mem := rfl
@[simp] theorem life_free (v) : (applyEff s (.life v)).free = s.free := rfl
@[simp] theorem life_out (v) : (applyEff s (.life v)).out = s.out := rfl
@[simp] theorem life_sys (v) : (applyEff s (.life v)).sys = s.sys := rfl
@[simp] theorem life_cocoon (v) : (applyEff s (.life v)).cocoon = s.cocoon := rfl
@[simp] theorem life_flash (v) : (applyEff s (.life v)).flash = s.flash := rfl
@[simp] theorem life_life (v) : (applyEff s (.life v)).life = v := rfl
@[simp] theorem life_log (v) : (applyEff s (.life v)).log = s.log := rfl
@[simp] theorem life_hth (v) : (applyEff s (.life v)).hth = s.hth := rfl
@[simp] theorem life_sec (v) : (applyEff s (.life v)).sec = s.sec := rfl
@[simp] theorem life_xbr (v) : (applyEff s (.life v)).xbr = s.xbr := rfl
@[simp] theorem life_hpt (v) : (applyEff s (.life v)).hpt = s.hpt := rfl
@[simp] theorem life_qch (v) : (applyEff s (.life v)).qch = s.qch := rfl
@[simp] theorem life_pins (v) : (applyEff s (.life v)).pins = s.pins := rfl
@[simp] theorem life_img (v) : (applyEff s (.life v)).img = s.img := rfl
@[simp] theorem life_scene (v) : (applyEff s (.life v)).scene = s.scene := rfl
@[simp] theorem life_loc (v) : (applyEff s (.life v)).loc = s.loc := rfl
@[simp] theorem life_wav (v) : (applyEff s (.life v)).wav = s.wav := rfl
@[simp] theorem life_feeds (v) : (applyEff s (.life v)).feeds = s.feeds := rfl
@[simp] theorem life_cru (v) : (applyEff s (.life v)).cru = s.cru := rfl
@[simp] theorem life_tpr (v) : (applyEff s (.life v)).tpr = s.tpr := rfl
@[simp] theorem life_lan (v) : (applyEff s (.life v)).lan = s.lan := rfl
@[simp] theorem life_bel (v) : (applyEff s (.life v)).bel = s.bel := rfl
@[simp] theorem life_aud (v) : (applyEff s (.life v)).aud = s.aud := rfl
@[simp] theorem life_macs (v) : (applyEff s (.life v)).macs = s.macs := rfl
@[simp] theorem life_stm (v) : (applyEff s (.life v)).stm = s.stm := rfl
@[simp] theorem life_clk (v) : (applyEff s (.life v)).clk = s.clk := rfl
@[simp] theorem life_twn (v) : (applyEff s (.life v)).twn = s.twn := rfl
@[simp] theorem life_bad (v) : (applyEff s (.life v)).bad = s.bad := rfl
@[simp] theorem life_soft (v) : (applyEff s (.life v)).soft = s.soft := rfl
@[simp] theorem life_flips (v) : (applyEff s (.life v)).flips = s.flips := rfl
@[simp] theorem life_drc (v) : (applyEff s (.life v)).drc = s.drc := rfl
@[simp] theorem life_otp (v) : (applyEff s (.life v)).otp = s.otp := rfl
@[simp] theorem life_pending (v) : (applyEff s (.life v)).pending = s.pending := rfl
@[simp] theorem life_rd (v) : rd (applyEff s (.life v)) = rd s := rfl
@[simp] theorem life_memOk (v) : (applyEff s (.life v)).memOk = s.memOk := rfl

@[simp] theorem log_mem (v) : (applyEff s (.log v)).mem = s.mem := rfl
@[simp] theorem log_free (v) : (applyEff s (.log v)).free = s.free := rfl
@[simp] theorem log_out (v) : (applyEff s (.log v)).out = s.out := rfl
@[simp] theorem log_sys (v) : (applyEff s (.log v)).sys = s.sys := rfl
@[simp] theorem log_cocoon (v) : (applyEff s (.log v)).cocoon = s.cocoon := rfl
@[simp] theorem log_flash (v) : (applyEff s (.log v)).flash = s.flash := rfl
@[simp] theorem log_life (v) : (applyEff s (.log v)).life = s.life := rfl
@[simp] theorem log_log (v) : (applyEff s (.log v)).log = v := rfl
@[simp] theorem log_hth (v) : (applyEff s (.log v)).hth = s.hth := rfl
@[simp] theorem log_sec (v) : (applyEff s (.log v)).sec = s.sec := rfl
@[simp] theorem log_xbr (v) : (applyEff s (.log v)).xbr = s.xbr := rfl
@[simp] theorem log_hpt (v) : (applyEff s (.log v)).hpt = s.hpt := rfl
@[simp] theorem log_qch (v) : (applyEff s (.log v)).qch = s.qch := rfl
@[simp] theorem log_pins (v) : (applyEff s (.log v)).pins = s.pins := rfl
@[simp] theorem log_img (v) : (applyEff s (.log v)).img = s.img := rfl
@[simp] theorem log_scene (v) : (applyEff s (.log v)).scene = s.scene := rfl
@[simp] theorem log_loc (v) : (applyEff s (.log v)).loc = s.loc := rfl
@[simp] theorem log_wav (v) : (applyEff s (.log v)).wav = s.wav := rfl
@[simp] theorem log_feeds (v) : (applyEff s (.log v)).feeds = s.feeds := rfl
@[simp] theorem log_cru (v) : (applyEff s (.log v)).cru = s.cru := rfl
@[simp] theorem log_tpr (v) : (applyEff s (.log v)).tpr = s.tpr := rfl
@[simp] theorem log_lan (v) : (applyEff s (.log v)).lan = s.lan := rfl
@[simp] theorem log_bel (v) : (applyEff s (.log v)).bel = s.bel := rfl
@[simp] theorem log_aud (v) : (applyEff s (.log v)).aud = s.aud := rfl
@[simp] theorem log_macs (v) : (applyEff s (.log v)).macs = s.macs := rfl
@[simp] theorem log_stm (v) : (applyEff s (.log v)).stm = s.stm := rfl
@[simp] theorem log_clk (v) : (applyEff s (.log v)).clk = s.clk := rfl
@[simp] theorem log_twn (v) : (applyEff s (.log v)).twn = s.twn := rfl
@[simp] theorem log_bad (v) : (applyEff s (.log v)).bad = s.bad := rfl
@[simp] theorem log_soft (v) : (applyEff s (.log v)).soft = s.soft := rfl
@[simp] theorem log_flips (v) : (applyEff s (.log v)).flips = s.flips := rfl
@[simp] theorem log_drc (v) : (applyEff s (.log v)).drc = s.drc := rfl
@[simp] theorem log_otp (v) : (applyEff s (.log v)).otp = s.otp := rfl
@[simp] theorem log_pending (v) : (applyEff s (.log v)).pending = s.pending := rfl
@[simp] theorem log_rd (v) : rd (applyEff s (.log v)) = rd s := rfl
@[simp] theorem log_memOk (v) : (applyEff s (.log v)).memOk = s.memOk := rfl

@[simp] theorem hth_mem (v) : (applyEff s (.hth v)).mem = s.mem := rfl
@[simp] theorem hth_free (v) : (applyEff s (.hth v)).free = s.free := rfl
@[simp] theorem hth_out (v) : (applyEff s (.hth v)).out = s.out := rfl
@[simp] theorem hth_sys (v) : (applyEff s (.hth v)).sys = s.sys := rfl
@[simp] theorem hth_cocoon (v) : (applyEff s (.hth v)).cocoon = s.cocoon := rfl
@[simp] theorem hth_flash (v) : (applyEff s (.hth v)).flash = s.flash := rfl
@[simp] theorem hth_life (v) : (applyEff s (.hth v)).life = s.life := rfl
@[simp] theorem hth_log (v) : (applyEff s (.hth v)).log = s.log := rfl
@[simp] theorem hth_hth (v) : (applyEff s (.hth v)).hth = v := rfl
@[simp] theorem hth_sec (v) : (applyEff s (.hth v)).sec = s.sec := rfl
@[simp] theorem hth_xbr (v) : (applyEff s (.hth v)).xbr = s.xbr := rfl
@[simp] theorem hth_hpt (v) : (applyEff s (.hth v)).hpt = s.hpt := rfl
@[simp] theorem hth_qch (v) : (applyEff s (.hth v)).qch = s.qch := rfl
@[simp] theorem hth_pins (v) : (applyEff s (.hth v)).pins = s.pins := rfl
@[simp] theorem hth_img (v) : (applyEff s (.hth v)).img = s.img := rfl
@[simp] theorem hth_scene (v) : (applyEff s (.hth v)).scene = s.scene := rfl
@[simp] theorem hth_loc (v) : (applyEff s (.hth v)).loc = s.loc := rfl
@[simp] theorem hth_wav (v) : (applyEff s (.hth v)).wav = s.wav := rfl
@[simp] theorem hth_feeds (v) : (applyEff s (.hth v)).feeds = s.feeds := rfl
@[simp] theorem hth_cru (v) : (applyEff s (.hth v)).cru = s.cru := rfl
@[simp] theorem hth_tpr (v) : (applyEff s (.hth v)).tpr = s.tpr := rfl
@[simp] theorem hth_lan (v) : (applyEff s (.hth v)).lan = s.lan := rfl
@[simp] theorem hth_bel (v) : (applyEff s (.hth v)).bel = s.bel := rfl
@[simp] theorem hth_aud (v) : (applyEff s (.hth v)).aud = s.aud := rfl
@[simp] theorem hth_macs (v) : (applyEff s (.hth v)).macs = s.macs := rfl
@[simp] theorem hth_stm (v) : (applyEff s (.hth v)).stm = s.stm := rfl
@[simp] theorem hth_clk (v) : (applyEff s (.hth v)).clk = s.clk := rfl
@[simp] theorem hth_twn (v) : (applyEff s (.hth v)).twn = s.twn := rfl
@[simp] theorem hth_bad (v) : (applyEff s (.hth v)).bad = s.bad := rfl
@[simp] theorem hth_soft (v) : (applyEff s (.hth v)).soft = s.soft := rfl
@[simp] theorem hth_flips (v) : (applyEff s (.hth v)).flips = s.flips := rfl
@[simp] theorem hth_drc (v) : (applyEff s (.hth v)).drc = s.drc := rfl
@[simp] theorem hth_otp (v) : (applyEff s (.hth v)).otp = s.otp := rfl
@[simp] theorem hth_pending (v) : (applyEff s (.hth v)).pending = s.pending := rfl
@[simp] theorem hth_rd (v) : rd (applyEff s (.hth v)) = rd s := rfl
@[simp] theorem hth_memOk (v) : (applyEff s (.hth v)).memOk = s.memOk := rfl

@[simp] theorem sec_mem (v) : (applyEff s (.sec v)).mem = s.mem := rfl
@[simp] theorem sec_free (v) : (applyEff s (.sec v)).free = s.free := rfl
@[simp] theorem sec_out (v) : (applyEff s (.sec v)).out = s.out := rfl
@[simp] theorem sec_sys (v) : (applyEff s (.sec v)).sys = s.sys := rfl
@[simp] theorem sec_cocoon (v) : (applyEff s (.sec v)).cocoon = s.cocoon := rfl
@[simp] theorem sec_flash (v) : (applyEff s (.sec v)).flash = s.flash := rfl
@[simp] theorem sec_life (v) : (applyEff s (.sec v)).life = s.life := rfl
@[simp] theorem sec_log (v) : (applyEff s (.sec v)).log = s.log := rfl
@[simp] theorem sec_hth (v) : (applyEff s (.sec v)).hth = s.hth := rfl
@[simp] theorem sec_sec (v) : (applyEff s (.sec v)).sec = v := rfl
@[simp] theorem sec_xbr (v) : (applyEff s (.sec v)).xbr = s.xbr := rfl
@[simp] theorem sec_hpt (v) : (applyEff s (.sec v)).hpt = s.hpt := rfl
@[simp] theorem sec_qch (v) : (applyEff s (.sec v)).qch = s.qch := rfl
@[simp] theorem sec_pins (v) : (applyEff s (.sec v)).pins = s.pins := rfl
@[simp] theorem sec_img (v) : (applyEff s (.sec v)).img = s.img := rfl
@[simp] theorem sec_scene (v) : (applyEff s (.sec v)).scene = s.scene := rfl
@[simp] theorem sec_loc (v) : (applyEff s (.sec v)).loc = s.loc := rfl
@[simp] theorem sec_wav (v) : (applyEff s (.sec v)).wav = s.wav := rfl
@[simp] theorem sec_feeds (v) : (applyEff s (.sec v)).feeds = s.feeds := rfl
@[simp] theorem sec_cru (v) : (applyEff s (.sec v)).cru = s.cru := rfl
@[simp] theorem sec_tpr (v) : (applyEff s (.sec v)).tpr = s.tpr := rfl
@[simp] theorem sec_lan (v) : (applyEff s (.sec v)).lan = s.lan := rfl
@[simp] theorem sec_bel (v) : (applyEff s (.sec v)).bel = s.bel := rfl
@[simp] theorem sec_aud (v) : (applyEff s (.sec v)).aud = s.aud := rfl
@[simp] theorem sec_macs (v) : (applyEff s (.sec v)).macs = s.macs := rfl
@[simp] theorem sec_stm (v) : (applyEff s (.sec v)).stm = s.stm := rfl
@[simp] theorem sec_clk (v) : (applyEff s (.sec v)).clk = s.clk := rfl
@[simp] theorem sec_twn (v) : (applyEff s (.sec v)).twn = s.twn := rfl
@[simp] theorem sec_bad (v) : (applyEff s (.sec v)).bad = s.bad := rfl
@[simp] theorem sec_soft (v) : (applyEff s (.sec v)).soft = s.soft := rfl
@[simp] theorem sec_flips (v) : (applyEff s (.sec v)).flips = s.flips := rfl
@[simp] theorem sec_drc (v) : (applyEff s (.sec v)).drc = s.drc := rfl
@[simp] theorem sec_otp (v) : (applyEff s (.sec v)).otp = s.otp := rfl
@[simp] theorem sec_pending (v) : (applyEff s (.sec v)).pending = s.pending := rfl
@[simp] theorem sec_rd (v) : rd (applyEff s (.sec v)) = rd s := rfl
@[simp] theorem sec_memOk (v) : (applyEff s (.sec v)).memOk = s.memOk := rfl

@[simp] theorem xbr_mem (v) : (applyEff s (.xbr v)).mem = s.mem := rfl
@[simp] theorem xbr_free (v) : (applyEff s (.xbr v)).free = s.free := rfl
@[simp] theorem xbr_out (v) : (applyEff s (.xbr v)).out = s.out := rfl
@[simp] theorem xbr_sys (v) : (applyEff s (.xbr v)).sys = s.sys := rfl
@[simp] theorem xbr_cocoon (v) : (applyEff s (.xbr v)).cocoon = s.cocoon := rfl
@[simp] theorem xbr_flash (v) : (applyEff s (.xbr v)).flash = s.flash := rfl
@[simp] theorem xbr_life (v) : (applyEff s (.xbr v)).life = s.life := rfl
@[simp] theorem xbr_log (v) : (applyEff s (.xbr v)).log = s.log := rfl
@[simp] theorem xbr_hth (v) : (applyEff s (.xbr v)).hth = s.hth := rfl
@[simp] theorem xbr_sec (v) : (applyEff s (.xbr v)).sec = s.sec := rfl
@[simp] theorem xbr_xbr (v) : (applyEff s (.xbr v)).xbr = v := rfl
@[simp] theorem xbr_hpt (v) : (applyEff s (.xbr v)).hpt = s.hpt := rfl
@[simp] theorem xbr_qch (v) : (applyEff s (.xbr v)).qch = s.qch := rfl
@[simp] theorem xbr_pins (v) : (applyEff s (.xbr v)).pins = s.pins := rfl
@[simp] theorem xbr_img (v) : (applyEff s (.xbr v)).img = s.img := rfl
@[simp] theorem xbr_scene (v) : (applyEff s (.xbr v)).scene = s.scene := rfl
@[simp] theorem xbr_loc (v) : (applyEff s (.xbr v)).loc = s.loc := rfl
@[simp] theorem xbr_wav (v) : (applyEff s (.xbr v)).wav = s.wav := rfl
@[simp] theorem xbr_feeds (v) : (applyEff s (.xbr v)).feeds = s.feeds := rfl
@[simp] theorem xbr_cru (v) : (applyEff s (.xbr v)).cru = s.cru := rfl
@[simp] theorem xbr_tpr (v) : (applyEff s (.xbr v)).tpr = s.tpr := rfl
@[simp] theorem xbr_lan (v) : (applyEff s (.xbr v)).lan = s.lan := rfl
@[simp] theorem xbr_bel (v) : (applyEff s (.xbr v)).bel = s.bel := rfl
@[simp] theorem xbr_aud (v) : (applyEff s (.xbr v)).aud = s.aud := rfl
@[simp] theorem xbr_macs (v) : (applyEff s (.xbr v)).macs = s.macs := rfl
@[simp] theorem xbr_stm (v) : (applyEff s (.xbr v)).stm = s.stm := rfl
@[simp] theorem xbr_clk (v) : (applyEff s (.xbr v)).clk = s.clk := rfl
@[simp] theorem xbr_twn (v) : (applyEff s (.xbr v)).twn = s.twn := rfl
@[simp] theorem xbr_bad (v) : (applyEff s (.xbr v)).bad = s.bad := rfl
@[simp] theorem xbr_soft (v) : (applyEff s (.xbr v)).soft = s.soft := rfl
@[simp] theorem xbr_flips (v) : (applyEff s (.xbr v)).flips = s.flips := rfl
@[simp] theorem xbr_drc (v) : (applyEff s (.xbr v)).drc = s.drc := rfl
@[simp] theorem xbr_otp (v) : (applyEff s (.xbr v)).otp = s.otp := rfl
@[simp] theorem xbr_pending (v) : (applyEff s (.xbr v)).pending = s.pending := rfl
@[simp] theorem xbr_rd (v) : rd (applyEff s (.xbr v)) = rd s := rfl
@[simp] theorem xbr_memOk (v) : (applyEff s (.xbr v)).memOk = s.memOk := rfl

@[simp] theorem hpt_mem (v) : (applyEff s (.hpt v)).mem = s.mem := rfl
@[simp] theorem hpt_free (v) : (applyEff s (.hpt v)).free = s.free := rfl
@[simp] theorem hpt_out (v) : (applyEff s (.hpt v)).out = s.out := rfl
@[simp] theorem hpt_sys (v) : (applyEff s (.hpt v)).sys = s.sys := rfl
@[simp] theorem hpt_cocoon (v) : (applyEff s (.hpt v)).cocoon = s.cocoon := rfl
@[simp] theorem hpt_flash (v) : (applyEff s (.hpt v)).flash = s.flash := rfl
@[simp] theorem hpt_life (v) : (applyEff s (.hpt v)).life = s.life := rfl
@[simp] theorem hpt_log (v) : (applyEff s (.hpt v)).log = s.log := rfl
@[simp] theorem hpt_hth (v) : (applyEff s (.hpt v)).hth = s.hth := rfl
@[simp] theorem hpt_sec (v) : (applyEff s (.hpt v)).sec = s.sec := rfl
@[simp] theorem hpt_xbr (v) : (applyEff s (.hpt v)).xbr = s.xbr := rfl
@[simp] theorem hpt_hpt (v) : (applyEff s (.hpt v)).hpt = v := rfl
@[simp] theorem hpt_qch (v) : (applyEff s (.hpt v)).qch = s.qch := rfl
@[simp] theorem hpt_pins (v) : (applyEff s (.hpt v)).pins = s.pins := rfl
@[simp] theorem hpt_img (v) : (applyEff s (.hpt v)).img = s.img := rfl
@[simp] theorem hpt_scene (v) : (applyEff s (.hpt v)).scene = s.scene := rfl
@[simp] theorem hpt_loc (v) : (applyEff s (.hpt v)).loc = s.loc := rfl
@[simp] theorem hpt_wav (v) : (applyEff s (.hpt v)).wav = s.wav := rfl
@[simp] theorem hpt_feeds (v) : (applyEff s (.hpt v)).feeds = s.feeds := rfl
@[simp] theorem hpt_cru (v) : (applyEff s (.hpt v)).cru = s.cru := rfl
@[simp] theorem hpt_tpr (v) : (applyEff s (.hpt v)).tpr = s.tpr := rfl
@[simp] theorem hpt_lan (v) : (applyEff s (.hpt v)).lan = s.lan := rfl
@[simp] theorem hpt_bel (v) : (applyEff s (.hpt v)).bel = s.bel := rfl
@[simp] theorem hpt_aud (v) : (applyEff s (.hpt v)).aud = s.aud := rfl
@[simp] theorem hpt_macs (v) : (applyEff s (.hpt v)).macs = s.macs := rfl
@[simp] theorem hpt_stm (v) : (applyEff s (.hpt v)).stm = s.stm := rfl
@[simp] theorem hpt_clk (v) : (applyEff s (.hpt v)).clk = s.clk := rfl
@[simp] theorem hpt_twn (v) : (applyEff s (.hpt v)).twn = s.twn := rfl
@[simp] theorem hpt_bad (v) : (applyEff s (.hpt v)).bad = s.bad := rfl
@[simp] theorem hpt_soft (v) : (applyEff s (.hpt v)).soft = s.soft := rfl
@[simp] theorem hpt_flips (v) : (applyEff s (.hpt v)).flips = s.flips := rfl
@[simp] theorem hpt_drc (v) : (applyEff s (.hpt v)).drc = s.drc := rfl
@[simp] theorem hpt_otp (v) : (applyEff s (.hpt v)).otp = s.otp := rfl
@[simp] theorem hpt_pending (v) : (applyEff s (.hpt v)).pending = s.pending := rfl
@[simp] theorem hpt_rd (v) : rd (applyEff s (.hpt v)) = rd s := rfl
@[simp] theorem hpt_memOk (v) : (applyEff s (.hpt v)).memOk = s.memOk := rfl

@[simp] theorem qch_mem (v) : (applyEff s (.qch v)).mem = s.mem := rfl
@[simp] theorem qch_free (v) : (applyEff s (.qch v)).free = s.free := rfl
@[simp] theorem qch_out (v) : (applyEff s (.qch v)).out = s.out := rfl
@[simp] theorem qch_sys (v) : (applyEff s (.qch v)).sys = s.sys := rfl
@[simp] theorem qch_cocoon (v) : (applyEff s (.qch v)).cocoon = s.cocoon := rfl
@[simp] theorem qch_flash (v) : (applyEff s (.qch v)).flash = s.flash := rfl
@[simp] theorem qch_life (v) : (applyEff s (.qch v)).life = s.life := rfl
@[simp] theorem qch_log (v) : (applyEff s (.qch v)).log = s.log := rfl
@[simp] theorem qch_hth (v) : (applyEff s (.qch v)).hth = s.hth := rfl
@[simp] theorem qch_sec (v) : (applyEff s (.qch v)).sec = s.sec := rfl
@[simp] theorem qch_xbr (v) : (applyEff s (.qch v)).xbr = s.xbr := rfl
@[simp] theorem qch_hpt (v) : (applyEff s (.qch v)).hpt = s.hpt := rfl
@[simp] theorem qch_qch (v) : (applyEff s (.qch v)).qch = v := rfl
@[simp] theorem qch_pins (v) : (applyEff s (.qch v)).pins = s.pins := rfl
@[simp] theorem qch_img (v) : (applyEff s (.qch v)).img = s.img := rfl
@[simp] theorem qch_scene (v) : (applyEff s (.qch v)).scene = s.scene := rfl
@[simp] theorem qch_loc (v) : (applyEff s (.qch v)).loc = s.loc := rfl
@[simp] theorem qch_wav (v) : (applyEff s (.qch v)).wav = s.wav := rfl
@[simp] theorem qch_feeds (v) : (applyEff s (.qch v)).feeds = s.feeds := rfl
@[simp] theorem qch_cru (v) : (applyEff s (.qch v)).cru = s.cru := rfl
@[simp] theorem qch_tpr (v) : (applyEff s (.qch v)).tpr = s.tpr := rfl
@[simp] theorem qch_lan (v) : (applyEff s (.qch v)).lan = s.lan := rfl
@[simp] theorem qch_bel (v) : (applyEff s (.qch v)).bel = s.bel := rfl
@[simp] theorem qch_aud (v) : (applyEff s (.qch v)).aud = s.aud := rfl
@[simp] theorem qch_macs (v) : (applyEff s (.qch v)).macs = s.macs := rfl
@[simp] theorem qch_stm (v) : (applyEff s (.qch v)).stm = s.stm := rfl
@[simp] theorem qch_clk (v) : (applyEff s (.qch v)).clk = s.clk := rfl
@[simp] theorem qch_twn (v) : (applyEff s (.qch v)).twn = s.twn := rfl
@[simp] theorem qch_bad (v) : (applyEff s (.qch v)).bad = s.bad := rfl
@[simp] theorem qch_soft (v) : (applyEff s (.qch v)).soft = s.soft := rfl
@[simp] theorem qch_flips (v) : (applyEff s (.qch v)).flips = s.flips := rfl
@[simp] theorem qch_drc (v) : (applyEff s (.qch v)).drc = s.drc := rfl
@[simp] theorem qch_otp (v) : (applyEff s (.qch v)).otp = s.otp := rfl
@[simp] theorem qch_pending (v) : (applyEff s (.qch v)).pending = s.pending := rfl
@[simp] theorem qch_rd (v) : rd (applyEff s (.qch v)) = rd s := rfl
@[simp] theorem qch_memOk (v) : (applyEff s (.qch v)).memOk = s.memOk := rfl

@[simp] theorem pins_mem (v) : (applyEff s (.pins v)).mem = s.mem := rfl
@[simp] theorem pins_free (v) : (applyEff s (.pins v)).free = s.free := rfl
@[simp] theorem pins_out (v) : (applyEff s (.pins v)).out = s.out := rfl
@[simp] theorem pins_sys (v) : (applyEff s (.pins v)).sys = s.sys := rfl
@[simp] theorem pins_cocoon (v) : (applyEff s (.pins v)).cocoon = s.cocoon := rfl
@[simp] theorem pins_flash (v) : (applyEff s (.pins v)).flash = s.flash := rfl
@[simp] theorem pins_life (v) : (applyEff s (.pins v)).life = s.life := rfl
@[simp] theorem pins_log (v) : (applyEff s (.pins v)).log = s.log := rfl
@[simp] theorem pins_hth (v) : (applyEff s (.pins v)).hth = s.hth := rfl
@[simp] theorem pins_sec (v) : (applyEff s (.pins v)).sec = s.sec := rfl
@[simp] theorem pins_xbr (v) : (applyEff s (.pins v)).xbr = s.xbr := rfl
@[simp] theorem pins_hpt (v) : (applyEff s (.pins v)).hpt = s.hpt := rfl
@[simp] theorem pins_qch (v) : (applyEff s (.pins v)).qch = s.qch := rfl
@[simp] theorem pins_pins (v) : (applyEff s (.pins v)).pins = v := rfl
@[simp] theorem pins_img (v) : (applyEff s (.pins v)).img = s.img := rfl
@[simp] theorem pins_scene (v) : (applyEff s (.pins v)).scene = s.scene := rfl
@[simp] theorem pins_loc (v) : (applyEff s (.pins v)).loc = s.loc := rfl
@[simp] theorem pins_wav (v) : (applyEff s (.pins v)).wav = s.wav := rfl
@[simp] theorem pins_feeds (v) : (applyEff s (.pins v)).feeds = s.feeds := rfl
@[simp] theorem pins_cru (v) : (applyEff s (.pins v)).cru = s.cru := rfl
@[simp] theorem pins_tpr (v) : (applyEff s (.pins v)).tpr = s.tpr := rfl
@[simp] theorem pins_lan (v) : (applyEff s (.pins v)).lan = s.lan := rfl
@[simp] theorem pins_bel (v) : (applyEff s (.pins v)).bel = s.bel := rfl
@[simp] theorem pins_aud (v) : (applyEff s (.pins v)).aud = s.aud := rfl
@[simp] theorem pins_macs (v) : (applyEff s (.pins v)).macs = s.macs := rfl
@[simp] theorem pins_stm (v) : (applyEff s (.pins v)).stm = s.stm := rfl
@[simp] theorem pins_clk (v) : (applyEff s (.pins v)).clk = s.clk := rfl
@[simp] theorem pins_twn (v) : (applyEff s (.pins v)).twn = s.twn := rfl
@[simp] theorem pins_bad (v) : (applyEff s (.pins v)).bad = s.bad := rfl
@[simp] theorem pins_soft (v) : (applyEff s (.pins v)).soft = s.soft := rfl
@[simp] theorem pins_flips (v) : (applyEff s (.pins v)).flips = s.flips := rfl
@[simp] theorem pins_drc (v) : (applyEff s (.pins v)).drc = s.drc := rfl
@[simp] theorem pins_otp (v) : (applyEff s (.pins v)).otp = s.otp := rfl
@[simp] theorem pins_pending (v) : (applyEff s (.pins v)).pending = s.pending := rfl
@[simp] theorem pins_rd (v) : rd (applyEff s (.pins v)) = rd s := rfl
@[simp] theorem pins_memOk (v) : (applyEff s (.pins v)).memOk = s.memOk := rfl

@[simp] theorem img_mem (v) : (applyEff s (.img v)).mem = s.mem := rfl
@[simp] theorem img_free (v) : (applyEff s (.img v)).free = s.free := rfl
@[simp] theorem img_out (v) : (applyEff s (.img v)).out = s.out := rfl
@[simp] theorem img_sys (v) : (applyEff s (.img v)).sys = s.sys := rfl
@[simp] theorem img_cocoon (v) : (applyEff s (.img v)).cocoon = s.cocoon := rfl
@[simp] theorem img_flash (v) : (applyEff s (.img v)).flash = s.flash := rfl
@[simp] theorem img_life (v) : (applyEff s (.img v)).life = s.life := rfl
@[simp] theorem img_log (v) : (applyEff s (.img v)).log = s.log := rfl
@[simp] theorem img_hth (v) : (applyEff s (.img v)).hth = s.hth := rfl
@[simp] theorem img_sec (v) : (applyEff s (.img v)).sec = s.sec := rfl
@[simp] theorem img_xbr (v) : (applyEff s (.img v)).xbr = s.xbr := rfl
@[simp] theorem img_hpt (v) : (applyEff s (.img v)).hpt = s.hpt := rfl
@[simp] theorem img_qch (v) : (applyEff s (.img v)).qch = s.qch := rfl
@[simp] theorem img_pins (v) : (applyEff s (.img v)).pins = s.pins := rfl
@[simp] theorem img_img (v) : (applyEff s (.img v)).img = v := rfl
@[simp] theorem img_scene (v) : (applyEff s (.img v)).scene = s.scene := rfl
@[simp] theorem img_loc (v) : (applyEff s (.img v)).loc = s.loc := rfl
@[simp] theorem img_wav (v) : (applyEff s (.img v)).wav = s.wav := rfl
@[simp] theorem img_feeds (v) : (applyEff s (.img v)).feeds = s.feeds := rfl
@[simp] theorem img_cru (v) : (applyEff s (.img v)).cru = s.cru := rfl
@[simp] theorem img_tpr (v) : (applyEff s (.img v)).tpr = s.tpr := rfl
@[simp] theorem img_lan (v) : (applyEff s (.img v)).lan = s.lan := rfl
@[simp] theorem img_bel (v) : (applyEff s (.img v)).bel = s.bel := rfl
@[simp] theorem img_aud (v) : (applyEff s (.img v)).aud = s.aud := rfl
@[simp] theorem img_macs (v) : (applyEff s (.img v)).macs = s.macs := rfl
@[simp] theorem img_stm (v) : (applyEff s (.img v)).stm = s.stm := rfl
@[simp] theorem img_clk (v) : (applyEff s (.img v)).clk = s.clk := rfl
@[simp] theorem img_twn (v) : (applyEff s (.img v)).twn = s.twn := rfl
@[simp] theorem img_bad (v) : (applyEff s (.img v)).bad = s.bad := rfl
@[simp] theorem img_soft (v) : (applyEff s (.img v)).soft = s.soft := rfl
@[simp] theorem img_flips (v) : (applyEff s (.img v)).flips = s.flips := rfl
@[simp] theorem img_drc (v) : (applyEff s (.img v)).drc = s.drc := rfl
@[simp] theorem img_otp (v) : (applyEff s (.img v)).otp = s.otp := rfl
@[simp] theorem img_pending (v) : (applyEff s (.img v)).pending = s.pending := rfl
@[simp] theorem img_rd (v) : rd (applyEff s (.img v)) = rd s := rfl
@[simp] theorem img_memOk (v) : (applyEff s (.img v)).memOk = s.memOk := rfl

@[simp] theorem scene_mem (v) : (applyEff s (.scene v)).mem = s.mem := rfl
@[simp] theorem scene_free (v) : (applyEff s (.scene v)).free = s.free := rfl
@[simp] theorem scene_out (v) : (applyEff s (.scene v)).out = s.out := rfl
@[simp] theorem scene_sys (v) : (applyEff s (.scene v)).sys = s.sys := rfl
@[simp] theorem scene_cocoon (v) : (applyEff s (.scene v)).cocoon = s.cocoon := rfl
@[simp] theorem scene_flash (v) : (applyEff s (.scene v)).flash = s.flash := rfl
@[simp] theorem scene_life (v) : (applyEff s (.scene v)).life = s.life := rfl
@[simp] theorem scene_log (v) : (applyEff s (.scene v)).log = s.log := rfl
@[simp] theorem scene_hth (v) : (applyEff s (.scene v)).hth = s.hth := rfl
@[simp] theorem scene_sec (v) : (applyEff s (.scene v)).sec = s.sec := rfl
@[simp] theorem scene_xbr (v) : (applyEff s (.scene v)).xbr = s.xbr := rfl
@[simp] theorem scene_hpt (v) : (applyEff s (.scene v)).hpt = s.hpt := rfl
@[simp] theorem scene_qch (v) : (applyEff s (.scene v)).qch = s.qch := rfl
@[simp] theorem scene_pins (v) : (applyEff s (.scene v)).pins = s.pins := rfl
@[simp] theorem scene_img (v) : (applyEff s (.scene v)).img = s.img := rfl
@[simp] theorem scene_scene (v) : (applyEff s (.scene v)).scene = v := rfl
@[simp] theorem scene_loc (v) : (applyEff s (.scene v)).loc = s.loc := rfl
@[simp] theorem scene_wav (v) : (applyEff s (.scene v)).wav = s.wav := rfl
@[simp] theorem scene_feeds (v) : (applyEff s (.scene v)).feeds = s.feeds := rfl
@[simp] theorem scene_cru (v) : (applyEff s (.scene v)).cru = s.cru := rfl
@[simp] theorem scene_tpr (v) : (applyEff s (.scene v)).tpr = s.tpr := rfl
@[simp] theorem scene_lan (v) : (applyEff s (.scene v)).lan = s.lan := rfl
@[simp] theorem scene_bel (v) : (applyEff s (.scene v)).bel = s.bel := rfl
@[simp] theorem scene_aud (v) : (applyEff s (.scene v)).aud = s.aud := rfl
@[simp] theorem scene_macs (v) : (applyEff s (.scene v)).macs = s.macs := rfl
@[simp] theorem scene_stm (v) : (applyEff s (.scene v)).stm = s.stm := rfl
@[simp] theorem scene_clk (v) : (applyEff s (.scene v)).clk = s.clk := rfl
@[simp] theorem scene_twn (v) : (applyEff s (.scene v)).twn = s.twn := rfl
@[simp] theorem scene_bad (v) : (applyEff s (.scene v)).bad = s.bad := rfl
@[simp] theorem scene_soft (v) : (applyEff s (.scene v)).soft = s.soft := rfl
@[simp] theorem scene_flips (v) : (applyEff s (.scene v)).flips = s.flips := rfl
@[simp] theorem scene_drc (v) : (applyEff s (.scene v)).drc = s.drc := rfl
@[simp] theorem scene_otp (v) : (applyEff s (.scene v)).otp = s.otp := rfl
@[simp] theorem scene_pending (v) : (applyEff s (.scene v)).pending = s.pending := rfl
@[simp] theorem scene_rd (v) : rd (applyEff s (.scene v)) = rd s := rfl
@[simp] theorem scene_memOk (v) : (applyEff s (.scene v)).memOk = s.memOk := rfl

@[simp] theorem loc_mem (v) : (applyEff s (.loc v)).mem = s.mem := rfl
@[simp] theorem loc_free (v) : (applyEff s (.loc v)).free = s.free := rfl
@[simp] theorem loc_out (v) : (applyEff s (.loc v)).out = s.out := rfl
@[simp] theorem loc_sys (v) : (applyEff s (.loc v)).sys = s.sys := rfl
@[simp] theorem loc_cocoon (v) : (applyEff s (.loc v)).cocoon = s.cocoon := rfl
@[simp] theorem loc_flash (v) : (applyEff s (.loc v)).flash = s.flash := rfl
@[simp] theorem loc_life (v) : (applyEff s (.loc v)).life = s.life := rfl
@[simp] theorem loc_log (v) : (applyEff s (.loc v)).log = s.log := rfl
@[simp] theorem loc_hth (v) : (applyEff s (.loc v)).hth = s.hth := rfl
@[simp] theorem loc_sec (v) : (applyEff s (.loc v)).sec = s.sec := rfl
@[simp] theorem loc_xbr (v) : (applyEff s (.loc v)).xbr = s.xbr := rfl
@[simp] theorem loc_hpt (v) : (applyEff s (.loc v)).hpt = s.hpt := rfl
@[simp] theorem loc_qch (v) : (applyEff s (.loc v)).qch = s.qch := rfl
@[simp] theorem loc_pins (v) : (applyEff s (.loc v)).pins = s.pins := rfl
@[simp] theorem loc_img (v) : (applyEff s (.loc v)).img = s.img := rfl
@[simp] theorem loc_scene (v) : (applyEff s (.loc v)).scene = s.scene := rfl
@[simp] theorem loc_loc (v) : (applyEff s (.loc v)).loc = v := rfl
@[simp] theorem loc_wav (v) : (applyEff s (.loc v)).wav = s.wav := rfl
@[simp] theorem loc_feeds (v) : (applyEff s (.loc v)).feeds = s.feeds := rfl
@[simp] theorem loc_cru (v) : (applyEff s (.loc v)).cru = s.cru := rfl
@[simp] theorem loc_tpr (v) : (applyEff s (.loc v)).tpr = s.tpr := rfl
@[simp] theorem loc_lan (v) : (applyEff s (.loc v)).lan = s.lan := rfl
@[simp] theorem loc_bel (v) : (applyEff s (.loc v)).bel = s.bel := rfl
@[simp] theorem loc_aud (v) : (applyEff s (.loc v)).aud = s.aud := rfl
@[simp] theorem loc_macs (v) : (applyEff s (.loc v)).macs = s.macs := rfl
@[simp] theorem loc_stm (v) : (applyEff s (.loc v)).stm = s.stm := rfl
@[simp] theorem loc_clk (v) : (applyEff s (.loc v)).clk = s.clk := rfl
@[simp] theorem loc_twn (v) : (applyEff s (.loc v)).twn = s.twn := rfl
@[simp] theorem loc_bad (v) : (applyEff s (.loc v)).bad = s.bad := rfl
@[simp] theorem loc_soft (v) : (applyEff s (.loc v)).soft = s.soft := rfl
@[simp] theorem loc_flips (v) : (applyEff s (.loc v)).flips = s.flips := rfl
@[simp] theorem loc_drc (v) : (applyEff s (.loc v)).drc = s.drc := rfl
@[simp] theorem loc_otp (v) : (applyEff s (.loc v)).otp = s.otp := rfl
@[simp] theorem loc_pending (v) : (applyEff s (.loc v)).pending = s.pending := rfl
@[simp] theorem loc_rd (v) : rd (applyEff s (.loc v)) = rd s := rfl
@[simp] theorem loc_memOk (v) : (applyEff s (.loc v)).memOk = s.memOk := rfl

@[simp] theorem wav_mem (v) : (applyEff s (.wav v)).mem = s.mem := rfl
@[simp] theorem wav_free (v) : (applyEff s (.wav v)).free = s.free := rfl
@[simp] theorem wav_out (v) : (applyEff s (.wav v)).out = s.out := rfl
@[simp] theorem wav_sys (v) : (applyEff s (.wav v)).sys = s.sys := rfl
@[simp] theorem wav_cocoon (v) : (applyEff s (.wav v)).cocoon = s.cocoon := rfl
@[simp] theorem wav_flash (v) : (applyEff s (.wav v)).flash = s.flash := rfl
@[simp] theorem wav_life (v) : (applyEff s (.wav v)).life = s.life := rfl
@[simp] theorem wav_log (v) : (applyEff s (.wav v)).log = s.log := rfl
@[simp] theorem wav_hth (v) : (applyEff s (.wav v)).hth = s.hth := rfl
@[simp] theorem wav_sec (v) : (applyEff s (.wav v)).sec = s.sec := rfl
@[simp] theorem wav_xbr (v) : (applyEff s (.wav v)).xbr = s.xbr := rfl
@[simp] theorem wav_hpt (v) : (applyEff s (.wav v)).hpt = s.hpt := rfl
@[simp] theorem wav_qch (v) : (applyEff s (.wav v)).qch = s.qch := rfl
@[simp] theorem wav_pins (v) : (applyEff s (.wav v)).pins = s.pins := rfl
@[simp] theorem wav_img (v) : (applyEff s (.wav v)).img = s.img := rfl
@[simp] theorem wav_scene (v) : (applyEff s (.wav v)).scene = s.scene := rfl
@[simp] theorem wav_loc (v) : (applyEff s (.wav v)).loc = s.loc := rfl
@[simp] theorem wav_wav (v) : (applyEff s (.wav v)).wav = v := rfl
@[simp] theorem wav_feeds (v) : (applyEff s (.wav v)).feeds = s.feeds := rfl
@[simp] theorem wav_cru (v) : (applyEff s (.wav v)).cru = s.cru := rfl
@[simp] theorem wav_tpr (v) : (applyEff s (.wav v)).tpr = s.tpr := rfl
@[simp] theorem wav_lan (v) : (applyEff s (.wav v)).lan = s.lan := rfl
@[simp] theorem wav_bel (v) : (applyEff s (.wav v)).bel = s.bel := rfl
@[simp] theorem wav_aud (v) : (applyEff s (.wav v)).aud = s.aud := rfl
@[simp] theorem wav_macs (v) : (applyEff s (.wav v)).macs = s.macs := rfl
@[simp] theorem wav_stm (v) : (applyEff s (.wav v)).stm = s.stm := rfl
@[simp] theorem wav_clk (v) : (applyEff s (.wav v)).clk = s.clk := rfl
@[simp] theorem wav_twn (v) : (applyEff s (.wav v)).twn = s.twn := rfl
@[simp] theorem wav_bad (v) : (applyEff s (.wav v)).bad = s.bad := rfl
@[simp] theorem wav_soft (v) : (applyEff s (.wav v)).soft = s.soft := rfl
@[simp] theorem wav_flips (v) : (applyEff s (.wav v)).flips = s.flips := rfl
@[simp] theorem wav_drc (v) : (applyEff s (.wav v)).drc = s.drc := rfl
@[simp] theorem wav_otp (v) : (applyEff s (.wav v)).otp = s.otp := rfl
@[simp] theorem wav_pending (v) : (applyEff s (.wav v)).pending = s.pending := rfl
@[simp] theorem wav_rd (v) : rd (applyEff s (.wav v)) = rd s := rfl
@[simp] theorem wav_memOk (v) : (applyEff s (.wav v)).memOk = s.memOk := rfl

@[simp] theorem feeds_mem (v) : (applyEff s (.feeds v)).mem = s.mem := rfl
@[simp] theorem feeds_free (v) : (applyEff s (.feeds v)).free = s.free := rfl
@[simp] theorem feeds_out (v) : (applyEff s (.feeds v)).out = s.out := rfl
@[simp] theorem feeds_sys (v) : (applyEff s (.feeds v)).sys = s.sys := rfl
@[simp] theorem feeds_cocoon (v) : (applyEff s (.feeds v)).cocoon = s.cocoon := rfl
@[simp] theorem feeds_flash (v) : (applyEff s (.feeds v)).flash = s.flash := rfl
@[simp] theorem feeds_life (v) : (applyEff s (.feeds v)).life = s.life := rfl
@[simp] theorem feeds_log (v) : (applyEff s (.feeds v)).log = s.log := rfl
@[simp] theorem feeds_hth (v) : (applyEff s (.feeds v)).hth = s.hth := rfl
@[simp] theorem feeds_sec (v) : (applyEff s (.feeds v)).sec = s.sec := rfl
@[simp] theorem feeds_xbr (v) : (applyEff s (.feeds v)).xbr = s.xbr := rfl
@[simp] theorem feeds_hpt (v) : (applyEff s (.feeds v)).hpt = s.hpt := rfl
@[simp] theorem feeds_qch (v) : (applyEff s (.feeds v)).qch = s.qch := rfl
@[simp] theorem feeds_pins (v) : (applyEff s (.feeds v)).pins = s.pins := rfl
@[simp] theorem feeds_img (v) : (applyEff s (.feeds v)).img = s.img := rfl
@[simp] theorem feeds_scene (v) : (applyEff s (.feeds v)).scene = s.scene := rfl
@[simp] theorem feeds_loc (v) : (applyEff s (.feeds v)).loc = s.loc := rfl
@[simp] theorem feeds_wav (v) : (applyEff s (.feeds v)).wav = s.wav := rfl
@[simp] theorem feeds_feeds (v) : (applyEff s (.feeds v)).feeds = v := rfl
@[simp] theorem feeds_cru (v) : (applyEff s (.feeds v)).cru = s.cru := rfl
@[simp] theorem feeds_tpr (v) : (applyEff s (.feeds v)).tpr = s.tpr := rfl
@[simp] theorem feeds_lan (v) : (applyEff s (.feeds v)).lan = s.lan := rfl
@[simp] theorem feeds_bel (v) : (applyEff s (.feeds v)).bel = s.bel := rfl
@[simp] theorem feeds_aud (v) : (applyEff s (.feeds v)).aud = s.aud := rfl
@[simp] theorem feeds_macs (v) : (applyEff s (.feeds v)).macs = s.macs := rfl
@[simp] theorem feeds_stm (v) : (applyEff s (.feeds v)).stm = s.stm := rfl
@[simp] theorem feeds_clk (v) : (applyEff s (.feeds v)).clk = s.clk := rfl
@[simp] theorem feeds_twn (v) : (applyEff s (.feeds v)).twn = s.twn := rfl
@[simp] theorem feeds_bad (v) : (applyEff s (.feeds v)).bad = s.bad := rfl
@[simp] theorem feeds_soft (v) : (applyEff s (.feeds v)).soft = s.soft := rfl
@[simp] theorem feeds_flips (v) : (applyEff s (.feeds v)).flips = s.flips := rfl
@[simp] theorem feeds_drc (v) : (applyEff s (.feeds v)).drc = s.drc := rfl
@[simp] theorem feeds_otp (v) : (applyEff s (.feeds v)).otp = s.otp := rfl
@[simp] theorem feeds_pending (v) : (applyEff s (.feeds v)).pending = s.pending := rfl
@[simp] theorem feeds_rd (v) : rd (applyEff s (.feeds v)) = rd s := rfl
@[simp] theorem feeds_memOk (v) : (applyEff s (.feeds v)).memOk = s.memOk := rfl

@[simp] theorem cru_mem (v) : (applyEff s (.cru v)).mem = s.mem := rfl
@[simp] theorem cru_free (v) : (applyEff s (.cru v)).free = s.free := rfl
@[simp] theorem cru_out (v) : (applyEff s (.cru v)).out = s.out := rfl
@[simp] theorem cru_sys (v) : (applyEff s (.cru v)).sys = s.sys := rfl
@[simp] theorem cru_cocoon (v) : (applyEff s (.cru v)).cocoon = s.cocoon := rfl
@[simp] theorem cru_flash (v) : (applyEff s (.cru v)).flash = s.flash := rfl
@[simp] theorem cru_life (v) : (applyEff s (.cru v)).life = s.life := rfl
@[simp] theorem cru_log (v) : (applyEff s (.cru v)).log = s.log := rfl
@[simp] theorem cru_hth (v) : (applyEff s (.cru v)).hth = s.hth := rfl
@[simp] theorem cru_sec (v) : (applyEff s (.cru v)).sec = s.sec := rfl
@[simp] theorem cru_xbr (v) : (applyEff s (.cru v)).xbr = s.xbr := rfl
@[simp] theorem cru_hpt (v) : (applyEff s (.cru v)).hpt = s.hpt := rfl
@[simp] theorem cru_qch (v) : (applyEff s (.cru v)).qch = s.qch := rfl
@[simp] theorem cru_pins (v) : (applyEff s (.cru v)).pins = s.pins := rfl
@[simp] theorem cru_img (v) : (applyEff s (.cru v)).img = s.img := rfl
@[simp] theorem cru_scene (v) : (applyEff s (.cru v)).scene = s.scene := rfl
@[simp] theorem cru_loc (v) : (applyEff s (.cru v)).loc = s.loc := rfl
@[simp] theorem cru_wav (v) : (applyEff s (.cru v)).wav = s.wav := rfl
@[simp] theorem cru_feeds (v) : (applyEff s (.cru v)).feeds = s.feeds := rfl
@[simp] theorem cru_cru (v) : (applyEff s (.cru v)).cru = v := rfl
@[simp] theorem cru_tpr (v) : (applyEff s (.cru v)).tpr = s.tpr := rfl
@[simp] theorem cru_lan (v) : (applyEff s (.cru v)).lan = s.lan := rfl
@[simp] theorem cru_bel (v) : (applyEff s (.cru v)).bel = s.bel := rfl
@[simp] theorem cru_aud (v) : (applyEff s (.cru v)).aud = s.aud := rfl
@[simp] theorem cru_macs (v) : (applyEff s (.cru v)).macs = s.macs := rfl
@[simp] theorem cru_stm (v) : (applyEff s (.cru v)).stm = s.stm := rfl
@[simp] theorem cru_clk (v) : (applyEff s (.cru v)).clk = s.clk := rfl
@[simp] theorem cru_twn (v) : (applyEff s (.cru v)).twn = s.twn := rfl
@[simp] theorem cru_bad (v) : (applyEff s (.cru v)).bad = s.bad := rfl
@[simp] theorem cru_soft (v) : (applyEff s (.cru v)).soft = s.soft := rfl
@[simp] theorem cru_flips (v) : (applyEff s (.cru v)).flips = s.flips := rfl
@[simp] theorem cru_drc (v) : (applyEff s (.cru v)).drc = s.drc := rfl
@[simp] theorem cru_otp (v) : (applyEff s (.cru v)).otp = s.otp := rfl
@[simp] theorem cru_pending (v) : (applyEff s (.cru v)).pending = s.pending := rfl
@[simp] theorem cru_rd (v) : rd (applyEff s (.cru v)) = rd s := rfl
@[simp] theorem cru_memOk (v) : (applyEff s (.cru v)).memOk = s.memOk := rfl

@[simp] theorem tpr_mem (v) : (applyEff s (.tpr v)).mem = s.mem := rfl
@[simp] theorem tpr_free (v) : (applyEff s (.tpr v)).free = s.free := rfl
@[simp] theorem tpr_out (v) : (applyEff s (.tpr v)).out = s.out := rfl
@[simp] theorem tpr_sys (v) : (applyEff s (.tpr v)).sys = s.sys := rfl
@[simp] theorem tpr_cocoon (v) : (applyEff s (.tpr v)).cocoon = s.cocoon := rfl
@[simp] theorem tpr_flash (v) : (applyEff s (.tpr v)).flash = s.flash := rfl
@[simp] theorem tpr_life (v) : (applyEff s (.tpr v)).life = s.life := rfl
@[simp] theorem tpr_log (v) : (applyEff s (.tpr v)).log = s.log := rfl
@[simp] theorem tpr_hth (v) : (applyEff s (.tpr v)).hth = s.hth := rfl
@[simp] theorem tpr_sec (v) : (applyEff s (.tpr v)).sec = s.sec := rfl
@[simp] theorem tpr_xbr (v) : (applyEff s (.tpr v)).xbr = s.xbr := rfl
@[simp] theorem tpr_hpt (v) : (applyEff s (.tpr v)).hpt = s.hpt := rfl
@[simp] theorem tpr_qch (v) : (applyEff s (.tpr v)).qch = s.qch := rfl
@[simp] theorem tpr_pins (v) : (applyEff s (.tpr v)).pins = s.pins := rfl
@[simp] theorem tpr_img (v) : (applyEff s (.tpr v)).img = s.img := rfl
@[simp] theorem tpr_scene (v) : (applyEff s (.tpr v)).scene = s.scene := rfl
@[simp] theorem tpr_loc (v) : (applyEff s (.tpr v)).loc = s.loc := rfl
@[simp] theorem tpr_wav (v) : (applyEff s (.tpr v)).wav = s.wav := rfl
@[simp] theorem tpr_feeds (v) : (applyEff s (.tpr v)).feeds = s.feeds := rfl
@[simp] theorem tpr_cru (v) : (applyEff s (.tpr v)).cru = s.cru := rfl
@[simp] theorem tpr_tpr (v) : (applyEff s (.tpr v)).tpr = v := rfl
@[simp] theorem tpr_lan (v) : (applyEff s (.tpr v)).lan = s.lan := rfl
@[simp] theorem tpr_bel (v) : (applyEff s (.tpr v)).bel = s.bel := rfl
@[simp] theorem tpr_aud (v) : (applyEff s (.tpr v)).aud = s.aud := rfl
@[simp] theorem tpr_macs (v) : (applyEff s (.tpr v)).macs = s.macs := rfl
@[simp] theorem tpr_stm (v) : (applyEff s (.tpr v)).stm = s.stm := rfl
@[simp] theorem tpr_clk (v) : (applyEff s (.tpr v)).clk = s.clk := rfl
@[simp] theorem tpr_twn (v) : (applyEff s (.tpr v)).twn = s.twn := rfl
@[simp] theorem tpr_bad (v) : (applyEff s (.tpr v)).bad = s.bad := rfl
@[simp] theorem tpr_soft (v) : (applyEff s (.tpr v)).soft = s.soft := rfl
@[simp] theorem tpr_flips (v) : (applyEff s (.tpr v)).flips = s.flips := rfl
@[simp] theorem tpr_drc (v) : (applyEff s (.tpr v)).drc = s.drc := rfl
@[simp] theorem tpr_otp (v) : (applyEff s (.tpr v)).otp = s.otp := rfl
@[simp] theorem tpr_pending (v) : (applyEff s (.tpr v)).pending = s.pending := rfl
@[simp] theorem tpr_rd (v) : rd (applyEff s (.tpr v)) = rd s := rfl
@[simp] theorem tpr_memOk (v) : (applyEff s (.tpr v)).memOk = s.memOk := rfl

@[simp] theorem lan_mem (v) : (applyEff s (.lan v)).mem = s.mem := rfl
@[simp] theorem lan_free (v) : (applyEff s (.lan v)).free = s.free := rfl
@[simp] theorem lan_out (v) : (applyEff s (.lan v)).out = s.out := rfl
@[simp] theorem lan_sys (v) : (applyEff s (.lan v)).sys = s.sys := rfl
@[simp] theorem lan_cocoon (v) : (applyEff s (.lan v)).cocoon = s.cocoon := rfl
@[simp] theorem lan_flash (v) : (applyEff s (.lan v)).flash = s.flash := rfl
@[simp] theorem lan_life (v) : (applyEff s (.lan v)).life = s.life := rfl
@[simp] theorem lan_log (v) : (applyEff s (.lan v)).log = s.log := rfl
@[simp] theorem lan_hth (v) : (applyEff s (.lan v)).hth = s.hth := rfl
@[simp] theorem lan_sec (v) : (applyEff s (.lan v)).sec = s.sec := rfl
@[simp] theorem lan_xbr (v) : (applyEff s (.lan v)).xbr = s.xbr := rfl
@[simp] theorem lan_hpt (v) : (applyEff s (.lan v)).hpt = s.hpt := rfl
@[simp] theorem lan_qch (v) : (applyEff s (.lan v)).qch = s.qch := rfl
@[simp] theorem lan_pins (v) : (applyEff s (.lan v)).pins = s.pins := rfl
@[simp] theorem lan_img (v) : (applyEff s (.lan v)).img = s.img := rfl
@[simp] theorem lan_scene (v) : (applyEff s (.lan v)).scene = s.scene := rfl
@[simp] theorem lan_loc (v) : (applyEff s (.lan v)).loc = s.loc := rfl
@[simp] theorem lan_wav (v) : (applyEff s (.lan v)).wav = s.wav := rfl
@[simp] theorem lan_feeds (v) : (applyEff s (.lan v)).feeds = s.feeds := rfl
@[simp] theorem lan_cru (v) : (applyEff s (.lan v)).cru = s.cru := rfl
@[simp] theorem lan_tpr (v) : (applyEff s (.lan v)).tpr = s.tpr := rfl
@[simp] theorem lan_lan (v) : (applyEff s (.lan v)).lan = v := rfl
@[simp] theorem lan_bel (v) : (applyEff s (.lan v)).bel = s.bel := rfl
@[simp] theorem lan_aud (v) : (applyEff s (.lan v)).aud = s.aud := rfl
@[simp] theorem lan_macs (v) : (applyEff s (.lan v)).macs = s.macs := rfl
@[simp] theorem lan_stm (v) : (applyEff s (.lan v)).stm = s.stm := rfl
@[simp] theorem lan_clk (v) : (applyEff s (.lan v)).clk = s.clk := rfl
@[simp] theorem lan_twn (v) : (applyEff s (.lan v)).twn = s.twn := rfl
@[simp] theorem lan_bad (v) : (applyEff s (.lan v)).bad = s.bad := rfl
@[simp] theorem lan_soft (v) : (applyEff s (.lan v)).soft = s.soft := rfl
@[simp] theorem lan_flips (v) : (applyEff s (.lan v)).flips = s.flips := rfl
@[simp] theorem lan_drc (v) : (applyEff s (.lan v)).drc = s.drc := rfl
@[simp] theorem lan_otp (v) : (applyEff s (.lan v)).otp = s.otp := rfl
@[simp] theorem lan_pending (v) : (applyEff s (.lan v)).pending = s.pending := rfl
@[simp] theorem lan_rd (v) : rd (applyEff s (.lan v)) = rd s := rfl
@[simp] theorem lan_memOk (v) : (applyEff s (.lan v)).memOk = s.memOk := rfl

@[simp] theorem bel_mem (v) : (applyEff s (.bel v)).mem = s.mem := rfl
@[simp] theorem bel_free (v) : (applyEff s (.bel v)).free = s.free := rfl
@[simp] theorem bel_out (v) : (applyEff s (.bel v)).out = s.out := rfl
@[simp] theorem bel_sys (v) : (applyEff s (.bel v)).sys = s.sys := rfl
@[simp] theorem bel_cocoon (v) : (applyEff s (.bel v)).cocoon = s.cocoon := rfl
@[simp] theorem bel_flash (v) : (applyEff s (.bel v)).flash = s.flash := rfl
@[simp] theorem bel_life (v) : (applyEff s (.bel v)).life = s.life := rfl
@[simp] theorem bel_log (v) : (applyEff s (.bel v)).log = s.log := rfl
@[simp] theorem bel_hth (v) : (applyEff s (.bel v)).hth = s.hth := rfl
@[simp] theorem bel_sec (v) : (applyEff s (.bel v)).sec = s.sec := rfl
@[simp] theorem bel_xbr (v) : (applyEff s (.bel v)).xbr = s.xbr := rfl
@[simp] theorem bel_hpt (v) : (applyEff s (.bel v)).hpt = s.hpt := rfl
@[simp] theorem bel_qch (v) : (applyEff s (.bel v)).qch = s.qch := rfl
@[simp] theorem bel_pins (v) : (applyEff s (.bel v)).pins = s.pins := rfl
@[simp] theorem bel_img (v) : (applyEff s (.bel v)).img = s.img := rfl
@[simp] theorem bel_scene (v) : (applyEff s (.bel v)).scene = s.scene := rfl
@[simp] theorem bel_loc (v) : (applyEff s (.bel v)).loc = s.loc := rfl
@[simp] theorem bel_wav (v) : (applyEff s (.bel v)).wav = s.wav := rfl
@[simp] theorem bel_feeds (v) : (applyEff s (.bel v)).feeds = s.feeds := rfl
@[simp] theorem bel_cru (v) : (applyEff s (.bel v)).cru = s.cru := rfl
@[simp] theorem bel_tpr (v) : (applyEff s (.bel v)).tpr = s.tpr := rfl
@[simp] theorem bel_lan (v) : (applyEff s (.bel v)).lan = s.lan := rfl
@[simp] theorem bel_bel (v) : (applyEff s (.bel v)).bel = v := rfl
@[simp] theorem bel_aud (v) : (applyEff s (.bel v)).aud = s.aud := rfl
@[simp] theorem bel_macs (v) : (applyEff s (.bel v)).macs = s.macs := rfl
@[simp] theorem bel_stm (v) : (applyEff s (.bel v)).stm = s.stm := rfl
@[simp] theorem bel_clk (v) : (applyEff s (.bel v)).clk = s.clk := rfl
@[simp] theorem bel_twn (v) : (applyEff s (.bel v)).twn = s.twn := rfl
@[simp] theorem bel_bad (v) : (applyEff s (.bel v)).bad = s.bad := rfl
@[simp] theorem bel_soft (v) : (applyEff s (.bel v)).soft = s.soft := rfl
@[simp] theorem bel_flips (v) : (applyEff s (.bel v)).flips = s.flips := rfl
@[simp] theorem bel_drc (v) : (applyEff s (.bel v)).drc = s.drc := rfl
@[simp] theorem bel_otp (v) : (applyEff s (.bel v)).otp = s.otp := rfl
@[simp] theorem bel_pending (v) : (applyEff s (.bel v)).pending = s.pending := rfl
@[simp] theorem bel_rd (v) : rd (applyEff s (.bel v)) = rd s := rfl
@[simp] theorem bel_memOk (v) : (applyEff s (.bel v)).memOk = s.memOk := rfl

@[simp] theorem aud_mem (v) : (applyEff s (.aud v)).mem = s.mem := rfl
@[simp] theorem aud_free (v) : (applyEff s (.aud v)).free = s.free := rfl
@[simp] theorem aud_out (v) : (applyEff s (.aud v)).out = s.out := rfl
@[simp] theorem aud_sys (v) : (applyEff s (.aud v)).sys = s.sys := rfl
@[simp] theorem aud_cocoon (v) : (applyEff s (.aud v)).cocoon = s.cocoon := rfl
@[simp] theorem aud_flash (v) : (applyEff s (.aud v)).flash = s.flash := rfl
@[simp] theorem aud_life (v) : (applyEff s (.aud v)).life = s.life := rfl
@[simp] theorem aud_log (v) : (applyEff s (.aud v)).log = s.log := rfl
@[simp] theorem aud_hth (v) : (applyEff s (.aud v)).hth = s.hth := rfl
@[simp] theorem aud_sec (v) : (applyEff s (.aud v)).sec = s.sec := rfl
@[simp] theorem aud_xbr (v) : (applyEff s (.aud v)).xbr = s.xbr := rfl
@[simp] theorem aud_hpt (v) : (applyEff s (.aud v)).hpt = s.hpt := rfl
@[simp] theorem aud_qch (v) : (applyEff s (.aud v)).qch = s.qch := rfl
@[simp] theorem aud_pins (v) : (applyEff s (.aud v)).pins = s.pins := rfl
@[simp] theorem aud_img (v) : (applyEff s (.aud v)).img = s.img := rfl
@[simp] theorem aud_scene (v) : (applyEff s (.aud v)).scene = s.scene := rfl
@[simp] theorem aud_loc (v) : (applyEff s (.aud v)).loc = s.loc := rfl
@[simp] theorem aud_wav (v) : (applyEff s (.aud v)).wav = s.wav := rfl
@[simp] theorem aud_feeds (v) : (applyEff s (.aud v)).feeds = s.feeds := rfl
@[simp] theorem aud_cru (v) : (applyEff s (.aud v)).cru = s.cru := rfl
@[simp] theorem aud_tpr (v) : (applyEff s (.aud v)).tpr = s.tpr := rfl
@[simp] theorem aud_lan (v) : (applyEff s (.aud v)).lan = s.lan := rfl
@[simp] theorem aud_bel (v) : (applyEff s (.aud v)).bel = s.bel := rfl
@[simp] theorem aud_aud (v) : (applyEff s (.aud v)).aud = v := rfl
@[simp] theorem aud_macs (v) : (applyEff s (.aud v)).macs = s.macs := rfl
@[simp] theorem aud_stm (v) : (applyEff s (.aud v)).stm = s.stm := rfl
@[simp] theorem aud_clk (v) : (applyEff s (.aud v)).clk = s.clk := rfl
@[simp] theorem aud_twn (v) : (applyEff s (.aud v)).twn = s.twn := rfl
@[simp] theorem aud_bad (v) : (applyEff s (.aud v)).bad = s.bad := rfl
@[simp] theorem aud_soft (v) : (applyEff s (.aud v)).soft = s.soft := rfl
@[simp] theorem aud_flips (v) : (applyEff s (.aud v)).flips = s.flips := rfl
@[simp] theorem aud_drc (v) : (applyEff s (.aud v)).drc = s.drc := rfl
@[simp] theorem aud_otp (v) : (applyEff s (.aud v)).otp = s.otp := rfl
@[simp] theorem aud_pending (v) : (applyEff s (.aud v)).pending = s.pending := rfl
@[simp] theorem aud_rd (v) : rd (applyEff s (.aud v)) = rd s := rfl
@[simp] theorem aud_memOk (v) : (applyEff s (.aud v)).memOk = s.memOk := rfl

@[simp] theorem macs_mem (v) : (applyEff s (.macs v)).mem = s.mem := rfl
@[simp] theorem macs_free (v) : (applyEff s (.macs v)).free = s.free := rfl
@[simp] theorem macs_out (v) : (applyEff s (.macs v)).out = s.out := rfl
@[simp] theorem macs_sys (v) : (applyEff s (.macs v)).sys = s.sys := rfl
@[simp] theorem macs_cocoon (v) : (applyEff s (.macs v)).cocoon = s.cocoon := rfl
@[simp] theorem macs_flash (v) : (applyEff s (.macs v)).flash = s.flash := rfl
@[simp] theorem macs_life (v) : (applyEff s (.macs v)).life = s.life := rfl
@[simp] theorem macs_log (v) : (applyEff s (.macs v)).log = s.log := rfl
@[simp] theorem macs_hth (v) : (applyEff s (.macs v)).hth = s.hth := rfl
@[simp] theorem macs_sec (v) : (applyEff s (.macs v)).sec = s.sec := rfl
@[simp] theorem macs_xbr (v) : (applyEff s (.macs v)).xbr = s.xbr := rfl
@[simp] theorem macs_hpt (v) : (applyEff s (.macs v)).hpt = s.hpt := rfl
@[simp] theorem macs_qch (v) : (applyEff s (.macs v)).qch = s.qch := rfl
@[simp] theorem macs_pins (v) : (applyEff s (.macs v)).pins = s.pins := rfl
@[simp] theorem macs_img (v) : (applyEff s (.macs v)).img = s.img := rfl
@[simp] theorem macs_scene (v) : (applyEff s (.macs v)).scene = s.scene := rfl
@[simp] theorem macs_loc (v) : (applyEff s (.macs v)).loc = s.loc := rfl
@[simp] theorem macs_wav (v) : (applyEff s (.macs v)).wav = s.wav := rfl
@[simp] theorem macs_feeds (v) : (applyEff s (.macs v)).feeds = s.feeds := rfl
@[simp] theorem macs_cru (v) : (applyEff s (.macs v)).cru = s.cru := rfl
@[simp] theorem macs_tpr (v) : (applyEff s (.macs v)).tpr = s.tpr := rfl
@[simp] theorem macs_lan (v) : (applyEff s (.macs v)).lan = s.lan := rfl
@[simp] theorem macs_bel (v) : (applyEff s (.macs v)).bel = s.bel := rfl
@[simp] theorem macs_aud (v) : (applyEff s (.macs v)).aud = s.aud := rfl
@[simp] theorem macs_macs (v) : (applyEff s (.macs v)).macs = v := rfl
@[simp] theorem macs_stm (v) : (applyEff s (.macs v)).stm = s.stm := rfl
@[simp] theorem macs_clk (v) : (applyEff s (.macs v)).clk = s.clk := rfl
@[simp] theorem macs_twn (v) : (applyEff s (.macs v)).twn = s.twn := rfl
@[simp] theorem macs_bad (v) : (applyEff s (.macs v)).bad = s.bad := rfl
@[simp] theorem macs_soft (v) : (applyEff s (.macs v)).soft = s.soft := rfl
@[simp] theorem macs_flips (v) : (applyEff s (.macs v)).flips = s.flips := rfl
@[simp] theorem macs_drc (v) : (applyEff s (.macs v)).drc = s.drc := rfl
@[simp] theorem macs_otp (v) : (applyEff s (.macs v)).otp = s.otp := rfl
@[simp] theorem macs_pending (v) : (applyEff s (.macs v)).pending = s.pending := rfl
@[simp] theorem macs_rd (v) : rd (applyEff s (.macs v)) = rd s := rfl
@[simp] theorem macs_memOk (v) : (applyEff s (.macs v)).memOk = s.memOk := rfl

@[simp] theorem stm_mem (v) : (applyEff s (.stm v)).mem = s.mem := rfl
@[simp] theorem stm_free (v) : (applyEff s (.stm v)).free = s.free := rfl
@[simp] theorem stm_out (v) : (applyEff s (.stm v)).out = s.out := rfl
@[simp] theorem stm_sys (v) : (applyEff s (.stm v)).sys = s.sys := rfl
@[simp] theorem stm_cocoon (v) : (applyEff s (.stm v)).cocoon = s.cocoon := rfl
@[simp] theorem stm_flash (v) : (applyEff s (.stm v)).flash = s.flash := rfl
@[simp] theorem stm_life (v) : (applyEff s (.stm v)).life = s.life := rfl
@[simp] theorem stm_log (v) : (applyEff s (.stm v)).log = s.log := rfl
@[simp] theorem stm_hth (v) : (applyEff s (.stm v)).hth = s.hth := rfl
@[simp] theorem stm_sec (v) : (applyEff s (.stm v)).sec = s.sec := rfl
@[simp] theorem stm_xbr (v) : (applyEff s (.stm v)).xbr = s.xbr := rfl
@[simp] theorem stm_hpt (v) : (applyEff s (.stm v)).hpt = s.hpt := rfl
@[simp] theorem stm_qch (v) : (applyEff s (.stm v)).qch = s.qch := rfl
@[simp] theorem stm_pins (v) : (applyEff s (.stm v)).pins = s.pins := rfl
@[simp] theorem stm_img (v) : (applyEff s (.stm v)).img = s.img := rfl
@[simp] theorem stm_scene (v) : (applyEff s (.stm v)).scene = s.scene := rfl
@[simp] theorem stm_loc (v) : (applyEff s (.stm v)).loc = s.loc := rfl
@[simp] theorem stm_wav (v) : (applyEff s (.stm v)).wav = s.wav := rfl
@[simp] theorem stm_feeds (v) : (applyEff s (.stm v)).feeds = s.feeds := rfl
@[simp] theorem stm_cru (v) : (applyEff s (.stm v)).cru = s.cru := rfl
@[simp] theorem stm_tpr (v) : (applyEff s (.stm v)).tpr = s.tpr := rfl
@[simp] theorem stm_lan (v) : (applyEff s (.stm v)).lan = s.lan := rfl
@[simp] theorem stm_bel (v) : (applyEff s (.stm v)).bel = s.bel := rfl
@[simp] theorem stm_aud (v) : (applyEff s (.stm v)).aud = s.aud := rfl
@[simp] theorem stm_macs (v) : (applyEff s (.stm v)).macs = s.macs := rfl
@[simp] theorem stm_stm (v) : (applyEff s (.stm v)).stm = v := rfl
@[simp] theorem stm_clk (v) : (applyEff s (.stm v)).clk = s.clk := rfl
@[simp] theorem stm_twn (v) : (applyEff s (.stm v)).twn = s.twn := rfl
@[simp] theorem stm_bad (v) : (applyEff s (.stm v)).bad = s.bad := rfl
@[simp] theorem stm_soft (v) : (applyEff s (.stm v)).soft = s.soft := rfl
@[simp] theorem stm_flips (v) : (applyEff s (.stm v)).flips = s.flips := rfl
@[simp] theorem stm_drc (v) : (applyEff s (.stm v)).drc = s.drc := rfl
@[simp] theorem stm_otp (v) : (applyEff s (.stm v)).otp = s.otp := rfl
@[simp] theorem stm_pending (v) : (applyEff s (.stm v)).pending = s.pending := rfl
@[simp] theorem stm_rd (v) : rd (applyEff s (.stm v)) = rd s := rfl
@[simp] theorem stm_memOk (v) : (applyEff s (.stm v)).memOk = s.memOk := rfl

@[simp] theorem clk_mem (v) : (applyEff s (.clk v)).mem = s.mem := rfl
@[simp] theorem clk_free (v) : (applyEff s (.clk v)).free = s.free := rfl
@[simp] theorem clk_out (v) : (applyEff s (.clk v)).out = s.out := rfl
@[simp] theorem clk_sys (v) : (applyEff s (.clk v)).sys = s.sys := rfl
@[simp] theorem clk_cocoon (v) : (applyEff s (.clk v)).cocoon = s.cocoon := rfl
@[simp] theorem clk_flash (v) : (applyEff s (.clk v)).flash = s.flash := rfl
@[simp] theorem clk_life (v) : (applyEff s (.clk v)).life = s.life := rfl
@[simp] theorem clk_log (v) : (applyEff s (.clk v)).log = s.log := rfl
@[simp] theorem clk_hth (v) : (applyEff s (.clk v)).hth = s.hth := rfl
@[simp] theorem clk_sec (v) : (applyEff s (.clk v)).sec = s.sec := rfl
@[simp] theorem clk_xbr (v) : (applyEff s (.clk v)).xbr = s.xbr := rfl
@[simp] theorem clk_hpt (v) : (applyEff s (.clk v)).hpt = s.hpt := rfl
@[simp] theorem clk_qch (v) : (applyEff s (.clk v)).qch = s.qch := rfl
@[simp] theorem clk_pins (v) : (applyEff s (.clk v)).pins = s.pins := rfl
@[simp] theorem clk_img (v) : (applyEff s (.clk v)).img = s.img := rfl
@[simp] theorem clk_scene (v) : (applyEff s (.clk v)).scene = s.scene := rfl
@[simp] theorem clk_loc (v) : (applyEff s (.clk v)).loc = s.loc := rfl
@[simp] theorem clk_wav (v) : (applyEff s (.clk v)).wav = s.wav := rfl
@[simp] theorem clk_feeds (v) : (applyEff s (.clk v)).feeds = s.feeds := rfl
@[simp] theorem clk_cru (v) : (applyEff s (.clk v)).cru = s.cru := rfl
@[simp] theorem clk_tpr (v) : (applyEff s (.clk v)).tpr = s.tpr := rfl
@[simp] theorem clk_lan (v) : (applyEff s (.clk v)).lan = s.lan := rfl
@[simp] theorem clk_bel (v) : (applyEff s (.clk v)).bel = s.bel := rfl
@[simp] theorem clk_aud (v) : (applyEff s (.clk v)).aud = s.aud := rfl
@[simp] theorem clk_macs (v) : (applyEff s (.clk v)).macs = s.macs := rfl
@[simp] theorem clk_stm (v) : (applyEff s (.clk v)).stm = s.stm := rfl
@[simp] theorem clk_clk (v) : (applyEff s (.clk v)).clk = v := rfl
@[simp] theorem clk_twn (v) : (applyEff s (.clk v)).twn = s.twn := rfl
@[simp] theorem clk_bad (v) : (applyEff s (.clk v)).bad = s.bad := rfl
@[simp] theorem clk_soft (v) : (applyEff s (.clk v)).soft = s.soft := rfl
@[simp] theorem clk_flips (v) : (applyEff s (.clk v)).flips = s.flips := rfl
@[simp] theorem clk_drc (v) : (applyEff s (.clk v)).drc = s.drc := rfl
@[simp] theorem clk_otp (v) : (applyEff s (.clk v)).otp = s.otp := rfl
@[simp] theorem clk_pending (v) : (applyEff s (.clk v)).pending = s.pending := rfl
@[simp] theorem clk_rd (v) : rd (applyEff s (.clk v)) = rd s := rfl
@[simp] theorem clk_memOk (v) : (applyEff s (.clk v)).memOk = s.memOk := rfl

@[simp] theorem twn_mem (v) : (applyEff s (.twn v)).mem = s.mem := rfl
@[simp] theorem twn_free (v) : (applyEff s (.twn v)).free = s.free := rfl
@[simp] theorem twn_out (v) : (applyEff s (.twn v)).out = s.out := rfl
@[simp] theorem twn_sys (v) : (applyEff s (.twn v)).sys = s.sys := rfl
@[simp] theorem twn_cocoon (v) : (applyEff s (.twn v)).cocoon = s.cocoon := rfl
@[simp] theorem twn_flash (v) : (applyEff s (.twn v)).flash = s.flash := rfl
@[simp] theorem twn_life (v) : (applyEff s (.twn v)).life = s.life := rfl
@[simp] theorem twn_log (v) : (applyEff s (.twn v)).log = s.log := rfl
@[simp] theorem twn_hth (v) : (applyEff s (.twn v)).hth = s.hth := rfl
@[simp] theorem twn_sec (v) : (applyEff s (.twn v)).sec = s.sec := rfl
@[simp] theorem twn_xbr (v) : (applyEff s (.twn v)).xbr = s.xbr := rfl
@[simp] theorem twn_hpt (v) : (applyEff s (.twn v)).hpt = s.hpt := rfl
@[simp] theorem twn_qch (v) : (applyEff s (.twn v)).qch = s.qch := rfl
@[simp] theorem twn_pins (v) : (applyEff s (.twn v)).pins = s.pins := rfl
@[simp] theorem twn_img (v) : (applyEff s (.twn v)).img = s.img := rfl
@[simp] theorem twn_scene (v) : (applyEff s (.twn v)).scene = s.scene := rfl
@[simp] theorem twn_loc (v) : (applyEff s (.twn v)).loc = s.loc := rfl
@[simp] theorem twn_wav (v) : (applyEff s (.twn v)).wav = s.wav := rfl
@[simp] theorem twn_feeds (v) : (applyEff s (.twn v)).feeds = s.feeds := rfl
@[simp] theorem twn_cru (v) : (applyEff s (.twn v)).cru = s.cru := rfl
@[simp] theorem twn_tpr (v) : (applyEff s (.twn v)).tpr = s.tpr := rfl
@[simp] theorem twn_lan (v) : (applyEff s (.twn v)).lan = s.lan := rfl
@[simp] theorem twn_bel (v) : (applyEff s (.twn v)).bel = s.bel := rfl
@[simp] theorem twn_aud (v) : (applyEff s (.twn v)).aud = s.aud := rfl
@[simp] theorem twn_macs (v) : (applyEff s (.twn v)).macs = s.macs := rfl
@[simp] theorem twn_stm (v) : (applyEff s (.twn v)).stm = s.stm := rfl
@[simp] theorem twn_clk (v) : (applyEff s (.twn v)).clk = s.clk := rfl
@[simp] theorem twn_twn (v) : (applyEff s (.twn v)).twn = v := rfl
@[simp] theorem twn_bad (v) : (applyEff s (.twn v)).bad = s.bad := rfl
@[simp] theorem twn_soft (v) : (applyEff s (.twn v)).soft = s.soft := rfl
@[simp] theorem twn_flips (v) : (applyEff s (.twn v)).flips = s.flips := rfl
@[simp] theorem twn_drc (v) : (applyEff s (.twn v)).drc = s.drc := rfl
@[simp] theorem twn_otp (v) : (applyEff s (.twn v)).otp = s.otp := rfl
@[simp] theorem twn_pending (v) : (applyEff s (.twn v)).pending = s.pending := rfl
@[simp] theorem twn_rd (v) : rd (applyEff s (.twn v)) = rd s := rfl
@[simp] theorem twn_memOk (v) : (applyEff s (.twn v)).memOk = s.memOk := rfl

@[simp] theorem bad_mem (v) : (applyEff s (.bad v)).mem = s.mem := rfl
@[simp] theorem bad_free (v) : (applyEff s (.bad v)).free = s.free := rfl
@[simp] theorem bad_out (v) : (applyEff s (.bad v)).out = s.out := rfl
@[simp] theorem bad_sys (v) : (applyEff s (.bad v)).sys = s.sys := rfl
@[simp] theorem bad_cocoon (v) : (applyEff s (.bad v)).cocoon = s.cocoon := rfl
@[simp] theorem bad_flash (v) : (applyEff s (.bad v)).flash = s.flash := rfl
@[simp] theorem bad_life (v) : (applyEff s (.bad v)).life = s.life := rfl
@[simp] theorem bad_log (v) : (applyEff s (.bad v)).log = s.log := rfl
@[simp] theorem bad_hth (v) : (applyEff s (.bad v)).hth = s.hth := rfl
@[simp] theorem bad_sec (v) : (applyEff s (.bad v)).sec = s.sec := rfl
@[simp] theorem bad_xbr (v) : (applyEff s (.bad v)).xbr = s.xbr := rfl
@[simp] theorem bad_hpt (v) : (applyEff s (.bad v)).hpt = s.hpt := rfl
@[simp] theorem bad_qch (v) : (applyEff s (.bad v)).qch = s.qch := rfl
@[simp] theorem bad_pins (v) : (applyEff s (.bad v)).pins = s.pins := rfl
@[simp] theorem bad_img (v) : (applyEff s (.bad v)).img = s.img := rfl
@[simp] theorem bad_scene (v) : (applyEff s (.bad v)).scene = s.scene := rfl
@[simp] theorem bad_loc (v) : (applyEff s (.bad v)).loc = s.loc := rfl
@[simp] theorem bad_wav (v) : (applyEff s (.bad v)).wav = s.wav := rfl
@[simp] theorem bad_feeds (v) : (applyEff s (.bad v)).feeds = s.feeds := rfl
@[simp] theorem bad_cru (v) : (applyEff s (.bad v)).cru = s.cru := rfl
@[simp] theorem bad_tpr (v) : (applyEff s (.bad v)).tpr = s.tpr := rfl
@[simp] theorem bad_lan (v) : (applyEff s (.bad v)).lan = s.lan := rfl
@[simp] theorem bad_bel (v) : (applyEff s (.bad v)).bel = s.bel := rfl
@[simp] theorem bad_aud (v) : (applyEff s (.bad v)).aud = s.aud := rfl
@[simp] theorem bad_macs (v) : (applyEff s (.bad v)).macs = s.macs := rfl
@[simp] theorem bad_stm (v) : (applyEff s (.bad v)).stm = s.stm := rfl
@[simp] theorem bad_clk (v) : (applyEff s (.bad v)).clk = s.clk := rfl
@[simp] theorem bad_twn (v) : (applyEff s (.bad v)).twn = s.twn := rfl
@[simp] theorem bad_bad (v) : (applyEff s (.bad v)).bad = v := rfl
@[simp] theorem bad_soft (v) : (applyEff s (.bad v)).soft = s.soft := rfl
@[simp] theorem bad_flips (v) : (applyEff s (.bad v)).flips = s.flips := rfl
@[simp] theorem bad_drc (v) : (applyEff s (.bad v)).drc = s.drc := rfl
@[simp] theorem bad_otp (v) : (applyEff s (.bad v)).otp = s.otp := rfl
@[simp] theorem bad_pending (v) : (applyEff s (.bad v)).pending = s.pending := rfl
@[simp] theorem bad_rd (v) : rd (applyEff s (.bad v)) = rd s := rfl
@[simp] theorem bad_memOk (v) : (applyEff s (.bad v)).memOk = s.memOk := rfl

@[simp] theorem soft_mem (v) : (applyEff s (.soft v)).mem = s.mem := rfl
@[simp] theorem soft_free (v) : (applyEff s (.soft v)).free = s.free := rfl
@[simp] theorem soft_out (v) : (applyEff s (.soft v)).out = s.out := rfl
@[simp] theorem soft_sys (v) : (applyEff s (.soft v)).sys = s.sys := rfl
@[simp] theorem soft_cocoon (v) : (applyEff s (.soft v)).cocoon = s.cocoon := rfl
@[simp] theorem soft_flash (v) : (applyEff s (.soft v)).flash = s.flash := rfl
@[simp] theorem soft_life (v) : (applyEff s (.soft v)).life = s.life := rfl
@[simp] theorem soft_log (v) : (applyEff s (.soft v)).log = s.log := rfl
@[simp] theorem soft_hth (v) : (applyEff s (.soft v)).hth = s.hth := rfl
@[simp] theorem soft_sec (v) : (applyEff s (.soft v)).sec = s.sec := rfl
@[simp] theorem soft_xbr (v) : (applyEff s (.soft v)).xbr = s.xbr := rfl
@[simp] theorem soft_hpt (v) : (applyEff s (.soft v)).hpt = s.hpt := rfl
@[simp] theorem soft_qch (v) : (applyEff s (.soft v)).qch = s.qch := rfl
@[simp] theorem soft_pins (v) : (applyEff s (.soft v)).pins = s.pins := rfl
@[simp] theorem soft_img (v) : (applyEff s (.soft v)).img = s.img := rfl
@[simp] theorem soft_scene (v) : (applyEff s (.soft v)).scene = s.scene := rfl
@[simp] theorem soft_loc (v) : (applyEff s (.soft v)).loc = s.loc := rfl
@[simp] theorem soft_wav (v) : (applyEff s (.soft v)).wav = s.wav := rfl
@[simp] theorem soft_feeds (v) : (applyEff s (.soft v)).feeds = s.feeds := rfl
@[simp] theorem soft_cru (v) : (applyEff s (.soft v)).cru = s.cru := rfl
@[simp] theorem soft_tpr (v) : (applyEff s (.soft v)).tpr = s.tpr := rfl
@[simp] theorem soft_lan (v) : (applyEff s (.soft v)).lan = s.lan := rfl
@[simp] theorem soft_bel (v) : (applyEff s (.soft v)).bel = s.bel := rfl
@[simp] theorem soft_aud (v) : (applyEff s (.soft v)).aud = s.aud := rfl
@[simp] theorem soft_macs (v) : (applyEff s (.soft v)).macs = s.macs := rfl
@[simp] theorem soft_stm (v) : (applyEff s (.soft v)).stm = s.stm := rfl
@[simp] theorem soft_clk (v) : (applyEff s (.soft v)).clk = s.clk := rfl
@[simp] theorem soft_twn (v) : (applyEff s (.soft v)).twn = s.twn := rfl
@[simp] theorem soft_bad (v) : (applyEff s (.soft v)).bad = s.bad := rfl
@[simp] theorem soft_soft (v) : (applyEff s (.soft v)).soft = v := rfl
@[simp] theorem soft_flips (v) : (applyEff s (.soft v)).flips = s.flips := rfl
@[simp] theorem soft_drc (v) : (applyEff s (.soft v)).drc = s.drc := rfl
@[simp] theorem soft_otp (v) : (applyEff s (.soft v)).otp = s.otp := rfl
@[simp] theorem soft_pending (v) : (applyEff s (.soft v)).pending = s.pending := rfl
@[simp] theorem soft_rd (v) : rd (applyEff s (.soft v)) = rd s := rfl
@[simp] theorem soft_memOk (v) : (applyEff s (.soft v)).memOk = s.memOk := rfl

@[simp] theorem flips_mem (v) : (applyEff s (.flips v)).mem = s.mem := rfl
@[simp] theorem flips_free (v) : (applyEff s (.flips v)).free = s.free := rfl
@[simp] theorem flips_out (v) : (applyEff s (.flips v)).out = s.out := rfl
@[simp] theorem flips_sys (v) : (applyEff s (.flips v)).sys = s.sys := rfl
@[simp] theorem flips_cocoon (v) : (applyEff s (.flips v)).cocoon = s.cocoon := rfl
@[simp] theorem flips_flash (v) : (applyEff s (.flips v)).flash = s.flash := rfl
@[simp] theorem flips_life (v) : (applyEff s (.flips v)).life = s.life := rfl
@[simp] theorem flips_log (v) : (applyEff s (.flips v)).log = s.log := rfl
@[simp] theorem flips_hth (v) : (applyEff s (.flips v)).hth = s.hth := rfl
@[simp] theorem flips_sec (v) : (applyEff s (.flips v)).sec = s.sec := rfl
@[simp] theorem flips_xbr (v) : (applyEff s (.flips v)).xbr = s.xbr := rfl
@[simp] theorem flips_hpt (v) : (applyEff s (.flips v)).hpt = s.hpt := rfl
@[simp] theorem flips_qch (v) : (applyEff s (.flips v)).qch = s.qch := rfl
@[simp] theorem flips_pins (v) : (applyEff s (.flips v)).pins = s.pins := rfl
@[simp] theorem flips_img (v) : (applyEff s (.flips v)).img = s.img := rfl
@[simp] theorem flips_scene (v) : (applyEff s (.flips v)).scene = s.scene := rfl
@[simp] theorem flips_loc (v) : (applyEff s (.flips v)).loc = s.loc := rfl
@[simp] theorem flips_wav (v) : (applyEff s (.flips v)).wav = s.wav := rfl
@[simp] theorem flips_feeds (v) : (applyEff s (.flips v)).feeds = s.feeds := rfl
@[simp] theorem flips_cru (v) : (applyEff s (.flips v)).cru = s.cru := rfl
@[simp] theorem flips_tpr (v) : (applyEff s (.flips v)).tpr = s.tpr := rfl
@[simp] theorem flips_lan (v) : (applyEff s (.flips v)).lan = s.lan := rfl
@[simp] theorem flips_bel (v) : (applyEff s (.flips v)).bel = s.bel := rfl
@[simp] theorem flips_aud (v) : (applyEff s (.flips v)).aud = s.aud := rfl
@[simp] theorem flips_macs (v) : (applyEff s (.flips v)).macs = s.macs := rfl
@[simp] theorem flips_stm (v) : (applyEff s (.flips v)).stm = s.stm := rfl
@[simp] theorem flips_clk (v) : (applyEff s (.flips v)).clk = s.clk := rfl
@[simp] theorem flips_twn (v) : (applyEff s (.flips v)).twn = s.twn := rfl
@[simp] theorem flips_bad (v) : (applyEff s (.flips v)).bad = s.bad := rfl
@[simp] theorem flips_soft (v) : (applyEff s (.flips v)).soft = s.soft := rfl
@[simp] theorem flips_flips (v) : (applyEff s (.flips v)).flips = v := rfl
@[simp] theorem flips_drc (v) : (applyEff s (.flips v)).drc = s.drc := rfl
@[simp] theorem flips_otp (v) : (applyEff s (.flips v)).otp = s.otp := rfl
@[simp] theorem flips_pending (v) : (applyEff s (.flips v)).pending = s.pending := rfl
@[simp] theorem flips_rd (v) : rd (applyEff s (.flips v)) = rd s := rfl
@[simp] theorem flips_memOk (v) : (applyEff s (.flips v)).memOk = s.memOk := rfl

@[simp] theorem drc_mem (v) : (applyEff s (.drc v)).mem = s.mem := rfl
@[simp] theorem drc_free (v) : (applyEff s (.drc v)).free = s.free := rfl
@[simp] theorem drc_out (v) : (applyEff s (.drc v)).out = s.out := rfl
@[simp] theorem drc_sys (v) : (applyEff s (.drc v)).sys = s.sys := rfl
@[simp] theorem drc_cocoon (v) : (applyEff s (.drc v)).cocoon = s.cocoon := rfl
@[simp] theorem drc_flash (v) : (applyEff s (.drc v)).flash = s.flash := rfl
@[simp] theorem drc_life (v) : (applyEff s (.drc v)).life = s.life := rfl
@[simp] theorem drc_log (v) : (applyEff s (.drc v)).log = s.log := rfl
@[simp] theorem drc_hth (v) : (applyEff s (.drc v)).hth = s.hth := rfl
@[simp] theorem drc_sec (v) : (applyEff s (.drc v)).sec = s.sec := rfl
@[simp] theorem drc_xbr (v) : (applyEff s (.drc v)).xbr = s.xbr := rfl
@[simp] theorem drc_hpt (v) : (applyEff s (.drc v)).hpt = s.hpt := rfl
@[simp] theorem drc_qch (v) : (applyEff s (.drc v)).qch = s.qch := rfl
@[simp] theorem drc_pins (v) : (applyEff s (.drc v)).pins = s.pins := rfl
@[simp] theorem drc_img (v) : (applyEff s (.drc v)).img = s.img := rfl
@[simp] theorem drc_scene (v) : (applyEff s (.drc v)).scene = s.scene := rfl
@[simp] theorem drc_loc (v) : (applyEff s (.drc v)).loc = s.loc := rfl
@[simp] theorem drc_wav (v) : (applyEff s (.drc v)).wav = s.wav := rfl
@[simp] theorem drc_feeds (v) : (applyEff s (.drc v)).feeds = s.feeds := rfl
@[simp] theorem drc_cru (v) : (applyEff s (.drc v)).cru = s.cru := rfl
@[simp] theorem drc_tpr (v) : (applyEff s (.drc v)).tpr = s.tpr := rfl
@[simp] theorem drc_lan (v) : (applyEff s (.drc v)).lan = s.lan := rfl
@[simp] theorem drc_bel (v) : (applyEff s (.drc v)).bel = s.bel := rfl
@[simp] theorem drc_aud (v) : (applyEff s (.drc v)).aud = s.aud := rfl
@[simp] theorem drc_macs (v) : (applyEff s (.drc v)).macs = s.macs := rfl
@[simp] theorem drc_stm (v) : (applyEff s (.drc v)).stm = s.stm := rfl
@[simp] theorem drc_clk (v) : (applyEff s (.drc v)).clk = s.clk := rfl
@[simp] theorem drc_twn (v) : (applyEff s (.drc v)).twn = s.twn := rfl
@[simp] theorem drc_bad (v) : (applyEff s (.drc v)).bad = s.bad := rfl
@[simp] theorem drc_soft (v) : (applyEff s (.drc v)).soft = s.soft := rfl
@[simp] theorem drc_flips (v) : (applyEff s (.drc v)).flips = s.flips := rfl
@[simp] theorem drc_drc (v) : (applyEff s (.drc v)).drc = v := rfl
@[simp] theorem drc_otp (v) : (applyEff s (.drc v)).otp = s.otp := rfl
@[simp] theorem drc_pending (v) : (applyEff s (.drc v)).pending = s.pending := rfl
@[simp] theorem drc_rd (v) : rd (applyEff s (.drc v)) = rd s := rfl
@[simp] theorem drc_memOk (v) : (applyEff s (.drc v)).memOk = s.memOk := rfl

end Sys2Proof.Machine
end

