-- ==== Sys2Proof/Laws/Act.lean ====
section
/-! SUPPORT. What an act does, said once: acts one after the other, what every act keeps (the canonical form of the memory,
the queue, every blown fuse), and how to show that an act leaves a part of the state alone. -/
namespace Sys2Proof.Machine
open Sys2Proof

/-! ### Effects in order -/

@[simp] theorem applyAll_nil (s : State) : applyAll [] s = s := rfl

@[simp] theorem applyAll_cons (e : Eff) (es : List Eff) (s : State) : applyAll (e :: es) s = applyAll es (applyEff s e) := rfl

@[simp] theorem applyAll_append (es fs : List Eff) (s : State) : applyAll (es ++ fs) s = applyAll fs (applyAll es s) := by
  simp [applyAll, List.foldl_append]

@[simp] theorem seq_nil (s : State) : applyAll (seq [] s) s = s := rfl

/-- Acts in order: the later ones see what the first one leaves. -/
@[simp] theorem seq_cons (a : Act) (as : List Act) (s : State) :
    applyAll (seq (a :: as) s) s = applyAll (seq as (applyAll (a s) s)) (applyAll (a s) s) := by
  simp [seq]

theorem seq_append (as bs : List Act) (s : State) :
    applyAll (seq (as ++ bs) s) s = applyAll (seq bs (applyAll (seq as s) s)) (applyAll (seq as s) s) := by
  induction as generalizing s with
  | nil => rfl
  | cons a as ih => simp [ih]

theorem when_pos (c : State → Bool) (a : Act) (s : State) (h : c s = true) : when c a s = a s := by simp [when, h]

theorem when_neg (c : State → Bool) (a : Act) (s : State) (h : c s = false) : when c a s = [] := by simp [when, h]

theorem ifThen_pos (c : State → Bool) (a b : Act) (s : State) (h : c s = true) : ifThen c a b s = a s := by simp [ifThen, h]

theorem ifThen_neg (c : State → Bool) (a b : Act) (s : State) (h : c s = false) : ifThen c a b s = b s := by simp [ifThen, h]

/-! ### What every act keeps -/

theorem applyEff_memOk (s : State) (e : Eff) (h : s.memOk = true) : (applyEff s e).memOk = true := by
  unfold State.memOk Memory.wf at *
  cases e <;> first
    | exact h
    | (simp only [mem_mem, memKeep_mem]; first | exact sparseWf_set _ _ _ _ h | exact sparseWf_filter _ _ _ h)

/-- Every act keeps the canonical form of the memory. -/
theorem applyAll_memOk (es : List Eff) (s : State) (h : s.memOk = true) : (applyAll es s).memOk = true := by
  induction es generalizing s with
  | nil => exact h
  | cons e es ih => exact ih _ (applyEff_memOk s e h)

theorem applyEff_pending (s : State) (e : Eff) : (applyEff s e).pending = s.pending := by cases e <;> rfl

/-- No act reaches the queue of commands. -/
@[simp] theorem applyAll_pending (es : List Eff) (s : State) : (applyAll es s).pending = s.pending := by
  induction es generalizing s with
  | nil => rfl
  | cons e es ih => rw [applyAll_cons, ih, applyEff_pending]

/-! ### Reading memory after effects -/

theorem rd_poke (s : State) (a : Nat) (w : Word) (h : s.memOk = true) : rd (applyEff s (.mem a w)) a = w :=
  sparseGet_set_same _ _ _ _ h

theorem rd_poke_other (s : State) (a b : Nat) (w : Word) (h : s.memOk = true) (hb : b ≠ a) :
    rd (applyEff s (.mem a w)) b = rd s b :=
  sparseGet_set_other _ _ _ _ _ h hb

/-- A store, and what every word reads afterwards. -/
theorem rd_mem (s : State) (a b : Nat) (w : Word) (h : s.memOk = true) :
    rd (applyEff s (.mem a w)) b = if b = a then w else rd s b := by
  split
  · subst_vars; exact rd_poke s _ w h
  · exact rd_poke_other s a b w h ‹_›

/-- A store keeps the canonical form. -/
theorem mem_memOk (s : State) (a : Nat) (w : Word) (h : s.memOk = true) : (applyEff s (.mem a w)).memOk = true := applyEff_memOk s _ h

/-! ### Acts that leave a part of the state alone -/

/-- The act leaves `f` of the state as it was (in states whose memory is canonical). -/
def Keeps {β : Sort _} (f : State → β) (a : Act) : Prop := ∀ s, s.memOk = true → f (applyAll (a s) s) = f s

section
variable {β : Sort _} {f : State → β} {a b : Act}

theorem keeps_nop : Keeps f nop := fun _ _ => rfl

theorem keeps_nil : Keeps f (seq []) := fun _ _ => rfl

theorem keeps_cons {as : List Act} (h : Keeps f a) (hs : Keeps f (seq as)) : Keeps f (seq (a :: as)) := fun s hm => by
  rw [seq_cons, hs _ (applyAll_memOk _ _ hm), h s hm]

theorem keeps_seq {as : List Act} (h : ∀ x ∈ as, Keeps f x) : Keeps f (seq as) := by
  induction as with
  | nil => exact keeps_nil
  | cons x as ih => exact keeps_cons (h x (by simp)) (ih fun y hy => h y (List.mem_cons_of_mem _ hy))

theorem keeps_each {α : Type} (l : List α) {g : α → Act} (h : ∀ x, Keeps f (g x)) : Keeps f (each l g) :=
  keeps_seq fun x hx => by
    obtain ⟨y, -, rfl⟩ := List.mem_map.1 hx
    exact h y

theorem keeps_when {c : State → Bool} (h : Keeps f a) : Keeps f (when c a) := fun s hm => by
  unfold when
  split
  · exact h s hm
  · rfl

theorem keeps_ifThen {c : State → Bool} (ha : Keeps f a) (hb : Keeps f b) : Keeps f (ifThen c a b) := fun s hm => by
  unfold ifThen
  split
  · exact ha s hm
  · exact hb s hm

/-- An act chosen by looking at the state. -/
theorem keeps_look {g : State → Act} (h : ∀ t, Keeps f (g t)) : Keeps f (fun s => g s s) := fun s hm => h s s hm

theorem keeps_draw {t : Nat} {k : Nat → Act} (hf : ∀ s v, f (applyEff s (.free v)) = f s) (h : ∀ v, Keeps f (k v)) :
    Keeps f (draw t k) := fun s hm => by
  have h1 := h (Config.freeNat t s.free) (applyEff s (.free (s.free + 1))) hm
  exact h1.trans (hf s _)

theorem keeps_one {g : State → Eff} (h : ∀ s, s.memOk = true → f (applyEff s (g s)) = f s) : Keeps f (fun s => [g s]) :=
  fun s hm => h s hm

/-- A store elsewhere leaves a word as it was. -/
theorem keeps_poke (x y : Nat) (w : Word) (h : y ≠ x) : Keeps (fun s => rd s y) (poke x w) := fun s hm =>
  rd_poke_other s x y w hm h

theorem keeps_pokeF (x y hi lo v : Nat) (h : y ≠ x) : Keeps (fun s => rd s y) (pokeF x hi lo v) := fun s hm =>
  rd_poke_other s x y _ hm h

theorem keeps_setBits (x y m : Nat) (h : y ≠ x) : Keeps (fun s => rd s y) (setBits x m) := fun s hm =>
  rd_poke_other s x y _ hm h

theorem keeps_clrBits (x y m : Nat) (h : y ≠ x) : Keeps (fun s => rd s y) (clrBits x m) := fun s hm =>
  rd_poke_other s x y _ hm h

theorem keeps_bump (x y hi lo n : Nat) (h : y ≠ x) : Keeps (fun s => rd s y) (bump x hi lo n) := fun s hm =>
  rd_poke_other s x y _ hm h

end

/-! ### Commands -/

/-- A command is its act on the state with the outputs of the previous command cleared. -/
theorem run_eq (a : Act) (s : State) : run a s = applyAll (a (applyEff s (.out []))) (applyEff s (.out [])) := rfl

theorem run_memOk (a : Act) (s : State) (h : s.memOk = true) : (run a s).memOk = true := applyAll_memOk _ _ h

@[simp] theorem run_pending (a : Act) (s : State) : (run a s).pending = s.pending := applyAll_pending _ _

/-- A command made of an act that leaves `f` alone leaves `f` alone, if `f` does not look at the outputs. -/
theorem run_keeps {β : Sort _} {f : State → β} {a : Act} (h : Keeps f a) (hf : ∀ s v, f (applyEff s (.out v)) = f s) (s : State)
    (hm : s.memOk = true) : f (run a s) = f s := by
  rw [run_eq, h (applyEff s (.out [])) hm, hf]

end Sys2Proof.Machine
end

