-- ==== Sys2Proof/Laws/Fields.lean ====
section
/-! SUPPORT. Bit fields of a word: what a field reads after it, or another one, is replaced. -/
namespace Sys2Proof.Machine
open Sys2Proof

theorem bits_lt (w hi lo : Nat) : bits w hi lo < 2 ^ (hi + 1 - lo) := Nat.mod_lt _ (Nat.two_pow_pos _)

theorem fld_lt (w : Word) (hi lo : Nat) : fld w hi lo < 2 ^ (hi + 1 - lo) := bits_lt _ _ _

/-- A number as what lies above a field, the field, and what lies below. -/
theorem split_field (x lo n : Nat) : x = x / 2 ^ (lo + n) * 2 ^ (lo + n) + (x / 2 ^ lo % 2 ^ n) * 2 ^ lo + x % 2 ^ lo := by
  have h1 := Nat.div_add_mod x (2 ^ lo)
  have h2 := Nat.div_add_mod (x / 2 ^ lo) (2 ^ n)
  rw [Nat.div_div_eq_div_mul, ← Nat.pow_add] at h2
  calc x = 2 ^ lo * (x / 2 ^ lo) + x % 2 ^ lo := h1.symm
    _ = 2 ^ lo * (2 ^ n * (x / 2 ^ (lo + n)) + x / 2 ^ lo % 2 ^ n) + x % 2 ^ lo := by rw [h2]
    _ = _ := by rw [Nat.pow_add]; ring

/-- The word with a field replaced, as a number. -/
theorem setFld_toNat (w : Word) (hi lo v : Nat) (h : hi < 36) (hl : lo ≤ hi) :
    (setFld w hi lo v).toNat = w.toNat / 2 ^ (hi + 1) * 2 ^ (hi + 1) + (v % 2 ^ (hi + 1 - lo)) * 2 ^ lo + w.toNat % 2 ^ lo := by
  have e : lo + (hi + 1 - lo) = hi + 1 := by omega
  have hs := split_field w.toNat lo (hi + 1 - lo)
  rw [e] at hs
  have hw : w.toNat < 2 ^ 36 := w.isLt
  have hf : fld w hi lo = w.toNat / 2 ^ lo % 2 ^ (hi + 1 - lo) := by simp [fld, bits, Nat.shiftRight_eq_div_pow]
  have hv : v % 2 ^ (hi + 1 - lo) < 2 ^ (hi + 1 - lo) := Nat.mod_lt _ (Nat.two_pow_pos _)
  have hlow : w.toNat % 2 ^ lo < 2 ^ lo := Nat.mod_lt _ (Nat.two_pow_pos _)
  have hp : 2 ^ lo * 2 ^ (hi + 1 - lo) = 2 ^ (hi + 1) := by rw [← Nat.pow_add, e]
  have hq : 2 ^ (hi + 1) * 2 ^ (36 - (hi + 1)) = 2 ^ 36 := by rw [← Nat.pow_add]; congr 1; omega
  have hd : w.toNat / 2 ^ (hi + 1) < 2 ^ (36 - (hi + 1)) := by
    rw [Nat.div_lt_iff_lt_mul (Nat.two_pow_pos _), Nat.mul_comm, hq]; exact hw
  have hbound : w.toNat / 2 ^ (hi + 1) * 2 ^ (hi + 1) + (v % 2 ^ (hi + 1 - lo)) * 2 ^ lo + w.toNat % 2 ^ lo < 2 ^ 36 := by
    have h1 : (v % 2 ^ (hi + 1 - lo)) * 2 ^ lo + w.toNat % 2 ^ lo < 2 ^ (hi + 1) := by
      have : (v % 2 ^ (hi + 1 - lo) + 1) * 2 ^ lo ≤ 2 ^ (hi + 1 - lo) * 2 ^ lo := Nat.mul_le_mul_right _ hv
      rw [Nat.mul_comm (2 ^ (hi + 1 - lo)), hp] at this
      rw [Nat.add_mul] at this
      omega
    have h2 : (w.toNat / 2 ^ (hi + 1) + 1) * 2 ^ (hi + 1) ≤ 2 ^ (36 - (hi + 1)) * 2 ^ (hi + 1) := Nat.mul_le_mul_right _ hd
    rw [Nat.mul_comm (2 ^ (36 - (hi + 1))), hq, Nat.add_mul] at h2
    omega
  have e2 : w.toNat - fld w hi lo * 2 ^ lo = w.toNat / 2 ^ (hi + 1) * 2 ^ (hi + 1) + w.toNat % 2 ^ lo := by
    rw [hf]; omega
  simp only [setFld, BitVec.toNat_ofNat]
  rw [e2, Nat.mod_eq_of_lt (by omega)]
  omega

/-- A field that was replaced reads as the new value, as far as it fits. -/
theorem fld_setFld (w : Word) (hi lo v : Nat) (h : hi < 36) (hl : lo ≤ hi) : fld (setFld w hi lo v) hi lo = v % 2 ^ (hi + 1 - lo) := by
  have e : lo + (hi + 1 - lo) = hi + 1 := by omega
  have hlow : w.toNat % 2 ^ lo < 2 ^ lo := Nat.mod_lt _ (Nat.two_pow_pos _)
  rw [fld, setFld_toNat w hi lo v h hl, bits, Nat.shiftRight_eq_div_pow]
  have : w.toNat / 2 ^ (hi + 1) * 2 ^ (hi + 1) + (v % 2 ^ (hi + 1 - lo)) * 2 ^ lo + w.toNat % 2 ^ lo
      = w.toNat % 2 ^ lo + 2 ^ lo * (2 ^ (hi + 1 - lo) * (w.toNat / 2 ^ (hi + 1)) + v % 2 ^ (hi + 1 - lo)) := by
    rw [← e, Nat.pow_add, show lo + (hi + 1 - lo) - lo = hi + 1 - lo by omega]; ring
  rw [this, Nat.add_mul_div_left _ _ (Nat.two_pow_pos _), Nat.div_eq_of_lt hlow, Nat.zero_add, Nat.mul_add_mod, Nat.mod_mod]

/-- A field below one that was replaced reads as before. -/
theorem fld_setFld_below (w : Word) (hi lo v hi' lo' : Nat) (h : hi < 36) (hl : lo ≤ hi) (hb : hi' < lo) :
    fld (setFld w hi lo v) hi' lo' = fld w hi' lo' := by
  by_cases hl' : lo' ≤ hi'
  · have key : ∀ x, bits x hi' lo' = x % 2 ^ lo / 2 ^ lo' % 2 ^ (hi' + 1 - lo') := by
      intro x
      have e : 2 ^ lo = 2 ^ lo' * (2 ^ (hi' + 1 - lo') * 2 ^ (lo - hi' - 1)) := by
        rw [← Nat.pow_add, ← Nat.pow_add]; congr 1; omega
      rw [bits, Nat.shiftRight_eq_div_pow, e, Nat.mod_mul_right_div_self, Nat.mod_mod_of_dvd _ (Nat.dvd_mul_right _ _)]
    have e : 2 ^ (hi + 1) = 2 ^ lo * 2 ^ (hi + 1 - lo) := by rw [← Nat.pow_add]; congr 1; omega
    have : w.toNat / 2 ^ (hi + 1) * 2 ^ (hi + 1) + (v % 2 ^ (hi + 1 - lo)) * 2 ^ lo + w.toNat % 2 ^ lo
        = w.toNat % 2 ^ lo + 2 ^ lo * (2 ^ (hi + 1 - lo) * (w.toNat / 2 ^ (hi + 1)) + v % 2 ^ (hi + 1 - lo)) := by
      rw [e]; ring
    rw [fld, fld, key, key, setFld_toNat w hi lo v h hl, this, Nat.add_mul_mod_self_left, Nat.mod_mod]
  · have : hi' + 1 - lo' = 0 := by omega
    simp [fld, bits, this, Nat.mod_one]

/-- A field above one that was replaced reads as before. -/
theorem fld_setFld_above (w : Word) (hi lo v hi' lo' : Nat) (h : hi < 36) (hl : lo ≤ hi) (ha : hi < lo') :
    fld (setFld w hi lo v) hi' lo' = fld w hi' lo' := by
  have key : ∀ x, bits x hi' lo' = x / 2 ^ (hi + 1) / 2 ^ (lo' - hi - 1) % 2 ^ (hi' + 1 - lo') := by
    intro x
    rw [bits, Nat.shiftRight_eq_div_pow, Nat.div_div_eq_div_mul, ← Nat.pow_add]; congr 3; omega
  have hv : v % 2 ^ (hi + 1 - lo) < 2 ^ (hi + 1 - lo) := Nat.mod_lt _ (Nat.two_pow_pos _)
  have hlow : w.toNat % 2 ^ lo < 2 ^ lo := Nat.mod_lt _ (Nat.two_pow_pos _)
  have hp : 2 ^ lo * 2 ^ (hi + 1 - lo) = 2 ^ (hi + 1) := by rw [← Nat.pow_add]; congr 1; omega
  have h1 : (v % 2 ^ (hi + 1 - lo)) * 2 ^ lo + w.toNat % 2 ^ lo < 2 ^ (hi + 1) := by
    have : (v % 2 ^ (hi + 1 - lo) + 1) * 2 ^ lo ≤ 2 ^ (hi + 1 - lo) * 2 ^ lo := Nat.mul_le_mul_right _ hv
    rw [Nat.mul_comm (2 ^ (hi + 1 - lo)), hp, Nat.add_mul] at this
    omega
  have : (w.toNat / 2 ^ (hi + 1) * 2 ^ (hi + 1) + (v % 2 ^ (hi + 1 - lo)) * 2 ^ lo + w.toNat % 2 ^ lo) / 2 ^ (hi + 1)
      = w.toNat / 2 ^ (hi + 1) := by
    rw [Nat.add_assoc, Nat.mul_comm, Nat.mul_add_div (Nat.two_pow_pos _), Nat.div_eq_of_lt h1, Nat.add_zero]
  rw [fld, fld, key, key, setFld_toNat w hi lo v h hl, this]

/-- A bit of a word is its one-bit field. -/
theorem flag_eq_fld (w : Word) (i : Nat) : flag w i = (fld w i i == 1) := by
  have h : fld w i i = (w.toNat.testBit i).toNat := by
    rw [fld, bits, Nat.shiftRight_eq_div_pow, show i + 1 - i = 1 by omega, Nat.pow_one, Nat.toNat_testBit]
  have : flag w i = w.toNat.testBit i := by simp [flag, BitVec.getLsbD]
  rw [h, this]
  cases w.toNat.testBit i <;> rfl

end Sys2Proof.Machine
end

