-- ==== Sys2Proof/Laws/Lanes.lean ====
section
/-! SUPPORT. How a lane instruction issues: replacing a run, results on their way, and the one equation that every lane instruction
follows from. -/
namespace Sys2Proof.Machine
open Sys2Proof

variable {α : Type}

theorem sparsePut_put (t : List (Nat × α)) (k : Nat) (v w : α) : sparsePut (sparsePut t k v) k w = sparsePut t k w := by
  induction t with
  | nil => simp [sparsePut]
  | cons e r ih =>
    obtain ⟨j, x⟩ := e
    by_cases h : j = k
    · simp [sparsePut, h]
    · by_cases h2 : k < j
      · simp [sparsePut, h, h2]
      · simp [sparsePut, h, h2, ih]

theorem sparseFind_put (t : List (Nat × α)) (k : Nat) (v : α) : sparseFind (sparsePut t k v) k = some v := by
  induction t with
  | nil => simp [sparsePut, sparseFind]
  | cons e r ih =>
    obtain ⟨j, x⟩ := e
    simp only [sparsePut]
    split
    · simp [sparseFind]
    · split
      · simp [sparseFind]
      · have : ¬ (j == k) = true := by simpa using ‹¬ j = k›
        simpa [sparseFind, this] using ih

theorem sparseFind_put_other (t : List (Nat × α)) (k j : Nat) (v : α) (h : j ≠ k) : sparseFind (sparsePut t k v) j = sparseFind t j := by
  induction t with
  | nil => simp [sparsePut, sparseFind, Ne.symm h]
  | cons e r ih =>
    obtain ⟨i, x⟩ := e
    simp only [sparsePut]
    split
    · subst_vars; simp [sparseFind, Ne.symm h]
    · split
      · simp [sparseFind, Ne.symm h]
      · simp only [sparseFind, List.find?_cons] at ih ⊢
        split
        · rfl
        · exact ih

/-! ### Runs -/

@[simp] theorem withRun_runOf (s : State) (c : Nat) (r : LaneRun) : runOf (s.withRun c r) c = some r := sparseFind_put _ _ _

theorem withRun_runOf_other (s : State) (c d : Nat) (r : LaneRun) (h : d ≠ c) : runOf (s.withRun c r) d = runOf s d :=
  sparseFind_put_other _ _ _ _ h

@[simp] theorem withRun_withRun (s : State) (c : Nat) (r q : LaneRun) : (s.withRun c r).withRun c q = s.withRun c q := by
  have h : sparsePut (sparsePut s.lan.run c r) c q = sparsePut s.lan.run c q := sparsePut_put _ _ _ _
  simp only [State.withRun, State.after, putRun, onLan, applyAll_cons, applyAll_nil, applyEff]
  rw [h]

@[simp] theorem withRun_mem (s : State) (c : Nat) (r : LaneRun) : (s.withRun c r).mem = s.mem := rfl
@[simp] theorem withRun_rd (s : State) (c : Nat) (r : LaneRun) : rd (s.withRun c r) = rd s := rfl
@[simp] theorem withRun_bad (s : State) (c : Nat) (r : LaneRun) : (s.withRun c r).bad = s.bad := rfl
@[simp] theorem withRun_free (s : State) (c : Nat) (r : LaneRun) : (s.withRun c r).free = s.free := rfl

/-- Putting a run is the state with that run. -/
theorem putRun_after (s : State) (c : Nat) (r : LaneRun) : applyAll (putRun c r s) s = s.withRun c r := rfl

/-- Updating a run in progress replaces it. -/
theorem setRun_after (s : State) (c : Nat) (f : LaneRun → LaneRun) (r : LaneRun) (h : runOf s c = some r) :
    applyAll (setRun c f s) s = s.withRun c (f r) := by
  simp only [setRun, h]
  rfl

theorem lands_after (s : State) (c : Nat) (ls : List Landing) (r : LaneRun) (h : runOf s c = some r) :
    applyAll (lands c ls s) s = s.withRun c (r.sending ls) := setRun_after s c _ r h

/-- A result in a register to which nothing else is on its way to land in the same step. -/
theorem landsFree_after (s : State) (c : Nat) (reg : LReg) (v lat : Nat) (r : LaneRun) (h : runOf s c = some r)
    (hf : r.fly.any (fun f => f.reg == reg && f.due == r.step + lat) = false) :
    applyAll (landsFree c reg v lat s) s = s.withRun c (r.sending [(reg, v, lat, 0)]) := by
  simp only [landsFree, h, hf]
  exact lands_after s c _ r h

@[simp] theorem sending_step (r : LaneRun) (ls : List Landing) : (r.sending ls).step = r.step := rfl

theorem sending_sending (r : LaneRun) (ls ms : List Landing) : (r.sending ls).sending ms = r.sending (ls ++ ms) := by
  simp [LaneRun.sending]

theorem sending_nil (r : LaneRun) : r.sending [] = r := by simp [LaneRun.sending]

/-- A flagged result sends its value and then its flags. -/
theorem result_after (s : State) (c : Nat) (r : LaneRun) (k : LSlot) (dd lat : Nat) (v : Flagged Word) (h : runOf s c = some r) :
    applyAll (result c r k dd lat v s) s =
      s.withRun c (r.sending ((.d (phys r dd), v.val.toNat, lat, k.rank) :: v.sets.map (fun i => (.sticky i, 1, 4, 1)))) := by
  simp only [result, flags, seq_cons, seq_nil]
  rw [lands_after s c _ r h, lands_after _ c _ _ (withRun_runOf s c _), withRun_withRun, sending_sending]
  rfl

/-! ### Issue -/

/-- An instruction that issues and whose body changes at most the run of its context, to `q`: the run `q` with its slot marked, and
then the close of the bundle. -/
theorem issue_run_of (s : State) (c : Nat) (k : LSlot) (enc : Option Nat) (body : LaneRun → Act) (r q : LaneRun)
    (h : Issues s c k enc r) (hq : runOf (s.begun.after (body r)) c = some q)
    (hb : ∀ q', (s.begun.after (body r)).withRun c q' = s.begun.withRun c q') :
    run (issue c k enc body) s = s.issuedAs c k q := by
  obtain ⟨h1, h2, h3, h4, h5, h6, h7⟩ := h
  have e1 : runOf s.begun c = some r := h1
  have e2 : gate s.begun c r (bundleAt (rd s.begun) (ctxLanes s.begun c).1 r.pc) = none := h6
  have e3 : enc = some (slotOf (bundleAt (rd s.begun) (ctxLanes s.begun c).1 r.pc) k) := h5
  have e4 : issue c k enc body s.begun =
      seq [body r, setRun c fun r => { r with issued := r.issued ||| 2 ^ k.bit }, close c] s.begun := by
    have e7 : softFetch s.begun c r = [] := h7
    simp only [issue, e1, e2, h2, h3, h4, e3, e7]
    simp [each, seq]
  show applyAll (issue c k enc body s.begun) s.begun = _
  have hq' : runOf (applyAll (body r s.begun) s.begun) c = some q := hq
  rw [e4, seq_cons, seq_cons, setRun_after _ c _ q hq']
  have e5 := hb { q with issued := q.issued ||| 2 ^ k.bit }
  rw [State.after] at e5
  rw [e5, seq_cons, seq_nil]
  rfl

/-- The same for a body that replaces the run. -/
theorem issue_run (s : State) (c : Nat) (k : LSlot) (enc : Option Nat) (body : LaneRun → Act) (r q : LaneRun)
    (h : Issues s c k enc r) (hb : applyAll (body r s.begun) s.begun = s.begun.withRun c q) :
    run (issue c k enc body) s = s.issuedAs c k q :=
  issue_run_of s c k enc body r q h (by rw [State.after, hb, withRun_runOf]) (fun q' => by rw [State.after, hb, withRun_withRun])

/-- The same for a body that does nothing. -/
theorem issue_run_nop (s : State) (c : Nat) (k : LSlot) (enc : Option Nat) (body : LaneRun → Act) (r : LaneRun)
    (h : Issues s c k enc r) (hb : body r s.begun = []) :
    run (issue c k enc body) s = s.issuedAs c k r :=
  issue_run_of s c k enc body r r h (by rw [State.after, hb]; exact h.1) (fun q' => by rw [State.after, hb]; rfl)

/-- An ALU operation: its result under a guard that reads 1, nothing under a guard that reads 0. -/
theorem alu_run (s : State) (p op dd ds g : Nat) (r : LaneRun) (f : LaneRun → Flagged Word) (h : Issues s p .g (encAlu op dd ds g) r) :
    run (alu p op dd ds g f) s = s.issuedAs p .g (if predOf r g then r.sendingG dd (f r).val (f r).sets else r) := by
  by_cases hg : predOf r g = true
  · simp only [hg, if_true]
    exact issue_run s p .g _ _ r _ h (by simp only [hg, if_true]; exact result_after _ _ _ _ _ _ _ h.1)
  · simp only [hg]
    exact issue_run_nop s p .g _ _ r h (by simp only [hg]; rfl)

/-- New accumulator values with their flags. -/
theorem setAccs_after (s : State) (c : Nat) (r : LaneRun) (v : Nat × Flagged Int) (vs : List (Nat × Flagged Int)) (h : runOf s c = some r) :
    applyAll (setAccs c (v :: vs) s) s = s.withRun c (r.withAccs (v :: vs)) := by
  induction vs generalizing s r v with
  | nil =>
    simp only [setAccs, each, List.map_cons, List.map_nil, flags, seq_cons, seq_nil]
    rw [setRun_after s c _ r h, lands_after _ c _ _ (withRun_runOf _ _ _), withRun_withRun]
    rfl
  | cons w ws ih =>
    simp only [setAccs, each, List.map_cons, flags, seq_cons, seq_nil] at ih ⊢
    rw [setRun_after s c _ r h, lands_after _ c _ _ (withRun_runOf _ _ _), withRun_withRun]
    rw [ih _ _ w (withRun_runOf _ _ _), withRun_withRun]
    rfl

/-- An operation of the M slot that writes accumulators. -/
theorem accs_run (s : State) (p : Nat) (enc : Option Nat) (r : LaneRun) (v : Nat × Flagged Int) (vs : List (Nat × Flagged Int))
    (f : LaneRun → List (Nat × Flagged Int)) (h : Issues s p .m enc r) (hf : f r = v :: vs) :
    run (issue p .m enc (fun r => setAccs p (f r))) s = s.issuedAs p .m (r.withAccs (f r)) :=
  issue_run s p .m _ _ r _ h (by rw [hf]; exact setAccs_after _ _ _ _ _ h.1)

end Sys2Proof.Machine
end

