-- ==== Sys2Proof/Tests/Slice0.lean ====
section
/-! SUPPORT. The model's own tests: what the spec's tables and worked examples give, and a witness for the hypotheses of every
statement. -/
namespace Sys2Proof.Tests
open Sys2Proof Sys2Proof.Machine

-- one check after another: each holds a thread's stack while it computes
set_option Elab.async false

/-! ### States to test on -/

/-- The state with words stored in it. -/
def pk (ps : List (Nat × Nat)) (s : State) : State := ps.foldl (fun s e => applyEff s (.mem e.1 (wd e.2))) s

/-- The state after reset with words stored in it. -/
abbrev w (ps : List (Nat × Nat)) : State := pk ps State.reset

/-- The state in another state of the device. -/
def dev (d : DevState) (s : State) : State := { s with sys := { s.sys with state := d } }

theorem pk_memOk (ps : List (Nat × Nat)) (s : State) (h : s.memOk = true) : (pk ps s).memOk = true := by
  induction ps generalizing s with
  | nil => exact h
  | cons e r ih => exact ih _ (applyEff_memOk s _ h)

theorem w_memOk (ps : List (Nat × Nat)) : (w ps).memOk = true := pk_memOk ps _ (by decide)

/-! ### Witnesses: for each clause of each statement a state and operands that meet its hypotheses -/

/-- A word of SYS_CMD from the host is heard after reset, and in each state of the device. -/
theorem heard (d : DevState) : CommandHeard (dev d State.reset) 1 0xC0C := by
  cases d <;> exact ⟨by decide, rfl, rfl, rfl, by decide, rfl, by decide⟩

theorem witness_SystemCommands : flashBusy (dev .hold State.reset) = false ∧
    flashBusy { dev .hold State.reset with hth := { Hth.reset with job := some (.write 0 0 [] none 0) } } = true ∧
    CommandHeard { dev .hold State.reset with hth := { Hth.reset with job := some (.write 0 0 [] none 0) } } 1 0xC0C ∧
    (dev .hold State.reset).otp.hostImageDis = false ∧
    (let s : State := { dev .hold (w [(SYS + 5, 2)]) with pins := [(16, { raw := true, filt := true, run := 0, unstable := 0, held := 0, chatter := false, stuck := false, quiet := 0 })] }
     CommandHeard s 1 0xC0C ∧ rdF s (SYS + 5) 7 0 = 2 ∧ (pinOf s 16).filt = true) ∧
    (let s : State := { dev .safe State.reset with pins := [(16, { raw := true, filt := true, run := 0, unstable := 0, held := 0, chatter := false, stuck := false, quiet := 0 })] }
     CommandHeard s 1 0xC0C ∧ s.qch.fault = 0 ∧ (pinOf s 16).filt = true) ∧
    rdF (w [(SYS + 3, 1)]) (SYS + 3) 3 0 = 1 := by
  refine ⟨rfl, rfl, ⟨by decide, rfl, rfl, rfl, by decide, rfl, by decide⟩, rfl, ⟨⟨by decide, rfl, rfl, rfl, by decide, rfl, by decide⟩, by decide, rfl⟩,
    ⟨⟨by decide, rfl, rfl, rfl, by decide, rfl, by decide⟩, rfl, rfl⟩, by decide⟩

theorem witness_Resets : cmdState (dev .run State.reset) = true ∧ (dev .run State.reset).sys.rails = true ∧
    belowThreshold 0 0 = true ∧ belowThreshold 0 4000 = false ∧ coldInProgress (dev .run State.reset) = false ∧
    coldInProgress State.reset = true ∧ ({ State.reset with sys := { Sys.reset with rails := false } } : State).sys.rails = false := by decide

theorem witness_Supplies : (dev .off { State.reset with sys := { Sys.reset with rails := false } }).sys.rails = false ∧
    State.reset.sys.rails = true ∧ (dev .off State.reset).sys.state = .off := by decide

theorem witness_StartUp : State.reset.sys.bootFailed = false ∧ State.reset.xbr.locks = [] ∧ State.reset.xbr.staged = [] ∧
    (dev .run State.reset).sys.hearthRecent = false ∧
    ({ dev .run State.reset with sys := { (dev .run State.reset).sys with hearthRecent := true } } : State).sys.hearthRecent = true ∧
    flag (rd (dev .run State.reset) (SYS + 6)) 34 = false ∧ flag (wd (2 ^ 35 + 4)) 35 = true ∧ fld (wd (2 ^ 35 + 4)) 6 0 = 4 ∧
    flag (rd (w [(SYS + 6, 2 ^ 34 + 4)]) (SYS + 6)) 34 = true ∧ rdF (w [(SYS + 6, 2 ^ 34 + 4)]) (SYS + 6) 6 0 = 4 ∧
    latestCommit State.reset.flash = none ∧
    (latestCommit { Flash.reset with commits := [(0, commitBytes 1 0 0 0 0 0)] }).map commitSlot = some 0 ∧
    timeoutsOf [(0, 4)] 0 = 4 ∧ timeoutsOf [] 0 = 0 ∧ rd State.reset (HPT + 3) = 0 ∧
    bandFor (rd State.reset) 0 (targetWord State.reset 0) = none := by decide +kernel

theorem witness_RegisterAccesses : CanUse (dev .run State.reset) 0 805965824 ∧ CanUse (dev .run State.reset) 0 805371904 ∧
    ((805965824 - SYS) / 0x10000 ∈ [1, 10, 12, 15, 17]) ∧ portOf 805965824 = some .regs ∧ isPairWord 805965824 = false ∧
    inLaneBlock 805965824 = false ∧ (findReg 805965824).isSome = true ∧ writeStatus (dev .run State.reset) 0 805965824 = 0 ∧
    rcMask 805371904 ≠ 0 ∧ rcCounts 805371904 = [] ∧ isLock 805371904 = false ∧ readStatus (dev .run State.reset) 0 805371904 = 0 ∧
    captures (dev .run State.reset) 805371904 = [] := by
  refine ⟨⟨by decide, by decide, by decide, by decide, by decide, by decide, by decide⟩, ⟨by decide, by decide, by decide, by decide, by decide, by decide, by decide⟩, ?_⟩
  decide +kernel

theorem witness_ComplementPairs : isPairWord (QCH + 0x1000) = true ∧ (QCH + 0x1000) % 2 = 0 ∧ busUp (dev .load State.reset) = true ∧
    (dev .load State.reset).sys.draining.contains 2 = false ∧ stagedOf (dev .load State.reset) 2 = none ∧
    (let s : State := { dev .load State.reset with xbr := { Xbr.reset with staged := [(2, { addr := QCH + 0x1000, word := 5 })] } }
     stagedOf s 2 = some { addr := QCH + 0x1000, word := 5 } ∧ s.memOk = true) ∧ (7 : Word) ≠ ~~~5 := by decide

theorem witness_CrossbarBursts : CanUse (dev .run State.reset) 0 0x10090000 ∧ (dev .run State.reset).img.copy = [] ∧
    (dev .run State.reset).bad = [] ∧ 0x10090000 + [(true, (5 : Word))].length ≤ 0x10100000 ∧ portOf 0x80000000 = none ∧
    CanUse (dev .run State.reset) 1 0x80000000 := by
  exact ⟨⟨by decide, by decide, by decide, by decide, by decide, by decide, by decide⟩, rfl, rfl, by decide, by decide +kernel,
    ⟨by decide, by decide, by decide, by decide, by decide, by decide, by decide⟩⟩

theorem witness_Locks : [3, 1].Nodup ∧ sparseFind State.reset.xbr.locks 0 = none ∧
    (let s : State := { State.reset with xbr := { Xbr.reset with locks := [(0, { owner := 1, incarn := 0 })] } }
     sparseFind s.xbr.locks 0 = some { owner := 1, incarn := 0 } ∧ stagedOf s 1 = none ∧ s.memOk = true) := by decide

theorem witness_Mailboxes : mayPost 0 0 0 = true ∧ (chan State.reset 0 0).length < 3 ∧ stagedOf State.reset (senderMaster 0) = none ∧
    (let s : State := { State.reset with xbr := { Xbr.reset with chan := [(0, [[]])] } }
     chan s 0 0 = [[]] ∧ s.memOk = true) ∧
    (let s : State := { w [(TWN, 2 ^ 26 + 2 ^ 25)] with img := { Img.reset with twin := 1 }, xbr := { Xbr.reset with outq := [(0, [{ seq := 0, words := [] }])] } }
     laneLocked s = true ∧ tongsUp s = true ∧ rdF s (MBX + 0x421) 7 0 = 0 % 256 ∧ sparseGet (fun _ => 0) s.xbr.inSeq 0 = 0 ∧
     (chan s 2 0).length < 3 ∧ outq s 0 = [{ seq := 0, words := [] }] ∧ (mailBody 1 0 (incarn s 0) 0 []).length ≤ 2048) := by decide +kernel

theorem witness_HostWords : (3 : Nat) < 10 ∧ 0 < 5 ∧ 5 < 16 := by decide

/-- The host port between transactions. -/
def hostReady : State := { State.reset with sys := { Sys.reset with state := .run, rdyUp := true } }

theorem witness_HostTransactions : hostReady.memOk = true ∧ busUp hostReady = true ∧ hostReady.hpt.ignore = false ∧ hostReady.sys.draining = [] ∧
    hostReady.img.copy = [] ∧ hostReady.bad = [] ∧ stagedOf hostReady 1 = none ∧ 0x10090000 + 16 < 0x10100000 ∧ hostReady.hpt.active = none ∧
    (let s : State := { hostReady with hpt := { Hpt.reset with active := some (1, 0x10090001), good := 1 } }
     s.hpt.active = some (1, 0x10090001) ∧ s.hpt.err = none ∧ s.hpt.spec = [] ∧ s.xbr.locks = [] ∧ s.memOk = true) := by decide

/-- QUENCH_IN_L filtered high. -/
def quenchHigh : PinF := { raw := true, filt := true, run := 0, unstable := 0, held := 0, chatter := false, stuck := false, quiet := 0 }
/-- Every line of the device, as prefetched. -/
def allLines : List Nat := List.range 2048
/-- ARMED with every condition of R67 met, at a control-tick boundary. -/
def readyToRun : State :=
  { State.reset with sys := { Sys.reset with state := .armed, condClock := true, condCount := true, prefetched := allLines },
                     wav := { Wav.reset with n := 15 }, pins := [(16, quenchHigh)] }

theorem othersMet_all (s : State) (h : s.sys.prefetched = allLines) (ht : isTwin s = false) (hs : s.sys.stopHold = false) :
    othersMet s = true := by
  simp [othersMet, leadHeld, roleDecided, h, ht, hs, allLines]
  try (intro x hx; exact Or.inr hx)

theorem witness_RunIsEntered : readyToRun.memOk = true ∧ (readyToRun.wav.n + 1) % 16 = 0 ∧ (pinOf readyToRun 16).filt = true ∧
    othersMet readyToRun = true ∧
    (let s : State := { readyToRun with pins := [] }
     s.sys.state = .armed ∧ (pinOf s 16).filt = false) ∧
    (let s : State := { readyToRun with sys := { readyToRun.sys with condClock := false } }
     (s.sys.condClock && s.sys.condCount && othersMet s) = false) ∧
    (let s : State := { readyToRun with sys := { readyToRun.sys with condCount := false }, img := { Img.reset with timeout := 10 } }
     s.img.timeout ≠ 0 ∧ (pinOf s 16).filt = true ∧ othersMet s = true ∧ (s.sys.condClock && s.sys.condCount) = false) ∧
    (let s : State := dev .armed (w [(CLK, 4 * 2 ^ 33)])
     s.sys.condCount = false ∧ refState s = 4 ∧ s.qch.xoStopped = false ∧ s.roleOk = true) ∧
    (let s : State := { dev .run State.reset with qch := { Qch.reset with rampStop := some 64 } }
     s.qch.rampStop = some 64 ∧ s.wav.flight = none ∧ s.memOk = true) := by
  refine ⟨by decide +kernel, by decide +kernel, by decide +kernel, othersMet_all _ (by simp only [readyToRun]) (by decide +kernel) rfl, ⟨rfl, by decide +kernel⟩, by simp,
    ⟨by decide +kernel, by decide +kernel, othersMet_all _ (by simp only [readyToRun]) (by decide +kernel) rfl, by decide +kernel⟩, by decide, by decide⟩

theorem witness_Ticks : (let s : State := { dev .armed State.reset with sys := { (dev .armed State.reset).sys with condCount := true } }
     s.sys.condCount = true ∧ s.qch.xoStopped = false ∧ s.roleOk = true ∧ s.memOk = true) ∧
    (dev .run State.reset).clk.corr = none ∧ (dev .safe State.reset).qch.xoStopped = false ∧ counting State.reset = false ∧
    ({ dev .run State.reset with qch := { Qch.reset with xoStopped := true } } : State).qch.xoStopped = true := by decide

/-- A wavefront of period 5. -/
def flight5 (catchup : Bool) : Flight :=
  { n := 5, shadow := [], mix := [], sat := [], hold := [], feedResidue := [], table := [], starved := [], lineResidue := [], gov := [],
    catchup := catchup, annK := 0, snap := false, taint := false, checks := [], short := false, factor := 64, cur := 0, fade := none, torn := [] }

/-- An aligning standby that may launch its catch-up wavefront of period 1. -/
def catchingUp : State :=
  { dev .run (w [(TWN, 3 * 2 ^ 33)]) with wav := { Wav.reset with n := 9 }, twn := { Twn.reset with ppres := [(1, [])], inbuf := [(1, [])] } }

theorem witness_Wavefronts : (let s : State := { dev .run State.reset with wav := { Wav.reset with n := 5, flight := some (flight5 false) } }
     s.qch.xoStopped = false ∧ s.wav.flight = some (flight5 false) ∧ (∀ i ∈ s.bel.list, itemDone s i = true) ∧ s.memOk = true) ∧
    3 ≤ ((5 :: [3, 4]).filter (fun k => 5 < k + 16)).length ∧
    ({ dev .run State.reset with wav := { Wav.reset with flight := some (flight5 true) } } : State).wav.flight = some (flight5 true) ∧
    align catchingUp = 3 ∧ catchingUp.wav.flight = none ∧ catchingUp.wav.caught < catchingUp.wav.n ∧
    resultsReady catchingUp (catchingUp.wav.caught + 1) = true ∧ windowsHeld catchingUp (catchingUp.wav.caught + 1) = true ∧
    catchingUp.twn.ppres.find? (fun e => e.1 == catchingUp.wav.caught + 1) = some (1, []) ∧
    catchupRaw catchingUp (catchingUp.wav.caught + 1) [] = some [] ∧
    resultsReady { catchingUp with wav := { catchingUp.wav with caught := 15 } } 16 = false := by decide +kernel

theorem witness_ControlTicks : (let s : State := { dev .run State.reset with wav := { Wav.reset with n := 15 } }
     (renderN s + 1) % 16 = 0 ∧ s.scene.boundary ≠ renderN s + 1 ∧ s.memOk = true) ∧ counting (dev .run State.reset) = true ∧
    counting State.reset = false ∧ flag (1 : Word) 0 = true ∧ stagedOf State.reset 1 = none ∧
    (let s : State := { dev .run (w [(CRU + 0x20, 2 ^ 24)]) with wav := { Wav.reset with n := 15 } }
     (s.wav.n + 1) % 16 = 0 ∧ rdF s (CRU + 0x20) 35 24 ≠ 0 ∧ (s.wav.n + 1) / 16 % rdF s (CRU + 0x20) 35 24 = 0) ∧
    rdF (w [(CRU + 0x20, 0)]) (CRU + 0x20) 35 24 = 0 := by decide +kernel

theorem witness_DelayLines : dramUp State.reset = true ∧ State.reset.memOk = true ∧
    (0 : Nat) = renderN State.reset - (lineDelay State.reset 3 (renderN State.reset) + 4) ∧
    holdsLead State.reset 0 (windowFrom State.reset 3 0) = true ∧ windowReads State.reset 3 0 = [] ∧
    chanFailed State.reset 0 = false ∧ chanFailed State.reset 12 = false ∧ State.reset.drc.queue = [] ∧ 0 < lineLen (rd State.reset) 3 ∧
    (lineOf State.reset 3).head.length ≤ lineLen (rd State.reset) 3 ∧
    lineStart (rd State.reset) 3 + lineLen (rd State.reset) 3 ≤ 0x80000000 ∧
    (let s : State := { State.reset with wav := { Wav.reset with lines := [(3, { Line.init with jumpAt := some 0 })] } }
     (lineOf s 3).jumpAt = some 0 ∧ s.memOk = true) ∧ (lineOf State.reset 3).jumpAt = none ∧
    dramUp (w [(DRC, 0xFF0)]) = false := by decide +kernel

/-- A scene frame of an ANNOUNCE command for period `at'`, from the host's port. -/
def sceneBytes (at' : Nat) : List Nat :=
  [0x53, 0x43, 0x4E, 0x31, 1, 0, 0xFF, 1] ++ List.replicate 8 0 ++ toBytes 8 at' ++ [0, 0, 0, 8] ++ [0, 0, 0, 0] ++ [0, 0x30, 0, 4, 1, 0, 0, 0]
def hostFrame (at' : Nat) : SceneIn := { host := true, port := 0, srcIp := 0, srcPort := 0, bytes := sceneBytes at' }
/-- RUN as a unit without a partner. -/
def solo : State := { State.reset with sys := { Sys.reset with state := .run, role := .solo } }
/-- RUN as the STANDBY of a pair. -/
def standby : State := { State.reset with sys := { Sys.reset with state := .run, role := .standby } }

theorem solo_memOk (ps : List (Nat × Nat)) : (pk ps solo).memOk = true := pk_memOk ps _ (by decide)

theorem witness_SceneFrames : flag (rd State.reset (LOC + 0x105)) 35 = false ∧ flag (rd (w [(LOC + 0x105, 2 ^ 35)]) (LOC + 0x105)) 35 = true ∧
    State.reset.scene.queue = [] ∧ takeCheck State.reset (hostFrame 64) = .inl (0x17, 0xFFFF) ∧
    (match takeCheck solo (hostFrame 60) with | .inr (b, h) => b = 64 ∧ h.cmds.length = 1 | .inl _ => False) ∧
    ((hostFrame 64).host && State.reset.scene.hostDirty) = false ∧ standby.sys.state = .run ∧ authoritative standby = false := by
  refine ⟨by decide, by decide, rfl, by decide, ?_, by decide, rfl, by decide⟩
  have h : ((takeCheck solo (hostFrame 60)).elim (fun _ => (0, 0)) (fun x => (x.1, x.2.cmds.length))) = (64, 1) := by decide +kernel
  revert h; cases takeCheck solo (hostFrame 60) <;> simp

/-- A master's staged word. -/
def holding (m a : Nat) (x : Word) (s : State) : State := { s with xbr := { s.xbr with staged := [(m, { addr := a, word := x })] } }

theorem witness_RouteEntries : staticOf State.reset secRoutes = false ∧ stagedOf State.reset 1 = none ∧
    stagedOf (holding 1 (tblRoute + 6) 0 State.reset) 1 = some { addr := tblRoute + 6, word := 0 } ∧ ctrlOk 0 = true ∧
    ctrlOk (wd (2 ^ 11)) = false ∧ (holding 1 (tblRoute + 6) 0 State.reset).memOk = true ∧ isPairWord (tblRoute + 8) = false ∧
    destOk (rd State.reset) 3 0 = true ∧ destOk (rd State.reset) 3 (wd (7 * 2 ^ 32)) = false := by decide +kernel

theorem witness_RouteCommits : solo.sys.state = .run ∧ authoritative solo = true ∧ solo.cru.pend = none ∧
    atOf (pk [(CRU + 0x11, 64)] solo) (CRU + 0x10) = 64 ∧ (pk [(CRU + 0x11, 64)] solo).wav.n + 32 ≤ 64 ∧ 64 ≤ 2 ^ 24 ∧
    badEntry (rd solo) 0 [] [stageEntry (rd solo) 0] = none ∧
    (let s := pk [(CRU + 0x11, 64), (tblStage, 2 ^ 35), (tblStage + 1, 2 ^ 11)] solo
     badEntry (rd s) 0 [] [stageEntry (rd s) 0] = some 0) ∧
    atOf (pk [(CRU + 0x11, 31)] solo) (CRU + 0x10) = 31 ∧ atOf (pk [(CRU + 0x11, 2 ^ 25)] solo) (CRU + 0x10) = 2 ^ 25 ∧
    (let s := { solo with cru := { solo.cru with pend := some { at' := 32, what := [] } } }
     s.cru.pend = some { at' := 32, what := [] } ∧ s.sys.role ≠ .standby ∧ s.wav.n + 32 ≤ 32 ∧ authoritative s = true ∧ s.memOk = true) ∧
    (let s := { solo with cru := { solo.cru with pend := some { at' := 1, what := [stageEntry (rd (w [(tblStage, 2 ^ 35)])) 0] } } }
     1 = renderN s + 1 ∧ (stageEntry (rd (w [(tblStage, 2 ^ 35)])) 0).valid = true ∧ (stageEntry (rd (w [(tblStage, 2 ^ 35)])) 0).isDest = false ∧
     s.memOk = true) ∧ standby.cru.pend = none ∧ standby.sys.role = .standby := by decide +kernel

/-- A swap to bank 1 for period `p`. -/
def swapAt (p : Nat) (fade : Option Nat) : SwapReq := { at' := p, fade := fade, target := 1 }

theorem witness_BankSwaps : staticOf { solo with img := { Img.reset with static := 2 ^ secEq } } secEq = true ∧ swapMaster solo 1 = true ∧
    atOf (pk [(TPR + 0x11, 32)] solo) (TPR + 0x10) = 32 ∧ solo.tpr.pend = none ∧ solo.tpr.queued = none ∧ solo.tpr.fade = none ∧
    solo.tpr.cur = 0 ∧ solo.tpr.partnerSum = none ∧ flag (0x42 : Word) 1 = true ∧ 4 ≤ fld (0x42 : Word) 7 4 ∧
    (let s := { solo with tpr := { solo.tpr with pend := some (swapAt 1 none) } }
     (swapAt 1 none).at' = renderN s + 1 ∧ (swapAt 1 none).target ≠ s.tpr.cur ∧ (swapAt 1 none).at' < s.wav.n + 32 ∧ s.memOk = true) ∧
    (let s := { solo with tpr := { solo.tpr with pend := some (swapAt 1 (some 4)) } }
     (swapAt 1 (some 4)).at' = renderN s + 1 ∧ (swapAt 1 (some 4)).fade = some 4) ∧
    (let s := { solo with tpr := { solo.tpr with cur := 1, pend := some (swapAt 1 none) } }
     (swapAt 1 none).target = s.tpr.cur) ∧
    (let s := { solo with wav := { Wav.reset with n := 15 }, tpr := { solo.tpr with fade := some (0, 4, 1), queued := some (swapAt 40 none) } }
     s.tpr.fade = some (0, 4, 1) ∧ renderN s + 1 = 0 + 2 ^ 4 ∧ s.tpr.queued = some (swapAt 40 none) ∧ renderN s + 1 < (swapAt 40 none).at' ∧
     s.memOk = true) ∧
    standby.sys.role = .standby ∧ swapMaster standby 1 = true := by decide +kernel

/-- An argument block of two times 16 words in the first lane of pair 0. -/
def withBlock (s : State) : State := pk [(yW 0 0x1C00, 2 * 2 ^ 24)] s

theorem witness_ArgumentCommits : isArgument (blocks (rd (withBlock solo)) (firstLane (withBlock solo) 0)) (0x1C00 + 4) = true ∧
    isArgument (blocks (rd (withBlock solo)) (firstLane (withBlock solo) 0)) (0x1C00 + 31) = true ∧
    isArgument (blocks (rd (withBlock solo)) (firstLane (withBlock solo) 0)) (0x1C00 + 32) = false ∧
    atOf (pk [(LAN 0 + 0x21, 32)] solo) (LAN 0 + 0x20) = 32 ∧ sparseFind solo.lan.args 0 = none ∧
    (let s := { solo with lan := { solo.lan with args := [(0, { at' := 1, what := (4, [5, 6]) })] } }
     sparseFind s.lan.args 0 = some { at' := 1, what := (4, [5, 6]) } ∧ 1 = renderN s + 1 ∧ 4 + [(5 : Word), 6].length ≤ 1024 ∧
     (∀ l ∈ commitLanes s 0, l < 72) ∧ s.memOk = true) := by decide +kernel

/-! #### Lane instructions -/

/-- The instruction of slot k of the bundle at address 0 is `enc`. -/
def coded (k : LSlot) (enc : Nat) : List (Nat × Nat) :=
  let b := enc * 2 ^ (match k with
    | .g => 52
    | .m => 32
    | .x => 16
    | .y => 0)
  [(laneMem 0 2, b / 2 ^ 36), (laneMem 0 2 + 1, b % 2 ^ 36)]

/-- A period item that is at address 0, one slot of the bundle issued, neither the one for k. -/
def atStart (k : LSlot) : LaneRun :=
  { newRun (rd State.reset) 0 0 none with issued := match k with
    | .g => 2
    | .m => 1
    | .x => 1
    | .y => 1 }

/-- A lane context that is to issue `enc` in slot k of its bundle. -/
def laneState (k : LSlot) (enc : Nat) (r : LaneRun) : State := { w (coded k enc) with lan := { Lan.reset with run := [(0, r)] } }

/-- One encoding of every operation of the G slot (R268-R271, R281). -/
def gOps : List (LSlot × Option Nat) :=
  let alu : List (Option Nat) := (List.range 28).map (fun o => encAlu (o + 1) (if o < 25 then 24 else 0) (if o < 26 then 5 else 0) 0)
  let rest : List (Option Nat) := [encAlu 29 0 0 0, encAlu 30 0 0 0, encLdi 3 8191, encBranch 0 0 7, encBranch 1 0 7, encBranch 2 0 9, encLoop 0 4 9,
    encLoop 1 4 9, encLoop 2 4 9, encLoop 3 4 9, some 0]
  (alu ++ rest).map (fun e => (LSlot.g, e))
/-- One encoding of every operation of the M slot (R272). -/
def mOps : List (LSlot × Option Nat) :=
  let a : List (Option Nat) := (List.range 3).map (fun o => encM (o + 1) 1 2 3 1 true)
  let b : List (Option Nat) := (List.range 6).map (fun o => encM (o + 4) 1 2 0 2 true)
  let c : List (Option Nat) := (List.range 5).map (fun o => encM (o + 10) 1 2 3 0 false)
  let d : List (Option Nat) := (List.range 4).map (fun o => encM (o + 16) 1 0 2 3 true)
  let e : List (Option Nat) := (List.range 3).map (fun o => encM (o + 20) 1 2 2 0 false)
  (a ++ b ++ c ++ d ++ e).map (fun x => (LSlot.m, x)) ++ [(LSlot.m, encM 15 0 0 1 0 false), (LSlot.m, some 0)]
/-- One encoding of every operation of the X and Y slots (R275). -/
def xyOps : List (LSlot × Option Nat) :=
  let both : List (Option Nat) := (List.range 4).map (fun o => encXY (o + 1) 3 2 31) ++ [encXY 5 0 2 1, some 0]
  both.map (fun e => (LSlot.x, e)) ++ both.map (fun e => (LSlot.y, e)) ++ [(LSlot.x, encXY 6 3 2 1), (LSlot.x, encXY 7 3 2 1)]
def laneOps : List (LSlot × Option Nat) := gOps ++ mOps ++ xyOps

/-- Does the instruction issue, as a test that computes? -/
def issuesB (s : State) (c : Nat) (k : LSlot) (enc : Option Nat) (r : LaneRun) : Bool :=
  runOf s c == some r && !r.loopDue && !ended r && !r.issued.testBit k.bit &&
  enc == some (slotOf (bundleAt (rd s) (ctxLanes s c).1 r.pc) k) && (gate s c r (bundleAt (rd s) (ctxLanes s c).1 r.pc)).isNone && softFetch s c r == []

theorem issues_of_issuesB {s : State} {c : Nat} {k : LSlot} {enc : Option Nat} {r : LaneRun} (h : issuesB s c k enc r = true) : Issues s c k enc r := by
  simp only [issuesB, Bool.and_eq_true, beq_iff_eq, Bool.not_eq_true', Option.isNone_iff_eq_none] at h
  obtain ⟨⟨⟨⟨⟨⟨a, b⟩, d⟩, e⟩, f⟩, g⟩, i⟩ := h
  exact ⟨a, b, d, e, f, g, i⟩

theorem lane_ops_issue : ∀ e ∈ laneOps, issuesB (laneState e.1 (e.2.getD 0) (atStart e.1)) 0 e.1 e.2 (atStart e.1) = true := by decide +kernel

/-- Each operation issues in some state in which its bundle has a slot still to issue. -/
theorem witness_LaneInstructions : ∀ e ∈ laneOps, (∃ s r, Issues s 0 e.1 e.2 r ∧ r.issued ||| 2 ^ e.1.bit ≠ 15) := fun e h =>
  ⟨_, _, issues_of_issuesB (lane_ops_issue e h), by cases e.1 <;> decide⟩

/-- An item with nothing issued yet, inside its code range, issues too: an addition in the G slot at address 0. -/
def fresh : LaneRun := { newRun (rd State.reset) 0 0 none with blk := 0x1C00 }
theorem witness_FirstOfABundle : ∃ s, Issues s 0 .g (encAlu 2 1 2 0) fresh ∧ s.memOk = true :=
  ⟨{ pk ((coded .g ((encAlu 2 1 2 0).getD 0) ++ coded .g ((encAlu 2 1 2 0).getD 0) |>.zipIdx.map (fun e => (e.1.1 + (if e.2 < 2 then 0 else laneMem 1 2 - laneMem 0 2), e.1.2))) ++
      [(yW 0 0x1C00, 2 * 2 ^ 24 + 16 * 2 ^ 13), (yW 1 0x1C00, 2 * 2 ^ 24 + 16 * 2 ^ 13)]) State.reset with lan := { Lan.reset with run := [(0, fresh)] } },
    issues_of_issuesB (by decide +kernel), by
      simp only [State.memOk]; exact w_memOk _⟩

theorem witness_LaneConditions : predOf (atStart .g) 0 = true ∧ (atStart .g).fly = [] ∧
    (let r := { atStart .g with loopDue := true, rotates := some true }
     loopRotates (laneState .g 0 r) 0 r = some true) ∧
    (let r := { atStart .g with issued := 15 }
     ¬ (r.delay = 1 ∧ r.ending.isSome = true) ∧ ¬ (r.pc = r.le ∧ r.lc = 1) ∧ (r.pc = r.le)) ∧
    (let r := { atStart .g with issued := 15, lc := 2 }
     r.pc = r.le ∧ 1 < r.lc ∧ ¬ (r.delay = 1 ∧ r.target.isSome = true ∧ r.pc = r.le ∧ 1 < r.lc)) ∧
    sparseWf (fun _ => 0) (atStart .g).d = true ∧
    (let f : Fly := { reg := .d 5, val := 7, due := 5, rank := 0 }
     f.due ≤ (atStart .g).step + 1 ∧ f.rank < 4) := by decide +kernel

/-- An argument block whose X, Y and code ranges take 16 words each, and whose pair's first crossbar window is shared SRAM from 0x10090000. -/
def windowed (k : LSlot) (enc : Nat) (r : LaneRun) : State :=
  { w (coded k enc ++ [(yW 0 0x1C00, 2 * 2 ^ 24), (yW 0 0x1C01, 16 * 2 ^ 13), (yW 0 0x1C02, 16 * 2 ^ 13 + 0x1000),
       (LAN 0 + 3, 3), (LAN 0 + 0x10, 0x10090000), (LAN 0 + 0x11, 16), (BEL + 0x1000, 2 ^ 35 + 2 * 2 ^ 33)]) with
    lan := { Lan.reset with run := [(0, r)] } }
/-- A background item with A2 at word 3 of its ranges, or at the window. -/
def bgRun (k : LSlot) (a2 : Nat) : LaneRun := { atStart k with cls := 2, blk := 0x1C00, a := [(2, a2), (6, 0x1C00)] }

theorem witness_LaneMemory :
    (let r := bgRun .x 3
     let s := windowed .x ((encXY 1 3 2 31).getD 0) r
     issuesB s 0 .x (encXY 1 3 2 31) r = true ∧ accessCheck s 0 r false 3 false = none ∧ accessCheck s 0 r false 3 true = none ∧
     badLane s 0 3 = none ∧ r.buf.length < 512 ∧ r.cls = 2) ∧
    (let r := bgRun .y 0x1003
     let s := windowed .y ((encXY 2 3 2 31).getD 0) r
     issuesB s 0 .y (encXY 2 3 2 31) r = true ∧ accessCheck s 0 r true 0x1003 true = none) ∧
    (let r := bgRun .x 0x10090003
     let s := windowed .x ((encXY 7 3 2 31).getD 0) r
     issuesB s 0 .x (encXY 7 3 2 31) r = true ∧ xbarOk (rd s) 0 (aReg r 2) true = true ∧ writeStatus s 0x10 (aReg r 2) = 0 ∧
     readStatus s 0x10 (aReg r 2) = 0 ∧ aReg r 2 < 0x40000000) ∧
    (let r := { bgRun .x 3 with xld := some (5, 0x10090003), step := 9, fly := [] }
     let s := windowed .x 0 r
     runOf s 0 = some r ∧ readStatus s 0x10 0x10090003 = 0 ∧ s.bad = [] ∧ s.soft = [] ∧ ended r = false ∧ heldByXld s 0 r = false) := by
  decide +kernel

/-! #### Items, pairs and graphs -/

/-- Item 3: a period item of pair 0, or a background item. -/
def item3 (s : State) (cls delayed : Nat) : State := pk [(BEL + 0x1000 + 12, 2 ^ 35 + cls * 2 ^ 33 + delayed * 2 ^ 32)] s
/-- RUN with a wavefront of period 5 and item 3 in its list. -/
def dispatching : State :=
  { item3 solo 0 0 with wav := { Wav.reset with n := 5, flight := some (flight5 false) }, bel := { solo.bel with list := [3] } }

theorem witness_Items : mayDispatch dispatching 3 = true ∧ mayDispatch dispatching 4 = false ∧ dispatching.memOk = true ∧
    (let s : State := { item3 solo 2 0 with bel := { solo.bel with bg := [(3, { st := 1, since := 0, slots := [2], again := false })] } }
     slackOpen s 0 = true ∧ nodeOn s 0 = none ∧ nextBackground s 0 = some 3 ∧ s.memOk = true) ∧
    slackOpen State.reset 0 = false ∧ nodeOn State.reset 0 = none ∧
    (let r := { bgRun .g 3 with request := true, issued := 0 }
     let s := windowed .g 0 r
     runOf s 0 = some r ∧ entryDue r = true ∧ r.xld = none ∧ (runBlock s 0 r).yLen ≠ 0 ∧
     entryDue { r with im := true } = false ∧ maskLimit { r with im := true, masked := 2048 } = true ∧ maskLimit r = false) ∧
    (let r := { bgRun .g 3 with request := true, issued := 0, blk := 0x1C10 }
     entryDue r = true ∧ (runBlock (windowed .g 0 r) 0 r).yLen = 0) := by decide +kernel

theorem witness_DelayList : let s := item3 solo 0 1
    (itemOf (rd s) 3).valid = true ∧ (itemOf (rd s) 3).delayed = true ∧ (itemOf (rd s) 3).cls ≠ 2 ∧ authoritative s = true ∧
    atOf (pk [(BEL + 0x11, 32)] s) (BEL + 0x10) = 32 ∧ nextSlot s false = some 0 ∧ stagedOf s 1 = none ∧ s.memOk = true ∧
    ((itemOf (rd s) 4).valid && (itemOf (rd s) 4).delayed) = false ∧
    (let d : State := { s with bel := { s.bel with delay := [(0, { item := 3, at' := 32 })], gen := [(0, 1)] } }
     cancelCode d 1 = 2 ∧ (sparseFind d.bel.delay 0).isSome = true ∧ d.bel.bg = [] ∧ cancelCode d 2 = 4 ∧
     d.bel.delay.any (fun e => e.2.item == 3 && e.2.at' == 32) = true) := by decide +kernel

def test0 (which chunk : Nat) (bad : List (Nat × Nat)) : CrossTest :=
  { pair := 0, lanes := (0, 1), which := which, tester := 64, chunk := chunk, bad := bad }

theorem witness_SuspectPairs :
    (let s (t : CrossTest) : State := { solo with bel := { solo.bel with test := some t } }
     lanesRun (s (test0 0 5 [])) = true ∧ testOpen (s (test0 0 5 [])) (testedLane (test0 0 5 [])) = true ∧
     testOpen (s (test0 1 127 [(1, 64)])) (testedLane (test0 1 127 [(1, 64)])) = true ∧
     (lanesRun (dev .load (s (test0 0 5 []))) && testOpen (dev .load (s (test0 0 5 []))) 0) = false) ∧
    (let s : State := { solo with bel := { solo.bel with rebuild := [{ pair := 0, lanes := (0, 64), new := [64], reload := false, copied := false }] } }
     lanesRun s = true ∧ copyOpen s 0 64 = true ∧ (lanesRun (dev .load s) && copyOpen (dev .load s) 0 64) = false) := by decide +kernel

theorem witness_Graphs : graphRuns State.reset = false ∧
    (let s := w [(nodeA 0 0, 2 ^ 35 + 3 * 2 ^ 32)]
     flag (rd s (nodeA 0 0)) 35 = true ∧ fld (rd s (nodeA 0 0)) 31 24 = 0 ∧ nodeKind s 0 = 3 ∧ successors s 0 = [] ∧ stagedOf s 0 = none) ∧
    (let s : State := { pk [(nodeA 0 0, 2 ^ 35 + 2 ^ 32), (BEL + 0x21, 2 ^ 32)] solo with bel := { solo.bel with nodes := [0], graph := [0] } }
     graphRuns s = true ∧ nodeKind s 0 = 1 ∧ graphNodes s = [0] ∧ successors s 0 = [] ∧ testOpen s (nodeTarget s 0) = true ∧
     testOpen s (nodeOther s 0) = true ∧ s.bel.nodes.contains 1 = false ∧ s.bel.graphStop = false ∧ s.memOk = true) := by decide +kernel

/-! #### Faults, latches, memories and pins -/

theorem witness_Faults : outOfRange 0 0 = true ∧ outOfRange 0 750 = false ∧
    (pinsReleased { solo with sys := { solo.sys with porstHigh := true, wrstHigh := true } } = false) ∧
    (let s : State := { solo with sys := { solo.sys with porstHigh := true, wrstHigh := true }, qch := { solo.qch with pinMiss := 9 } }
     pinsReleased s = false ∧ safeLDrive s (anyQuenched s) = true ∧ faultLDrive s = true ∧ s.qch.pinMiss = 9 ∧ s.memOk = true) := by decide +kernel

theorem witness_Latches : fld (wd (2 ^ 4)) 31 0 = 2 ^ 4 ∧
    (let s : State := { solo with qch := { solo.qch with fault := 16 } }
     s.qch.fault.testBit 4 = true ∧ faultPresent s 4 = false ∧ faultPresent { s with qch := { s.qch with condThermal := true } } 4 = true) ∧
    (let s : State := { solo with qch := { solo.qch with warn := 5 } }
     s.qch.warn.testBit 0 = true ∧ warnPresent s 0 = false ∧
     warnPresent { s with feeds := [(3, { Feed.init with cause := 1 })] } 0 = true) ∧
    atOf (pk [(QCH + 0x11, 32)] solo) (QCH + 0x10) = 32 ∧ solo.qch.clear = none ∧
    (let s : State := { solo with qch := { solo.qch with clear := some { at' := 1, what := none } }, feeds := [(3, { Feed.init with cause := 1 })] }
     1 = renderN s + 1 ∧ 1 < s.wav.n + 32 ∧ s.sys.role ≠ .standby ∧ sparseFind s.feeds 3 = some { Feed.init with cause := 1 } ∧ s.memOk = true) := by
  decide +kernel

theorem witness_Scrubbing : State.reset.soft = [] ∧ inRegion 0 tblRoute = true ∧ inRegion 1 0x28000005 = true ∧ inRegion 2 0x10000000 = true ∧
    inRegion 1 0x10000000 = false ∧
    (let s : State := { solo with img := { Img.reset with static := 2 ^ secEq, copy := [(secEq, tblDest, 5)] } }
     (List.range 16).filter (fun x => s.img.static.testBit x && staticFails s x) = [secEq] ∧ secEq ≠ secSafety ∧ s.sys.hearthDown = false ∧
     ((checked s secEq).map (·.1)).Nodup ∧ (∀ e ∈ checked s secEq, inLaneMem e.1 = false ∧ e.1 ≠ MBX + 0x402 ∧ e.1 ≠ QCH + 5)) ∧
    (let s : State := { solo with img := { Img.reset with static := 2 ^ secSafety, copy := [(secSafety, tblDest, 5)] } }
     (List.range 16).filter (fun x => s.img.static.testBit x && staticFails s x) = [secSafety]) ∧
    (List.range 16).filter (fun x => solo.img.static.testBit x && staticFails solo x) = [] := by decide +kernel

/-- A pin that stands at a level. -/
def steady (v : Bool) : PinF := { raw := v, filt := v, run := 0, unstable := 0, held := 0, chatter := false, stuck := false, quiet := 0 }

theorem witness_Pins : filtOk (pinCfg (w [(PIN + 0x100, 5)]) 0) = true ∧ (pinOf (w [(PIN + 0x100, 5)]) 0).raw = false ∧
    (pairVal State.reset PIN).isSome = true ∧ (pairVal State.reset (PIN + 2)).isSome = true ∧
    (let s : State := { solo with pins := [(16, steady true)] }
     (pinOf s 16).raw = true ∧ (pinCfg s 16).filt ≤ 1000000 - 1) ∧
    pairVal (w [(PIN, 5)]) PIN = none ∧ (pinOf State.reset 17).raw ≠ true ∧ (pinOf State.reset 17).filt ≠ true ∧
    (pinCfg State.reset 17).filt ≤ 1000000 - 1 ∧
    (let s := w [(PIN + 0x100, 5 + 3 * 2 ^ 17 + 2 ^ 33)]
     ((pinCfg s 0).stuckS, (pinCfg s 0).stuckLo, (pinCfg s 0).filt) = ((pinCfg s 0).stuckS, true, 5) ∧ (pinCfg s 0).stuckS ≠ 0) := by decide +kernel

/-! #### The twin -/

/-- RUN on a unit of a pair with Tongs up over a locked lane, its reset pins high. -/
def twin (r : Role) (al : Nat) : State :=
  { w [(TWN, al * 2 ^ 33 + 2 ^ 26 + 2 ^ 25)] with
    sys := { Sys.reset with state := .run, role := r, porstHigh := true, wrstHigh := true }, img := { Img.reset with twin := 1 } }
theorem twin_memOk (r : Role) (al : Nat) : (twin r al).memOk = true := by
  simp only [State.memOk, twin]
  exact w_memOk [(TWN, al * 2 ^ 33 + 2 ^ 26 + 2 ^ 25)]

def beat0 : Beat :=
  { period := 0, hash := 0, state := 6, role := 1, taint := false, sending := false, aligned := false, emerg := false, wireOk := true, histInc := false,
    prioFail := false, fwdFail := false, priority := 0, rate := 0, serial := 0, digest := 0, annE := 0 }

theorem witness_Heartbeats : isTwin (twin .standby 0) = true ∧ laneLocked (twin .standby 0) = true ∧ tongsUp (twin .standby 0) = true ∧
    (let s : State := { w [(TWN, 2 ^ 26)] with img := { Img.reset with twin := 1 } }
     isTwin s = true ∧ laneLocked s = true ∧ tongsUp s = false ∧ s.sys.role ≠ .active) ∧ isTwin State.reset = false ∧
    beatsMissed (twin .standby 0) 0 = false ∧
    (let s : State := { twin .standby 5 with wav := { Wav.reset with n := 9 }, twn := { Twn.reset with wire := 1 } }
     beatsMissed s s.wav.n = true ∧ align s = 5 ∧ s.twn.wire = 1 ∧ counting s = true) ∧
    pinsReleased (twin .active 0) = false ∧ pinsReleased (twin .standby 0) = false ∧
    (let s : State := { w [(TWN, 5 * 2 ^ 33)] with
       twn := { Twn.reset with wireSeen := List.replicate 150 true ++ List.replicate 49 false },
       sys := { Sys.reset with state := .run, role := .standby } }
     tongsUp s = false ∧ align s = 5 ∧ wireShows ((true :: s.twn.wireSeen).take 200) = 1) ∧
    flag (rd (w [(TWN, 2 ^ 27)]) TWN) 27 = true := by decide +kernel

def forward1 : FwdOut := { seq := 3, item := .routeCancel, accept := 0, ack := none }

theorem witness_Forwards :
    (let s : State := { twin .standby 5 with twn := { Twn.reset with fwdNext := some 7 } }
     s.twn.fwdHeld = [] ∧ s.twn.fwdNext = some 7 ∧ s.sys.role = .standby ∧ (7 : Nat) < 9 ∧ tongsUp s = true ∧ s.memOk = true) ∧
    (let s : State := { twin .active 0 with twn := { Twn.reset with fwdOut := [forward1] }, wav := { Wav.reset with n := 16 } }
     s.twn.fwdOut = [forward1] ∧ s.twn.fwdFail = false ∧ forward1 ∈ s.twn.fwdOut ∧ forward1.accept + 16 ≤ s.wav.n) ∧
    (let s : State := { twin .standby 5 with twn := { Twn.reset with fwdGap := some 0 }, wav := { Wav.reset with n := 16 } }
     s.twn.fwdGap = some 0 ∧ 0 + 16 ≤ s.wav.n) ∧ (∀ x ∈ State.reset.twn.fwdOut, State.reset.wav.n < x.accept + 16) := by decide +kernel

/-- A MEND of no samples matches no receive entry. -/
theorem witness_MendMatchesNone (s : State) : ∀ e, e < 128 → (entryValid (rxE (streamRd s) e 0) && fld (rxE (streamRd s) e 1) 10 0 == 0 &&
    entryChans (rxE (streamRd s) e 0) == 1 && 8 * entryBytes (rxE (streamRd s) e 0) == 24 && entryS s (rxE (streamRd s) e 0) == 0 &&
    ([] : List Nat).length == 0 * 1 * (24 / 8) && 0 != 0) = false := by simp
theorem witness_MendFits : ∃ s : State, isTwin s = true ∧ tongsUp s = true ∧ laneLocked s = true ∧ record s 0 6 = [] ∧ latest s < 5 ∧
    5 + 6 ≤ latest s + 512 ∧
    (let fits (e : Nat) : Bool := let w := rxE (streamRd s) e 0
       entryValid w && fld (rxE (streamRd s) e 1) 10 0 == 0 && entryChans w == 1 && 8 * entryBytes w == 24 &&
       entryS s w == 6 && 18 == 6 * 1 * (24 / 8) && 6 != 0
     (List.range 128).find? fits = some 0) :=
  ⟨pk [(STM + 0x1000, 2 ^ 35 + 2 ^ 12 + 1)] { twin .standby 5 with sys := { (twin .standby 5).sys with rate := 0 } }, by decide +kernel, by decide +kernel, by decide +kernel, by decide +kernel,
    by decide +kernel, by decide +kernel, by decide +kernel⟩

/-- A unit of a pair with a beat of its partner. -/
def withBeat (b : Beat) (s : State) : State := { s with twn := { s.twn with partner := some b } }

theorem witness_Alignment : (let s := twin .active 0
     tongsUp s = true ∧ s.sys.role = .active ∧ s.clk.corr = none ∧ s.twn.mismatch = false ∧ s.twn.frozen = none) ∧
    (align (twin .standby 1) = 1 ∧ align (twin .standby 2) = 2 ∧ (twin .standby 2).twn.snapId = 0 ∧ (0 : Nat) = (twin .standby 2).twn.snapWords.length) ∧
    (let s : State := { twin .standby 4 with twn := { Twn.reset with confirm := 16 } }
     16 ≤ s.twn.confirm ∧ align s = 4 ∧ s.memOk = true) ∧
    (let b : Beat := { beat0 with role := 1, digest := digest8 State.reset }
     let s : State := withBeat b { pk [(TWN, 2 ^ 26 + 2 ^ 25), (TWN + 1, 2 ^ 35)] (twin .standby 0) with img := (twin .standby 0).img }
     flag (rd s (TWN + 1)) 35 = true ∧ align s = 0 ∧ tongsUp s = true ∧ s.twn.noRetry = false ∧ s.twn.partner = some b ∧ b.role = 1 ∧
     b.digest = digest8 s ∧ samePackage s = true) ∧
    flag (rd State.reset (TWN + 1)) 35 = true ∧ flag (rd (w [(TWN + 1, 0)]) (TWN + 1)) 35 = false := by decide +kernel

/-- The ACTIVE with a frozen state to stream. -/
def streaming (fr : SnapPart) : State := { twin .active 0 with twn := { Twn.reset with serve := some (1, 16), frozen := some (fr, []) } }
theorem witness_Streaming (fr : SnapPart) : (streaming fr).twn.serve = some (1, 16) ∧ (streaming fr).twn.frozen = some (fr, []) ∧
    tongsUp (streaming fr) = true ∧ historyOverwritten (streaming fr) 16 [] = false ∧ (streaming fr).memOk = true :=
  ⟨rfl, rfl, (by decide +kernel : tongsUp (twin .active 0) = true), rfl, twin_memOk .active 0⟩

/-- Whatever an implementation reads in the staged words, a history that its own lines make up is split. -/
theorem witness_Snapshots : splitHistory (historyPlan State.reset 16) [] = some [] := by decide +kernel

theorem witness_Roles : (let s : State := { twin .standby 5 with twn := { Twn.reset with partner := some { beat0 with state := 7 } } }
     promotes s = true) ∧ promotes State.reset = false ∧
    (let b : Beat := { beat0 with aligned := true, role := 2 }
     let s := withBeat b (pk [(TWN + 3, 32)] (twin .active 0))
     tongsUp s = true ∧ b.aligned = true ∧ b.role = 2 ∧ rdPair s (TWN + 2) = 32 ∧ 32 % 16 = 0 ∧ s.wav.n + 32 ≤ 32) ∧
    (let s : State := { twin .active 0 with twn := { Twn.reset with handover := some 1 } }
     s.twn.handover = some 1 ∧ 1 = s.wav.n + 1) ∧
    (let s : State := { dev .armed (w [(TWN, 2 ^ 4)]) with img := { Img.reset with twin := 1 } }
     isTwin s = true ∧ s.sys.state = .armed ∧ s.twn.decided = none ∧ tongsUp s = false ∧ s.twn.wire ≠ 1 ∧ flag (rd s TWN) 4 = true ∧
     { s with twn := { s.twn with wire := 1 } }.twn.wire = 1) ∧
    (let s := withBeat { beat0 with role := 15, state := 5 } (dev .armed (twin .standby 0))
     tongsUp s = true ∧ s.twn.decided = none ∧ s.memOk = true) := by decide +kernel

/-! #### The network -/

/-- RUN with port 0 up, receiving and sending. -/
def linked : State := pk [(MAC 0, 2 ^ 10), (MAC 0 + 1, 3)] solo

theorem witness_Ports : (let s := pk [(CLKL 3 + 5, 2 * 2 ^ 34)] solo
     portUp s 0 = false ∧ portIsland s = true ∧ 16 % 32 = 16) ∧ portUp linked 0 = true ∧ txOn linked 0 = true ∧
    (∀ k, k ∈ [4, 5, 7] → ∀ y ∈ txq linked 0 k, y.ring = none) ∧
    (let f : TxFrame := { body := .raw [1, 2, 3], ring := none, descs := [], ts := false }
     let s : State := { linked with macs := [(0, { MacPort.init with queues := [(3, [f])] })] }
     txOn s 0 = true ∧ rdF s (MAC 0 + 9) 31 16 = 0 ∧ txq s 0 3 = [f] ∧ (∀ k, k < 8 → 3 < k → txq s 0 k = []) ∧
     (∀ k, k < 5 → flag (rd s (txr 0 k + 5)) 35 = false) ∧ s.memOk = true) ∧ txOn State.reset 0 = false ∧
    (let s : State := { linked with macs := [(0, { MacPort.init with staging := [[1, 2]] })] }
     (macOf s 0).staging = [[1, 2]] ∧
     ((txq s 0 6).map (txLen (rd s) 0)).foldl (· + ·) 0 + txLen (rd s) 0 { body := .raw [1, 2], ring := none, descs := [], ts := false } ≤ 16384) ∧
    macOf State.reset 0 = MacPort.init ∧
    (let s : State := { pk [(STM + 0x1000, 2 ^ 35 + 2 ^ 34 + 2 ^ 33 + 1), (STM + 0x1002, 0xEF000001)] linked with img := { Img.reset with params := [(0x209, 1)] } }
     portsOn s = true ∧ netParam s 0x209 3 = 1 ∧ (igmpFrame (rd s) 0 true).isSome = true) := by decide +kernel

theorem witness_Frames : rxOn linked 0 = true ∧ rxOn State.reset 0 = false ∧ rdF linked (MAC 0 + 9) 31 16 = 0 ∧
    flag (rd (pk [(MAC 0 + 1, 7)] linked) (MAC 0 + 1)) 2 = true ∧
    (let b := [1, 0x80, 0xC2, 0, 0, 1] ++ List.replicate 6 0 ++ [0x88, 8, 0, 1] ++ List.replicate 44 0
     60 ≤ b.length ∧ b.length ≤ 9212 ∧ beAt b 12 2 = 0x8808 ∧ beAt b 14 2 = 1 ∧ beAt b 0 6 = 0x0180C2000001) ∧
    (let b := List.replicate 6 0xFF ++ List.replicate 6 0 ++ [8, 6] ++ List.replicate 46 0
     let s := pk [(rxr 0 1 + 5, 2 ^ 35)] linked
     60 ≤ b.length ∧ beAt b 12 2 = 0x0806 ∧ beAt b 0 6 = 2 ^ 48 - 1 ∧ macVlan (streamRd s) 0 = false ∧ s.macs = [] ∧
     flag (rd s (rxr 0 1 + 5)) 35 = true ∧ rdF s (rxr 0 1 + 4) 9 0 = rdF s (rxr 0 1 + 3) 9 0) ∧
    (let b := [2, 0, 0, 0, 0, 1] ++ List.replicate 6 0 ++ [8, 0] ++ List.replicate 46 0
     beAt b 12 2 ≠ 0x8808 ∧ beAt b 0 6 = 0x020000000001) := by decide +kernel

/-- Two unicast addresses: at most one is the port's own, whatever that is. -/
def unicast : List Nat := [0x020000000001, 0x020000000002]
theorem others_unknown : ∀ d ∈ unicast, macAddr (streamRd linked) 0 ≠ d → etherOk (streamRd linked) 0 d = false := by
  have h : ∀ d ∈ unicast, (d == 2 ^ 48 - 1 || d == groupMac 0xE0000181 || d == groupMac 0xE0000001
      || (List.range 64).any (fun i => flag (streamRd linked (MAC 0 + 0x40 + i)) 35 && groupMac (fld (streamRd linked (MAC 0 + 0x40 + i)) 31 0) == d)
      || (List.range 128).any (fun e => entryValid (rxE (streamRd linked) e 0) && entryOn (rxE (streamRd linked) e 0) 0
        && isGroup (fld (rxE (streamRd linked) e (2 + 3 * 0)) 31 0) && groupMac (fld (rxE (streamRd linked) e (2 + 3 * 0)) 31 0) == d)) = false := by
    decide +kernel
  intro d hd hm
  have hd' := h d hd
  simp only [etherOk, beq_eq_false_iff_ne.2 (Ne.symm hm), Bool.false_or]
  exact hd'
theorem witness_Addresses : etherOk (streamRd linked) 0 (2 ^ 48 - 1) = true ∧ ∃ d ∈ unicast, etherOk (streamRd linked) 0 d = false := by
  refine ⟨by simp [etherOk], ?_⟩
  by_cases h : macAddr (streamRd linked) 0 = 0x020000000001
  · exact ⟨0x020000000002, by simp [unicast], others_unknown _ (by simp [unicast]) (by rw [h]; decide)⟩
  · exact ⟨0x020000000001, by simp [unicast], others_unknown _ (by simp [unicast]) h⟩

/-- A received frame that waits for its ring. -/
def waiting : RxFrame :=
  { reason := 0, bytes := List.replicate 60 1, sec := 0, ns := 0, frac := 0, tagged := false, tci := 0, put := 0, descs := [], since := 0 }

theorem witness_Rings :
    (let s : State := { pk [(rxr 0 1, 0x10100000), (rxr 0 1 + 1, 4), (rxr 0 1 + 2, 64), (rxr 0 1 + 5, 2 ^ 35), (0x10100000, 2 ^ 35 + 0x10101000)] linked with
       macs := [(0, { MacPort.init with rings := [(1, [waiting])] })] }
     waiting.bytes.length ≤ rdF s (rxr 0 1 + 2) 31 0 ∧ flag (rd s (rxr 0 1 + 5)) 35 = true ∧ rdF s (rxr 0 1 + 4) 9 0 ≠ fld (1 : Word) 9 0 ∧
     rdF s (rxr 0 1) 31 0 + 8 * rdF s (rxr 0 1 + 4) 9 0 = 0x10100000 ∧ ringArea 0x10100000 8 = true ∧ flag (seenWord s 0x10100000) 35 = true ∧
     ringArea (fld (seenWord s 0x10100000) 31 0) ((rdF s (rxr 0 1 + 2) 31 0 + 3) / 4) = true ∧ s.memOk = true) ∧
    (let s := pk [(txr 0 1, 0x10100000), (txr 0 1 + 1, 2), (txr 0 1 + 5, 2 ^ 35), (0x10100000, 2 ^ 35 + 2 ^ 33 + 60), (0x10100001, 0x10101000)] linked
     flag (rd s (txr 0 1 + 5)) 35 = true ∧ rdF s (txr 0 1 + 1) 31 0 = 2 ∧ rdF s (txr 0 1 + 4) 9 0 = 0 ∧ fld (1 : Word) 9 0 = 1 ∧
     flag (seenWord s 0x10100000) 35 = true ∧ flag (seenWord s 0x10100000) 33 = true ∧ flag (seenWord s 0x10100000) 32 = false ∧
     fld (seenWord s 0x10100000) 13 0 = 60 ∧ ringArea (fld (seenWord s 0x10100001) 31 0) ((60 + 3) / 4) = true ∧ s.macs = []) ∧
    macWriter State.reset 1 = true ∧
    stagedOf (holding 1 (MAC 0 + 4) 5 State.reset) 1 = some { addr := MAC 0 + 4, word := 5 } := by decide +kernel

def master5 : Master := { id := 5, rank := 0, count := 1, ipA := 0, ipB := 0, onA := true, onB := false }
/-- A port that hears PTP, with master 5 selected on it. -/
def hearing : State :=
  { pk [(STM + 2, 2 ^ 32), (STM, 2 ^ 30)] linked with stm := { Stm.reset with gm := some 5, masters := [master5] } }

theorem witness_Ptp : ptpHears hearing 0 0 = true ∧ ptpHears hearing 0 1 = false ∧ fromGm hearing 0 0 5 = true ∧ hearing.memOk = true ∧
    (let s : State := { hearing with stm := { hearing.stm with masters := [] } }
     ptpHears s 0 0 = true ∧ s.stm.masters = []) ∧
    (let s : State := { hearing with stm := { hearing.stm with gm := none } }
     s.stm.masters = [master5] ∧ 1 ≤ master5.count ∧ ptpState s ≠ 2) ∧
    (let s : State := { hearing with stm := { hearing.stm with syncs := [{ seq := 1, t2 := 9, corr := 0 }], req := some (1, 3), ms := some 4 } }
     fromGm s 0 0 5 = true ∧ s.stm.exch = [] ∧ s.stm.req = some (1, ((3 : Nat) : Int)) ∧ s.stm.ms = some 4) ∧
    (let s : State := { hearing with stm := { hearing.stm with exch := [2 * 7] } }
     s.stm.exch = [2 * 7] ∧ fromGm s 0 0 5 = true) ∧
    64000 < ((4 : Int) + ((100000 : Nat) - (3 : Nat) - 0) - 7).natAbs ∧ hearing.img.clock = 0 ∧ ptpPort hearing = 0 + 1 ∧ txOn hearing 0 = true := by
  decide +kernel

/-! #### Clocks, DRAM and audio -/

/-- A loop's status word with a state. -/
def loopIn (k st : Nat) (ps : List (Nat × Nat)) : State := w ((CLKL k + 5, st * 2 ^ 34) :: ps)
/-- A valid band from 1,000 to 2,000 MHz. -/
def wideBand (k : Nat) : Nat × Nat := (CLK + 0x400 + 64 * k, 2 ^ 35 + 2000 * 2 ^ 16 + 1000)

theorem witness_Loops : loopState (loopIn 0 1 []) 0 = 1 ∧ loopState (loopIn 0 2 []) 0 = 2 ∧ loopState (loopIn 0 3 []) 0 ≠ 2 ∧
    (0 ∈ ({ loopIn 0 3 [] with clk := { Clk.reset with settling := [0] } } : State).clk.settling) ∧
    (portUp State.reset 0 = false ∧ portUp State.reset 1 = false ∧ tongsUp State.reset = false ∧ State.reset.drc.queue = []) ∧
    (let s := loopIn 0 2 [wideBand 0]
     (bandFor (rd s) 0 (64 * 2 ^ 36)).isSome = true) := by decide +kernel

theorem witness_Words :
    (let s : State := holding 0 (CLKL 0 + 1) 64 { loopIn 0 2 [wideBand 0] with clk := { Clk.reset with lockWord := [(0, 64 * 2 ^ 36)] } }
     loopState s 0 = 2 ∧ flag (rd s (CLKL 0 + 5)) 33 = false ∧ (bandFor (rd s) 0 (64 * 2 ^ 36 + (0 : Word).toNat)).isSome = true ∧
     1000 * (((64 * 2 ^ 36 + (0 : Word).toNat : Nat) : Int) - (sparseGet (fun _ => 0) s.clk.lockWord 0 : Nat)).natAbs ≤
       sparseGet (fun _ => 0) s.clk.lockWord 0 ∧
     sparseGet (fun _ => 0) s.clk.lockWord 0 < 1000 * (((64 * 2 ^ 36 + (wd (2 ^ 35)).toNat : Nat) : Int) - (sparseGet (fun _ => 0) s.clk.lockWord 0 : Nat)).natAbs ∧
     (bandFor (rd s) 0 (64 * 2 ^ 36 + (wd (2 ^ 35)).toNat)).isSome = true) ∧
    (let s := loopIn 0 1 [wideBand 0]
     loopState s 0 = 1 ∧ flag (rd s (CLKL 0 + 5)) 33 = false) ∧ bandFor (rd State.reset) 0 (64 * 2 ^ 36) = none ∧
    flag (rd (w [(CLKL 0 + 5, 2 * 2 ^ 34 + 2 ^ 33)]) (CLKL 0 + 5)) 33 = true ∧ State.reset.clk.slew = 0 ∧
    (let s : State := { State.reset with clk := { Clk.reset with ramp := [(0, { seg := 0, start := 5, goal := 7 })] } }
     sparseFind s.clk.ramp 0 = some { seg := 0, start := 5, goal := 7 } ∧ 16 ≤ nextSeg (rd s) 0 (0 + 1)) := by decide +kernel

def realign0 (viaArmed : Bool) (k : Int) : Realign := { at' := 1, k := k, rest := 5, viaArmed := viaArmed }

theorem witness_References : (let s : State := { pk [(CLKL 0 + 5, 2 * 2 ^ 34)] solo with img := { Img.reset with clock := 3 } }
     s.img.clock = 3 ∧ loopState s 0 = 2 ∧ counting s = true ∧ s.memOk = true) ∧ ptpState State.reset ≠ 3 ∧ State.reset.img.clock = 0 ∧
    refState (w [(CLK, 2 * 2 ^ 33)]) = 2 ∧ refState State.reset ≠ 2 ∧ refState (w [(CLK, 3 * 2 ^ 33)]) = 3 ∧
    (let s : State := { dev .armed (w [(CLK, 2 * 2 ^ 33)]) with img := { Img.reset with clock := 1 } }
     counting s = true ∧ 32000 < (((0 : Nat) : Int) - 16000000000).natAbs ∧ (((16000000000 : Nat) : Int) - 16000000000).natAbs ≤ 32000 ∧
     refState s = 2 ∧ s.sys.condCount = false ∧ s.twn.partner = none ∧ s.cocoon.calSource = 0) ∧
    (let s : State := { solo with clk := { Clk.reset with corr := some (realign0 false 2) } }
     s.clk.corr = some (realign0 false 2) ∧ (realign0 false 2).at' = s.wav.n + 1 ∧ 0 < (realign0 false 2).k ∧ (realign0 true 0).viaArmed = true) := by
  decide +kernel

theorem witness_Dram : dramMayWrite State.reset 0 0x40000000 = true ∧ dramMayWrite State.reset 3 0x40000000 = false ∧
    dramMayRead 0 0x40000000 = true ∧ dramMayRead portFiller 0x48000000 = true ∧ dramMayWrite State.reset portFiller 0x48000000 = true ∧
    chanFailed State.reset 0x40000000 = false ∧ chanQueue State.reset (dramChan 0x40000000) = [] ∧ dramUp State.reset = true ∧
    dramUp (w [(DRC, 0xFF0)]) = false ∧ flipsOf State.reset 0x40000000 = 0 ∧ lapOf State.reset 0x48000000 = 0 ∧ inLines 0x48000000 = true ∧
    inLines 0x40000000 = false ∧ sparseWf (fun _ => 0) State.reset.flips = true ∧
    (let q : DramReq := { src := 0, a := 0x40000000, write := some 5, lap := 0, cls := dramClass 0, flip := 0, cause := false }
     ({ State.reset with drc := { Dram.reset with queue := [q] } } : State).drc.queue = [q]) ∧
    flag (rd State.reset DRC) (4 + 0) = false ∧ flag (rd (w [(DRC, 16)]) DRC) 4 = true ∧
    (let s := w [(DRC + 1, 64)]
     64 ≤ rdF s (DRC + 1) 19 0 ∧ rdF s (DRC + 1) 19 0 ≤ 1000000 ∧ s.drc.queue = []) ∧ rdF (w [(DRC + 1, 0)]) (DRC + 1) 19 0 = 0 ∧
    0x40000000 % 4 = 0 ∧ (∀ i, i < 4 → flipsOf State.reset (0x40000000 + i) = 0) ∧ (∀ i, i < 4 → lapOf State.reset (0x40000000 + i) = 0) := by
  decide +kernel

/-- TDM port 0: a master, or a target of one slot of 16 bits, that runs. -/
def tdm (master : Nat) (d : DevState) (p : TdmPort) : State :=
  { pk [(TDM, 2 ^ 35 + master * 2 ^ 34 + 2 ^ 19)] (dev d State.reset) with
    aud := { Aud.reset with tdm := [(0, p)] } }
def tdmRunning : TdmPort := { st := 1, held := [], good := 0, fifo := [], last := [] }

theorem witness_Audio : tdmLive (tdm 0 .run tdmRunning) 0 = true ∧ tdmMaster (rd (tdm 0 .run tdmRunning)) 0 = false ∧
    tdmMaster (rd (tdm 1 .run tdmRunning)) 0 = true ∧ tdmFrameOk (rd (tdm 0 .run tdmRunning)) 0 [] = false ∧
    tdmFrameOk (rd (tdm 0 .run tdmRunning)) 0 ((true, true) :: List.replicate 31 (false, false)) = true ∧
    (tdmOf (tdm 0 .run tdmRunning) 0).st = 1 ∧ (tdmOf (tdm 0 .run tdmRunning) 0).held.length < 4 ∧
    (let p : TdmPort := { tdmRunning with fifo := [(0, [5])], last := [4] }
     let s : State := { tdm 0 .run p with wav := { Wav.reset with n := 1 } }
     (tdmOf s 0).fifo = [(0, [5])] ∧ 0 < s.wav.n ∧ s.wav.n = 0 + 1 ∧ (tdmOf s 0).last = [4] ∧ tdmLive s 0 = true) ∧
    (tdmOf (tdm 0 .run { tdmRunning with st := 2 }) 0).st ≠ 1 ∧ tdmLive State.reset 0 = false ∧
    (let s := pk [(PDM, 2 ^ 35), (PDM + 0x10, 2 ^ 35 + 1)] (dev .run State.reset)
     pdmEn (rd s) 0 = true ∧ pdmRuns s 0 = true ∧ pdmRuns s 4 = false ∧ (pdmOf s 0).held.length < 4 ∧ pdmPreset (rd s) 0 = 1 ∧
     (pdmOf s 0).stuck = false ∧ ({ PdmIn.init with clockOk := false, stuck := true } : PdmIn).clockOk = false) ∧
    (let s := pk [(PDM + 0x10B, 32), (PDM + 0x108, 0x10100000), (PDM + 0x109, 16)] solo
     rdPair s (PDM + 0x10A) = 32 ∧ rdF s TWN 35 33 = 0 ∧ s.aud.cap = none ∧ sourceReserved (rdF s (PDM + 0x100) 10 0) = false ∧
     0x10100000 ≤ rdF s (PDM + 0x108) 31 0 ∧ 1 ≤ rdF s (PDM + 0x109) 31 0) ∧
    (let s : State := { solo with aud := { Aud.reset with cap := some (40, 1) } }
     s.aud.cap.isSome = true ∧ s.aud.capRun = false) := by decide +kernel

/-! #### Hearth's duties and security -/

theorem witness_Sensors : (let s : State := { State.reset with sys := { Sys.reset with hearthDown := true } }
     s.sys.hearthDown = true ∧ flashFree s = false) ∧ flashFree solo = true ∧ solo.sys.rails = true ∧ solo.sys.hearthDown = false ∧
    stagedOf (holding 1 (LIF + 4) 5 solo) 1 = some { addr := LIF + 4, word := 5 } ∧ ptpLocked (w [(STM, 3 * 2 ^ 32)]) = true ∧
    ptpLocked State.reset = false ∧ stagedOf solo 0 = none := by decide +kernel

def report0 : Report := { sev := 2, src := 0, event := .stuck, period := 0, calSec := 0, calSub := 0, d0 := 0, d1 := 0 }
def entry0 (q sev : Nat) : LogEntry := { seq := q, sev := sev, words := [] }

theorem witness_Log : victim [entry0 1 2, entry0 2 0] none = some (entry0 2 0) ∧ victim [entry0 1 2, entry0 2 0] (some 1) = some (entry0 1 2) ∧
    (let s : State := { solo with log := { Log.reset with reports := [report0], tokens := 1, ring := [entry0 0 2], fetching := true } }
     s.log.reports = [report0] ∧ s.log.ring.length < 8192 ∧ flashFree s = true ∧ s.log.tokens ≠ 0 ∧ s.log.writePos % 64 = 0 ∧
     (findEntry s (rd s (HTH + 0x48)).toNat).isSome = true) ∧
    (let s : State := { solo with log := { Log.reset with fetching := true } }
     findEntry s (rd s (HTH + 0x48)).toNat = none) ∧
    (let s : State := { pk [(HTH + 0x60, 1)] solo with sec := { Sec.reset with keys := [(0, 5)] } }
     counting s = true ∧ rdF s (HTH + 0x60) 15 0 ≠ 0 ∧ keyZero s ≠ none ∧ s.memOk = true) ∧ keyZero State.reset = none := by decide +kernel

/-- A full ring of entries below FAULT, none in flash, discards its first. -/
theorem victim_full (e : LogEntry) (n : Nat) (h : e.sev = 0) : victim (List.replicate (n + 1) e) none = some e := by
  simp [victim, h]
theorem witness_FullRing : ∃ ring : List LogEntry, 8192 ≤ ring.length ∧ victim ring none = some (entry0 1 0) :=
  ⟨List.replicate (8191 + 1) (entry0 1 0), by rw [List.length_replicate], victim_full _ _ rfl⟩

theorem witness_Updates : (solo.sys.state = .run ∧ 0xC0C % 4096 = 0xC0C ∧ solo.hth.job = none ∧ solo.sys.busyCmd ≠ 1) ∧
    committedSlot { solo with flash := { Flash.reset with commits := [(0, commitBytes 1 0 0 0 0 0)] } } = some 0 ∧ committedSlot solo = none ∧
    (let s : State := { pk [(HTH + 0x72, 256)] solo with hth := { Hth.reset with beginSlot := some 1 } }
     s.hth.beginSlot = some 1 ∧ rdF s (HTH + 0x71) 24 0 % 256 = 0 ∧ rdF s (HTH + 0x72) 24 0 = 256 ∧ s.hth.written = []) ∧
    ({ solo with hth := { Hth.reset with verified := some 1 } } : State).hth.verified = some 1 ∧
    (let s : State := { solo with img := { Img.reset with slot := 0, secVer := 3 }, flash := { Flash.reset with commits := [(0, commitBytes 1 0 0 0 0 0)] } }
     committedSlot s = some s.img.slot ∧ s.otp.rollback < s.img.secVer ∧ vdd1Ok s = true) ∧
    (let s : State := { solo with hth := { Hth.reset with job := some (.write 1 0 [7] none 0) } }
     s.hth.job = some (.write 1 0 [7] none 0) ∧ flashFree s = true ∧ s.pending = [] ∧ s.drc.queue = []) := by decide +kernel

/-- The most that the fuses can still advance by is 128. -/
theorem witness_FuseCounts : let s : State := { solo with img := { Img.reset with secVer := 3 } }
    s.img.secVer - s.otp.rollback + floorFuses s ≤ 128 := by
  simp [floorFuses, vendorFloor, solo, Img.reset, State.reset, Otp.reset]

/-- The host's response as it stands after reset: its key, and its signature from byte 148 on. -/
def resp0 : List Nat := respBytes State.reset

/-- ENROLL_OWNER while every owner slot is empty. -/
def enrolling : State := dev .armed { State.reset with sec := { Sec.reset with challenge := some (0, 1, 0) } }
/-- The waiting challenge of purpose `pu`, with an owner in slots 0 and 1 whose key is the one that the host's response names. -/
def challenged (pu a : Nat) : State :=
  dev .hold { State.reset with
    sec := { Sec.reset with challenge := some (0, pu, a), rngOk := true },
    cocoon := { Cocoon.reset with tamperCfg := 2 ^ 14 + 2 ^ 15 },
    otp := { Otp.reset with ownerActive := 3, ownerHash := [(0, Config.sha384 (resp0.take 97)), (1, Config.sha384 (resp0.take 97))] } }

theorem witness_Signed : enrolling.sec.challenge = some (0, 1, 0) ∧ enrolling.otp.ownerActive = 0 ∧ enrolling.otp.ownerRevoked = 0 ∧ vdd1Ok enrolling = true ∧
    enrolling.sys.state = .armed ∧ noSigner enrolling 1 = true ∧ purposeState enrolling 1 = true ∧ purposeCond enrolling 1 0 = true ∧
    (challenged 3 0).cocoon.tamperCfg.testBit 15 = true ∧ (challenged 3 0).sys.state ≠ .off ∧ (challenged 3 0).cocoon.calStop = false ∧
    ({ State.reset with cocoon := { Cocoon.reset with calStop := true } } : State).cocoon.calStop = true ∧ ({ State.reset with sec := { Sec.reset with rngOk := false } } : State).sec.rngOk = false ∧
    (challenged 3 0).sec.rngOk = true ∧ stagedOf (challenged 3 0) 1 = none := by decide +kernel

theorem witness_Enroll : Answers enrolling 0 1 0 := ⟨rfl, .inl (by decide), by decide, by decide⟩

/-- Where the signature function of Config takes a response's signature, and a vendor's key is the one that the response names, the response
answers a challenge of each purpose that needs a signature. -/
theorem witness_Answers (hs : ∀ d, Config.ecdsaOk (resp0.take 97) d ((resp0.drop 148).take 96) = true)
    (hv : Config.otpVendorKey 0 = Config.sha384 (resp0.take 97)) : ∀ pu ∈ [2, 3, 4, 5, 6, 7], Answers (challenged pu 1) 0 pu 1 := by
  have own (pu : Nat) (h : ¬ (pu = 4 ∨ pu = 6)) : signerOk (challenged pu 1) pu (Config.sha384 (resp0.take 97)) = true := by
    simp [signerOk, h, challenged, dev, ownerIsActive, ownerHash, List.range_succ, sparseGet, State.reset, Otp.reset]
  have ven (pu : Nat) (h : pu = 4 ∨ pu = 6) : signerOk (challenged pu 1) pu (Config.sha384 (resp0.take 97)) = true := by
    simp [signerOk, h, hv, challenged, dev, State.reset, Otp.reset, List.range_succ]
  intro pu hp
  have same : respBytes (challenged pu 1) = resp0 := rfl
  refine ⟨rfl, .inr ⟨?_, ?_⟩, ?_, ?_⟩
  · rw [same]
    by_cases h : pu = 4 ∨ pu = 6
    · exact ven pu h
    · exact own pu h
  · rw [same]
    exact hs _
  · simp only [List.mem_cons, List.not_mem_nil, or_false] at hp
    rcases hp with rfl | rfl | rfl | rfl | rfl | rfl <;> rfl
  · simp only [List.mem_cons, List.not_mem_nil, or_false] at hp
    rcases hp with rfl | rfl | rfl | rfl | rfl | rfl <;> rfl

/-! #### Steps -/

theorem witness_Steps : State.reset.pending = [] ∧ State.reset.drc.queue = [] ∧ State.reset.hth.job = none ∧ State.reset.sys.state ≠ .off ∧
    State.reset.cocoon.calSub + 1 < 32768 ∧ 32768 ≤ ({ State.reset with cocoon := { Cocoon.reset with calSub := 32767 } } : State).cocoon.calSub + 1 ∧
    State.reset.memOk = true ∧ State.reset.otp.rollback ≤ 64 := by decide

/-! ### The spec's worked examples -/

/-- 02, after R38: two products into feed 12, taken in either order, store as 0xF_A000_0002. -/
theorem test_crucible_sum : wdI (storeA (accAdds false 0 [0xFFFE8000000000000000 - 2 ^ 80, 0x600000000]).val).1 = 0xFA0000002 ∧
    wdI (storeA (accAdds false 0 [0x600000000, 0xFFFE8000000000000000 - 2 ^ 80]).val).1 = 0xFA0000002 := by decide +kernel

/-- 02, after R52: the timestamp of a packet, its first period and its sequence number. -/
theorem test_rtp : rtpPeriod 0x47868BF4 1200000000 = 1199999988 ∧ rtpSeq 1199999988 12 = 0xE0FF ∧ rtpSeq 1200000000 12 = 57600 := by decide +kernel

/-- 07, at the end: a source that is missing for twelve periods and returns. -/
theorem test_concealment : scale64 0x10000000 63 = 0x0FC00000 ∧ scale64 0x10000000 52 = 0x0D000000 ∧ scale64 0x0F000000 53 = 0x0C6C0000 ∧
    (conceal { k := 64, h := 0x10000000, lost := false } none).2 = 0x0FC00000 ∧
    (conceal { k := 52, h := 0x10000000, lost := false } (some 0x0F000000)).2 = 0x0C6C0000 := by decide +kernel

/-- 08, at the end: the MS_1 word of a mean square of 1.5 × 2^56. -/
theorem test_mean_square : ms36 (3 * 2 ^ 55) = 0x6F0000000 := by decide +kernel

/-- 08: a stage entry of the example, and its CTRL word. -/
theorem test_stage_entry : let e := stageEntry (rd (w [(tblStage, 0x800000064), (tblStage + 1, 0xC01EC0003), (tblStage + 2, 0x200000000)])) 0
    e.valid = true ∧ e.isDest = false ∧ e.index = 100 ∧ ctrlOk e.v0 = true ∧ fld e.v0 25 16 = 492 ∧ fld e.v0 10 0 = 3 ∧ tblStage = 0x20082000 := by
  decide +kernel

/-- 09, at the end: the request, and A1 of record 16,931 at k = 255 and k = 511 of the fade. -/
theorem test_bank_fade : swapReq 0x8000000A3 1200001600 = { at' := 1200001600, fade := some 10, target := 1 } ∧
    (let s := w [(tblBank 0 + 8 * 16931 + 3, 0xC33333333), (tblBank 1 + 8 * 16931 + 3, 0xC1999999A)]
     tblBank 1 + 8 * 16931 + 3 = 0x2018111B ∧ wdI (coefAt (rd s) 0 (some (1200001600, 10, 1)) 1200001855 16931).a1 = 0xC2CCCCCCD ∧
     wdI (coefAt (rd s) 0 (some (1200001600, 10, 1)) 1200002111 16931).a1 = 0xC26666667) := by decide +kernel

/-- 11, R268-R275: the fields of the example's bundles, and where their slots stand in the two words. -/
theorem test_lane_encodings : encLoop 0 5 7 = some 0x80507 ∧ encM 14 4 8 0 1 false = some 0x71102 ∧ encM 1 3 12 0 1 false = some 0x08D82 ∧
    encXY 1 5 0 1 = some 0x2501 ∧ encXY 1 6 0 1 = some 0x2601 ∧ encXY 2 8 4 1 = some 0x4881 ∧ encXY 1 9 1 1 = some 0x2921 ∧
    (let b := 0x000007110 * 2 ^ 36 + 0x226014881
     slotOf b .g = 0 ∧ slotOf b .m = 0x71102 ∧ slotOf b .x = 0x2601 ∧ slotOf b .y = 0x4881) ∧
    slotOf (0x805070000 * 2 ^ 36 + 0x025010000) .g = 0x80507 := by decide +kernel
/-- 11, R268: ADD D1, D2 under P0; BR under P3 to 100; LDI D13, 0x1100, bit by bit. -/
theorem test_g_forms : encAlu 2 1 2 0 = some 0b00000100000100010000 ∧ encBranch 0 3 100 = some 0b01011000000001100100 ∧
    encLdi 13 0x1100 = some 0b11011011000100000000 := by decide +kernel

/-- 13, at the end: feed 130 over its ceiling, with UP 4 and TRIP 4,800. -/
theorem test_quench_sustain :
    let c : QuenchIn := { limit := 1024, sustain := some (4, 4800), factor := 64 }
    let q (d : Feed) := quench c 130 d (some (2 ^ 30)) false false 0x4CCCCCCD
    let d0 : Feed := { Feed.init with ck := 64, qk := 0 }
    pairVal (w [(QCH + 0x1104, 2 ^ 30), (QCH + 0x1105, 0xFBFFFFFFF)]) (QCH + 0x1104) = some (wd (2 ^ 30)) ∧
    (q d0).q = 2 ^ 30 ∧ (q d0).e = 4 ∧ (q d0).exceed = true ∧ (q d0).cause = 0 ∧
    (q { d0 with e := 4796 }).q = 2 ^ 30 ∧ (q { d0 with e := 4796 }).cause = 2 ∧
    (q { d0 with e := 4800, cause := 2 }).q = 0x3F000000 ∧ (q { d0 with e := 4800, cause := 2, qk := 32 }).q = 0x1F000000 ∧
    (q { d0 with e := 4800, cause := 2, qk := 63 }).q = 0 := by decide +kernel

/-- 16: stream 3's entry: a packet's periods and payload at 96 kHz, its group and port. -/
theorem test_stream_entry : entryValid 0xE01841010 = true ∧ entryChans 0xE01841010 = 16 ∧ entryBytes 0xE01841010 = 3 ∧
    entryS { State.reset with sys := { Sys.reset with rate := 1 } } 0xE01841010 = 12 ∧ 12 * 16 * 3 = 576 ∧
    isGroup 0xEF450A03 = true ∧ 0xEF450A03 = ((239 * 256 + 69) * 256 + 10) * 256 + 3 := by decide +kernel

/-- 18: the place of a sample of line 205, and the DRAM row, bank and lap it lies in. -/
theorem test_line_address : lineAddr (fun _ => wd 32) 205 1200000000 = 0x499A8C00 ∧ dramChan 0x499A8C00 = 0 ∧ dramRank 0x499A8C00 = 0 ∧
    dramBank 0x499A8C00 = 3 ∧ dramRow 0x499A8C00 = 9834 ∧ 1200000000 / 131072 % 16 = 3 := by decide +kernel

/-- 05, at the end: peer 3's frame for object 17. -/
theorem test_scene_frame : parseFrame false ([0x53, 0x43, 0x4E, 0x31, 1, 0, 3, 1] ++ List.replicate 8 0 ++ [0, 0, 0, 0, 0x47, 0x86, 0x8C, 0x64, 0, 0, 0, 35, 0, 0, 0, 0] ++
      [0, 2, 0, 31, 0, 17, 0, 1, 0, 0, 0, 0, 0x47, 0x88, 3, 0x70, 0, 0, 0, 0] ++ [0, 0x14, 0, 0, 0, 0, 0x28, 0, 0, 0, 0, 0x0A, 0, 0, 0]) =
    .inr { flags := 0, peer := 3, counter := 0, applyAt := 1200000100,
           cmds := [.keyframes 17 false [(1200096112, 0, [0x14000000, 0x28000000, 0x0A000000])]] } ∧
    frameBoundary { State.reset with wav := { Wav.reset with n := 1200000040 } } 1200000100 = 1200000112 := by decide +kernel

/-- 06, A North Quay Arena pair: object 205 on target 0, step by step. -/
def quayArena : State :=
  w [(objW 205 1, 1), (objW 205 2, 2 ^ 34), (objW 205 3, 0x18000000), (objW 205 4, 0x20000000), (objW 205 5, 0), (objW 205 7, 0xFFFF),
     (tgtW 0 0, 1), (tgtW 0 1, 0), (tgtW 0 2, 480), (tgtW 0 3, 32), (tgtW 0 4, 0), (tgtW 0 5, 0x1E), (tgtW 0 6, 2 ^ 34),
     (tblLocator + 1, 7 * 2 ^ 16), (tblLocator + 4, 8 * 2 ^ 25), (tblLocator + 5, 10 * 2 ^ 25), (tblLocator + 6, 0),
     (0x20030400 + 13, 2 ^ 33), (0x2004325B, 2 * 2 ^ 16 + 5), (0x20050005, 17), (0x20050006, 18),
     (0x20038000 + 16 * 17, 300 * 2 ^ 20 + 52 * 2 ^ 10 + 40), (0x20038000 + 16 * 17 + 2, 2 ^ 30), (0x20038000 + 16 * 17 + 4, 2 ^ 30),
     (0x20038000 + 16 * 17 + 9, 2 ^ 30), (0x20031000 + 16 * 40 + 3, 0xFFFF), (0x20031000 + 16 * 52 + 3, 0xFFFF), (0x20031000 + 16 * 300 + 3, 0xFFFF),
     (tblLineLen + 205, 32)]
def quayU : Int × Int × Int := (0x266666666, 0x333333333, 0)
theorem test_quay_direction : direction (rd quayArena) 0 [0x18000000, 0x20000000, 0] = (quayU, 671088640) := by decide +kernel
theorem test_quay_cell : cellOf (rd quayArena) 0 quayU = 0x2004325B ∧ candidates (rd quayArena) 0x2004325B = [17, 18] := by decide +kernel
theorem test_quay_facet : chooseFacet (rd quayArena) quayU [17, 18] = some (17, [(40, 0x333333333), (52, 0x266666666), (300, 0)], false) := by
  decide +kernel
theorem test_quay_power : normPower [(40, 0x333333333), (52, 0x266666666)] = [(40, 0x333333334), (52, 0x266666667)] := by decide +kernel
/-- R148 normalises after the panning and again after the limit, where the example normalises once: its value for feed 40 stands either way,
that for feed 52 is one unit less by the rule (log entry 94). -/
theorem test_quay_gains : distGain (rd quayArena) 0 671088640 = 2 ^ 33 ∧
    (gainVector (rd quayArena) 205 0 [0x18000000, 0x20000000, 0]).gains = [(40, 0x19999999A), (52, 0x133333334 - 1)] := by decide +kernel
theorem test_quay_delay : delayTarget (rd quayArena) 205 0 671088640 96000 = (0x015E1AAEA, false) ∧ airSelect (rd quayArena) 64 671088640 = 2 := by
  decide +kernel

/-! ### Well-formed commands -/

/-- For each check of a command's operands, a command that fails it and no other. -/
theorem test_ill_formed : ([
  .registerWrite 10 SYS 0, .rcRead 0x58 SYS, .latchingRead 0 (2 ^ 32), .pairStageTimeout 0x0F, .railBelowThreshold 10 0, .retry 1 4096,
  .jumpFillComplete 2048, .headWriteBack 2048, .tailFill 2048, .routeCtrlWrite 1 4096 0, .destinationWrite 1 4096 0, .argumentCommit 1 36 0 1,
  .argumentCommitApply 36, .itemDispatch 2048, .laneNop 0 .y 32768, .laneMov 36 0 0 0, .laneMov 0 32 0 0, .laneMov 0 0 32 0, .laneMov 0 0 0 8,
  .laneShli 0 0 32 0, .laneSetrrb 0 32 0, .laneMask 0 8, .laneLdi 0 32 0, .laneLdi 0 0 8192, .laneBr 0 8 0, .laneBr 0 0 8192, .laneJr 0 0 32,
  .laneLoop 0 256 0, .laneLoop 0 0 256, .laneLoopr 0 0 32, .laneLoopBack 36, .laneMac 0 32 0 0 0 false, .laneMac 0 0 32 0 0 false,
  .laneMac 0 0 0 4 0 false, .laneMac 0 0 0 0 4 false, .laneRnd 0 0 32 0, .laneAccget 0 0 32 0, .laneLd 0 true 32 0 0 false, .laneLd 0 true 0 8 0 false,
  .laneLd 0 true 0 0 32 false, .laneLdr 0 true 0 0 32 false, .laneXldArrival 0 5 0, .preemptionEntry 36 true, .backgroundItemStart 32, .ready 1 ⟨2, false⟩ 0,
  .ready 1 ⟨0, false⟩ 2048, .laneCopy 32, .nodeComplete 1024 true, .gpFiltered 16 [], .pinStuck 19 0, .pinGpCfg 16 0, .rail 10 0, .mend 0 0 0 0 0 ⟨.good, [256]⟩,
  .tongsLaneLock 2 true, .linkUp 2 0, .frameReceived 0 { inFrame := false, blocks := 0, corrected := 0, uncorrected := 0 } true [256] 0 0 0 0,
  .rxrTail 0 0 4 0, .txrTail 0 0 5 0, .ringDisable 0 0 9, .settleExpiry 4 [], .refreshDue 8 false, .crossbarTransaction 0 0 true [],
  .crossbarTransaction 0 0 true (List.replicate 17 (true, 0)), .crossbarTransaction 0 15 true [(true, 0), (true, 0)], .lockClaim [0, 10] 0, .lockClaim [0] 64,
  .mbxPost 3 0 0 0 0, .mbxPost 0 3 0 0 0, .mbxPost 0 0 16 0 0, .mbxDbellSet 0 3 0, .tdmInputFrame 8 [] [], .tdmOutputFrame { port := 8, ns := 0 },
  .pdmOutputSample 16 [], .pdmClockStop 4, .hpWrite [0, 0, 0, 0] [] none, .hpWrite [0, 0, 0, 0, 0] [[0, 0, 0, 0, 256]] none, .hpStatus [0, 0, 0, 0, 256],
  .updBegin 1 0 2, .attestation 1 4] : List Instr).all (fun i => !isWellFormed i) = true := by decide +kernel

/-- Commands at the edges of their ranges are well formed. -/
theorem test_well_formed : ([.registerWrite 9 (2 ^ 32 - 1) 0, .rcRead 0x57 SYS, .retry 1 4095, .tailFill 2047, .argumentCommit 1 35 0 1, .laneMov 35 31 31 7,
    .laneMac 35 31 31 3 3 true, .crossbarTransaction 0 15 true [(true, 0)], .mbxPost 2 2 15 0 0, .attestation 1 3] : List Instr).all isWellFormed = true := by
  decide +kernel

/-- No row of the table gives bits, so no word spells a command. -/
theorem test_no_words : decodeTableWord 32 0 = none ∧ State.reset.withFetchWord 32 0 = State.reset := by decide +kernel

/-! ### Single steps -/

/-- A tick in RESET does nothing; a command in front of the queue is what runs. -/
theorem test_tick_in_reset : (match step (State.reset.withFront (.periodTick noFaults)) with
    | .next t => t.wav.n == 0 && t.pending == []
    | .fault _ => false
    | .refused _ => false) = true := by decide +kernel
/-- R43, R502: WRITE of 5 to shared SRAM at 0x10090000, and the word it leaves. -/
theorem test_host_write : (match exec (.hpWrite (wordBytes (wd (2 ^ 32 + 0x10090000))) [wordBytes 5] none) hostReady with
    | .next t => rd t 0x10090000 == 5 && t.hpt.good == 1
    | .fault _ => false
    | .refused _ => false) = true := by decide +kernel
/-- R54, R57: PORST_L low for a microsecond leaves RESET with PORST_PIN alone. -/
theorem test_porst : (match exec (.porstL 1000) (dev .run State.reset) with
    | .next t => t.sys.state == .reset && rd t (SYS + 4) == 2
    | .fault _ => false
    | .refused _ => false) = true := by decide +kernel

end Sys2Proof.Tests
end

/-! SUPPORT. Every command is an act, so what every act keeps every step keeps. -/
namespace Sys2Proof.Machine
open Sys2Proof

/-- Every command is one act on the state: no arm of `exec` faults or refuses. -/
theorem exec_eq_done (c : Instr) (s : State) : ∃ a : Act, exec c s = done a s := by
  cases c <;> exact ⟨_, rfl⟩

/-- A step is one act on the state whose queue is the rest, whether a command was waiting or not. -/
theorem step_eq_next (s : State) : ∃ a : Act, step s = .next (run a { s with pending := s.pending.tail }) := by
  unfold step
  split
  next h =>
    refine ⟨seq [serveQueues, jobIdle, calendarTick], congrArg Host.Outcome.next (?_ : idle s = _)⟩
    rw [h, List.tail_nil, ← h]
    rfl
  next c rest h =>
    rw [h]
    exact exec_eq_done c _

/-- Settles O59: a step is one act, and an act keeps the canonical memory and never reaches the queue. -/
theorem everyStepKeepsTheMemoryAndGoesOn : Obligations.EveryStepKeepsTheMemoryAndGoesOn := by
  intro s hs
  obtain ⟨a, ha⟩ := step_eq_next s
  refine ⟨by rw [ha]; rfl, fun t ht => ?_⟩
  obtain rfl := Host.Outcome.next.inj (ha.symm.trans ht)
  exact ⟨run_memOk a _ hs, run_pending a _⟩

end Sys2Proof.Machine

/-! SUPPORT. Where an address leads: the words below the registers, and what a read or write of them is. -/
namespace Sys2Proof.Machine
open Sys2Proof

/-- The registers begin at 0x30000000 (R561). -/
theorem regRows_base : ∀ r ∈ regRows, 0x30000000 ≤ r.base := by decide +kernel

theorem findReg_below {a : Nat} (h : a < 0x30000000) : findReg a = none := by
  have hl : inLaneBlock a = false := by simp [inLaneBlock]; omega
  rw [findReg, hl, if_neg Bool.false_ne_true, List.find?_eq_none]
  intro r hr
  have hb := regRows_base r hr
  simp [Reg.covers]
  omega

theorem rcMask_below {a : Nat} (h : a < 0x30000000) : rcMask a = 0 := by rw [rcMask, findReg_below h]

/-- The memories of the lanes end below the registers (R242). -/
theorem laneOfWord_outside {a : Nat} (h : a < 0x28000000 ∨ 0x30000000 ≤ a) : laneOfWord a = none := by
  have hn : ¬ (0x28000000 ≤ a ∧ a ≤ 0x291FFFFF) := by omega
  simp only [laneOfWord, hn, if_false]

theorem isLock_below {a : Nat} (h : a < 0x30000000) : isLock a = false := by
  have hx : ¬ XBR + 0x100 ≤ a := by unfold XBR; omega
  unfold isLock
  rw [decide_eq_false hx, Bool.false_and]

theorem captures_below (s : State) {a : Nat} (h : a < 0x30000000) : captures s a = [] := by
  have h1 : a ≠ WAV + 8 := by unfold WAV; omega
  have h2 : a ≠ WAV + 4 := by unfold WAV; omega
  have h3 : ¬ (a = MAC 0 + 0x420 ∨ a = MAC 1 + 0x420 ∨ a = MAC 0 + 0x422 ∨ a = MAC 1 + 0x422) := by unfold MAC; omega
  have h4 : a ≠ LIF := by unfold LIF; omega
  simp only [captures, h1, h2, h3, h4, if_false]

/-- The shared SRAM that Hearth and the host may write (R462). -/
def inOpenSram (a : Nat) : Prop := 0x1008C000 ≤ a ∧ a < 0x10100000

theorem portOf_openSram {a : Nat} (h : inOpenSram a) : portOf a = some .sram := by
  obtain ⟨h1, h2⟩ := h
  simp only [portOf]
  rw [if_neg (by omega), if_pos (by simp; omega)]

theorem writeStatus_openSram {s : State} {m a : Nat} (hm : m ≤ 1) (hc : s.img.copy = []) (h : inOpenSram a) : writeStatus s m a = 0 := by
  obtain ⟨h1, h2⟩ := h
  have hm' : m < 16 := by omega
  simp [writeStatus, portOf_openSram ⟨h1, h2⟩, staticWord, hc, Nat.not_lt.2 h1, Nat.not_le.2 h2, hm']

theorem readStatus_openSram {s : State} {m a : Nat} (hm : m ≤ 1) (hb : s.bad = []) (h : inOpenSram a) : readStatus s m a = 0 := by
  obtain ⟨h1, h2⟩ := h
  simp [readStatus, portOf_openSram ⟨h1, h2⟩, hb, Nat.not_lt.2 h1, Nat.not_le.2 h2, Nat.not_lt.2 hm]
  omega

/-- The registers outside the mailbox windows may be read by every master but the lanes (R464). -/
theorem readStatus_reg {s : State} {m a : Nat} (hp : portOf a = some .regs) (hb : ¬ (MBX + 0x100 ≤ a ∧ a < MBX + 0x400)) (hm : m < 0x10) :
    readStatus s m a = 0 := by
  simp only [readStatus, hp, hb, Nat.not_le.2 hm, if_false]

theorem readWord_openSram (s : State) {a : Nat} (h : inOpenSram a) : readWord s a = rd s a := by
  have hp : portOf a ≠ some .regs := by rw [portOf_openSram h]; decide
  rw [readWord, if_neg hp, seenWord, if_neg (by have := h.2; omega)]

end Sys2Proof.Machine

/-! SUPPORT. Accesses over the crossbar (R463, R464): the state in which one begins, and what one word of it does. -/
namespace Sys2Proof.Machine
open Sys2Proof

/-! ### The state in which an access begins -/

/-- The state in which an access begins: the outputs gone, its master port granted by the target port (R467). -/
def State.granting (s : State) (g : Sparse Nat) : State := applyEff s.begun (.xbr { s.xbr with granted := g })

section
variable (s : State) (g : Sparse Nat)

@[simp] theorem granting_rd : rd (s.granting g) = rd s := rfl
@[simp] theorem granting_readStatus (m a : Nat) : readStatus (s.granting g) m a = readStatus s m a := rfl
@[simp] theorem granting_writeStatus (m a : Nat) : writeStatus (s.granting g) m a = writeStatus s m a := rfl
@[simp] theorem granting_captures (a : Nat) : captures (s.granting g) a = captures s a := rfl

theorem granting_readReg (a : Nat) : readReg (s.granting g) a = readReg s a := by
  unfold readReg
  split
  · rfl
  · dsimp only
    split <;> rfl

@[simp] theorem granting_readWord (a : Nat) : readWord (s.granting g) a = readWord s a := by
  unfold readWord
  rw [granting_readReg]
  rfl
end

/-- A command on the bus by a master that may use it is its act on the granted state. -/
theorem run_onBus {s : State} {m a : Nat} (act : Act) (h : CanUse s m a) :
    ∃ g, run (onBus m a act) s = (s.granting g).after act := by
  obtain ⟨hm, hbus, -, hdrain, -⟩ := h
  have hbus' : busUp s.begun = true := hbus
  have hdrain' : s.begun.sys.draining.contains m = false := hdrain
  have hrun : run (onBus m a act) s = applyAll (onBus m a act s.begun) s.begun := rfl
  rw [hrun]
  simp only [onBus, hbus', hm, hdrain', Bool.not_true, Bool.or_self, Bool.false_eq_true, if_false]
  cases portOf a with
  | some p => exact ⟨sparsePut s.xbr.granted (portNumber p) (masterPort m), by simp only [seq_cons, seq_nil]; rfl⟩
  | none => exact ⟨s.xbr.granted, by simp only [seq_cons, seq_nil]; rfl⟩

theorem CanUse.at {s : State} {m a b : Nat} (h : CanUse s m a) (hb : b < 2 ^ 32) : CanUse s m b := by
  obtain ⟨hm, hbus, hst, hdrain, -, hstaged, hmem⟩ := h
  exact ⟨hm, hbus, hst, hdrain, hb, hstaged, hmem⟩

/-! ### Acts one after the other -/

@[simp] theorem after_seq_nil (s : State) : s.after (seq []) = s := rfl

@[simp] theorem after_seq_cons (s : State) (a : Act) (as : List Act) : s.after (seq (a :: as)) = (s.after a).after (seq as) :=
  seq_cons a as s

/-- A command under a condition that holds as it begins. -/
theorem run_when {c : State → Bool} {s : State} (a : Act) (h : c s.begun = true) : run (when c a) s = run a s := by
  have hw : when c a s.begun = a s.begun := when_pos c a s.begun h
  exact congrArg (applyAll · s.begun) hw

/-! ### Words written -/

/-- Master m's burst goes on: no reset, no drain of its own, nothing staged (R41, R468). -/
structure Bursting (s : State) (m : Nat) : Prop where
  running : (busUp s && s.sys.state != .reset && !s.sys.draining.contains m) = true
  unstaged : stagedOf s m = none
  memOk : s.memOk = true

theorem CanUse.bursting {s : State} {m a : Nat} (h : CanUse s m a) (g : Sparse Nat) : Bursting (s.granting g) m := by
  obtain ⟨-, hbus, hst, hdrain, -, hstaged, hmem⟩ := h
  refine ⟨?_, hstaged, hmem⟩
  show (busUp s && s.sys.state != .reset && !s.sys.draining.contains m) = true
  rw [hbus, hdrain, bne_iff_ne.2 hst]
  rfl

theorem Bursting.mem {s : State} {m : Nat} (h : Bursting s m) (a : Nat) (w : Word) : Bursting (applyEff s (.mem a w)) m :=
  ⟨h.running, h.unstaged, mem_memOk s a w h.memOk⟩

theorem Bursting.stm {s : State} {m : Nat} (h : Bursting s m) (v : Stm) : Bursting (applyEff s (.stm v)) m :=
  ⟨h.running, h.unstaged, h.memOk⟩

theorem keepStaged_of_none {s : State} {m : Nat} (mine : Nat → Bool) (h : stagedOf s m = none) : s.after (keepStaged m mine) = s := by
  simp [State.after, keepStaged, h]

/-- An accepted word of a master with nothing staged is performed, and nothing else. -/
theorem writeWord_accepted {s : State} {m a : Nat} {w : Word} (hstaged : stagedOf s m = none) (hok : writeStatus s m a = 0) :
    s.after (writeWord m a w) = s.after (performWrite commandWord m a w) := by
  rw [writeWord, writeWordWith, after_seq_cons, keepStaged_of_none _ hstaged, after_seq_cons, after_seq_nil]
  simp [State.after, hok]

/-- An accepted word of a burst is performed, and the burst goes on. -/
theorem writeWords_cons_accepted {s : State} {m a : Nat} {w : Word} (r : List (Nat × Bool × Word)) (h : Bursting s m)
    (hok : writeStatus s m a = 0) (ht : Bursting (s.after (performWrite commandWord m a w)) m) :
    s.after (writeWords m ((a, true, w) :: r) 0) = (s.after (performWrite commandWord m a w)).after (writeWords m r 0) := by
  have hgo := ht.running
  rw [← writeWord_accepted h.unstaged hok] at hgo ⊢
  rw [writeWords, State.after]
  simp only [if_true, hok, seq_cons, seq_nil]
  exact congrArg (applyAll · _) (if_pos hgo)

/-- One beat of a burst to the open SRAM: a strobed word is stored, and the burst goes on. -/
theorem writeWords_cons_openSram {s : State} {m a : Nat} (b : Bool × Word) (r : List (Nat × Bool × Word)) (hm : m ≤ 1)
    (h : Bursting s m) (hc : s.img.copy = []) (ha : inOpenSram a) :
    ∃ t, s.after (writeWords m ((a, b) :: r) 0) = t.after (writeWords m r 0) ∧ Bursting t m ∧ t.img.copy = [] ∧ t.out = s.out ∧
      rd t a = (if b.1 then b.2 else rd s a) ∧ SameBut s t [a] := by
  obtain ⟨strobe, w⟩ := b
  cases strobe with
  | false => exact ⟨s, rfl, h, hc, rfl, rfl, fun _ _ => rfl⟩
  | true =>
    have hp : s.after (performWrite commandWord m a w) = applyEff s (.mem a w) := by
      rw [performWrite, portOf_openSram ha]; rfl
    have hgo := writeWords_cons_accepted r h (writeStatus_openSram hm hc ha) (hp ▸ h.mem a w)
    refine ⟨applyEff s (.mem a w), hp ▸ hgo, h.mem a w, hc, rfl, rd_poke s a w h.memOk, fun x hx => ?_⟩
    exact rd_poke_other s a x w h.memOk (mt List.mem_singleton.2 hx)

/-- A burst to the open SRAM, from its beat n on. -/
theorem writeWords_openSram {m a : Nat} (hm : m ≤ 1) (ha : 0x1008C000 ≤ a) (beats : List (Bool × Word)) (n : Nat) {s : State}
    (h : Bursting s m) (hc : s.img.copy = []) (hend : a + n + beats.length ≤ 0x10100000) :
    ∃ t, s.after (writeWords m ((beats.zipIdx n).map (fun b => (a + b.2, b.1))) 0) = t ∧ t.out = s.out ++ [.resp 0 []] ∧
      (∀ k b, beats[k]? = some b → rd t (a + n + k) = if b.1 then b.2 else rd s (a + n + k)) ∧
      ∀ x, x < a + n ∨ a + n + beats.length ≤ x → rd t x = rd s x := by
  induction beats generalizing n s with
  | nil => exact ⟨_, rfl, rfl, fun k b hk => absurd hk (by simp), fun _ _ => rfl⟩
  | cons b bs ih =>
    rw [List.length_cons] at hend
    rw [List.zipIdx_cons, List.map_cons]
    obtain ⟨u, hu, hub, huc, huo, hua, hux⟩ := writeWords_cons_openSram b _ hm h hc (⟨by omega, by omega⟩ : inOpenSram (a + n))
    obtain ⟨t, ht, hto, hin, hout⟩ := ih (n + 1) hub huc (by omega)
    refine ⟨t, hu.trans ht, by rw [hto, huo], fun k c hk => ?_, fun x hx => ?_⟩
    · cases k with
      | zero =>
        obtain rfl : b = c := by simpa using hk
        rw [Nat.add_zero, hout (a + n) (by omega), hua]
      | succ k =>
        have hk' : bs[k]? = some c := by simpa using hk
        rw [show a + n + (k + 1) = a + (n + 1) + k by omega, hin k c hk', hux _ (by simp; omega)]
    · rw [List.length_cons] at hx
      rw [hout x (by omega), hux x (by simp; omega)]

/-! ### Words read -/

/-- The state once a reader has corrected a word outside the lane memories, which no register counts (R328). -/
def State.corrected (s : State) (a : Nat) : State := applyEff s (.soft (s.soft.filter (· != a)))

section
variable (s : State) (a : Nat)

@[simp] theorem corrected_rd : rd (s.corrected a) = rd s := rfl
@[simp] theorem corrected_out : (s.corrected a).out = s.out := rfl
end

theorem eccRead_outside_lanes (s : State) {a : Nat} (h : laneOfWord a = none) : s.after (eccRead [a]) = s.corrected a := by
  have hact : s.after (eccRead [a]) = s.after (each ([a].filter s.soft.contains) eccFix) := rfl
  rw [hact, List.filter_cons, List.filter_nil]
  split
  next => simp [each, eccFix, h, State.after, onSoft, State.corrected, nop]
  next hs =>
    have hf : s.soft.filter (· != a) = s.soft :=
      List.filter_eq_self.2 fun x hx => bne_iff_ne.2 fun e => hs (List.contains_iff_mem.2 (e ▸ hx))
    rw [State.corrected, hf]
    rfl

/-- A word of on-die memory that may be read, and is no lock: what it shows, and what the read does beside. -/
theorem readWords_cons_ok {s : State} {m a : Nat} (r : List Nat) (ws : List Word) (hs : readStatus s m a = 0) (hl : isLock a = false)
    (ha : a < 0x40000000) (hn : laneOfWord a = none) :
    s.after (readWords m (a :: r) 0 ws) = ((s.corrected a).after (readEffect m a (readWord s a) (captures s a))).after
      (readWords m r 0 (ws ++ [readWord s a])) := by
  have hi : issueRead s m a =
      (eccRead [a], { addr := a, status := 0, word := readWord s a, cap := captures s a, claim := none }) := by
    simp [issueRead, hs, hl, Nat.not_le.2 ha]
  have hw : readWords m (a :: r) 0 ws s = seq [eccRead [a], readEffect m a (readWord s a) (captures s a),
      readWords m r 0 (ws ++ [readWord s a])] s := by
    rw [readWords]
    simp only [hi, if_true]
    rfl
  rw [← eccRead_outside_lanes s hn, State.after, hw]
  simp only [seq_cons, seq_nil, State.after]

/-- A read below the registers does nothing beside. -/
theorem readEffect_below (s : State) (m : Nat) {a : Nat} (v : Word) (h : a < 0x30000000) : s.after (readEffect m a v []) = s := by
  have h5 : (a == SYS + 5) = false := by simp [SYS]; omega
  simp [readEffect, State.after, rcRemove, rcMask_below h, install, nop, when, h5]

/-- Words of the open SRAM read in order; no word changes. -/
theorem readWords_openSram {m : Nat} (hm : m ≤ 1) (as : List Nat) {s : State} (ws : List Word) (hb : s.bad = [])
    (h : ∀ a ∈ as, inOpenSram a) : ∃ t, s.after (readWords m as 0 ws) = t ∧ t.mem = s.mem ∧
      t.out = s.out ++ [.resp 0 (ws ++ as.map (rd s))] := by
  induction as generalizing s ws with
  | nil => exact ⟨_, rfl, rfl, by simp [readWords, State.after, emit]⟩
  | cons a as ih =>
    have ha : inOpenSram a := h a List.mem_cons_self
    have hlt : a < 0x30000000 := by have := ha.2; omega
    have hn : laneOfWord a = none := laneOfWord_outside (.inl (by have := ha.2; omega))
    have hcons := readWords_cons_ok as ws (readStatus_openSram hm hb ha) (isLock_below hlt) (by omega) hn
    rw [captures_below s hlt, readEffect_below _ m _ hlt, readWord_openSram s ha] at hcons
    obtain ⟨t, ht, htm, hto⟩ := ih (s := s.corrected a) (ws ++ [rd s a]) hb fun x hx => h x (List.mem_cons_of_mem _ hx)
    exact ⟨t, hcons.trans ht, htm, by simpa using hto⟩

/-- A read of one word that may be read and is no lock: the access begins with every word as it was, shows the word, and answers OK. -/
theorem run_read1 {s : State} {m a : Nat} (h : CanUse s m a) (hs : readStatus s m a = 0) (hl : isLock a = false) (ha : a < 0x40000000)
    (hn : laneOfWord a = none) : ∃ u : State, u.memOk = true ∧ rd u = rd s ∧ u.out = [] ∧
      run (read1 m a) s = (u.after (readEffect m a (readWord s a) (captures s a))).after (emit (.resp 0 [readWord s a])) := by
  obtain ⟨-, -, -, -, ha32, -, hmem⟩ := id h
  obtain ⟨g, hg⟩ := run_onBus (readWords m [a] 0 []) h
  refine ⟨(s.granting g).corrected a, hmem, rfl, rfl, ?_⟩
  rw [read1, if_pos ha32, hg, readWords_cons_ok [] [] (by rwa [granting_readStatus]) hl ha hn]
  simp only [granting_readWord, granting_captures]
  rfl

/-- An address that no target answers: DECODE, counted and recorded, and a zero word. -/
theorem readWords_cons_decode {s : State} {m a : Nat} (hs : readStatus s m a = 2) :
    s.after (readWords m [a] 0 []) = (s.after (decodeErr m a false)).after (emit (.resp 2 [0])) := by
  have hi : issueRead s m a = (decodeErr m a false, { addr := a, status := 2, word := 0, cap := [], claim := none }) := by
    simp [issueRead, hs]
  have hw : readWords m [a] 0 [] s = seq [decodeErr m a false, nop, emit (.resp 2 [0])] s := by
    rw [readWords]
    simp only [hi, if_true]
    rfl
  rw [State.after, hw]
  simp only [seq_cons, seq_nil, State.after]
  rfl

@[simp] theorem emit_rd (s : State) (o : Out) : rd (s.after (emit o)) = rd s := rfl

@[simp] theorem emit_out (s : State) (o : Out) : (s.after (emit o)).out = s.out ++ [o] := rfl

/-- A DECODE response changes the count and the record of it, and no other word (R464). -/
theorem decodeErr_sameBut {s : State} (m a : Nat) (write : Bool) (h : s.memOk = true) :
    SameBut s (s.after (decodeErr m a write)) [XBR, XBR + 1, XBR + 2] := by
  intro b hb
  simp only [List.mem_cons, List.not_mem_nil, or_false, not_or] at hb
  obtain ⟨h0, h1, h2⟩ := hb
  exact keeps_cons (keeps_bump _ _ _ _ _ h0) (keeps_cons (keeps_poke _ _ _ h1) (keeps_cons (keeps_poke _ _ _ h2) keeps_nil)) s h

/-- A burst of legal length and place is its words on the bus (R463). -/
theorem exec_crossbarTransaction {a : Nat} {beats : List (Bool × Word)} (h : burstOk a beats.length = true) (s : State) (m : Nat)
    (write : Bool) : exec (.crossbarTransaction m a write beats) s = .next (run (onBus m a (
      if write then writeWords m (beats.zipIdx.map (fun b => (a + b.2, b.1))) 0
      else readWords m ((List.range beats.length).map (a + ·)) 0 [])) s) := by
  show Host.Outcome.next (run (crossbarTransaction m a write beats) s) = _
  rw [crossbarTransaction, h]
  rfl

/-- Settles O7: a burst beat for beat (`writeWords_openSram`, `readWords_openSram`), and the DECODE of an unanswered read. -/
theorem crossbarBurstsReachTheirWords : Obligations.CrossbarBurstsReachTheirWords := by
  intro s m a beats hm h hcopy hbad
  obtain ⟨-, -, -, -, ha32, -, hmem⟩ := id h
  refine ⟨fun hlo hhi h1 hblock => ?_, fun hport => ?_⟩
  · have hburst : burstOk a beats.length = true := by simp [burstOk]; omega
    constructor
    · obtain ⟨g, hg⟩ := run_onBus (writeWords m (beats.zipIdx.map (fun b => (a + b.2, b.1))) 0) h
      obtain ⟨t, ht, hout, hin, hother⟩ := writeWords_openSram hm hlo beats 0 (h.bursting g) hcopy hhi
      exact ⟨t, (exec_crossbarTransaction hburst s m true).trans (congrArg _ (hg.trans ht)), hout, hin, hother⟩
    · obtain ⟨g, hg⟩ := run_onBus (readWords m ((List.range beats.length).map (a + ·)) 0 []) h
      obtain ⟨t, ht, htmem, hout⟩ := readWords_openSram hm ((List.range beats.length).map (a + ·)) (s := s.granting g) [] hbad
        (by simp [inOpenSram]; omega)
      rw [List.map_map] at hout
      exact ⟨t, (exec_crossbarTransaction hburst s m false).trans (congrArg _ (hg.trans ht)), htmem, hout⟩
  · obtain ⟨g, hg⟩ := run_onBus (readWords m [a] 0 []) h
    have hs : readStatus (s.granting g) m a = 2 := by simp [readStatus, hport]
    have hburst : burstOk a 1 = true := by simp [burstOk]; omega
    exact ⟨_, (exec_crossbarTransaction (beats := [(true, 0)]) hburst s m false).trans
        (congrArg _ (hg.trans (readWords_cons_decode hs))), rfl, decodeErr_sameBut (s := s.granting g) m a false hmem⟩

end Sys2Proof.Machine

/-! SUPPORT. Registers by their fields (R5, R8): what a write stores, what a read clears, what a read latches. -/
namespace Sys2Proof.Machine
open Sys2Proof

/-- Holding a stream entry in force changes the stream engine's record alone. -/
theorem holdEntry_when_stm (a : Nat) (c : Bool) (s : State) : ∃ v, s.after (when (fun _ => c) (holdEntry a)) = applyEff s (.stm v) := by
  simp only [State.after, holdEntry, when]
  split
  · split
    · exact ⟨_, rfl⟩
    · exact ⟨s.stm, rfl⟩
  · exact ⟨s.stm, rfl⟩

/-- In the blocks whose registers have no commands of their own a write is a store by fields; a stream entry in force is held first (R391). -/
theorem regWrite_plain {a : Nat} (sp : Nat → Nat → Word → Act) (m : Nat) (w : Word) (s : State)
    (hb : (a - SYS) / 0x10000 ∈ [1, 10, 12, 15, 17]) (hp : isPairWord a = false) (hl : inLaneBlock a = false) :
    ∃ v, s.after (regWrite sp m a w) = (applyEff s (.stm v)).after (regStore a w) := by
  simp only [List.mem_cons, List.not_mem_nil, or_false] at hb
  rcases hb with hb | hb | hb | hb | hb <;> simp only [regWrite, hp, hl, hb, Bool.false_eq_true, if_false]
  case inr.inl =>
    obtain ⟨v, hv⟩ := holdEntry_when_stm a (inStreams a && a % 16 == 0) s
    exact ⟨v, by rw [after_seq_cons, hv, after_seq_cons, after_seq_nil]⟩
  all_goals exact ⟨s.stm, rfl⟩

theorem regStore_after {a : Nat} {r : Reg} (h : findReg a = some r) (w : Word) (s : State) : s.after (regStore a w) =
    applyEff s (.mem a (((rd s a &&& ~~~ (wd r.rw)) ||| (w &&& wd r.rw)) &&& ~~~ (w &&& wd r.w1c))) := by
  rw [State.after, regStore, h]
  rfl

/-- A register with a field that a read clears is one of the register blocks. -/
theorem above_of_rcMask {a : Nat} (h : rcMask a ≠ 0) : 0x30000000 ≤ a := by
  by_contra hlt
  exact h (rcMask_below (by omega))

/-- The flags that a read clears (R5): without counts the masked bits go, whatever was returned. -/
theorem rcRemove_flags {a : Nat} (hm : rcMask a ≠ 0) (hc : rcCounts a = []) (hh : ¬ (HTH ≤ a ∧ a < HTH + 0x1A)) (v : Word) (s : State) :
    s.after (rcRemove a v) = applyEff s (.mem a (rd s a &&& ~~~ (wd (rcMask a)))) := by
  have h1 : ¬ (HTH ≤ a ∧ a < HTH + 8) := by omega
  have h2 : ¬ (HTH + 0x10 ≤ a ∧ a < HTH + 0x1A) := by omega
  simp only [State.after, rcRemove, hm, h1, h2, hc, if_false]
  rfl

/-- The four counts of XBR_COUNT fill the word (R464). -/
theorem xbrCount_fields_fill (w : Word) : setFld (setFld (setFld (setFld w 35 24 0) 23 12 0) 11 6 0) 5 0 0 = 0 := by
  apply BitVec.eq_of_toNat_eq
  have hw := w.isLt
  rw [setFld_toNat _ 5 0 0 (by decide) (by decide), setFld_toNat _ 11 6 0 (by decide) (by decide),
    setFld_toNat _ 23 12 0 (by decide) (by decide), setFld_toNat _ 35 24 0 (by decide) (by decide)]
  simp
  omega

/-- Each count of XBR_COUNT falls to 0 by what the read returned (R464). -/
theorem rcRemove_xbrCount (s : State) : s.after (rcRemove XBR (rd s XBR)) = applyEff s (.mem XBR 0) := by
  have hm : rcMask XBR ≠ 0 := by decide +kernel
  have hc : rcCounts XBR = [(35, 24), (23, 12), (11, 6), (5, 0)] := by decide +kernel
  have h1 : ¬ (HTH ≤ XBR ∧ XBR < HTH + 8) := by decide
  have h2 : ¬ (HTH + 0x10 ≤ XBR ∧ XBR < HTH + 0x1A) := by decide
  simp only [State.after, rcRemove, hm, h1, h2, hc, if_false, List.foldl_cons, List.foldl_nil, Nat.sub_self, xbrCount_fields_fill]
  rfl

/-- What a read does beside returning data, for words and outputs: the removed fields and the installed companions. -/
theorem readEffect_rd_out (s : State) (m a : Nat) (v : Word) (cap : List (Nat × Word)) :
    rd (s.after (readEffect m a v cap)) = rd ((s.after (rcRemove a v)).after (install a cap)) ∧
    (s.after (readEffect m a v cap)).out = ((s.after (rcRemove a v)).after (install a cap)).out := by
  rw [readEffect, after_seq_cons, after_seq_cons, after_seq_cons, after_seq_nil]
  generalize (s.after (rcRemove a v)).after (install a cap) = t
  simp only [State.after, when]
  split <;> exact ⟨rfl, rfl⟩

theorem install_nil (s : State) (a : Nat) : s.after (install a []) = s := rfl

/-- A read that clears stores one word where it reads, and answers OK with what the word showed. -/
theorem rcRead_clears {s : State} {m a : Nat} (h : CanUse s m a) (hs : readStatus s m a = 0) (hl : isLock a = false)
    (ha : a < 0x40000000) (hrc : rcMask a ≠ 0) (hcap : captures s a = []) (w : Word)
    (hw : ∀ u, rd u = rd s → u.after (rcRemove a (readWord s a)) = applyEff u (.mem a w)) :
    ∃ t, exec (.rcRead m a) s = .next t ∧ t.out = [.resp 0 [readWord s a]] ∧ rd t a = w ∧ SameBut s t [a] := by
  obtain ⟨u, humem, hurd, huout, hrun⟩ := run_read1 h hs hl ha (laneOfWord_outside (.inr (above_of_rcMask hrc)))
  obtain ⟨hrd, hout⟩ := readEffect_rd_out u m a (readWord s a) (captures s a)
  rw [hcap, install_nil, hw u hurd] at hrd hout
  have hexec : exec (.rcRead m a) s = .next (run (read1 m a) s) :=
    congrArg Host.Outcome.next (run_when _ (bne_iff_ne.2 hrc))
  refine ⟨_, hexec.trans (congrArg _ hrun), ?_, ?_, fun b hb => ?_⟩
  · rw [emit_out, hcap, hout, mem_out, huout]; rfl
  · rw [emit_rd, hcap, hrd, rd_poke u a w humem]
  · rw [emit_rd, hcap, hrd, rd_poke_other u a b w humem (mt List.mem_singleton.2 hb), hurd]

/-- A write that the register accepts: the RW bits replaced, the W1C bits written as 1 cleared (R5, R8). -/
theorem registerWrite_plain {s : State} {m a : Nat} (w : Word) {r : Reg} (h : CanUse s m a) (hb : (a - SYS) / 0x10000 ∈ [1, 10, 12, 15, 17])
    (hport : portOf a = some .regs) (hpair : isPairWord a = false) (hlane : inLaneBlock a = false) (hr : findReg a = some r)
    (hok : writeStatus s m a = 0) : ∃ t, exec (.registerWrite m a w) s = .next t ∧
      rd t a = ((rd s a &&& ~~~ (wd r.rw)) ||| (w &&& wd r.rw)) &&& ~~~ (w &&& wd r.w1c) ∧ SameBut s t [a] ∧ t.out = [.resp 0 []] := by
  obtain ⟨-, -, -, -, ha32, -, hmem⟩ := id h
  obtain ⟨g, hg⟩ := run_onBus (writeWords m [(a, true, w)] 0) h
  obtain ⟨v, hv⟩ := regWrite_plain commandWord m w (s.granting g) hb hpair hlane
  rw [regStore_after hr] at hv
  have hp : (s.granting g).after (performWrite commandWord m a w) = (s.granting g).after (regWrite commandWord m a w) := by
    rw [performWrite, hport]
  have hgo := writeWords_cons_accepted [] (h.bursting g) (by rwa [granting_writeStatus])
    (by rw [hp, hv]; exact ((h.bursting g).stm v).mem a _)
  rw [hp, hv] at hgo
  have hexec : exec (.registerWrite m a w) s = .next (run (write1 m a w) s) :=
    congrArg Host.Outcome.next (run_when _ (by rw [hport]; rfl))
  rw [write1, if_pos ha32, hg, hgo] at hexec
  refine ⟨_, hexec, rd_poke _ a _ hmem, fun b hb => ?_, rfl⟩
  exact rd_poke_other (applyEff (s.granting g) (.stm v)) a b _ hmem (mt List.mem_singleton.2 hb)

/-- A read of WAV_HASH_0 returns the upper word and latches the other three (R561). -/
theorem latchingRead_hash {s : State} {m : Nat} (h : CanUse s m (WAV + 8)) (hm : m < 0x10) :
    ∃ t, exec (.latchingRead m (WAV + 8)) s = .next t ∧ rd t (WAV + 9) = wd (bits s.wav.hash 31 0) ∧
      rd t (WAV + 0xA) = wd (bits s.wav.hashAt 63 32) ∧ rd t (WAV + 0xB) = wd (bits s.wav.hashAt 31 0) ∧
      t.out = [.resp 0 [readWord s (WAV + 8)]] ∧ SameBut s t [WAV + 9, WAV + 0xA, WAV + 0xB] := by
  obtain ⟨u, humem, hurd, huout, hrun⟩ := run_read1 h (readStatus_reg (by decide) (by decide) hm) (by decide) (by decide) (by decide)
  obtain ⟨hrd, hout⟩ := readEffect_rd_out u m (WAV + 8) (readWord s (WAV + 8)) (captures s (WAV + 8))
  have hrc : u.after (rcRemove (WAV + 8) (readWord s (WAV + 8))) = u := by
    have h0 : rcMask (WAV + 8) = 0 := by decide +kernel
    simp [State.after, rcRemove, h0]
  have hin : u.after (install (WAV + 8) (captures s (WAV + 8))) =
      applyEff (applyEff (applyEff u (.mem (WAV + 9) (wd (bits s.wav.hash 31 0)))) (.mem (WAV + 0xA) (wd (bits s.wav.hashAt 63 32))))
        (.mem (WAV + 0xB) (wd (bits s.wav.hashAt 31 0))) := rfl
  rw [hrc, hin] at hrd hout
  have hword (b : Nat) : rd (run (read1 m (WAV + 8)) s) b =
      if b = WAV + 0xB then wd (bits s.wav.hashAt 31 0) else if b = WAV + 0xA then wd (bits s.wav.hashAt 63 32)
      else if b = WAV + 9 then wd (bits s.wav.hash 31 0) else rd s b := by
    rw [hrun, emit_rd, hrd, rd_mem _ _ _ _ (mem_memOk _ _ _ (mem_memOk _ _ _ humem)), rd_mem _ _ _ _ (mem_memOk _ _ _ humem),
      rd_mem _ _ _ _ humem, hurd]
  refine ⟨run (read1 m (WAV + 8)) s, congrArg Host.Outcome.next (run_when _ rfl), hword _, hword _, hword _, ?_, fun b hb => ?_⟩
  · rw [hrun, emit_out, hout, mem_out, mem_out, mem_out, huout]; rfl
  · simp only [List.mem_cons, List.not_mem_nil, or_false, not_or] at hb
    obtain ⟨h9, hA, hB⟩ := hb
    rw [hword, if_neg hB, if_neg hA, if_neg h9]

/-- Settles O5: clause by clause, a store by fields, the RC flags, the four counts of XBR_COUNT, the companions of WAV_HASH_0. -/
theorem registerAccessesFollowTheirFields : Obligations.RegisterAccessesFollowTheirFields := by
  intro s m a w r h
  refine ⟨fun hb hport hpair hlane hr hok => registerWrite_plain w h hb hport hpair hlane hr hok,
    fun hrc hcounts hh hl ha hs hcap => ?_, fun hm => ?_, fun hm => latchingRead_hash (h.at (by decide)) hm⟩
  · exact rcRead_clears h hs hl ha hrc hcap _ fun u hu => by rw [rcRemove_flags hrc hcounts hh, hu]
  · have hw : readWord s XBR = rd s XBR := rfl
    rw [← hw]
    refine rcRead_clears (h.at (by decide)) (readStatus_reg (by decide) (by decide) hm) (by decide) (by decide)
      (by decide +kernel) rfl 0 fun u hu => ?_
    rw [hw, ← hu, rcRemove_xbrCount]

end Sys2Proof.Machine

/-! SUPPORT. What most acts leave alone, by the blocks that a reading of the state looks at: acts that only report, count and send; those
by which the device leaves RUN; and those of a whole period. -/
namespace Sys2Proof.Machine
open Sys2Proof

/-! ### Keeping, act by act -/

section
variable {β : Sort _} {f : State → β}

/-- Acts in order leave alone what each of them does. -/
theorem keeps_acts {as : List Act} (h : as.Forall (Keeps f)) : Keeps f (seq as) := keeps_seq (List.forall_iff_forall_mem.1 h)

/-- The same, for acts that are taken from the state. -/
theorem keeps_actsAt {as : List Act} (s : State) (h : as.Forall (Keeps f)) (hm : s.memOk = true) : f (applyAll (seq as s) s) = f s :=
  keeps_acts h s hm

/-- Acts over a list that is taken from the state. -/
theorem keeps_eachOf {α : Type} {l : State → List α} {g : State → α → Act} (h : ∀ t x, Keeps f (g t x)) :
    Keeps f (fun s => each (l s) (g s) s) := fun s => keeps_each (l s) (h s) s

/-- A function of what an act keeps is kept. -/
theorem Keeps.map {γ : Sort _} {a : Act} (h : Keeps f a) (g : β → γ) : Keeps (fun s => g (f s)) a := fun s hm => congrArg g (h s hm)

/-- What an act keeps reads the same in the state after it. -/
theorem Keeps.after {a : Act} (h : Keeps f a) {s : State} (hm : s.memOk = true) : f (s.after a) = f s := h s hm

theorem after_memOk (a : Act) {s : State} (hm : s.memOk = true) : (s.after a).memOk = true := applyAll_memOk _ _ hm
end

/-! ### Acts that report, count and send -/

/-- A reading of the state that does not look at the blocks in which the device reports, counts and sends; of Quench it looks at the
fault latches, and at whether XO stands still, at most. -/
structure Quiet {β : Sort _} (f : State → β) : Prop where
  mem : ∀ s a w, f (applyEff s (.mem a w)) = f s
  free : ∀ s v, f (applyEff s (.free v)) = f s
  out : ∀ s v, f (applyEff s (.out v)) = f s
  life : ∀ s v, f (applyEff s (.life v)) = f s
  log : ∀ s v, f (applyEff s (.log v)) = f s
  hth : ∀ s v, f (applyEff s (.hth v)) = f s
  sec : ∀ s v, f (applyEff s (.sec v)) = f s
  qch : ∀ s v, v.fault = s.qch.fault → v.xoStopped = s.qch.xoStopped → f (applyEff s (.qch v)) = f s
  aud : ∀ s v, f (applyEff s (.aud v)) = f s
  macs : ∀ s v, f (applyEff s (.macs v)) = f s
  stm : ∀ s v, f (applyEff s (.stm v)) = f s
  twn : ∀ s v, f (applyEff s (.twn v)) = f s
  bad : ∀ s v, f (applyEff s (.bad v)) = f s
  soft : ∀ s v, f (applyEff s (.soft v)) = f s
  drc : ∀ s v, f (applyEff s (.drc v)) = f s

namespace Quiet
variable {β : Sort _} {f : State → β} (h : Quiet f)
include h

/-! One block, or one word, at a time. -/

theorem onOut {g} : Keeps f (onOut g) := fun _ _ => h.out _ _
theorem onLife {g} : Keeps f (onLife g) := fun _ _ => h.life _ _
theorem onSec {g} : Keeps f (onSec g) := fun _ _ => h.sec _ _
theorem onAud {g} : Keeps f (onAud g) := fun _ _ => h.aud _ _
theorem onMacs {g} : Keeps f (onMacs g) := fun _ _ => h.macs _ _
theorem onStm {g} : Keeps f (onStm g) := fun _ _ => h.stm _ _
theorem onTwn {g} : Keeps f (onTwn g) := fun _ _ => h.twn _ _
theorem onBad {g} : Keeps f (onBad g) := fun _ _ => h.bad _ _
theorem onSoft {g} : Keeps f (onSoft g) := fun _ _ => h.soft _ _
theorem onDrc {g} : Keeps f (onDrc g) := fun _ _ => h.drc _ _
theorem onQch {g} (hf : ∀ s, (g s s.qch).fault = s.qch.fault) (hx : ∀ s, (g s s.qch).xoStopped = s.qch.xoStopped) :
    Keeps f (onQch g) := fun s _ => h.qch s _ (hf s) (hx s)
theorem poke {a w} : Keeps f (poke a w) := fun _ _ => h.mem _ _ _
theorem pokeF {a hi lo v} : Keeps f (pokeF a hi lo v) := fun _ _ => h.mem _ _ _
theorem setBits {a m} : Keeps f (setBits a m) := fun _ _ => h.mem _ _ _
theorem clrBits {a m} : Keeps f (clrBits a m) := fun _ _ => h.mem _ _ _
theorem bump {a hi lo n} : Keeps f (bump a hi lo n) := fun _ _ => h.mem _ _ _
theorem pokePair {a v} : Keeps f (pokePair a v) := keeps_acts ⟨h.poke, h.poke⟩

/-- Stores alone, however many. -/
theorem stores {es : List Eff} (hes : ∀ e ∈ es, ∃ a w, e = .mem a w) (s : State) : f (applyAll es s) = f s := by
  induction es generalizing s with
  | nil => rfl
  | cons e es ih =>
    obtain ⟨a, w, rfl⟩ := hes e List.mem_cons_self
    rw [applyAll_cons, ih (fun x hx => hes x (List.mem_cons_of_mem _ hx)), h.mem]

theorem storesOf {α : Type} {l : State → List α} {k : State → α → Nat} {v : State → α → Word} :
    Keeps f (fun s => (l s).map (fun x => .mem (k s x) (v s x))) := fun s _ =>
  h.stores (fun e he => by obtain ⟨x, -, rfl⟩ := List.mem_map.1 he; exact ⟨_, _, rfl⟩) s

/-- Stores that do not depend on the state. -/
theorem storeList {l : List (Nat × Word)} : Keeps f (fun _ => l.map (fun e => .mem e.1 e.2)) := h.storesOf (l := fun _ => l)

theorem pokeList {a ws} : Keeps f (pokeList a ws) := h.storesOf (l := fun _ => ws.zipIdx) (k := fun _ x => a + x.2) (v := fun _ x => x.1)

theorem putY {p w v} : Keeps f (putY p w v) := h.storesOf (k := fun _ l => yW l w) (v := fun _ _ => v)

theorem writeWindows {k v} : Keeps f (writeWindows k v) := fun s =>
  keeps_each _ (fun _ => keeps_each _ fun _ => keeps_each _ fun _ => h.putY) s

theorem clearWindows {k} : Keeps f (clearWindows k) := h.writeWindows

theorem draw {t k} (hk : ∀ v, Keeps f (k v)) : Keeps f (draw t k) := keeps_draw h.free hk

/-! Doorbells, log, lifetime counts. -/

theorem ring {r b} : Keeps f (ring r b) := h.setBits
theorem report {src e a b} : Keeps f (report src e a b) := fun _ _ => h.log _ _
theorem lifeCount {i n} : Keeps f (Machine.life i n) := h.onLife
theorem emit {o} : Keeps f (emit o) := fun _ _ => h.out _ _
theorem ringLane : Keeps f ringLane := keeps_acts ⟨h.ring, h.ring⟩
theorem twinEvent {e a b} : Keeps f (twinEvent e a b) := keeps_acts ⟨h.ring, h.report⟩
theorem commitStatus {a c p} : Keeps f (commitStatus a c p) := keeps_acts ⟨h.pokeF, h.pokeF, keeps_when h.report⟩
theorem hostResult {a c i} : Keeps f (hostResult a c i) := keeps_acts ⟨h.pokeF, h.pokeF, h.pokeF⟩
theorem swapStatus {c} : Keeps f (swapStatus c) := keeps_acts ⟨h.pokeF, keeps_when h.report⟩
theorem setAlign {v} : Keeps f (setAlign v) := keeps_acts ⟨keeps_when h.ring, h.pokeF⟩
/-- The latest event, for a reading that does not look at the LO word that its read latches. -/
theorem wavEvent {k n} (hw : ∀ s x, f (applyEff s (.wav { s.wav with evLo := x })) = f s) : Keeps f (wavEvent k n) :=
  keeps_acts ⟨h.poke, fun _ _ => hw _ _⟩

theorem capStatus {c} : Keeps f (capStatus c) := h.pokeF
theorem latchReport {x b} : Keeps f (latchReport x b) := keeps_acts ⟨h.ring, h.ring, h.report, h.lifeCount⟩

theorem warn {b} : Keeps f (warn b) := fun s => by
  unfold Machine.warn
  split
  · exact keeps_nop s
  · exact keeps_actsAt s ⟨h.onQch (fun _ => rfl) fun _ => rfl, h.latchReport⟩

/-- A fault latch, for a reading that does not look at Quench. -/
theorem latchFault {b} (hq : ∀ s v, f (applyEff s (.qch v)) = f s) : Keeps f (latchFault b) := fun s => by
  unfold Machine.latchFault
  split
  · exact keeps_nop s
  · exact keeps_actsAt s ⟨fun _ _ => hq _ _, h.latchReport⟩

theorem uncorrectable {k a} : Keeps f (uncorrectable k a) :=
  keeps_acts ⟨h.bump, h.warn, h.lifeCount, keeps_when (keeps_acts ⟨h.bump, h.poke, h.report⟩), keeps_when h.onBad⟩

/-- Errors strike the memories, for a reading that does not look at the lanes (R328, R330). -/
theorem strike {g} (hl : ∀ s v, f (applyEff s (.lan v)) = f s) : Keeps f (strike g) := by
  unfold Machine.strike
  split
  · exact keeps_nop
  · refine keeps_acts ⟨h.onSoft, keeps_each _ fun a => ?_, fun _ _ => hl _ _⟩
    split
    · exact h.onBad
    · exact h.uncorrectable

/-- A re-formed pair takes over, for a reading that looks neither at the lanes nor at the causes of taint (R309, R351). -/
theorem pairTakeover (hl : ∀ s v, f (applyEff s (.lan v)) = f s) (hb : ∀ s v, v.list = s.bel.list → f (applyEff s (.bel v)) = f s)
    (hw : ∀ s x, f (applyEff s (.wav { s.wav with taints := x })) = f s) : Keeps f pairTakeover := fun s => keeps_actsAt s
  ⟨keeps_each _ fun _ => keeps_acts ⟨fun _ _ => hl _ _, h.clrBits, fun _ _ => hb _ _ rfl⟩, keeps_when fun _ _ => hw _ _,
   keeps_when fun _ _ => hb _ _ rfl⟩

/-! Tongs. -/

theorem tongsFrame {c m b} : Keeps f (tongsFrame c m b) := fun s => keeps_actsAt s ⟨h.onOut, h.onTwn⟩
theorem tongsSend {c b} : Keeps f (tongsSend c b) := keeps_each _ fun _ => h.tongsFrame
theorem sendBeat {n x t} : Keeps f (sendBeat n x t) := keeps_when fun s => h.tongsSend s
theorem sendPresence {n p} : Keeps f (sendPresence n p) := keeps_acts ⟨h.onTwn, keeps_when h.tongsSend⟩
theorem sendSum {t} : Keeps f (sendSum t) := keeps_when fun s => keeps_actsAt s ⟨h.tongsSend, h.onTwn⟩

/-! Network ports. -/

theorem cnt {x o n} : Keeps f (cnt x o n) := fun s => keeps_actsAt s ⟨h.poke, keeps_when (keeps_acts ⟨h.setBits, h.ring⟩)⟩
theorem setMac {x g} : Keeps f (setMac x g) := h.onMacs

theorem enqueue {x q fr} : Keeps f (enqueue x q fr) := fun s => by
  unfold Machine.enqueue
  split
  · exact h.cnt s
  · exact h.setMac s

theorem sendAck {port ip udp peer code index counter period} : Keeps f (sendAck port ip udp peer code index counter period) := fun s => by
  unfold Machine.sendAck
  split
  · exact h.bump s
  · exact keeps_actsAt s ⟨h.onSec, h.enqueue⟩

theorem releaseAcks {l} : Keeps f (releaseAcks l) := keeps_each _ fun x => by
  split
  · exact h.sendAck
  · exact keeps_nop

theorem dropForwards : Keeps f dropForwards := fun s => keeps_actsAt s ⟨h.releaseAcks, h.onTwn⟩

theorem stagePacket {x fr} : Keeps f (stagePacket x fr) := fun s => by
  unfold Machine.stagePacket
  split
  · exact h.cnt s
  · split
    · exact keeps_actsAt s ⟨h.bump, h.cnt, keeps_when (keeps_acts ⟨h.report, h.onStm⟩)⟩
    · exact h.setMac s

theorem buildPackets {m n ds rel may} : Keeps f (buildPackets m n ds rel may) := fun s => by
  unfold Machine.buildPackets
  refine keeps_each _ (fun t s => ?_) s
  dsimp only
  split
  · exact keeps_nop s
  · split
    · exact h.onStm s
    · split
      · exact h.onStm s
      · refine keeps_actsAt s ⟨h.onStm, keeps_when (keeps_each _ fun x => ?_)⟩
        split
        · exact h.bump
        · exact h.stagePacket

theorem finishPackets {n} : Keeps f (finishPackets n) := fun s => by
  unfold Machine.finishPackets
  refine keeps_each _ (fun e s => ?_) s
  dsimp only
  split
  · exact h.onStm s
  · split
    · exact h.onStm s
    · refine keeps_actsAt s ⟨h.onStm, keeps_each _ fun x => ?_⟩
      split
      · exact h.bump
      · exact h.stagePacket

theorem entriesDue : Keeps f entriesDue := keeps_when h.onStm

/-! Local ports and the capture engine. -/

theorem slipIn {p} : Keeps f (slipIn p) := keeps_acts ⟨h.bump, h.bump⟩
theorem setTdm {p g} : Keeps f (setTdm p g) := h.onAud
theorem setPdm {p g} : Keeps f (setPdm p g) := h.onAud

theorem takeLocal {c} : Keeps f (takeLocal c) := fun s => keeps_actsAt s
  ⟨keeps_each _ fun _ => keeps_acts ⟨keeps_each _ fun _ => h.slipIn, h.setTdm⟩,
   keeps_each _ fun _ => keeps_acts ⟨keeps_when h.bump, h.setPdm⟩⟩

theorem tdmRelease {ds n rel} : Keeps f (tdmRelease ds n rel) := fun s => keeps_each _ (fun _ => h.setTdm) s

theorem stopCapture : Keeps f stopCapture := keeps_when (keeps_acts ⟨h.onAud, h.pokeF, h.report⟩)

theorem captureRecord {n p m u} : Keeps f (captureRecord n p m u) := fun s => by
  unfold Machine.captureRecord
  split
  · exact keeps_nop s
  · split
    · exact keeps_nop s
    · refine keeps_actsAt s ⟨h.pokeList, h.pokeF, ?_⟩
      split
      · exact keeps_acts ⟨h.onAud, h.capStatus, h.ring, h.report⟩
      · split
        · exact keeps_acts ⟨h.onAud, h.capStatus, h.report⟩
        · exact keeps_acts ⟨h.onAud, h.capStatus⟩

/-! In-package DRAM. -/

theorem wake {a} : Keeps f (wake a) := keeps_acts ⟨keeps_when h.clrBits, h.onDrc⟩

theorem dramStoreSlot {a w l} : Keeps f (dramStoreSlot a w l) := fun s => by
  unfold Machine.dramStoreSlot
  split
  · exact keeps_nop s
  · exact keeps_actsAt s ⟨h.wake, h.poke, keeps_when h.onDrc⟩

theorem leaveInOrder {c} : Keeps f (leaveInOrder c) := fun s => by
  unfold Machine.leaveInOrder
  exact keeps_when h.clrBits s

theorem issueRowWrites {a} : Keeps f (issueRowWrites a) := fun s => by
  unfold Machine.issueRowWrites
  split
  · exact keeps_nop s
  · exact keeps_actsAt s ⟨keeps_when (keeps_acts ⟨h.setBits, h.bump⟩), h.onDrc, keeps_each _ fun _ => keeps_acts ⟨h.dramStoreSlot, h.emit⟩,
      h.leaveInOrder⟩

theorem dramPut {a w l} : Keeps f (dramPut a w l) := keeps_acts ⟨h.issueRowWrites, h.dramStoreSlot⟩

theorem countCorr {n} : Keeps f (countCorr n) := by
  unfold Machine.countCorr
  split
  · exact h.bump
  · split
    · exact h.bump
    · exact keeps_nop

theorem dramLook {s a l} : Keeps f (dramLook s a l).1 := by
  unfold Machine.dramLook
  dsimp only
  split
  · exact h.uncorrectable
  · split
    · exact keeps_acts ⟨h.countCorr, h.uncorrectable⟩
    · generalize (if inLines a = true then l % 16 else 0) = lap
      split
      · exact keeps_acts ⟨h.countCorr, h.bump, keeps_when h.uncorrectable⟩
      · exact h.countCorr

theorem countReads {s l p} : Keeps f (countReads s l p) := fun s => by
  unfold Machine.countReads
  refine keeps_each _ (fun e s => ?_) s
  split
  · exact h.dramLook s
  · exact keeps_nop s

theorem storeRecord {n raw} : Keeps f (storeRecord n raw) := fun s => by
  unfold Machine.storeRecord
  dsimp only
  split
  · exact keeps_each _ (fun _ => h.dramPut) s
  · exact h.draw (fun _ => keeps_each _ fun _ => h.dramPut) s

theorem showPending : Keeps f showPending := fun s => keeps_actsAt s ⟨h.pokeF, h.pokeF⟩

end Quiet

/-! ### Readings that look at none of those blocks -/

/-- What reports, counts and frames sent do not reach. -/
def quietPart (s : State) :=
  (s.sys, s.cru, s.tpr, s.lan, s.scene, s.bel, s.wav, s.feeds, s.loc, s.qch.fault, s.qch.xoStopped)

theorem quiet_of {β : Sort _} {f : State → β} (hf : ∀ s t, quietPart t = quietPart s → f t = f s) : Quiet f where
  mem _ _ _ := hf _ _ rfl
  free _ _ := hf _ _ rfl
  out _ _ := hf _ _ rfl
  life _ _ := hf _ _ rfl
  log _ _ := hf _ _ rfl
  hth _ _ := hf _ _ rfl
  sec _ _ := hf _ _ rfl
  qch s v h k := hf _ _ (by simp only [quietPart, qch_sys, qch_cru, qch_tpr, qch_lan, qch_scene, qch_bel, qch_wav, qch_feeds, qch_loc, qch_qch, h, k])
  aud _ _ := hf _ _ rfl
  macs _ _ := hf _ _ rfl
  stm _ _ := hf _ _ rfl
  twn _ _ := hf _ _ rfl
  bad _ _ := hf _ _ rfl
  soft _ _ := hf _ _ rfl
  drc _ _ := hf _ _ rfl

end Sys2Proof.Machine

/-! SUPPORT. Acts by which changes take effect and by which the device leaves RUN: what they leave alone. -/
namespace Sys2Proof.Machine
open Sys2Proof

/-- A reading of the state that looks at none of the blocks in which changes wait and runs go on, the scene excepted; of Bellows it looks
at the period list at most. -/
structure Moving {β : Sort _} (f : State → β) : Prop extends Quiet f where
  sys : ∀ s v, f (applyEff s (.sys v)) = f s
  cru : ∀ s v, f (applyEff s (.cru v)) = f s
  tpr : ∀ s v, f (applyEff s (.tpr v)) = f s
  lan : ∀ s v, f (applyEff s (.lan v)) = f s
  bel : ∀ s v, v.list = s.bel.list → f (applyEff s (.bel v)) = f s

/-- One that looks at the scene's boundary and its initial keyframes at most. -/
structure Aside {β : Sort _} (f : State → β) : Prop extends Moving f where
  scene : ∀ s v, v.boundary = s.scene.boundary → v.initKf = s.scene.initKf → f (applyEff s (.scene v)) = f s

namespace Moving
variable {β : Sort _} {f : State → β} (h : Moving f)
include h

theorem onSys {g} : Keeps f (onSys g) := fun _ _ => h.sys _ _
theorem onCru {g} : Keeps f (onCru g) := fun _ _ => h.cru _ _
theorem onTpr {g} : Keeps f (onTpr g) := fun _ _ => h.tpr _ _
theorem onLan {g} : Keeps f (onLan g) := fun _ _ => h.lan _ _
theorem onBel {g} (hg : ∀ s, (g s s.bel).list = s.bel.list) : Keeps f (onBel g) := fun s _ => h.bel s _ (hg s)

/-! ### Leaving RUN, beside the scene (R584) -/

theorem loseCommits : Keeps f loseCommits := keeps_acts
  ⟨keeps_when (keeps_acts ⟨h.onCru, h.commitStatus⟩), keeps_when (keeps_acts ⟨h.onQch (fun _ => rfl) fun _ => rfl, h.commitStatus⟩),
   keeps_when (keeps_acts ⟨h.onTpr, h.pokeF, h.report⟩)⟩

theorem loseArgs : Keeps f loseArgs := fun s => keeps_actsAt s ⟨keeps_each _ fun _ => h.commitStatus, keeps_when h.onLan⟩

theorem setBg {i g} : Keeps f (setBg i g) := h.onBel fun _ => rfl

theorem bgStates {is st} : Keeps f (bgStates is st) :=
  keeps_acts ⟨h.onBel fun _ => rfl, fun s => keeps_each _ (fun _ => h.setBg) s⟩

theorem dropDelay : Keeps f dropDelay := fun s =>
  keeps_actsAt s ⟨h.onBel fun _ => rfl, h.onLan, fun t => h.bgStates t, h.report⟩

theorem loseAlign : Keeps f loseAlign := keeps_acts ⟨h.pokeF, h.onTwn⟩

/-- What leaving RUN loses beside the frames of the scene that wait. -/
theorem leaveRun_tail : Keeps f (seq [Machine.loseCommits, Machine.loseArgs, Machine.dropDelay, Machine.stopCapture, Machine.loseAlign]) :=
  keeps_acts ⟨h.loseCommits, h.loseArgs, h.dropDelay, h.stopCapture, h.loseAlign⟩

theorem setState {d} : Keeps f (setState d) :=
  keeps_acts ⟨h.onSys, h.ring, h.report, keeps_when h.lifeCount, keeps_when h.lifeCount⟩

end Moving

namespace Aside
variable {β : Sort _} {f : State → β} (h : Aside f)
include h

theorem onScene {g} (hb : ∀ s, (g s s.scene).boundary = s.scene.boundary) (hk : ∀ s, (g s s.scene).initKf = s.scene.initKf) :
    Keeps f (onScene g) := fun s _ => h.scene s _ (hb s) (hk s)

/-! ### Leaving RUN (R584) -/

theorem losePending : Keeps f losePending := fun s => by
  unfold Machine.losePending
  split
  · exact keeps_nop s
  · refine keeps_actsAt s ⟨keeps_each _ fun x => ?_, h.onScene (fun _ => rfl) fun _ => rfl, h.pokeF, h.pokeF, h.report, h.ring⟩
    split
    · exact h.hostResult
    · exact keeps_when h.sendAck

theorem leaveRun : Keeps f leaveRun := keeps_cons h.losePending h.leaveRun_tail

theorem enterSafe {x} : Keeps f (enterSafe x) := fun s => by
  unfold Machine.enterSafe
  split
  · exact keeps_actsAt s ⟨h.setState, h.onSys, h.onQch (fun _ => rfl) fun _ => rfl⟩
  · exact keeps_actsAt s ⟨h.leaveRun, h.setState, h.onSys, h.onQch (fun _ => rfl) fun _ => rfl, keeps_when (keeps_acts ⟨h.pokeF, h.onSys⟩)⟩
  · exact h.onSys s
  · exact keeps_nop s

/-- A device-level fault, for a reading that does not look at the latches. -/
theorem deviceFault {b} (hq : ∀ s v, f (applyEff s (.qch v)) = f s) : Keeps f (deviceFault b) :=
  keeps_acts ⟨h.latchFault hq, h.enterSafe⟩

theorem checkPairs (hq : ∀ s v, f (applyEff s (.qch v)) = f s) : Keeps f checkPairs := by
  refine keeps_acts ⟨keeps_when (keeps_acts ⟨h.bump, h.deviceFault hq⟩), fun s => ?_⟩
  dsimp only
  split
  · exact keeps_nop s
  · split
    · exact keeps_nop s
    · exact keeps_actsAt s ⟨h.bump, h.warn⟩

theorem setRole {r} : Keeps f (setRole r) := keeps_acts ⟨h.onSys, h.ring, h.twinEvent⟩

/-! ### Runs that end (R19, R290) -/

theorem dropRun {c} : Keeps f (dropRun c) := h.onLan
theorem nodeEnded {k o} : Keeps f (nodeEnded k o) := h.onBel fun _ => rfl
theorem freeCtx {c} : Keeps f (freeCtx c) := keeps_when h.onLan
theorem bgAgain {i} : Keeps f (bgAgain i) := keeps_acts ⟨h.bgStates, h.setBg⟩

theorem stopBackground {c} : Keeps f (stopBackground c) := fun s => by
  unfold Machine.stopBackground
  split
  · exact keeps_nop s
  · exact keeps_actsAt s ⟨h.dropRun, h.bgAgain, h.bump, h.report⟩

theorem clearSlack : Keeps f clearSlack := fun s => by
  unfold Machine.clearSlack
  refine keeps_each _ (fun e => ?_) s
  split
  · exact keeps_acts ⟨h.dropRun, h.nodeEnded⟩
  · split
    · exact h.stopBackground
    · exact keeps_nop

theorem clearRuns : Keeps f clearRuns := keeps_acts
  ⟨h.clearSlack, keeps_eachOf fun _ _ => h.dropRun, keeps_eachOf fun _ _ => keeps_acts ⟨h.dropRun, h.freeCtx⟩⟩

theorem backgroundReady {n} : Keeps f (backgroundReady n) := keeps_acts
  ⟨keeps_eachOf fun _ _ => keeps_acts ⟨h.onBel fun _ => rfl, h.setBg⟩, fun s => h.bgStates s⟩

/-! ### Changes that take effect (R203, R231, R262, R303) -/

theorem putDest {i w} : Keeps f (putDest i w) := fun s => by
  unfold Machine.putDest
  split
  · exact h.poke s
  · exact keeps_actsAt s ⟨h.bump, h.report⟩

theorem applyEntries {es} : Keeps f (applyEntries es) := keeps_each _ fun e => by
  split
  · exact h.putDest
  · exact keeps_acts ⟨h.poke, h.poke⟩

theorem routeCommitApply : Keeps f routeCommitApply := fun s => by
  unfold Machine.routeCommitApply
  split
  · split
    · exact keeps_actsAt s ⟨h.applyEntries, h.onCru, h.commitStatus, h.pokePair⟩
    · exact keeps_nop s
  · exact keeps_nop s

theorem sumCompare {t v} : Keeps f (sumCompare t v) := fun s => by
  unfold Machine.sumCompare
  split
  · exact keeps_nop s
  · exact keeps_actsAt s ⟨h.pokeF, h.ring, h.report⟩

theorem startSwap {q b} : Keeps f (startSwap q b) := fun s => by
  unfold Machine.startSwap
  split
  · exact h.swapStatus s
  · refine keeps_actsAt s ⟨h.pokePair, h.sendSum, ?_, ?_⟩
    · split
      · split
        · exact keeps_acts ⟨h.sumCompare, h.onTpr⟩
        · exact keeps_nop
      · exact keeps_nop
    · split
      · exact keeps_acts ⟨h.onTpr, h.swapStatus⟩
      · exact keeps_acts ⟨h.onTpr, h.swapStatus⟩

theorem bankSwapStart : Keeps f bankSwapStart := fun s => by
  unfold Machine.bankSwapStart
  split
  · split
    · exact keeps_actsAt s ⟨h.onTpr, h.startSwap⟩
    · exact keeps_nop s
  · exact keeps_nop s

theorem fadeEnd : Keeps f fadeEnd := fun s => by
  unfold Machine.fadeEnd
  split
  · dsimp only
    split
    · exact keeps_nop s
    · refine keeps_actsAt s ⟨h.onTpr, h.swapStatus, ?_⟩
      split
      · split
        · exact h.startSwap
        · exact keeps_acts ⟨h.onTpr, h.swapStatus⟩
      · exact keeps_nop
  · exact keeps_nop s

theorem holdSwap {q} : Keeps f (holdSwap q) := fun s => by
  unfold Machine.holdSwap
  split
  · exact keeps_actsAt s ⟨keeps_when h.swapStatus, h.onTpr, h.swapStatus⟩
  · exact keeps_actsAt s ⟨keeps_when h.swapStatus, h.onTpr, h.swapStatus⟩

theorem removeEntry {k} : Keeps f (removeEntry k) := fun s => by
  unfold Machine.removeEntry
  refine keeps_actsAt s ⟨h.onBel fun _ => rfl, keeps_each _ fun e => keeps_acts ⟨h.setBg, fun t => ?_⟩⟩
  dsimp only
  split
  · exact h.bgStates t
  · exact keeps_nop t

theorem placeEntry {k g i p} : Keeps f (placeEntry k g i p) := h.onBel fun _ => rfl

/-- A forwarded item in force (R353). -/
theorem applyForward (it : FwdItem) : Keeps f (applyForward it) := by
  cases it with
  | scene b =>
    intro s
    rw [Machine.applyForward]
    split
    · exact keeps_actsAt s ⟨h.onScene (fun _ => rfl) fun _ => rfl, h.showPending⟩
    · split
      · exact keeps_actsAt s ⟨h.onScene (fun _ => rfl) fun _ => rfl, h.showPending⟩
      · exact keeps_nop s
  | routeCommit p es => exact keeps_acts ⟨h.onCru, h.commitStatus⟩
  | routeCancel => exact keeps_acts ⟨h.onCru, h.commitStatus⟩
  | swap p ctl => exact h.holdSwap
  | swapCancel => exact keeps_acts ⟨h.onTpr, h.swapStatus⟩
  | args pr p first ws => exact keeps_acts ⟨h.onLan, h.commitStatus⟩
  | argsCancel pr => exact keeps_acts ⟨h.onLan, h.commitStatus⟩
  | clear p ctl => exact keeps_acts ⟨h.onQch (fun _ => rfl) fun _ => rfl, h.commitStatus⟩
  | clearCancel => exact keeps_acts ⟨h.onQch (fun _ => rfl) fun _ => rfl, h.commitStatus⟩
  | ready i p t => exact h.placeEntry
  | readyCancel t => exact h.removeEntry
  | handover p => exact fun _ _ => h.twn _ _
  | bankSum t v =>
    intro s
    rw [Machine.applyForward]
    dsimp only
    split
    · split
      · exact h.onTpr s
      · exact h.sumCompare s
    · exact h.sumCompare s

/-! ### Twin operation that does not reach the render -/

theorem stopSending {n} : Keeps f (stopSending n) := fun s => by
  unfold Machine.stopSending
  split
  · exact h.onTwn s
  · exact keeps_nop s

theorem becomeActive : Keeps f becomeActive :=
  keeps_acts ⟨h.setRole, h.setAlign, h.onTwn, h.bump, h.lifeCount, h.twinEvent⟩

theorem dualEnd : Keeps f dualEnd := fun s => by
  unfold Machine.dualEnd
  split
  · exact keeps_nop s
  · exact keeps_actsAt s ⟨h.onTwn, h.pokeF, h.pokeF⟩

theorem detachCheck : Keeps f detachCheck := fun s => by
  unfold Machine.detachCheck
  split
  · exact h.setRole s
  · exact keeps_nop s

theorem handoverApply : Keeps f handoverApply := fun s => by
  unfold Machine.handoverApply
  split
  · exact keeps_nop s
  · split
    · exact keeps_nop s
    · refine keeps_actsAt s ⟨h.onTwn, ?_, h.twinEvent⟩
      split
      · exact keeps_acts ⟨h.setAlign, h.setRole, h.pokeF⟩
      · split
        · exact h.becomeActive
        · exact keeps_nop

theorem snapshotFreeze {n} : Keeps f (snapshotFreeze n) := fun s => by
  unfold Machine.snapshotFreeze
  split
  · split
    · exact h.onTwn s
    · exact keeps_nop s
  · exact keeps_nop s

end Aside
end Sys2Proof.Machine

/-! SUPPORT. What the acts of a whole period leave alone: the period count, the hash's period, the periods of overruns, the period list. -/
namespace Sys2Proof.Machine
open Sys2Proof

/-! ### Readings of the state -/

/-- What neither reports nor changes that take effect reach: the render, and where the scene stands. -/
def renderPart (s : State) := (s.wav, s.feeds, s.loc, s.scene.boundary, s.scene.initKf, s.bel.list, s.qch.fault)

/-- A reading of that part looks at none of the blocks in which changes wait. -/
theorem aside_of {β : Sort _} {f : State → β} (hf : ∀ s t, renderPart t = renderPart s → f t = f s) : Aside f where
  toQuiet := quiet_of fun s t h => hf s t (congrArg (fun (_, _, _, _, scene, bel, wav, feeds, loc, fault, _) =>
    (wav, feeds, loc, scene.boundary, scene.initKf, bel.list, fault)) h)
  sys _ _ := hf _ _ rfl
  cru _ _ := hf _ _ rfl
  tpr _ _ := hf _ _ rfl
  lan _ _ := hf _ _ rfl
  scene s v h k := hf _ _ (by simp only [renderPart, scene_wav, scene_feeds, scene_loc, scene_scene, scene_bel, scene_qch, h, k])
  bel s v h := hf _ _ (by simp only [renderPart, bel_wav, bel_feeds, bel_loc, bel_scene, bel_bel, bel_qch, h])

/-- What only the ticks, the releases and the watchdog move. -/
def steadyPart (s : State) := (s.wav.n, s.wav.hashAt, s.wav.overruns, s.bel.list)

/-- A reading of the state that does not look at Locator and the feeds, and of the wavefront at those three at most. -/
structure Unrendered {β : Sort _} (f : State → β) : Prop extends Quiet f where
  loc : ∀ s v, f (applyEff s (.loc v)) = f s
  feeds : ∀ s v, f (applyEff s (.feeds v)) = f s
  wav : ∀ s v, v.n = s.wav.n → v.hashAt = s.wav.hashAt → v.overruns = s.wav.overruns → f (applyEff s (.wav v)) = f s

/-- A reading of the state that looks at nothing but what the ticks, the releases and the watchdog move. -/
structure Steady {β : Sort _} (f : State → β) : Prop extends Aside f, Unrendered f where
  memKeep : ∀ s k, f (applyEff s (.memKeep k)) = f s
  img : ∀ s v, f (applyEff s (.img v)) = f s
  anyScene : ∀ s v, f (applyEff s (.scene v)) = f s
  anyQch : ∀ s v, f (applyEff s (.qch v)) = f s

theorem steady_of {β : Sort _} {f : State → β} (hf : ∀ s t, steadyPart t = steadyPart s → f t = f s) : Steady f where
  toAside := aside_of fun s t h => hf s t (congrArg (fun x => (x.1.n, x.1.hashAt, x.1.overruns, x.2.2.2.2.2.1)) h)
  memKeep _ _ := hf _ _ rfl
  img _ _ := hf _ _ rfl
  loc _ _ := hf _ _ rfl
  feeds _ _ := hf _ _ rfl
  anyScene _ _ := hf _ _ rfl
  anyQch _ _ := hf _ _ rfl
  wav s v h i j := hf _ _ (by simp only [steadyPart, wav_wav, wav_bel, h, i, j])

/-- The period count, the period of the latest hash, the periods of overruns, the period list. -/
def countOf (s : State) : Nat := s.wav.n
def hashPeriodOf (s : State) : Nat := s.wav.hashAt
def overrunsOf (s : State) : List Nat := s.wav.overruns
def periodListOf (s : State) : List Nat := s.bel.list

theorem steady_countOf : Steady countOf := steady_of fun _ _ h => congrArg (·.1) h
theorem steady_hashPeriodOf : Steady hashPeriodOf := steady_of fun _ _ h => congrArg (·.2.1) h
theorem steady_overrunsOf : Steady overrunsOf := steady_of fun _ _ h => congrArg (·.2.2.1) h
theorem steady_periodListOf : Steady periodListOf := steady_of fun _ _ h => congrArg (·.2.2.2) h

namespace Unrendered
variable {β : Sort _} {f : State → β} (h : Unrendered f)
include h

theorem onLoc {g} : Keeps f (onLoc g) := fun _ _ => h.loc _ _
theorem onFeeds {g} : Keeps f (onFeeds g) := fun _ _ => h.feeds _ _
theorem onWav {g} (hn : ∀ s, (g s s.wav).n = s.wav.n) (hh : ∀ s, (g s s.wav).hashAt = s.wav.hashAt)
    (ho : ∀ s, (g s s.wav).overruns = s.wav.overruns) : Keeps f (onWav g) := fun s _ => h.wav s _ (hn s) (hh s) (ho s)

/-! ### What a boundary moves (R21, R22, R161) -/

theorem frameResult {b r} : Keeps f (frameResult b r) := by
  refine keeps_acts ⟨?_, keeps_when h.pokePair⟩
  split
  · split
    · exact h.hostResult
    · exact keeps_when h.sendAck
  · refine keeps_acts ⟨h.bump, h.ring, h.report, ?_⟩
    split
    · exact h.hostResult
    · exact keeps_when h.sendAck

theorem keepBuffers : Keeps f swapBuffers.keep := fun s => keeps_actsAt s ⟨h.bump, h.onLoc⟩

theorem swapBuffers {b} : Keeps f (swapBuffers b) := fun s => by
  unfold Machine.swapBuffers
  split
  · split
    · exact keeps_actsAt s ⟨h.onLoc, h.bump, h.bump, h.bump, h.bump, h.bump, h.bump⟩
    · exact h.keepBuffers s
  · exact h.keepBuffers s

theorem useJumps {b} : Keeps f (useJumps b) := h.onWav (fun _ => rfl) (fun _ => rfl) fun _ => rfl

theorem holdDecay : Keeps f holdDecay := h.onFeeds

theorem probeLatch : Keeps f probeLatch := fun s => by
  unfold Machine.probeLatch
  split
  · exact keeps_nop s
  · exact keeps_actsAt s ⟨h.onLoc, h.poke, h.poke, h.poke, h.pokeList⟩

end Unrendered

namespace Steady
variable {β : Sort _} {f : State → β} (h : Steady f)
include h

theorem onScene {g} : Keeps f (onScene g) := fun _ _ => h.anyScene _ _
theorem onImg {g} : Keeps f (onImg g) := fun _ _ => h.img _ _
theorem wavEvent {k n} : Keeps f (wavEvent k n) := h.toQuiet.wavEvent fun s _ => h.wav s _ rfl rfl rfl
theorem deviceFault {b} : Keeps f (deviceFault b) := h.toAside.deviceFault h.anyQch

/-! ### Alignment that fails, divergence, the loss of Tongs (R350, R352, R360) -/

theorem forget {k} : Keeps f (fun _ => [.memKeep k]) := fun s _ => h.memKeep s k

theorem applySnap {p} : Keeps f (applySnap p) := keeps_acts
  ⟨h.forget, h.storeList, h.onScene, h.onCru, fun _ _ => h.anyQch _ _, h.onLan, h.onBel fun _ => rfl, h.onTpr, h.onLoc,
   h.onWav (fun _ => rfl) (fun _ => rfl) fun _ => rfl, h.onFeeds⟩

theorem notBefore {n} : Keeps f (notBefore n) :=
  keeps_acts ⟨h.onScene, h.onCru, h.onTpr, fun _ _ => h.anyQch _ _, h.onLan, h.onBel fun _ => rfl⟩

theorem restoreOwn : Keeps f restoreOwn := fun s => by
  unfold Machine.restoreOwn
  split
  · exact keeps_actsAt s ⟨h.applySnap, keeps_eachOf fun _ e => h.applyForward e.2, fun t => h.notBefore t, h.onTwn⟩
  · exact keeps_nop s

theorem dropAlign : Keeps f dropAlign := h.onTwn

theorem failAlign {c} : Keeps f (failAlign c) := fun s => keeps_actsAt s
  ⟨h.restoreOwn, h.dropAlign, h.setAlign, h.pokeF, h.bump, h.twinEvent, keeps_when h.tongsSend, h.onTwn,
   h.onWav (fun _ => rfl) (fun _ => rfl) fun _ => rfl⟩

theorem tryAlign : Keeps f tryAlign := fun s => by
  unfold Machine.tryAlign
  split
  · exact keeps_nop s
  · split
    · exact keeps_nop s
    · split
      · exact keeps_nop s
      · refine keeps_actsAt s ⟨h.onTwn, ?_⟩
        split
        · exact h.failAlign
        · split
          · exact h.failAlign
          · split
            · exact h.failAlign
            · exact keeps_acts ⟨h.dropAlign, h.setAlign, h.onTwn, h.tongsSend⟩

theorem requestAlign : Keeps f requestAlign := keeps_acts ⟨h.onTwn, h.tryAlign⟩

theorem realignFrom {n} : Keeps f (realignFrom n) := fun s => by
  refine keeps_actsAt s ⟨h.stopSending, ?_, h.requestAlign⟩
  split
  · exact h.failAlign
  · exact keeps_acts ⟨h.setAlign, h.dropAlign⟩

theorem diverge {n o b} : Keeps f (diverge n o b) := fun s => by
  refine keeps_actsAt s ⟨h.onTwn, h.poke, h.poke, h.bump, h.lifeCount, h.ring, h.twinEvent, ?_⟩
  split
  · split
    · exact keeps_acts ⟨h.stopSending, h.onTwn⟩
    · exact keeps_nop
  · split
    · exact h.onTwn
    · exact h.realignFrom
  · exact keeps_nop

theorem hashCheck {n} : Keeps f (hashCheck n) := fun s => by
  unfold Machine.hashCheck
  split
  · split
    · split
      · exact keeps_nop s
      · exact h.failAlign s
    · split
      · exact keeps_nop s
      · split
        · split
          · exact h.onTwn s
          · exact keeps_nop s
        · exact h.diverge s
  · exact keeps_nop s

theorem tongsLost : Keeps f tongsLost := fun s => by
  unfold Machine.tongsLost
  split
  · exact keeps_nop s
  · refine keeps_actsAt s ⟨h.pokeF, h.pokeF, h.bump, h.ring, h.twinEvent, h.dropForwards, fun t => ?_, h.onTwn, h.detachCheck⟩
    dsimp only
    split
    · exact keeps_actsAt t ⟨h.stopSending, h.failAlign⟩
    · exact keeps_nop t

theorem beatLoss {n} : Keeps f (beatLoss n) := keeps_when h.tongsLost

theorem applyNextRole : Keeps f applyNextRole := fun s => by
  unfold Machine.applyNextRole
  split
  · exact keeps_nop s
  · refine keeps_actsAt s ⟨h.onTwn, ?_⟩
    split
    · refine keeps_acts ⟨h.setRole, h.dualEnd, ?_⟩
      split
      · exact keeps_acts ⟨h.setAlign, h.onTwn⟩
      · exact keeps_acts ⟨h.setAlign, h.onTwn, h.requestAlign⟩
    · exact h.becomeActive

/-! ### The control-tick boundary (R21) -/

theorem annMode : Keeps f annMode := fun s => by
  unfold Machine.annMode
  dsimp only
  split
  · exact keeps_nop s
  · exact keeps_actsAt s ⟨h.onScene, h.ring, h.report⟩

theorem locFails {b} : Keeps f (locFails b) := fun s => keeps_actsAt s
  ⟨h.onLoc, keeps_when (h.onWav (fun _ => rfl) (fun _ => rfl) fun _ => rfl), keeps_when h.deviceFault⟩

theorem boundary {b} : Keeps f (boundary b) := fun s => keeps_actsAt s
  ⟨h.onScene, h.storeList,
   keeps_each _ fun _ => keeps_acts ⟨h.bump, h.report⟩, keeps_each _ fun _ => h.frameResult, h.showPending, h.onTpr, h.swapBuffers,
   h.locFails, h.useJumps, h.onScene, h.annMode, h.holdDecay, h.probeLatch, h.checkPairs h.anyQch,
   fun t => keeps_actsAt t ⟨h.pokeF, h.pokeF⟩⟩

theorem controlTick : Keeps f controlTick := fun s => by
  unfold Machine.controlTick
  dsimp only
  split
  · exact h.boundary s
  · exact keeps_nop s

/-! ### What falls due at a launch -/

theorem quenchClearApply : Keeps f quenchClearApply := fun s => by
  unfold Machine.quenchClearApply
  split
  · split
    · exact keeps_actsAt s ⟨h.onFeeds, fun _ _ => h.anyQch _ _, h.commitStatus⟩
    · exact keeps_nop s
  · exact keeps_nop s

theorem argumentCommitApply {p} : Keeps f (argumentCommitApply p) := fun s => by
  unfold Machine.argumentCommitApply
  split
  · split
    · exact keeps_actsAt s ⟨keeps_each _ fun _ => keeps_acts ⟨h.putY, h.onImg⟩, h.onLan, h.commitStatus⟩
    · exact keeps_nop s
  · exact keeps_nop s

theorem dueCommits : Keeps f dueCommits := keeps_acts
  ⟨h.routeCommitApply, h.fadeEnd, h.bankSwapStart, h.quenchClearApply, keeps_eachOf fun _ _ => h.argumentCommitApply⟩

theorem prepare : Keeps f prepare := keeps_acts ⟨h.controlTick, h.dueCommits⟩

theorem snapshotStart {n} : Keeps f (snapshotStart n) := keeps_when h.setAlign

theorem bufferInputs {n raw} : Keeps f (bufferInputs n raw) := fun s => by
  unfold Machine.bufferInputs
  split
  · exact keeps_nop s
  · split
    · exact h.failAlign s
    · exact keeps_actsAt s ⟨h.onTwn, h.storeRecord⟩

/-! ### The first stages of a wavefront (R163) -/

theorem consumeNet {n} : Keeps f (consumeNet n) := h.onWav (fun _ => rfl) (fun _ => rfl) fun _ => rfl

theorem showPresent {l} : Keeps f (showPresent l) := keeps_each _ fun _ => h.poke

theorem countMissing {n r} : Keeps f (countMissing n r) := keeps_acts
  ⟨keeps_when h.bump, keeps_when (keeps_acts ⟨h.onWav (fun _ => rfl) (fun _ => rfl) fun _ => rfl, h.report⟩)⟩

theorem stagePeriod {n raw g c} : Keeps f (stagePeriod n raw g c) := fun s => keeps_actsAt s
  ⟨h.onWav (fun _ => rfl) (fun _ => rfl) fun _ => rfl, keeps_when (keeps_acts ⟨h.showPresent, h.countMissing⟩), h.clearWindows,
   h.writeWindows, fun t => h.writeWindows t⟩

theorem lineStarves {n l} : Keeps f (lineStarves n l) := keeps_acts ⟨h.bump, h.setBits, h.wavEvent, h.ring, h.report⟩

theorem residue {b l} : Keeps f (residue b l) := keeps_each _ fun _ => by
  refine keeps_acts ⟨?_, h.ring, h.report⟩
  split
  · exact h.bump
  · exact h.bump

theorem announceStep : Keeps f announceStep := by
  refine keeps_acts ⟨h.onScene, fun s => ?_⟩
  dsimp only
  split
  · exact keeps_nop s
  · split
    · exact keeps_nop s
    · exact keeps_actsAt s ⟨h.bump, h.warn⟩

theorem mixStage {n g c sn sh v} : Keeps f (mixStage n g c sn sh v) := fun s => keeps_actsAt s
  ⟨h.onWav (fun _ => rfl) (fun _ => rfl) fun _ => rfl, h.onTpr, fun _ _ => h.anyQch _ _, h.writeWindows, h.writeWindows,
   keeps_when (keeps_acts ⟨h.bump, h.bump, h.bump, h.bump, h.residue, h.residue, h.residue, h.residue, h.residue,
     keeps_each _ fun _ => h.lineStarves⟩)⟩

/-! ### The release (R177) -/

theorem storeFeeds {os} : Keeps f (storeFeeds os) :=
  keeps_acts ⟨h.onFeeds, h.onWav (fun _ => rfl) (fun _ => rfl) fun _ => rfl, h.onTpr⟩

theorem noteTaint {fl os} : Keeps f (noteTaint fl os) := keeps_when (h.onWav (fun _ => rfl) (fun _ => rfl) fun _ => rfl)

theorem quenchStarts {i d q} : Keeps f (quenchStarts i d q) :=
  keeps_acts ⟨keeps_when (keeps_acts ⟨h.bump, h.lifeCount⟩), h.report, keeps_when h.warn⟩

theorem feedRegs {n i d o} : Keeps f (feedRegs n i d o) := keeps_acts
  ⟨keeps_when (keeps_acts ⟨h.bump, h.bump⟩), keeps_when h.bump, keeps_when h.quenchStarts, keeps_when h.bump, keeps_when h.bump,
   keeps_when h.setBits, keeps_when h.bump, keeps_when h.bump, keeps_when h.setBits, keeps_when h.lineStarves⟩

theorem limitPairs : Keeps f limitPairs := fun s => by
  unfold Machine.limitPairs
  dsimp only
  split
  · exact keeps_nop s
  · exact keeps_actsAt s ⟨h.bump, h.deviceFault⟩

theorem sendOut' {m n rel} : Keeps f (sendOut' m n rel) := fun s => keeps_actsAt s
  ⟨h.tdmRelease, fun t => h.buildPackets t, h.bump, h.onFeeds⟩

theorem meterSnapshot {n} : Keeps f (meterSnapshot n) := fun s => by
  refine keeps_actsAt s ⟨?_, h.onFeeds, h.pokeF, h.pokePair, h.ring⟩
  split
  · exact keeps_eachOf fun _ _ => h.pokeList
  · exact h.draw fun _ => keeps_each _ fun _ => h.pokeList

/-- A release, for a reading that does not look at the latest hash. -/
theorem release {fl gr fr} (hh : ∀ s x k, f (applyEff s (.wav { s.wav with hash := x, hashAt := k })) = f s) :
    Keeps f (release fl gr fr) := fun s => keeps_actsAt s
  ⟨keeps_eachOf fun _ _ => h.uncorrectable, h.storeFeeds, h.clearWindows, h.noteTaint, keeps_each _ fun _ => h.feedRegs, h.limitPairs,
   h.sendOut', keeps_when h.meterSnapshot,
   keeps_acts ⟨fun s _ => hh s _ _, h.onTwn, h.sendBeat, h.hashCheck⟩,
   h.onWav (fun _ => rfl) (fun _ => rfl) fun _ => rfl, keeps_when h.pokeF⟩

theorem releaseFree {fl gr} (hh : ∀ s x k, f (applyEff s (.wav { s.wav with hash := x, hashAt := k })) = f s) :
    Keeps f (releaseFree fl gr) := fun s => by
  unfold Machine.releaseFree
  split
  · exact h.release hh s
  · exact h.draw (fun _ => h.release hh) s

theorem looseChains {v} : Keeps f (looseChains v) := h.onTpr

end Steady
end Sys2Proof.Machine

/-! SUPPORT. A period tick counts one period (R15, R20, R71). -/
namespace Sys2Proof.Machine
open Sys2Proof

theorem after_seq_append (as bs : List Act) (s : State) : s.after (seq (as ++ bs)) = (s.after (seq as)).after (seq bs) :=
  seq_append as bs s

/-- An act that is taken from the state is the act taken from that state. -/
theorem after_look (g : State → Act) (s : State) : s.after (fun t => g t t) = s.after (g s) := rfl

theorem after_congr {a b : Act} {s : State} (h : a s = b s) : s.after a = s.after b := congrArg (applyAll · s) h

/-! ### What holds after an act if it held before -/

/-- The act keeps a property of the state. -/
def Preserves (P : State → Prop) (a : Act) : Prop := ∀ s, s.memOk = true → P s → P (s.after a)

section
variable {P : State → Prop}

theorem preserves_acts {as : List Act} (h : as.Forall (Preserves P)) : Preserves P (seq as) := by
  induction as with
  | nil => exact fun _ _ hp => hp
  | cons a as ih =>
    rw [List.forall_cons] at h
    intro s hm hp
    rw [after_seq_cons]
    exact ih h.2 _ (after_memOk a hm) (h.1 s hm hp)

/-- The same, for acts that are taken from the state. -/
theorem preserves_actsAt {as : List Act} (s : State) (h : as.Forall (Preserves P)) (hm : s.memOk = true) (hp : P s) :
    P (applyAll (seq as s) s) := preserves_acts h s hm hp

/-- An act under a condition: the property need only survive where the condition holds. -/
theorem preserves_when {c : State → Bool} {a : Act} (h : ∀ s, s.memOk = true → c s = true → P s → P (s.after a)) :
    Preserves P (when c a) := fun s hm hp => by
  rw [State.after, when]
  split
  next hc => exact h s hm hc hp
  next => exact hp
end

/-! ### The launch of a tick, for the period count -/

theorem onBel_count {g : State → Bel → Bel} : Keeps countOf (onBel g) := fun _ _ => rfl

theorem onWav_count {g : State → Wav → Wav} (hg : ∀ s, (g s s.wav).n = s.wav.n) : Keeps countOf (onWav g) := fun s _ => hg s

theorem periodList_count {n : Nat} : Keeps countOf (periodList n) := fun s =>
  keeps_actsAt s ⟨keeps_each _ fun _ => onBel_count, onBel_count⟩

theorem launch_count {n raw g c sn sh} : Keeps countOf (launch n raw g c sn sh) := by
  have h := steady_countOf
  refine keeps_acts ⟨periodList_count, h.stagePeriod, h.announceStep, fun s => ?_⟩
  dsimp only
  split
  · exact h.mixStage s
  · exact h.draw (fun _ => h.mixStage) s

theorem tickLaunch_count {g r} : Keeps countOf (tickLaunch g r) := fun s => by
  have h := steady_countOf
  refine keeps_actsAt s ⟨onWav_count fun _ => rfl, h.sendPresence, h.takeLocal, h.consumeNet, ?_⟩
  split
  · exact keeps_acts ⟨fun t => launch_count t, keeps_when (keeps_acts ⟨h.onCru, h.pokeF⟩), fun t => h.captureRecord t⟩
  · exact keeps_acts ⟨h.showPresent, h.bufferInputs, h.sendBeat⟩

theorem owedLaunch_count : Keeps countOf owedLaunch := keeps_when tickLaunch_count

theorem watchdog_count {k : Nat} : Keeps countOf (watchdog k) := fun s => by
  have h := steady_countOf
  unfold watchdog
  split
  · exact keeps_nop s
  · split
    · exact keeps_nop s
    · exact keeps_actsAt s ⟨onWav_count fun _ => rfl, h.clearRuns, onBel_count, h.draw fun _ => h.looseChains, h.releaseFree fun _ _ _ => rfl,
        h.bump, h.wavEvent, h.lifeCount, h.ring, h.report, keeps_when h.deviceFault⟩

/-! ### The tick in RUN and SAFE -/

/-- What a tick in RUN or SAFE does before it counts, and what beside counting and after it. -/
def tickFirst : List Act := [
  owedLaunch, fun s => watchdog (freeGroups s) s, fun s => beatLoss (s.wav.n + 1) s, applyNextRole, handoverApply,
  fun s => seq [snapshotFreeze (s.wav.n + 1), snapshotStart (s.wav.n + 1)] s,
  ifThen (fun s => align s != 3) (seq [clearRuns, prepare]) clearSlack]
def tickCount (n : Nat) : Act := onWav fun _ w => { w with n := n, catchups := 0 }
def tickBeside (n : Nat) : List Act := [entriesDue, onBel fun _ b => { b with late := false }, backgroundReady n, pairTakeover]
def tickLast (g : RenderFaults) : Act := ifThen (fun s => s.wav.flight.isSome) (onWav fun _ w => { w with owed := true })
  (fun s => tickLaunch g (rendersNow s) s)

theorem runTick_eq (g : RenderFaults) : runTick g =
    seq (tickFirst ++ [fun s => seq (tickCount (s.wav.n + 1) :: tickBeside (s.wav.n + 1)) s, tickLast g]) := rfl

theorem tickFirst_count : Keeps countOf (seq tickFirst) := by
  have h := steady_countOf
  exact keeps_acts ⟨owedLaunch_count, fun t => watchdog_count t, fun t => h.beatLoss t, h.applyNextRole, h.handoverApply,
    fun t => keeps_actsAt t ⟨h.snapshotFreeze, h.snapshotStart⟩, keeps_ifThen (keeps_acts ⟨h.clearRuns, h.prepare⟩) h.clearSlack⟩

theorem tickBeside_count (n : Nat) : Keeps countOf (seq (tickBeside n)) := by
  have h := steady_countOf
  exact keeps_acts ⟨h.entriesDue, h.onBel fun _ => rfl, h.backgroundReady, h.pairTakeover h.lan h.bel fun _ _ => rfl⟩

theorem tickLast_count {g : RenderFaults} : Keeps countOf (tickLast g) := keeps_ifThen (onWav_count fun _ => rfl) fun t => tickLaunch_count t

theorem tickRaise_count {u : State} (hu : u.memOk = true) :
    countOf (u.after fun s => seq (tickCount (s.wav.n + 1) :: tickBeside (s.wav.n + 1)) s) = countOf u + 1 := by
  have hn (k : Nat) : countOf (u.after (tickCount k)) = k := rfl
  rw [after_look fun s => seq (tickCount (s.wav.n + 1) :: tickBeside (s.wav.n + 1)), after_seq_cons,
    (tickBeside_count _).after (after_memOk _ hu), hn, countOf]

theorem runTick_count {g : RenderFaults} {s : State} (hm : s.memOk = true) : countOf (s.after (runTick g)) = countOf s + 1 := by
  have hfirst := after_memOk (seq tickFirst) hm
  rw [runTick_eq, after_seq_append, after_seq_cons, after_seq_cons, after_seq_nil, tickLast_count.after (after_memOk _ hfirst),
    tickRaise_count hfirst, tickFirst_count.after hm]

/-! ### The tick in ARMED -/

/-- What a tick in ARMED leaves alone beside counting. -/
def armedPart (s : State) := (s.sys, s.wav.n, s.wav.flight, s.feeds)

theorem quiet_armedPart : Quiet armedPart := quiet_of fun _ _ h =>
  congrArg (fun x => (x.1, x.2.2.2.2.2.2.1.n, x.2.2.2.2.2.2.1.flight, x.2.2.2.2.2.2.2.1)) h

/-- The part of it that entry to SAFE leaves alone. -/
def renderedPart (s : State) := (s.wav.n, s.wav.flight, s.feeds)

theorem aside_renderedPart : Aside renderedPart := aside_of fun _ _ h => congrArg (fun x => (x.1.n, x.1.flight, x.2.1)) h

theorem enterSafe_sys_armed {s : State} (x : Bool) (h : s.sys.state = .armed) :
    (s.after (enterSafe x)).sys = { s.sys with prev := .armed, state := .safe, safeFault := x } := by
  rw [State.after, enterSafe, h]
  exact congrArg (fun d => ({ s.sys with prev := d, state := .safe, safeFault := x } : Sys)) h

theorem enterSafe_sys_safe {s : State} (x : Bool) (h : s.sys.state = .safe) :
    (s.after (enterSafe x)).sys = { s.sys with safeFault := s.sys.safeFault || x } := by
  rw [State.after, enterSafe, h]
  rfl

/-- The device has counted one period since `s`, in which it was in ARMED, and has rendered nothing. -/
structure CountedArmed (s t : State) : Prop where
  role : t.sys.role = .none
  condCount : t.sys.condCount = true
  state : t.sys.state = .armed ∨ t.sys.state = .safe ∧ (s.wav.n + 1) % 16 = 0
  rendered : renderedPart t = (s.wav.n + 1, s.wav.flight, s.feeds)

theorem Keeps.countedArmed {a : Act} (h : Keeps armedPart a) (s : State) : Preserves (CountedArmed s) a := fun t hm ht => by
  obtain ⟨hr, hc, hs, hp⟩ := ht
  have hk := h.after hm
  have hsys : (t.after a).sys = t.sys := congrArg (·.1) hk
  exact ⟨hsys ▸ hr, hsys ▸ hc, hsys ▸ hs, (congrArg (·.2) hk).trans hp⟩

/-- A control tick's fault brings ARMED to SAFE (R319, R327). -/
theorem enterSafe_countedArmed {s : State} (h16 : (s.wav.n + 1) % 16 = 0) (x : Bool) : Preserves (CountedArmed s) (enterSafe x) := by
  intro t hm ht
  obtain ⟨hr, hc, hs, hp⟩ := ht
  have hp' := (aside_renderedPart.enterSafe (x := x)).after hm
  rcases hs with hs | ⟨hs, -⟩
  · have hsys := enterSafe_sys_armed x hs
    exact ⟨by rw [hsys]; exact hr, by rw [hsys]; exact hc, .inr ⟨by rw [hsys], h16⟩, hp'.trans hp⟩
  · have hsys := enterSafe_sys_safe x hs
    exact ⟨by rw [hsys]; exact hr, by rw [hsys]; exact hc, .inr ⟨by rw [hsys]; exact hs, h16⟩, hp'.trans hp⟩

theorem checkPairs_countedArmed {s : State} (h16 : (s.wav.n + 1) % 16 = 0) : Preserves (CountedArmed s) checkPairs := by
  have h := quiet_armedPart
  refine preserves_acts ⟨preserves_when fun t hm _ => ?_, Keeps.countedArmed (fun t => ?_) s⟩
  · have hfault : Preserves (CountedArmed s) (deviceFault 2) :=
      preserves_acts ⟨(h.latchFault fun _ _ => rfl).countedArmed s, enterSafe_countedArmed h16 true⟩
    exact (preserves_acts ⟨h.bump.countedArmed s, hfault⟩ : Preserves _ (seq [bump (QCH + 3) 11 0 1, deviceFault 2])) t hm
  · dsimp only
    split
    · exact keeps_nop t
    · split
      · exact keeps_nop t
      · exact keeps_actsAt t ⟨h.bump, h.warn⟩

/-- The count is established, so nothing establishes it again (R429). -/
theorem establish_countedArmed {s : State} (count : State → Option Nat) : Preserves (CountedArmed s) (establish count) := by
  intro t _ ht
  have hn : t.after (establish count) = t := by simp [State.after, establish, ht.condCount]
  rwa [hn]

/-- A unit without a role loses Tongs and nothing more (R350). -/
theorem tongsLost_countedArmed {s : State} : Preserves (CountedArmed s) tongsLost := by
  have h := quiet_armedPart
  have hfail : Preserves (CountedArmed s) fun s =>
      if s.sys.role == .standby && 1 ≤ align s && align s ≤ 4 then seq [stopSending s.wav.n, failAlign 4] s else [] := fun t _ ht => by
    simpa [State.after, ht.role] using ht
  have hdetach : Preserves (CountedArmed s) detachCheck := fun t _ ht => by
    simpa [State.after, detachCheck, ht.role] using ht
  intro t hm ht
  unfold State.after tongsLost
  split
  · exact ht
  · exact preserves_actsAt t ⟨h.pokeF.countedArmed s, h.pokeF.countedArmed s, h.bump.countedArmed s, h.ring.countedArmed s,
      h.twinEvent.countedArmed s, h.dropForwards.countedArmed s, hfail, h.onTwn.countedArmed s, hdetach⟩ hm ht

/-- What a tick in ARMED does beside counting, with the count n. -/
def armedBeside (n : Nat) : List Act := [
  entriesDue, establish countAtTick, when (fun s => s.wav.n % 16 == 0) checkPairs, pairTakeover, fun s => beatLoss s.wav.n s,
  takeLocal false, fun s => seq [consumeNet s.wav.n, finishPackets n, sendBeat s.wav.n 0 false] s]

theorem armedBeside_countedArmed (s : State) (n : Nat) : Preserves (CountedArmed s) (seq (armedBeside n)) := by
  have h := quiet_armedPart
  have hsend : Keeps armedPart fun s => seq [consumeNet s.wav.n, finishPackets n, sendBeat s.wav.n 0 false] s :=
    fun t => keeps_actsAt t ⟨fun _ _ => rfl, h.finishPackets, h.sendBeat⟩
  refine preserves_acts ⟨h.entriesDue.countedArmed s, establish_countedArmed _, preserves_when fun t hm hc ht => ?_,
    (h.pairTakeover (fun _ _ => rfl) (fun _ _ _ => rfl) fun _ _ => rfl).countedArmed s, fun t => ?_, h.takeLocal.countedArmed s,
    hsend.countedArmed s⟩
  · have hn : t.wav.n = s.wav.n + 1 := congrArg (·.1) ht.rendered
    exact checkPairs_countedArmed (by simpa [hn] using hc) t hm ht
  · exact preserves_when (fun u hm _ => tongsLost_countedArmed u hm) t

theorem armedTick_countedArmed {s : State} (hm : s.memOk = true) (hr : s.sys.role = .none) (hc : s.sys.condCount = true)
    (hs : s.sys.state = .armed) : CountedArmed s (s.after armedTick) := by
  have hstart : CountedArmed s (s.after (onWav fun _ w => { w with n := s.wav.n + 1 })) := ⟨hr, hc, .inl hs, rfl⟩
  have htick : s.after armedTick =
      s.after (seq ((onWav fun _ w => { w with n := s.wav.n + 1 }) :: armedBeside (s.wav.n + 1))) := after_congr rfl
  rw [htick, after_seq_cons]
  exact armedBeside_countedArmed s _ _ (after_memOk _ hm) hstart

/-! ### PERIOD_TICK -/

theorem exec_periodTick (g : RenderFaults) (s : State) :
    exec (.periodTick g) s = .next ((s.begun.after (strike g)).after (clocked (periodTick g))) := by
  have hrun : exec (.periodTick g) s = .next (s.begun.after (seq [strike g, clocked (periodTick g)])) := rfl
  rw [hrun, after_seq_cons, after_seq_cons, after_seq_nil]

/-- What a strike of the memories leaves alone. -/
def struckPart (s : State) := (s.sys, s.clk, s.wav, s.feeds, s.qch.xoStopped)

theorem quiet_struckPart : Quiet struckPart where
  mem _ _ _ := rfl
  free _ _ := rfl
  out _ _ := rfl
  life _ _ := rfl
  log _ _ := rfl
  hth _ _ := rfl
  sec _ _ := rfl
  qch s v _ hx := by rw [struckPart, struckPart, qch_sys, qch_clk, qch_wav, qch_feeds, qch_qch, hx]
  aud _ _ := rfl
  macs _ _ := rfl
  stm _ _ := rfl
  twn _ _ := rfl
  bad _ _ := rfl
  soft _ _ := rfl
  drc _ _ := rfl

theorem strike_struckPart {g : RenderFaults} {s : State} (hm : s.memOk = true) :
    struckPart (s.begun.after (strike g)) = struckPart s := (quiet_struckPart.strike fun _ _ => rfl).after (s := s.begun) hm

theorem after_clocked {s : State} (a : Act) (h : s.qch.xoStopped = false) : s.after (clocked a) = s.after a := by
  simp [State.after, clocked, when, h]

theorem after_clocked_stopped {s : State} (a : Act) (h : s.qch.xoStopped = true) : s.after (clocked a) = s := by
  simp [State.after, clocked, when, h]

theorem correction_none {s : State} (h : s.clk.corr = none) : s.after correction = s := by
  simp [State.after, correction, h]

theorem after_periodTick_armed {g : RenderFaults} {s : State} (h : s.sys.state = .armed) :
    s.after (periodTick g) = s.after armedTick := by
  simp [State.after, periodTick, h]

theorem after_periodTick_counting {g : RenderFaults} {s : State} (h : s.sys.state = .run ∨ s.sys.state = .safe)
    (hc : s.clk.corr = none) : s.after (periodTick g) = s.after (runTick g) := by
  have hseq : s.after (periodTick g) = s.after (seq [correction, runTick g]) := after_congr (by
    rcases h with h | h <;> simp only [periodTick, h])
  rw [hseq, after_seq_cons, correction_none hc, after_seq_cons, after_seq_nil]

theorem after_periodTick_idle {g : RenderFaults} {s : State} (h : counting s = false) : s.after (periodTick g) = s := by
  unfold counting at h
  unfold State.after periodTick
  cases hs : s.sys.state <;> simp_all

/-- Where no period is counted, or while XO stands still, a tick does nothing of its own (R336). -/
theorem after_clocked_periodTick_idle {g : RenderFaults} {s : State} (h : counting s = false ∨ s.qch.xoStopped = true) :
    s.after (clocked (periodTick g)) = s := by
  cases hx : s.qch.xoStopped with
  | true => exact after_clocked_stopped _ hx
  | false => rw [after_clocked _ hx, after_periodTick_idle (h.resolve_right (by rw [hx]; decide))]

/-- Settles O13: ARMED by what its tick leaves alone (`CountedArmed`), RUN and SAFE by what every act of the tick but one leaves alone
(`runTick_count`). -/
theorem ticksCountThePeriods : Obligations.TicksCountThePeriods := by
  intro s g hm
  have hk := strike_struckPart (g := g) hm
  have hm' : (s.begun.after (strike g)).memOk = true := after_memOk _ hm
  have hidle : s.begun.after (strike noFaults) = s.begun := rfl
  rw [exec_periodTick, exec_periodTick]
  generalize s.begun.after (strike g) = u at hk hm'
  have hsys : u.sys = s.sys := congrArg (·.1) hk
  have hclk : u.clk = s.clk := congrArg (·.2.1) hk
  have hwav : u.wav = s.wav := congrArg (·.2.2.1) hk
  have hfeeds : u.feeds = s.feeds := congrArg (·.2.2.2.1) hk
  have hx : u.qch.xoStopped = s.qch.xoStopped := congrArg (·.2.2.2.2) hk
  refine ⟨fun hs hc hxo hrole => ?_, fun hs hc hxo => ?_, fun h => ?_⟩
  · have hr : s.sys.role = .none := by simpa [State.roleOk, hs] using hrole
    obtain ⟨-, -, hstate, hp⟩ := armedTick_countedArmed hm' (hsys ▸ hr) (hsys ▸ hc) (hsys ▸ hs)
    rw [after_clocked _ (hx.trans hxo), after_periodTick_armed (hsys ▸ hs)]
    rw [hwav, hfeeds] at hp
    exact ⟨_, rfl, congrArg (·.1) hp, congrArg (·.2.2) hp, congrArg (·.2.1) hp, by rw [← hwav]; exact hstate⟩
  · rw [after_clocked _ (hx.trans hxo), after_periodTick_counting (hsys ▸ hs) (hclk ▸ hc)]
    exact ⟨_, rfl, (runTick_count hm').trans (congrArg (·.n + 1) hwav)⟩
  · have hcount : counting u = counting s := by rw [counting, counting, hsys]
    rw [after_clocked_periodTick_idle (by rwa [hcount, hx]), hidle, after_clocked_periodTick_idle (s := s.begun) h]
    exact ⟨rfl, rfl⟩

end Sys2Proof.Machine

/-! SUPPORT. How a wavefront ends (R177, R180) and how a catch-up wavefront begins (R187, R188). -/
namespace Sys2Proof.Machine
open Sys2Proof

/-! ### What an act leaves behind, whatever it finds -/

section
variable {β : Type _} {f : State → β} {v : β}

/-- The act leaves `f` of the state at `v`. -/
def Leaves (f : State → β) (v : β) (a : Act) : Prop := ∀ s : State, s.memOk = true → f (s.after a) = v

/-- What an act leaves and the acts after it keep. -/
theorem leaves_cons {a : Act} {as : List Act} (h : Leaves f v a) (hs : Keeps f (seq as)) : Leaves f v (seq (a :: as)) :=
  fun s hm => by rw [after_seq_cons, hs.after (after_memOk a hm), h s hm]

/-- What the acts from the k-th on leave, all of them leave. -/
theorem leaves_drop {as : List Act} (s : State) (hm : s.memOk = true) (k : Nat) (h : Leaves f v (seq (as.drop k))) :
    f (applyAll (seq as s) s) = v := by
  have hsplit := after_seq_append (as.take k) (as.drop k) s
  rw [List.take_append_drop] at hsplit
  exact (congrArg f hsplit).trans (h _ (after_memOk _ hm))

theorem leaves_when {c : State → Bool} {a : Act} (h : Leaves f v a) (hc : ∀ s, c s = true) : Leaves f v (when c a) := fun s hm => by
  rw [State.after, when_pos c a s (hc s)]
  exact h s hm

theorem leaves_draw {t : Nat} {k : Nat → Act} (h : ∀ x, Leaves f v (k x)) : Leaves f v (draw t k) := fun s hm =>
  h (Config.freeNat t s.free) (applyEff s (.free (s.free + 1))) hm
end

/-! ### Fields of words after an act -/

theorem rdF_pokeF {s : State} (hm : s.memOk = true) (a : Nat) {hi lo : Nat} (v : Nat) (h : hi < 36) (hl : lo ≤ hi) :
    rdF (s.after (pokeF a hi lo v)) a hi lo = v % 2 ^ (hi + 1 - lo) := by
  have hrd : rd (s.after (pokeF a hi lo v)) a = setFld (rd s a) hi lo v := rd_poke s a _ hm
  rw [rdF, hrd, fld_setFld _ _ _ _ h hl]

theorem rdF_bump {s : State} (hm : s.memOk = true) (a : Nat) {hi lo : Nat} (n : Nat) (h : hi < 36) (hl : lo ≤ hi) :
    rdF (s.after (bump a hi lo n)) a hi lo = min (2 ^ (hi + 1 - lo) - 1) (rdF s a hi lo + n) := by
  have hrd : rd (s.after (bump a hi lo n)) a = setFld (rd s a) hi lo (min (2 ^ (hi + 1 - lo) - 1) (rdF s a hi lo + n)) :=
    rd_poke s a _ hm
  have hpos := Nat.two_pow_pos (hi + 1 - lo)
  rw [rdF, hrd, fld_setFld _ _ _ _ h hl, Nat.mod_eq_of_lt (by omega), rdF]

/-! ### The end of a release -/

/-- The wavefront in flight. -/
def flightOf (s : State) : Option Flight := s.wav.flight

theorem aside_flightOf : Aside flightOf := aside_of fun _ _ h => congrArg (·.1.flight) h

theorem release_flight {f : Flight} {groups free : Nat} : Leaves flightOf none (release f groups free) := by
  intro s hm
  unfold State.after release
  refine leaves_drop s hm 9 (leaves_cons (fun _ _ => rfl) ?_)
  exact keeps_acts (keeps_when aside_flightOf.pokeF)

/-- The hash that a release leaves is that of its period (R179). -/
theorem releaseHash_hash {n : Nat} {rels : List Int} {taint : Bool} : Leaves hashPeriodOf n (releaseHash n rels taint) := by
  have h := steady_hashPeriodOf
  refine leaves_cons (fun _ _ => rfl) ?_
  exact keeps_acts ⟨h.onTwn, h.sendBeat, h.hashCheck⟩

theorem release_hash {f : Flight} {groups free : Nat} : Leaves hashPeriodOf f.n (release f groups free) := by
  have h := steady_hashPeriodOf
  intro s hm
  unfold State.after release
  refine leaves_drop s hm 8 (leaves_cons releaseHash_hash ?_)
  exact keeps_acts ⟨h.onWav (fun _ => rfl) (fun _ => rfl) fun _ => rfl, keeps_when h.pokeF⟩

theorem leaves_releaseFree {β : Type _} {g : State → β} {v : β} {f : Flight} {groups : Nat}
    (h : ∀ free, Leaves g v (release f groups free)) : Leaves g v (releaseFree f groups) := by
  intro s hm
  unfold State.after releaseFree
  split
  · exact h 0 s hm
  · exact leaves_draw h s hm

/-! ### WAVEFRONT_COMPLETE -/

theorem exec_wavefrontComplete (time : Nat) (s : State) :
    exec (.wavefrontComplete time) s = .next (s.begun.after (clocked (wavefrontComplete time))) := rfl

/-- A wavefront of the present whose lane items have all passed is released, and its time is shown. -/
theorem after_wavefrontComplete {s : State} {f : Flight} (time : Nat) (hf : s.wav.flight = some f) (hc : f.catchup = false)
    (hd : ∀ i ∈ s.bel.list, itemDone s i = true) : s.after (wavefrontComplete time) =
      s.after (seq [releaseFree f 32, fun s => pokeF WAV 31 16 (max (min 65535 time) (rdF s WAV 31 16)) s,
        pokeF WAV 15 0 (min 65535 time)]) := after_congr (by
  have hall : s.bel.list.all (itemDone s) = true := List.all_eq_true.2 hd
  simp only [wavefrontComplete, hf, hc, hall, Bool.not_true, Bool.false_eq_true, if_false])

theorem wavefrontComplete_released {s : State} {f : Flight} (time : Nat) (hm : s.memOk = true) (hf : s.wav.flight = some f)
    (hc : f.catchup = false) (hd : ∀ i ∈ s.bel.list, itemDone s i = true) :
    (s.after (wavefrontComplete time)).wav.flight = none ∧ (s.after (wavefrontComplete time)).wav.hashAt = f.n ∧
      rdF (s.after (wavefrontComplete time)) WAV 15 0 = min 65535 time := by
  rw [after_wavefrontComplete time hf hc hd]
  have h (x : Nat) : Leaves flightOf none (seq [releaseFree f 32, fun s => pokeF WAV 31 16 (max x (rdF s WAV 31 16)) s, pokeF WAV 15 0 x]) :=
    leaves_cons (leaves_releaseFree fun _ => release_flight) (keeps_acts ⟨fun t => aside_flightOf.pokeF t, aside_flightOf.pokeF⟩)
  have h' (x : Nat) : Leaves hashPeriodOf f.n
      (seq [releaseFree f 32, fun s => pokeF WAV 31 16 (max x (rdF s WAV 31 16)) s, pokeF WAV 15 0 x]) :=
    leaves_cons (leaves_releaseFree fun _ => release_hash)
      (keeps_acts ⟨fun t => steady_hashPeriodOf.pokeF t, steady_hashPeriodOf.pokeF⟩)
  refine ⟨h _ s hm, h' _ s hm, ?_⟩
  rw [after_seq_cons, after_seq_cons, after_seq_cons, after_seq_nil,
    rdF_pokeF (after_memOk _ (after_memOk _ hm)) WAV _ (by decide) (by decide)]
  exact Nat.mod_eq_of_lt (by omega)

theorem wavefrontComplete_idle {s : State} (time : Nat) (h : s.wav.flight = none) : s.after (wavefrontComplete time) = s := by
  simp [State.after, wavefrontComplete, h]

/-! ### WAVEFRONT_WATCHDOG -/

/-- The overruns of the latest 16 periods, one of period n among them (R183). -/
def overrunsWith (n : Nat) (l : List Nat) : List Nat := (n :: l).filter (fun k => n < k + 16)

/-- What the watchdog does to an incomplete wavefront of the present, before and after its release. -/
def watchdogFirst (late : List Nat) : List Act := [
  onWav fun _ w => { w with overruns := late }, clearRuns, onBel fun _ b => { b with list := [] }, draw 182 looseChains]
def watchdogLast (n : Nat) (late : List Nat) : List Act := [
  bump (WAV + 1) 35 24 1, wavEvent 1 n, life 11 1, ringFault, report (srcOf WAV) .overrun n 0,
  when (fun _ => 3 ≤ late.length) (deviceFault 0)]

theorem exec_wavefrontWatchdog (groups : Nat) (s : State) :
    exec (.wavefrontWatchdog groups) s = .next (s.begun.after (clocked (watchdog groups))) := rfl

theorem after_watchdog {s : State} {f : Flight} (groups : Nat) (hf : s.wav.flight = some f) (hc : f.catchup = false) :
    s.after (watchdog groups) = s.after (seq (watchdogFirst (overrunsWith f.n s.wav.overruns) ++
      releaseFree f (min 31 (min groups (freeGroups s))) :: watchdogLast f.n (overrunsWith f.n s.wav.overruns))) := after_congr (by
  simp only [watchdog, hf, hc, Bool.false_eq_true, if_false]
  rfl)

/-- The watchdog has nothing to stop where no wavefront of the present is in flight (R20). -/
theorem watchdog_idle {s : State} (groups : Nat) (h : ∀ f, s.wav.flight = some f → f.catchup = true) : s.after (watchdog groups) = s := by
  unfold State.after watchdog
  split
  next => rfl
  next f hf => rw [if_pos (h f hf)]; rfl

/-- The latch RENDER. -/
def renderLatched (s : State) : Bool := s.qch.fault.testBit 0

theorem aside_renderLatched : Aside renderLatched := aside_of fun _ _ h => congrArg (·.2.2.2.2.2.2.testBit 0) h

theorem latchFault_render : Leaves renderLatched true (latchFault 0) := by
  intro s _
  unfold State.after latchFault
  split
  next h => exact h
  next => simp [latchReport, ringFault, ring, setBits, report, reportSev, life, onLog, onLife, onQch, renderLatched, seq]

theorem deviceFault_render : Leaves renderLatched true (deviceFault 0) :=
  leaves_cons latchFault_render (keeps_acts aside_renderLatched.enterSafe)

theorem watchdogLast_render {n : Nat} {late : List Nat} (h : 3 ≤ late.length) : Leaves renderLatched true (seq (watchdogLast n late)) := by
  intro s hm
  exact leaves_drop s hm 5 (leaves_cons (leaves_when deviceFault_render fun _ => decide_eq_true h) keeps_nil)

theorem watchdog_stops {s : State} {f : Flight} (groups : Nat) (hm : s.memOk = true) (hf : s.wav.flight = some f)
    (hc : f.catchup = false) : (s.after (watchdog groups)).wav.flight = none ∧ (s.after (watchdog groups)).bel.list = [] ∧
      (s.after (watchdog groups)).wav.overruns = overrunsWith f.n s.wav.overruns ∧
      (3 ≤ (overrunsWith f.n s.wav.overruns).length → (s.after (watchdog groups)).qch.fault.testBit 0 = true) := by
  rw [after_watchdog groups hf hc]
  generalize overrunsWith f.n s.wav.overruns = late
  generalize min 31 (min groups (freeGroups s)) = g
  have hl := steady_periodListOf
  have ho := steady_overrunsOf
  have hw := aside_flightOf
  have hflight : Leaves flightOf none (seq (watchdogFirst late ++ releaseFree f g :: watchdogLast f.n late)) := fun s hm =>
    leaves_drop s hm 4 (leaves_cons (leaves_releaseFree fun _ => release_flight) (keeps_acts
      ⟨hw.bump, hw.wavEvent fun _ _ => rfl, hw.lifeCount, hw.ring, hw.report, keeps_when (hw.deviceFault fun _ _ => rfl)⟩))
  have hlist : Leaves periodListOf [] (seq (watchdogFirst late ++ releaseFree f g :: watchdogLast f.n late)) := fun s hm =>
    leaves_drop s hm 2 (leaves_cons (fun _ _ => rfl) (keeps_acts
      ⟨hl.draw fun _ => hl.looseChains, hl.releaseFree fun _ _ _ => rfl, hl.bump, hl.wavEvent, hl.lifeCount, hl.ring, hl.report,
       keeps_when hl.deviceFault⟩))
  have hover : Leaves overrunsOf late (seq (watchdogFirst late ++ releaseFree f g :: watchdogLast f.n late)) :=
    leaves_cons (fun _ _ => rfl) (keeps_acts
      ⟨ho.clearRuns, fun _ _ => rfl, ho.draw fun _ => ho.looseChains, ho.releaseFree fun _ _ _ => rfl, ho.bump, ho.wavEvent, ho.lifeCount,
       ho.ring, ho.report, keeps_when ho.deviceFault⟩)
  refine ⟨hflight s hm, hlist s hm, hover s hm, fun h3 => ?_⟩
  refine leaves_drop (f := renderLatched) s hm 5 ?_
  exact watchdogLast_render h3

/-! ### CATCHUP_WAVEFRONT -/

/-- The period of the wavefront in flight, and whether it is a catch-up wavefront. -/
def flightName (s : State) : Option (Nat × Bool) := s.wav.flight.map (fun x => (x.n, x.catchup))

theorem aside_flightName : Aside flightName := aside_of fun _ _ h => congrArg (·.1.flight.map (fun x => (x.n, x.catchup))) h

theorem mixStage_flight {n : Nat} {g : RenderFaults} {snap short : Bool} {v : Nat} :
    Leaves flightName (some (n, true)) (mixStage n g true snap short v) := by
  have h := aside_flightName
  intro s hm
  unfold State.after mixStage
  refine leaves_drop s hm 0 (leaves_cons (fun _ _ => rfl) ?_)
  exact keeps_acts ⟨h.onTpr, h.onQch (fun _ => rfl) fun _ => rfl, h.writeWindows, h.writeWindows, keeps_nop⟩

theorem launch_flight {n : Nat} {raw : List (Nat × Int)} {g : RenderFaults} {snap short : Bool} :
    Leaves flightName (some (n, true)) (launch n raw g true snap short) := by
  intro s hm
  refine leaves_drop s hm 3 (leaves_cons (fun t ht => ?_) keeps_nil)
  unfold State.after
  dsimp only
  split
  · exact mixStage_flight t ht
  · exact leaves_draw (fun _ => mixStage_flight) t ht

theorem exec_catchupWavefront (s : State) : exec .catchupWavefront s = .next (s.begun.after (clocked catchupWavefront)) := rfl

/-- A catch-up wavefront that nothing keeps waiting. -/
theorem after_catchupWavefront {s : State} {p : Nat × List Nat} {raw : List (Nat × Int)} (ha : align s = 3) (hf : s.wav.flight = none)
    (hn : s.wav.caught < s.wav.n) (hr : resultsReady s (s.wav.caught + 1) = true) (hw : windowsHeld s (s.wav.caught + 1) = true)
    (hp : s.twn.ppres.find? (fun e => e.1 == s.wav.caught + 1) = some p) (hraw : catchupRaw s (s.wav.caught + 1) p.2 = some raw) :
    s.after catchupWavefront = s.after (seq [clearRuns, prepare,
      fun t => launch (s.wav.caught + 1) (raw ++ laneInputs t) noFaults true false false t]) := after_congr (by
  have hlt : ¬ s.wav.n < s.wav.caught + 1 := by omega
  simp only [catchupWavefront, ha, hf, hlt, hr, hw, hp, hraw, bne_self_eq_false, Option.isSome_none, decide_false, Bool.not_true,
    Bool.or_self, Bool.false_eq_true, if_false])

theorem catchupWavefront_waits {s : State} (h : resultsReady s (s.wav.caught + 1) = false ∨ windowsHeld s (s.wav.caught + 1) = false) :
    s.after catchupWavefront = s := by
  rcases h with h | h <;> simp [State.after, catchupWavefront, h]

theorem catchupWavefront_launches {s : State} {m : Nat} {raw : List (Nat × Int)} (hm : s.memOk = true) :
    countOf (s.after (seq [clearRuns, prepare, fun t => launch m (raw ++ laneInputs t) noFaults true false false t])) = countOf s ∧
    flightName (s.after (seq [clearRuns, prepare, fun t => launch m (raw ++ laneInputs t) noFaults true false false t])) =
      some (m, true) := by
  have h := steady_countOf
  have hlast : Leaves flightName (some (m, true)) fun t => launch m (raw ++ laneInputs t) noFaults true false false t := fun t ht => by
    rw [after_look fun t => launch m (raw ++ laneInputs t) noFaults true false false]
    exact launch_flight t ht
  constructor
  · exact (keeps_acts ⟨h.clearRuns, h.prepare, fun t => launch_count t⟩ : Keeps countOf (seq [clearRuns, prepare, fun t =>
      launch m (raw ++ laneInputs t) noFaults true false false t])).after hm
  · exact leaves_drop s hm 2 (leaves_cons hlast keeps_nil)

theorem after_clocked_of_nothing {s : State} {a : Act} (h : s.after a = s) : s.after (clocked a) = s := by
  cases hx : s.qch.xoStopped with
  | true => exact after_clocked_stopped a hx
  | false => rw [after_clocked a hx, h]

/-- Settles O14: what a release, the watchdog and a launch leave behind. -/
theorem wavefrontsAreReleasedOrStopped : Obligations.WavefrontsAreReleasedOrStopped := by
  intro s f time groups hm
  refine ⟨fun hx hf hc => ⟨fun hd => ?_, ?_⟩, fun h => ?_, fun hf hc => ?_, fun p raw hx ha hf hn hr hw hp hraw => ?_, fun h => ?_⟩
  · rw [exec_wavefrontComplete, after_clocked (s := s.begun) _ hx]
    exact ⟨_, rfl, wavefrontComplete_released (s := s.begun) time hm hf hc hd⟩
  · rw [exec_wavefrontWatchdog, after_clocked (s := s.begun) _ hx]
    exact ⟨_, rfl, watchdog_stops (s := s.begun) groups hm hf hc⟩
  · rw [exec_wavefrontComplete, exec_wavefrontWatchdog]
    rcases h with h | h
    · rw [after_clocked_of_nothing (s := s.begun) (wavefrontComplete_idle (s := s.begun) time h),
        after_clocked_of_nothing (s := s.begun) (watchdog_idle (s := s.begun) groups fun f hf => by simp [State.begun, h] at hf)]
      exact ⟨rfl, rfl⟩
    · rw [after_clocked_stopped (s := s.begun) _ h, after_clocked_stopped (s := s.begun) _ h]
      exact ⟨rfl, rfl⟩
  · rw [exec_wavefrontWatchdog, after_clocked_of_nothing (s := s.begun)]
    refine watchdog_idle (s := s.begun) groups fun f' hf' => ?_
    obtain rfl : f = f' := Option.some.inj (hf.symm.trans hf')
    exact hc
  · rw [exec_catchupWavefront, after_clocked (s := s.begun) _ hx,
      after_catchupWavefront (s := s.begun) ha hf hn hr hw hp hraw]
    exact ⟨_, rfl, catchupWavefront_launches (s := s.begun) hm⟩
  · rw [exec_catchupWavefront, after_clocked_of_nothing (s := s.begun) (catchupWavefront_waits (s := s.begun) h)]

end Sys2Proof.Machine

/-! SUPPORT. Suspect pairs: the cross-test's chunks, its result, and the copy to a new lane (R307-R309). -/
namespace Sys2Proof.Machine
open Sys2Proof

/-! ### Words after removal and after a list of stores -/

theorem sparseGet_of_mem {α : Type} [DecidableEq α] {d : Nat → α} {t : List (Nat × α)} (hwf : sparseWf d t = true) {e : Nat × α}
    (he : e ∈ t) : sparseGet d t e.1 = e.2 := by
  induction t with
  | nil => cases he
  | cons c r ih =>
    obtain ⟨-, habove, hr⟩ := (sparseWf_cons d c.1 c.2 r).1 hwf
    rcases List.mem_cons.1 he with rfl | hin
    · simp [sparseGet]
    · have hlt := habove e hin
      simp only [sparseGet, Nat.ne_of_lt hlt, if_false, Nat.not_lt.2 (Nat.le_of_lt hlt)]
      exact ih hr hin

theorem sparseGet_of_unlisted {α : Type} {d : Nat → α} {t : List (Nat × α)} {k : Nat} (h : ∀ e ∈ t, e.1 ≠ k) : sparseGet d t k = d k := by
  induction t with
  | nil => rfl
  | cons c r ih =>
    simp only [sparseGet, h c List.mem_cons_self, if_false, ih fun e he => h e (List.mem_cons_of_mem _ he), ite_self]

theorem sparseGet_filter {α : Type} [DecidableEq α] {d : Nat → α} {t : List (Nat × α)} (hwf : sparseWf d t = true) (keep : Nat → Bool)
    (k : Nat) : sparseGet d (t.filter (fun e => keep e.1)) k = if keep k = true then sparseGet d t k else d k := by
  by_cases hlisted : ∃ e ∈ t, e.1 = k
  · obtain ⟨e, he, rfl⟩ := hlisted
    split
    next hk => rw [sparseGet_of_mem (sparseWf_filter d t _ hwf) (List.mem_filter.2 ⟨he, hk⟩), sparseGet_of_mem hwf he]
    next hk => exact sparseGet_of_unlisted fun x hx hxe => hk (hxe ▸ (List.mem_filter.1 hx).2)
  · have hun : ∀ e ∈ t, e.1 ≠ k := fun e he hk => hlisted ⟨e, he, hk⟩
    rw [sparseGet_of_unlisted hun, ite_self, sparseGet_of_unlisted fun e he => hun e (List.mem_filter.1 he).1]

/-- What a word reads once all words but some are back at their reset contents. -/
theorem rd_memKeep {s : State} (hm : s.memOk = true) (keep : Nat → Bool) (x : Nat) :
    rd (applyEff s (.memKeep keep)) x = if keep x = true then rd s x else resetWord x := sparseGet_filter hm keep x

/-- Several stores: a word reads `v` if it did and only `v` is stored in it, or if `v` is stored in it. -/
theorem rd_stores {l : List (Nat × Word)} (place : Nat → Nat) {x : Nat} {v : Word} (honly : ∀ e ∈ l, place e.1 = x → e.2 = v) {s : State}
    (hm : s.memOk = true) (h : rd s x = v ∨ ∃ e ∈ l, place e.1 = x) :
    rd (applyAll (l.map fun e => .mem (place e.1) e.2) s) x = v := by
  induction l generalizing s with
  | nil => exact h.resolve_right fun ⟨e, he, _⟩ => by cases he
  | cons c r ih =>
    refine ih (fun e he => honly e (List.mem_cons_of_mem _ he)) (mem_memOk s _ _ hm) ?_
    rw [rd_mem s _ _ _ hm]
    by_cases hc : x = place c.1
    · exact .inl (by rw [if_pos hc, honly c List.mem_cons_self hc.symm])
    · rw [if_neg hc]
      refine h.imp_right fun ⟨e, he, hx⟩ => ⟨e, ?_, hx⟩
      exact (List.mem_cons.1 he).resolve_left fun hec => hc (by rw [← hx, hec])

/-! ### The copy of a lane (R309) -/

/-- The words of complement pairs are registers. -/
theorem isPairWord_registers {x : Nat} (h : isPairWord x = true) : 0x30000000 ≤ x := by
  unfold isPairWord QCH PIN TWN CRU at h
  simp only [Bool.or_eq_true, Bool.and_eq_true, decide_eq_true_eq] at h
  omega

/-- The words of a lane's memories are zero at reset. -/
theorem resetWord_lanes {x : Nat} (h : 0x28000000 ≤ x) (h' : x < 0x30000000) : resetWord x = 0 := by
  have hpair : isPairWord x = false := Bool.eq_false_iff.2 fun hp => Nat.not_lt.2 (isPairWord_registers hp) h'
  rw [resetWord, hpair, if_neg (by simp), if_neg (by simp only [tblObject]; omega), if_neg (by simp only [tblTarget]; omega),
    if_neg (by simp only [MAC]; omega), if_neg (by simp only [MAC]; omega), if_neg (by omega)]

theorem inLanePart_iff (l k x : Nat) :
    inLanePart l k x = true ↔ laneMem l k ≤ x ∧ x < laneMem l k + (if k = 2 then 16384 else 8192) := by
  rw [inLanePart, Bool.and_eq_true, decide_eq_true_eq, decide_eq_true_eq]

/-- A lane lies in its own 0x40000 words, below the registers. -/
theorem inLanePart_bounds {l k x : Nat} (hl : l < 72) (hk : k < 3) (h : inLanePart l k x = true) :
    0x28000000 + 0x40000 * l + 0x10000 * k ≤ x ∧ x < 0x28000000 + 0x40000 * l + 0x10000 * k + 0x10000 ∧ x < 0x30000000 := by
  rw [inLanePart_iff, laneMem] at h
  split at h <;> omega

theorem inLanePart_place (a b k o : Nat) : inLanePart a k (laneMem a k + o) = inLanePart b k (laneMem b k + o) := by
  simp [inLanePart]

/-- A word lies in one part of one lane only. -/
theorem inLanePart_unique {a b j k x : Nat} (ha : a < 72) (hb : b < 72) (hj : j < 3) (hk : k < 3) (h : inLanePart a j x = true)
    (h' : inLanePart b k x = true) : a = b ∧ j = k := by
  have := inLanePart_bounds ha hj h
  have := inLanePart_bounds hb hk h'
  omega

/-- What is read after one memory of a lane is copied over another's. -/
theorem rd_copyPart {s : State} (hm : s.memOk = true) {a b k : Nat} (hab : a ≠ b) (ha : a < 72) (hb : b < 72) (hk : k < 3) (x : Nat) :
    rd (s.after (copyPart a b k)) x = if inLanePart b k x = true then rd s (laneMem a k + (x - laneMem b k)) else rd s x := by
  have hm' : (applyEff s (.memKeep fun y => !inLanePart b k y)).memOk = true := applyEff_memOk s _ hm
  have hread := rd_memKeep hm fun y => !inLanePart b k y
  rw [copyPart, after_seq_cons, after_seq_cons, after_seq_nil]
  generalize hs' : applyEff s (.memKeep fun y => !inLanePart b k y) = s' at hm' hread
  have hkept : s.after (fun _ => [.memKeep fun y => !inLanePart b k y]) = s' := hs'
  rw [hkept]
  refine rd_stores (fun y => laneMem b k + (y - laneMem a k)) (fun e he hx => ?_) hm' ?_
  · obtain ⟨hin, hpart⟩ := List.mem_filter.1 he
    have hbounds := (inLanePart_iff a k e.1).1 hpart
    have hplace : laneMem a k + (x - laneMem b k) = e.1 := by omega
    have hdst : inLanePart b k x = true := by
      rw [← hx, ← inLanePart_place a, Nat.add_sub_cancel' hbounds.1, hpart]
    have hsrc : inLanePart b k e.1 = false := by
      by_contra hne
      exact hab (inLanePart_unique ha hb hk hk hpart (by simpa using hne)).1
    rw [if_pos hdst, hplace, ← sparseGet_of_mem hm' hin]
    exact (hread e.1).trans (by rw [hsrc]; rfl)
  · split
    next hdst =>
      have hbounds := (inLanePart_iff b k x).1 hdst
      have hpart : inLanePart a k (laneMem a k + (x - laneMem b k)) = true := by
        rw [inLanePart_place a b, Nat.add_sub_cancel' hbounds.1, hdst]
      by_cases hlisted : ∃ e ∈ s'.mem, e.1 = laneMem a k + (x - laneMem b k)
      · obtain ⟨e, he, hat⟩ := hlisted
        exact .inr ⟨e, List.mem_filter.2 ⟨he, by rw [hat]; exact hpart⟩, by omega⟩
      · left
        have hsrc : inLanePart b k (laneMem a k + (x - laneMem b k)) = false := by
          by_contra hne
          exact hab (inLanePart_unique ha hb hk hk hpart (by simpa using hne)).1
        have hzero : rd s (laneMem a k + (x - laneMem b k)) = resetWord (laneMem a k + (x - laneMem b k)) := by
          have hx := hread (laneMem a k + (x - laneMem b k))
          rw [hsrc] at hx
          exact hx.symm.trans (sparseGet_of_unlisted fun e he hat => hlisted ⟨e, he, hat⟩)
        have hba := inLanePart_bounds ha hk hpart
        have hbb := inLanePart_bounds hb hk hdst
        rw [hread x, hdst, hzero, resetWord_lanes (by omega) hba.2.2, Bool.not_true, if_neg Bool.false_ne_true,
          resetWord_lanes (by omega) hbb.2.2]
    next hdst => exact .inl ((hread x).trans (by rw [Bool.not_eq_true _ |>.mp hdst]; rfl))

theorem rd_copyPart_other {s : State} (hm : s.memOk = true) {a b k : Nat} (hab : a ≠ b) (ha : a < 72) (hb : b < 72) (hk : k < 3) {x : Nat}
    (h : inLanePart b k x = false) : rd (s.after (copyPart a b k)) x = rd s x := by
  rw [rd_copyPart hm hab ha hb hk, h, if_neg Bool.false_ne_true]

theorem copyLane_all (a b : Nat) (s : State) :
    s.after (copyLane a b 7) = ((s.after (copyPart a b 2)).after (copyPart a b 0)).after (copyPart a b 1) := by
  have hwhen (i : Nat) (hi : Nat.testBit 7 i = true) (x : Act) (t : State) : t.after (when (fun _ => Nat.testBit 7 i) x) = t.after x :=
    after_congr (when_pos _ _ _ hi)
  rw [copyLane, after_seq_cons, after_seq_cons, after_seq_cons, after_seq_nil, hwhen 0 (by decide), hwhen 1 (by decide), hwhen 2 (by decide)]

/-- A lane copied whole leaves the words outside the three memories alone. -/
theorem rd_copyLane_other {s : State} (hm : s.memOk = true) {a b : Nat} (hab : a ≠ b) (ha : a < 72) (hb : b < 72) {x : Nat}
    (h0 : inLanePart b 0 x = false) (h1 : inLanePart b 1 x = false) (h2 : inLanePart b 2 x = false) :
    rd (s.after (copyLane a b 7)) x = rd s x := by
  have hm2 := after_memOk (copyPart a b 2) hm
  have hm0 := after_memOk (copyPart a b 0) hm2
  rw [copyLane_all, rd_copyPart_other hm0 hab ha hb (by decide) h1, rd_copyPart_other hm2 hab ha hb (by decide) h0,
    rd_copyPart_other hm hab ha hb (by decide) h2]

/-- A lane copied whole has the words of the other one. -/
theorem rd_copyLane_same {s : State} (hm : s.memOk = true) {a b : Nat} (hab : a ≠ b) (ha : a < 72) (hb : b < 72) {k o : Nat} (hk : k < 3)
    (ho : o < (if k = 2 then 16384 else 8192)) : rd (s.after (copyLane a b 7)) (laneMem b k + o) = rd s (laneMem a k + o) := by
  have hm2 := after_memOk (copyPart a b 2) hm
  have hm0 := after_memOk (copyPart a b 0) hm2
  have hin (l : Nat) : inLanePart l k (laneMem l k + o) = true := (inLanePart_iff l k _).2 ⟨by omega, by omega⟩
  have hout (j : Nat) (hj : j < 3) (hjk : j ≠ k) : inLanePart b j (laneMem b k + o) = false := by
    by_contra hne
    exact hjk (inLanePart_unique hb hb hj hk (by simpa using hne) (hin b)).2
  have hsrc (j : Nat) (hj : j < 3) : inLanePart b j (laneMem a k + o) = false := by
    by_contra hne
    exact hab (inLanePart_unique hb ha hj hk (by simpa using hne) (hin a)).1.symm
  have hsame {t : State} (ht : t.memOk = true) : rd (t.after (copyPart a b k)) (laneMem b k + o) = rd t (laneMem a k + o) := by
    rw [rd_copyPart ht hab ha hb hk, if_pos (hin b), Nat.add_sub_cancel_left]
  have hother {t : State} (ht : t.memOk = true) (j : Nat) (hj : j < 3) (hjk : j ≠ k) :
      rd (t.after (copyPart a b j)) (laneMem b k + o) = rd t (laneMem b k + o) := rd_copyPart_other ht hab ha hb hj (hout j hj hjk)
  have hkept {t : State} (ht : t.memOk = true) (j : Nat) (hj : j < 3) :
      rd (t.after (copyPart a b j)) (laneMem a k + o) = rd t (laneMem a k + o) := rd_copyPart_other ht hab ha hb hj (hsrc j hj)
  rw [copyLane_all]
  match k, hk with
  | 0, _ => rw [hother hm0 1 (by decide) (by decide), hsame hm2, hkept hm 2 (by decide)]
  | 1, _ => rw [hsame hm0, hkept hm2 0 (by decide), hkept hm 2 (by decide)]
  | 2, _ => rw [hother hm0 1 (by decide) (by decide), hother hm2 0 (by decide) (by decide), hsame hm]

/-- Bellows, and which lanes are retired for ever. -/
def belOf (s : State) : Bel := s.bel
def retiredOf (s : State) : Nat := s.life.retired

theorem quiet_belOf : Quiet belOf := quiet_of fun _ _ h => congrArg (fun x => x.2.2.2.2.2.1) h

theorem copyPart_bel {a b k : Nat} : Keeps belOf (copyPart a b k) := keeps_acts ⟨fun _ _ => rfl, quiet_belOf.storesOf⟩

theorem copyLane_bel {a b n : Nat} : Keeps belOf (copyLane a b n) :=
  keeps_acts ⟨keeps_when copyPart_bel, keeps_when copyPart_bel, keeps_when copyPart_bel⟩

/-! ### LANE_COPY -/

/-- Mark the rebuilds of a pair as copied. -/
def markCopied (p : Nat) : Act := onBel fun _ b => { b with rebuild := b.rebuild.map (fun q => if q.pair = p then { q with copied := true } else q) }

theorem markCopied_rebuild (t : State) (p : Nat) : ((t.after (markCopied p)).after (report (srcOf BEL) .laneCopy p 0)).bel.rebuild =
    (belOf t).rebuild.map (fun q => if q.pair = p then { q with copied := true } else q) := rfl

theorem markCopied_rd (t : State) (p : Nat) : rd ((t.after (markCopied p)).after (report (srcOf BEL) .laneCopy p 0)) = rd t := rfl

section
variable {s : State} {p a b : Nat}
  (hr : s.bel.rebuild = [{ pair := p, lanes := (a, b), new := [b], reload := false, copied := false }]) (hab : a ≠ b)
include hr hab

theorem laneCopy_waits (h : (lanesRun s && copyOpen s a b) = false) : s.after (laneCopy p) = s := by
  simp [State.after, laneCopy, hr, hab, h]

theorem after_laneCopy (hrun : lanesRun s = true) (hopen : copyOpen s a b = true) :
    s.after (laneCopy p) = ((s.after (copyLane a b 7)).after (markCopied p)).after (report (srcOf BEL) .laneCopy p 0) := by
  refine Eq.trans (b := s.after (seq [each [b] fun n => copyLane a n 7, markCopied p, report (srcOf BEL) .laneCopy p 0])) (after_congr ?_) ?_
  · simp [laneCopy, hr, hab, hrun, hopen, markCopied]
  · have heach : s.after (each [b] fun n => copyLane a n 7) = s.after (copyLane a b 7) := by
      rw [each, List.map_cons, List.map_nil, after_seq_cons, after_seq_nil]
    rw [after_seq_cons, after_seq_cons, after_seq_cons, after_seq_nil, heach]

theorem laneCopy_rebuild (hm : s.memOk = true) (hrun : lanesRun s = true) (hopen : copyOpen s a b = true) :
    (s.after (laneCopy p)).bel.rebuild = [{ pair := p, lanes := (a, b), new := [b], reload := false, copied := true }] := by
  have hbel : belOf (s.after (copyLane a b 7)) = s.bel := copyLane_bel.after hm
  rw [after_laneCopy hr hab hrun hopen, markCopied_rebuild, hbel, hr, List.map_cons, if_pos rfl, List.map_nil]

theorem laneCopy_rd (hrun : lanesRun s = true) (hopen : copyOpen s a b = true) :
    rd (s.after (laneCopy p)) = rd (s.after (copyLane a b 7)) := by
  rw [after_laneCopy hr hab hrun hopen, markCopied_rd]
end

/-! ### CROSS_TEST_CHUNK -/

section
variable {s : State} {x : CrossTest} (ht : s.bel.test = some x)
include ht

omit ht in
theorem after_when_neg {c : State → Bool} {a : Act} {u : State} (h : c u = false) : u.after (when c a) = u := by
  rw [State.after, when_neg c a u h, applyAll_nil]

/-- While a test runs none is started. -/
theorem after_test_runs : s.after (when (fun s => s.bel.test.isNone) startTest) = s := by
  refine after_when_neg ?_
  rw [ht, Option.isNone_some]

theorem crossTestChunk_waits (h : (lanesRun s && testOpen s (testedLane x)) = false) : s.after (crossTestChunk true) = s := by
  have hact : s.after (crossTestChunk true) = s.after (seq [when (fun s => s.bel.test.isNone) startTest, nop]) := by
    refine after_congr ?_
    simp [crossTestChunk, seq, when, ht, h, nop]
  rw [hact, after_seq_cons, after_test_runs ht]
  rfl

/-- A matched chunk in the slack: the next chunk, or the lane's test is over. -/
theorem after_crossTestChunk (hrun : lanesRun s = true) (hopen : testOpen s (testedLane x) = true) : s.after (crossTestChunk true) =
    if x.chunk = 127 then s.after (nextLane x) else s.after (onBel fun _ b => { b with test := some { x with chunk := x.chunk + 1 } }) := by
  have hact : (if x.chunk = 127 then s.after (nextLane x) else s.after (onBel fun _ b => { b with test := some { x with chunk := x.chunk + 1 } }))
      = s.after (if x.chunk = 127 then nextLane x else onBel fun _ b => { b with test := some { x with chunk := x.chunk + 1 } }) := by
    split <;> rfl
  rw [hact, crossTestChunk, after_seq_cons, after_test_runs ht, after_seq_cons, after_seq_nil]
  refine after_congr ?_
  simp only [ht, hrun, hopen, Bool.and_true, Bool.not_true, Bool.false_eq_true, if_false]
  split <;> rfl
end

theorem nextLane_first {x : CrossTest} (hw : x.which = 0) (s : State) : ∃ y, s.after (nextLane x) =
    s.after (onBel fun _ b => { b with test := some { x with which := 1, chunk := 0, tester := y } }) :=
  ⟨_, by rw [State.after, nextLane, if_neg (by omega)]; rfl⟩

theorem nextLane_second {x : CrossTest} (hw : x.which = 1) (s : State) : s.after (nextLane x) = s.after (crossTestResult x) :=
  after_congr (by rw [nextLane, if_pos hw])

/-- Up to the lanes at fault a result is the same whatever they are: the test is over, counted and reported, the suspect bit cleared. -/
def resultFirst (x : CrossTest) : List Act := [
  onBel fun _ b => { b with test := none, poolSuspect := b.poolSuspect.filter (fun e => e != x.lanes) },
  bump (BEL + 4) 35 24 1, ringLane, report (srcOf BEL) .crossTest x.pair x.bad.length]

theorem crossTestResult_clean {x : CrossTest} (hbad : x.bad = []) (hp : x.pair < 32) (s : State) : s.after (crossTestResult x) =
    ((s.after (seq (resultFirst x))).after (clrBits (BEL + 2) (2 ^ x.pair))).after (bump (BEL + 4) 23 12 1) := by
  have hsplit : crossTestResult x = seq (resultFirst x ++ [when (fun _ => decide (x.pair < 32)) (clrBits (BEL + 2) (2 ^ x.pair)),
      bump (BEL + 4) 23 12 1]) := by simp [crossTestResult, hbad, resultFirst]
  rw [hsplit, after_seq_append, after_seq_cons, after_seq_cons, after_seq_nil]
  simp [State.after, when, hp]

theorem crossTestResult_one {x : CrossTest} {a b : Nat} (hbad : x.bad = [(a, b)]) (hp : x.pair < 32) (s : State) :
    s.after (crossTestResult x) = (((s.after (seq (resultFirst x))).after (clrBits (BEL + 2) (2 ^ x.pair))).after (retireLane a)).after
      (reform x.pair (replaceLane x.lanes a b) [b] false) := by
  have hsplit : crossTestResult x = seq (resultFirst x ++ [when (fun _ => decide (x.pair < 32)) (clrBits (BEL + 2) (2 ^ x.pair)),
      seq [retireLane a, when (fun _ => decide (x.pair < 32)) (reform x.pair (replaceLane x.lanes a b) [b] false)]]) := by
    simp [crossTestResult, hbad, resultFirst]
  rw [hsplit, after_seq_append, after_seq_cons, after_seq_cons, after_seq_nil, after_seq_cons, after_seq_cons, after_seq_nil]
  simp [State.after, when, hp]

theorem resultFirst_bel {x : CrossTest} {s : State} (hm : s.memOk = true) : belOf (s.after (seq (resultFirst x))) =
    belOf (s.after (onBel fun _ b => { b with test := none, poolSuspect := b.poolSuspect.filter (fun e => e != x.lanes) })) := by
  have h := quiet_belOf
  have hrest : Keeps belOf (seq (resultFirst x).tail) := keeps_acts ⟨h.bump, h.ringLane, h.report⟩
  rw [resultFirst, after_seq_cons]
  exact hrest.after (after_memOk _ hm)

theorem resultFirst_test {x : CrossTest} {s : State} (hm : s.memOk = true) : (s.after (seq (resultFirst x))).bel.test = none :=
  congrArg Bel.test (resultFirst_bel hm)

theorem resultFirst_rebuild {x : CrossTest} {s : State} (hm : s.memOk = true) :
    (s.after (seq (resultFirst x))).bel.rebuild = s.bel.rebuild := by
  have hrebuild := congrArg Bel.rebuild (resultFirst_bel (x := x) hm)
  exact hrebuild

theorem bump_retired {a hi lo n : Nat} : Keeps retiredOf (bump a hi lo n) := fun _ _ => rfl

theorem report_retired {src d0 d1 : Nat} {e : Event} : Keeps retiredOf (report src e d0 d1) := fun _ _ => rfl

theorem life_retired {i n : Nat} : Keeps retiredOf (life i n) := fun _ _ => rfl

theorem clrBits_retired {a m : Nat} : Keeps retiredOf (clrBits a m) := fun _ _ => rfl

theorem ringLane_retired : Keeps retiredOf ringLane := keeps_acts ⟨fun _ _ => rfl, fun _ _ => rfl⟩

theorem resultFirst_retired {x : CrossTest} : Keeps retiredOf (seq (resultFirst x)) :=
  keeps_acts ⟨fun _ _ => rfl, bump_retired, ringLane_retired, report_retired⟩

theorem retireLane_retired {n : Nat} {s : State} (hm : s.memOk = true) : retiredOf (s.after (retireLane n)) = retiredOf s ||| 2 ^ n := by
  rw [retireLane, after_seq_cons]
  have hrest : Keeps retiredOf (seq [life 14 1, bump (BEL + 4) 11 0 1, ringLane, report (srcOf BEL) .laneRetired n 0]) :=
    keeps_acts ⟨life_retired, bump_retired, ringLane_retired, report_retired⟩
  exact hrest.after (after_memOk _ hm)

theorem retireLane_bel {n : Nat} : Keeps belOf (retireLane n) := by
  have h := quiet_belOf
  exact keeps_acts ⟨fun _ _ => rfl, fun _ _ => rfl, h.bump, h.ringLane, h.report⟩

section
variable (s : State) (p : Nat) (lanes : Nat × Nat) (new : List Nat) (reload : Bool)

theorem reform_test : (s.after (reform p lanes new reload)).bel.test = s.bel.test := rfl
theorem reform_retired : (s.after (reform p lanes new reload)).life.retired = s.life.retired := rfl
theorem reform_rebuild : (s.after (reform p lanes new reload)).bel.rebuild =
    s.bel.rebuild ++ [{ pair := p, lanes := lanes, new := new, reload := reload, copied := false }] := rfl
end

theorem flag_cleared (w : Word) {i : Nat} (h : i < 36) : flag (w &&& ~~~ wd (2 ^ i)) i = false := by
  rw [flag, BitVec.getLsbD_and, BitVec.getLsbD_not, wd, BitVec.getLsbD_ofNat, Nat.testBit_two_pow_self]
  simp [h]

theorem clrBits_flag {s : State} (hm : s.memOk = true) (a : Nat) {i : Nat} (h : i < 36) :
    flag (rd (s.after (clrBits a (2 ^ i))) a) i = false := by
  have hword : rd (s.after (clrBits a (2 ^ i))) a = rd s a &&& ~~~ wd (2 ^ i) := rd_poke s a _ hm
  rw [hword, flag_cleared _ h]

/-- The transient count after the first part of a result is as it was. -/
theorem resultFirst_transients {x : CrossTest} {s : State} (hm : s.memOk = true) :
    rdF (s.after (seq (resultFirst x))) (BEL + 4) 23 12 = rdF s (BEL + 4) 23 12 := by
  have hlast : Keeps (fun t => rd t (BEL + 4)) (seq [ringLane, report (srcOf BEL) .crossTest x.pair x.bad.length]) :=
    keeps_acts ⟨keeps_acts ⟨keeps_setBits _ _ _ (by decide), keeps_setBits _ _ _ (by decide)⟩, fun _ _ => rfl⟩
  rw [resultFirst, after_seq_cons, after_seq_cons, rdF, hlast.after (after_memOk _ (after_memOk _ hm))]
  refine (congrArg (fld · 23 12) (rd_poke _ _ _ (after_memOk _ hm))).trans ?_
  exact fld_setFld_below _ _ _ _ _ _ (by decide) (by decide) (by decide)

section
variable {s : State} {x : CrossTest} (hm : s.memOk = true) (hp : x.pair < 32)
include hm hp

/-- The result without a lane at fault: a transient (R308). -/
theorem crossTestResult_transient (hbad : x.bad = []) : (s.after (crossTestResult x)).bel.test = none ∧
    flag (rd (s.after (crossTestResult x)) (BEL + 2)) x.pair = false ∧ (s.after (crossTestResult x)).life.retired = s.life.retired ∧
    rdF (s.after (crossTestResult x)) (BEL + 4) 23 12 = min 4095 (rdF s (BEL + 4) 23 12 + 1) := by
  have hfirst := after_memOk (seq (resultFirst x)) hm
  have hclr := after_memOk (clrBits (BEL + 2) (2 ^ x.pair)) hfirst
  have hbel := (quiet_belOf.bump (a := BEL + 4) (hi := 23) (lo := 12) (n := 1)).after hclr
  rw [quiet_belOf.clrBits.after hfirst] at hbel
  have hret := (bump_retired (a := BEL + 4) (hi := 23) (lo := 12) (n := 1)).after hclr
  rw [clrBits_retired.after hfirst, resultFirst_retired.after hm] at hret
  have htest : (belOf (s.after (seq (resultFirst x)))).test = none := resultFirst_test hm
  rw [← hbel] at htest
  rw [crossTestResult_clean hbad hp]
  refine ⟨htest, ?_, hret, ?_⟩
  · rw [(keeps_bump (BEL + 4) (BEL + 2) 23 12 1 (by decide)).after hclr, clrBits_flag hfirst _ (by omega)]
  · rw [rdF_bump hclr (BEL + 4) 1 (by decide) (by decide), rdF, (keeps_clrBits (BEL + 2) (BEL + 4) _ (by decide)).after hfirst,
      ← rdF, resultFirst_transients hm,
      show 2 ^ (23 + 1 - 12) - 1 = 4095 by decide]

/-- The result with one lane at fault: it is retired, and its tester stands in its place (R308). -/
theorem crossTestResult_retires {a b : Nat} (hbad : x.bad = [(a, b)]) : (s.after (crossTestResult x)).bel.test = none ∧
    (s.after (crossTestResult x)).life.retired = s.life.retired ||| 2 ^ a ∧ (s.after (crossTestResult x)).bel.rebuild = s.bel.rebuild ++
      [{ pair := x.pair, lanes := replaceLane x.lanes a b, new := [b], reload := false, copied := false }] := by
  have hfirst := after_memOk (seq (resultFirst x)) hm
  have hclr := after_memOk (clrBits (BEL + 2) (2 ^ x.pair)) hfirst
  have hbel := (retireLane_bel (n := a)).after hclr
  rw [quiet_belOf.clrBits.after hfirst] at hbel
  have hret := retireLane_retired (n := a) hclr
  rw [clrBits_retired.after hfirst, resultFirst_retired.after hm] at hret
  have htest : (belOf (s.after (seq (resultFirst x)))).test = none := resultFirst_test hm
  have hreb : (belOf (s.after (seq (resultFirst x)))).rebuild = s.bel.rebuild := resultFirst_rebuild hm
  rw [← hbel] at htest hreb
  rw [crossTestResult_one hbad hp, reform_test, reform_retired, reform_rebuild]
  exact ⟨htest, hret, congrArg (· ++ _) hreb⟩
end

theorem exec_crossTestChunk (matched : Bool) (s : State) :
    exec (.crossTestChunk matched) s = .next (s.begun.after (crossTestChunk matched)) := rfl

/-- Settles O34: a chunk is one branch of CROSS_TEST_CHUNK, its result is read act by act, and a copy is three memories, each cleared and
then stored word by word from the surviving lane's. -/
theorem suspectPairsAreTestedAndReformed : Obligations.SuspectPairsAreTestedAndReformed := by
  intro s x p a b hm
  have hm' : s.begun.memOk = true := hm
  refine ⟨fun ht h => congrArg Host.Outcome.next (crossTestChunk_waits (s := s.begun) ht h), fun ht hrun hopen => ?_, fun hr hab ha hb => ?_⟩
  · have hexec := exec_crossTestChunk true s
    rw [after_crossTestChunk (s := s.begun) ht hrun hopen] at hexec
    refine ⟨fun hc => ?_, fun hc hw => ?_, fun hc hw hbad hp => ?_, fun hc hw hbad hp => ?_⟩
    · rw [if_neg hc] at hexec
      exact ⟨_, hexec, rfl, rfl⟩
    · obtain ⟨y, hy⟩ := nextLane_first hw s.begun
      rw [if_pos hc, hy] at hexec
      exact ⟨_, y, hexec, rfl, rfl⟩
    · rw [if_pos hc, nextLane_second hw] at hexec
      exact ⟨_, hexec, crossTestResult_transient hm' hp hbad⟩
    · rw [if_pos hc, nextLane_second hw] at hexec
      exact ⟨_, hexec, crossTestResult_retires hm' hp hbad⟩
  · refine ⟨fun h => congrArg Host.Outcome.next (laneCopy_waits (s := s.begun) hr hab h),
      fun hrun hopen => ⟨s.begun.after (laneCopy p), rfl, ?_⟩⟩
    have hread := laneCopy_rd (s := s.begun) hr hab hrun hopen
    refine ⟨laneCopy_rebuild (s := s.begun) hr hab hm' hrun hopen, fun k o hk ho => ?_, fun y h0 h1 h2 => ?_⟩
    · rw [hread, rd_copyLane_same hm' hab ha hb hk ho]
      rfl
    · rw [hread, rd_copyLane_other hm' hab ha hb h0 h1 h2]
      rfl

end Sys2Proof.Machine

/-! SUPPORT. The delay lines: a window read, the head written back, a jump's window (R171-R174, R456). -/
namespace Sys2Proof.Machine
open Sys2Proof

/-- The render and the device's state, which no read and no write of DRAM moves. -/
def linesPart (s : State) := (s.wav, s.sys)

theorem quiet_linesPart : Quiet linesPart := quiet_of fun _ _ h => congrArg (fun (sys, _, _, _, _, _, wav, _) => (wav, sys)) h

theorem linesPart_after {a : Act} {s : State} (h : Keeps linesPart a) (hm : s.memOk = true) :
    (s.after a).wav = s.wav ∧ (s.after a).sys = s.sys := Prod.ext_iff.1 (h.after hm)

/-! ### A line set -/

/-- The render with another line l. -/
def Wav.withLine (w : Wav) (l : Nat) (x : Line) : Wav := { w with lines := sparseSet (fun _ => Line.init) w.lines l x }

theorem setLine_wav (s : State) (l : Nat) (f : Line → Line) : (s.after (setLine l f)).wav = s.wav.withLine l (f (lineOf s l)) := rfl

theorem setLine_rd (s : State) (l : Nat) (f : Line → Line) : rd (s.after (setLine l f)) = rd s := rfl

theorem onSys_rd (s : State) (g : State → Sys → Sys) : rd (s.after (onSys g)) = rd s := rfl

theorem setLine_sys (s : State) (l : Nat) (f : Line → Line) : (s.after (setLine l f)).sys = s.sys := rfl

theorem lineOf_congr {s t : State} (h : t.wav = s.wav) (l : Nat) : lineOf t l = lineOf s l := by rw [lineOf, h, lineOf]

/-- A line set twice, to lines that are not empty ones, is the line set to the second. -/
theorem withLine_withLine {w : Wav} {l : Nat} {x y : Line} (hx : x ≠ Line.init) (hy : y ≠ Line.init) :
    (w.withLine l x).withLine l y = w.withLine l y := by
  simp only [Wav.withLine, sparseSet, if_neg hx, if_neg hy, sparsePut_put]

theorem line_withLine {s : State} {l : Nat} {x : Line} (hx : x ≠ Line.init) :
    sparseGet (fun _ => Line.init) (s.wav.withLine l x).lines l = x := by
  simp only [Wav.withLine, sparseSet, if_neg hx, sparseGet_put_same]

theorem windowFrom_length (s : State) (l p : Nat) : (windowFrom s l p).length = 512 := by rw [windowFrom, List.length_map, List.length_range]

/-- A line with a window of 512 samples as its tail is not an empty one. -/
theorem line_ne_init {x : Line} (h : x.tail.length = 512) : x ≠ Line.init := fun hinit => by
  rw [hinit] at h
  cases h

/-! ### TAIL_FILL -/

/-- The line with a window as its tail; where the window holds the full lead the line is fed again. -/
def Line.filled (x : Line) (p : Nat) (w : List (Option Int)) (full : Bool) : Line :=
  { x with tailAt := p, tail := w, fade := { x.fade with lost := x.fade.lost && !full } }

/-- What a window that holds the full lead does beside setting the tail. -/
def feedAgain (l : Nat) : Act := seq [
  setLine l fun x => { x with fade := { x.fade with lost := false } },
  clrBits (WAV + 0xA0 + l / 32) (2 ^ (l % 32)),
  onSys fun _ y => { y with prefetched := if y.prefetched.contains l then y.prefetched else y.prefetched ++ [l] }]

/-- TAIL_FILL with the window in hand. -/
def setTail (s : State) (l p : Nat) (w : List (Option Int)) : Act := seq [
  countReads s l p, setLine l fun x => { x with tailAt := p, tail := w }, when (fun _ => holdsLead s p w) (feedAgain l)]

theorem after_tailFill {s : State} {l p : Nat} (hl : l < 2048) (hup : dramUp s = true) (hp : p = renderN s - (lineDelay s l (renderN s) + 4)) :
    s.after (tailFill l) = s.after (setTail s l p (windowFrom s l p)) := by
  have hgo : (decide (2048 ≤ l) || !dramUp s) = false := by rw [hup, decide_eq_false (by omega)]; rfl
  refine after_congr ?_
  rw [tailFill, hgo, hp]
  rfl

theorem countReads_nothing {s : State} {l p : Nat} (h : windowReads s l p = []) (t : State) : t.after (countReads s l p) = t := by
  rw [countReads, h]
  rfl

theorem feedAgain_wav (s : State) (l : Nat) : (s.after (feedAgain l)).wav =
    s.wav.withLine l { lineOf s l with fade := { (lineOf s l).fade with lost := false } } := rfl

theorem feedAgain_sys (s : State) (l : Nat) : (s.after (feedAgain l)).sys =
    { s.sys with prefetched := if s.sys.prefetched.contains l then s.sys.prefetched else s.sys.prefetched ++ [l] } := rfl

theorem feedAgain_rd (s : State) (l : Nat) : rd (s.after (feedAgain l)) = rd ((s.after
    (setLine l fun x => { x with fade := { x.fade with lost := false } })).after (clrBits (WAV + 0xA0 + l / 32) (2 ^ (l % 32)))) := by
  rw [feedAgain, after_seq_cons, after_seq_cons, after_seq_cons, after_seq_nil]
  exact onSys_rd _ _

theorem feedAgain_flag {s : State} (hm : s.memOk = true) (l : Nat) :
    flag (rd (s.after (feedAgain l)) (WAV + 0xA0 + l / 32)) (l % 32) = false := by
  rw [feedAgain_rd]
  exact clrBits_flag (after_memOk _ hm) _ (by omega)

theorem feedAgain_rd_other {s : State} (hm : s.memOk = true) {l b : Nat} (hb : b ≠ WAV + 0xA0 + l / 32) :
    rd (s.after (feedAgain l)) b = rd s b := by
  rw [feedAgain_rd, (keeps_clrBits _ b _ hb).after (after_memOk _ hm), setLine_rd]

section
variable {s : State} {l p : Nat} {w : List (Option Int)} (hm : s.memOk = true)
include hm

theorem setTail_short (hshort : holdsLead s p w = false) :
    (s.after (setTail s l p w)).wav = s.wav.withLine l ((lineOf s l).filled p w false) ∧ (s.after (setTail s l p w)).sys = s.sys ∧
      (windowReads s l p = [] → rd (s.after (setTail s l p w)) = rd s) := by
  obtain ⟨hwav, hsys⟩ := linesPart_after (quiet_linesPart.countReads (s := s) (l := l) (p := p)) hm
  have hskip (t : State) : t.after (when (fun _ => holdsLead s p w) (feedAgain l)) = t := after_when_neg hshort
  simp only [setTail, after_seq_cons, after_seq_nil, hskip, setLine_wav, setLine_rd, setLine_sys, lineOf_congr hwav, hwav, hsys, Line.filled,
    Bool.not_false, Bool.and_true, true_and]
  exact fun hnone => by rw [countReads_nothing hnone]

theorem setTail_full (hlen : w.length = 512) (hfull : holdsLead s p w = true) :
    (s.after (setTail s l p w)).wav = s.wav.withLine l ((lineOf s l).filled p w true) ∧ l ∈ (s.after (setTail s l p w)).sys.prefetched ∧
      flag (rd (s.after (setTail s l p w)) (WAV + 0xA0 + l / 32)) (l % 32) = false ∧
      (windowReads s l p = [] → SameBut s (s.after (setTail s l p w)) [WAV + 0xA0 + l / 32]) := by
  obtain ⟨hwav, -⟩ := linesPart_after (quiet_linesPart.countReads (s := s) (l := l) (p := p)) hm
  have hcm := after_memOk (countReads s l p) hm
  have hnone : windowReads s l p = [] → rd (s.after (countReads s l p)) = rd s := fun h => by rw [countReads_nothing h]
  have hfeed (t : State) : t.after (when (fun _ => holdsLead s p w) (feedAgain l)) = t.after (feedAgain l) := after_congr (when_pos _ _ _ hfull)
  rw [setTail, after_seq_cons, after_seq_cons, after_seq_cons, after_seq_nil, hfeed]
  generalize s.after (countReads s l p) = c at hwav hcm hnone
  have hset := setLine_wav c l fun x => { x with tailAt := p, tail := w }
  have hrd := setLine_rd c l fun x => { x with tailAt := p, tail := w }
  have hsm := after_memOk (setLine l fun x => { x with tailAt := p, tail := w }) hcm
  rw [lineOf_congr hwav, hwav] at hset
  generalize c.after (setLine l fun x => { x with tailAt := p, tail := w }) = u at hset hrd hsm
  have hx : { lineOf s l with tailAt := p, tail := w } ≠ Line.init := line_ne_init hlen
  have hline : lineOf u l = { lineOf s l with tailAt := p, tail := w } := by
    rw [lineOf, hset]
    exact line_withLine hx
  refine ⟨?_, ?_, feedAgain_flag hsm l, fun h b hb => ?_⟩
  · rw [feedAgain_wav, hline, hset, withLine_withLine hx (line_ne_init hlen), Line.filled, Bool.not_true, Bool.and_false]
  · rw [feedAgain_sys]
    dsimp only
    split
    next h => simpa using h
    next => simp
  · rw [feedAgain_rd_other hsm fun h => hb (List.mem_singleton.2 h), hrd, hnone h]
end

/-- TAIL_FILL sets the line's tail, and its fade where the window holds the full lead. -/
theorem tailFill_sets {s : State} {l p : Nat} (hm : s.memOk = true) (hl : l < 2048) (hup : dramUp s = true)
    (hp : p = renderN s - (lineDelay s l (renderN s) + 4)) :
    (s.after (tailFill l)).wav = s.wav.withLine l ((lineOf s l).filled p (windowFrom s l p) (holdsLead s p (windowFrom s l p))) ∧
      (holdsLead s p (windowFrom s l p) = true → l ∈ (s.after (tailFill l)).sys.prefetched ∧
        flag (rd (s.after (tailFill l)) (WAV + 0xA0 + l / 32)) (l % 32) = false) ∧
      (holdsLead s p (windowFrom s l p) = false → (s.after (tailFill l)).sys = s.sys) ∧
      (windowReads s l p = [] → SameBut s (s.after (tailFill l)) [WAV + 0xA0 + l / 32]) := by
  rw [after_tailFill hl hup hp]
  have hlen := windowFrom_length s l p
  generalize windowFrom s l p = w at hlen
  cases hlead : holdsLead s p w with
  | false =>
    obtain ⟨hwav, hsys, hrd⟩ := setTail_short (l := l) hm hlead
    exact ⟨hwav, fun h => absurd h Bool.false_ne_true, fun _ => hsys, fun hnone b _ => congrFun (hrd hnone) b⟩
  | true =>
    obtain ⟨hwav, hfed, hflag, hrd⟩ := setTail_full (l := l) hm hlen hlead
    exact ⟨hwav, fun _ => ⟨hfed, hflag⟩, fun h => absurd h.symm Bool.false_ne_true, hrd⟩

/-! ### HEAD_WRITE_BACK -/

/-- A write-back under way, that began in `s`: no write waits, no channel failed, and no word below the delay lines changed but the dies'
own register. -/
structure WritesBack (s t : State) : Prop where
  mem : t.memOk = true
  queue : t.drc.queue = []
  live : ∀ c, c < 4 → flag (rd t DRC) (32 + c) = false
  wav : t.wav = s.wav
  low : ∀ a, a < 0x48000000 → a ≠ DRC → rd t a = rd s a

theorem writesBack_start {s : State} (hm : s.memOk = true) (hq : s.drc.queue = []) (h0 : chanFailed s 0 = false) (h4 : chanFailed s 4 = false)
    (h8 : chanFailed s 8 = false) (h12 : chanFailed s 12 = false) : WritesBack s s where
  mem := hm
  queue := hq
  live c hc := match c, hc with
    | 0, _ => h0
    | 1, _ => h4
    | 2, _ => h8
    | 3, _ => h12
  wav := rfl
  low _ _ _ := rfl

/-- The last act of a store: the lap that a delay-line word carries (R442). -/
def keepLap (a lap : Nat) : Act := when (fun s => inLines a && lapOf s a != lap % 16)
  (onDrc fun _ d => { d with laps := sparseSet (fun _ => 0) d.laps a (lap % 16) })

/-- With no write waiting and its channel at work, a word is stored at once. -/
theorem after_dramPut {s t : State} (h : WritesBack s t) (a : Nat) (w : Word) (lap : Nat) :
    t.after (dramPut a w lap) = ((t.after (wake a)).after (poke a w)).after (keepLap a lap) := by
  have hmeets : meetsWrite t a = false := by rw [meetsWrite, h.queue, List.any_nil]
  have hissue : t.after (issueRowWrites a) = t := by
    rw [State.after, issueRowWrites, hmeets]
    rfl
  have hchan : chanFailed t a = false := h.live _ (bits_lt a 3 2)
  have hstore : t.after (dramStoreSlot a w lap) = t.after (seq [wake a, poke a w, keepLap a lap]) := after_congr (by
    rw [dramStoreSlot, hchan]
    rfl)
  rw [dramPut, after_seq_cons, after_seq_cons, after_seq_nil, hissue, hstore, after_seq_cons, after_seq_cons, after_seq_cons, after_seq_nil]

/-- A bit that is clear stays clear where bits are cleared. -/
theorem clrBits_live {s : State} (hm : s.memOk = true) {a m j : Nat} (h : flag (rd s a) j = false) :
    flag (rd (s.after (clrBits a m)) a) j = false := by
  have hword : rd (s.after (clrBits a m)) a = rd s a &&& ~~~ wd m := rd_poke s a _ hm
  rw [flag] at h
  rw [hword, flag, BitVec.getLsbD_and, h, Bool.false_and]

theorem wake_live {a j : Nat} : Preserves (fun t => flag (rd t DRC) j = false) (wake a) :=
  preserves_acts ⟨preserves_when fun _ hm _ h => clrBits_live hm h, fun _ _ h => h⟩

theorem wake_rd {a b : Nat} (hb : b ≠ DRC) : Keeps (fun t => rd t b) (wake a) :=
  keeps_acts ⟨keeps_when (keeps_clrBits DRC b _ hb), fun _ _ => rfl⟩

/-- The queue of the channels. -/
def queueOf (s : State) : List DramReq := s.drc.queue

theorem clrBits_queue {a m : Nat} : Keeps queueOf (clrBits a m) := fun _ _ => rfl

theorem wake_queue {a : Nat} : Keeps queueOf (wake a) := keeps_acts ⟨keeps_when clrBits_queue, fun _ _ => rfl⟩

theorem keepLap_queue {a lap : Nat} : Keeps queueOf (keepLap a lap) := keeps_when fun _ _ => rfl

theorem keepLap_rd {a lap : Nat} : Keeps rd (keepLap a lap) := keeps_when fun _ _ => rfl

/-- What a store of the write-back reads as afterwards. -/
theorem dramPut_rd {s t : State} (h : WritesBack s t) (a : Nat) (w : Word) (lap : Nat) {b : Nat} (hb : b ≠ DRC) :
    rd (t.after (dramPut a w lap)) b = if b = a then w else rd t b := by
  have hwoken := after_memOk (wake a) h.mem
  have hword : rd ((t.after (wake a)).after (poke a w)) b = if b = a then w else rd (t.after (wake a)) b := rd_mem _ a b w hwoken
  rw [after_dramPut h, keepLap_rd.after (after_memOk _ hwoken), hword, (wake_rd hb).after h.mem]

theorem writesBack_dramPut {s t : State} (h : WritesBack s t) {a : Nat} (ha : 0x48000000 ≤ a) (w : Word) (lap : Nat) :
    WritesBack s (t.after (dramPut a w lap)) where
  mem := after_memOk _ h.mem
  queue := by
    rw [after_dramPut h]
    exact (keepLap_queue.after (after_memOk _ (after_memOk _ h.mem))).trans ((wake_queue.after h.mem).trans h.queue)
  live c hc := by
    have hwoken := after_memOk (wake a) h.mem
    have hword : rd ((t.after (wake a)).after (poke a w)) DRC = rd (t.after (wake a)) DRC :=
      rd_poke_other _ a DRC w hwoken (by unfold DRC; omega)
    rw [after_dramPut h, keepLap_rd.after (after_memOk _ hwoken), hword]
    exact wake_live t h.mem (h.live c hc)
  wav := (congrArg Prod.fst (quiet_linesPart.dramPut.after h.mem)).trans h.wav
  low b hb hd := by rw [dramPut_rd h _ _ _ hd, if_neg (by omega), h.low b hb hd]

section
variable {s t : State} (h : WritesBack s t) {l : Nat} (hl : l < 2048)
include h

theorem writesBack_renderN : renderN t = renderN s := by
  have halign : align t = align s := by rw [align, rdF, h.low TWN (by decide) (by decide), align, rdF]
  rw [renderN, halign, h.wav, renderN]

include hl

theorem writesBack_lineLen : lineLen (rd t) l = lineLen (rd s) l := by
  rw [lineLen, h.low (tblLineLen + l) (by unfold tblLineLen; omega) (by unfold tblLineLen DRC; omega), lineLen]

theorem writesBack_lineAddr (p : Nat) : lineAddr (rd t) l p = lineAddr (rd s) l p := by
  have hstart : (List.range l).map (lineLen (rd t)) = (List.range l).map (lineLen (rd s)) :=
    List.map_congr_left fun j hj => writesBack_lineLen h (by have := List.mem_range.1 hj; omega)
  rw [lineAddr, lineStart, hstart, writesBack_lineLen h hl, lineAddr, lineStart]
end

/-- The store that one age of the head asks for: its word's address and the word, none where a correction dropped the sample. -/
def backStore (s : State) (l age : Nat) : Option (Nat × Word) :=
  ((lineOf s l).head.getD age none).map fun v => (lineAddr (rd s) l (renderN s - age), wdI v)

/-- The write of one age of the head. -/
def backWrite (x : Line) (l age : Nat) : Act := fun s =>
  match x.head.getD age none with
  | some v => dramPut (lineAddr (rd s) l (renderN s - age)) (wdI v) ((renderN s - age) / max 1 (lineLen (rd s) l) % 16) s
  | none => []

theorem lineAddr_low (m : Rd) (l p : Nat) : 0x48000000 ≤ lineAddr m l p := by
  rw [lineAddr, lineStart]
  omega

/-- One age written: the write-back goes on, and the age's word reads as its sample. -/
theorem writesBack_backWrite {s t : State} (h : WritesBack s t) {l : Nat} (hl : l < 2048) (age : Nat) :
    WritesBack s (t.after (backWrite (lineOf s l) l age)) ∧ ∀ b, b ≠ DRC → rd (t.after (backWrite (lineOf s l) l age)) b =
      match backStore s l age with
      | some (a, w) => if b = a then w else rd t b
      | none => rd t b := by
  rw [State.after, backWrite, backStore]
  cases (lineOf s l).head.getD age none with
  | none => exact ⟨h, fun _ _ => rfl⟩
  | some v =>
    dsimp only [Option.map_some]
    rw [← writesBack_lineAddr h hl, ← writesBack_renderN h]
    exact ⟨writesBack_dramPut h (lineAddr_low _ _ _) _ _, fun b hb => dramPut_rd h _ _ _ hb⟩

/-- Ages written in turn: a word reads as `v` if only `v` is stored in it and it read so before or one of them stores it. -/
theorem writesBack_each {s : State} {l : Nat} (hl : l < 2048) {x : Nat} (hx : x ≠ DRC) {v : Word} (ages : List Nat)
    (honly : ∀ age ∈ ages, ∀ w, backStore s l age = some (x, w) → w = v) {t : State} (h : WritesBack s t)
    (hv : rd t x = v ∨ ∃ age ∈ ages, backStore s l age = some (x, v)) :
    WritesBack s (t.after (each ages (backWrite (lineOf s l) l))) ∧ rd (t.after (each ages (backWrite (lineOf s l) l))) x = v := by
  induction ages generalizing t with
  | nil => exact ⟨h, hv.resolve_right fun ⟨age, hage, _⟩ => by cases hage⟩
  | cons c r ih =>
    obtain ⟨hback, hread⟩ := writesBack_backWrite h hl c
    rw [each, List.map_cons, after_seq_cons]
    refine ih (fun age hage => honly age (List.mem_cons_of_mem _ hage)) hback ?_
    rw [hread x hx]
    have hc := honly c List.mem_cons_self
    have hrest : rd t x = v ∨ backStore s l c = some (x, v) ∨ ∃ age ∈ r, backStore s l age = some (x, v) :=
      hv.imp_right fun ⟨age, hage, hst⟩ => (List.mem_cons.1 hage).imp (fun (e : age = c) => e ▸ hst) fun hr => ⟨age, hr, hst⟩
    cases hst : backStore s l c with
    | none => exact hrest.imp_right fun h' => h'.resolve_left (by rw [hst]; exact Option.some_ne_none _ ∘ Eq.symm)
    | some e =>
      obtain ⟨a, w⟩ := e
      by_cases hxa : x = a
      · exact .inl ((if_pos hxa).trans (hc w (by rw [hst, hxa])))
      · refine hrest.imp (fun h' => (if_neg hxa).trans h') fun h' => h'.resolve_left fun hst' => hxa ?_
        rw [hst] at hst'
        exact (congrArg Prod.fst (Option.some.inj hst')).symm

/-- Two ages of the head lie at two places of the line's region. -/
theorem lineAddr_inj {m : Rd} {l n i j : Nat} (hi : i ≤ n) (hj : j ≤ n) (hil : i < lineLen m l)
    (hjl : j < lineLen m l) (h : lineAddr m l (n - i) = lineAddr m l (n - j)) : i = j := by
  have hmod : (n - i) % lineLen m l = (n - j) % lineLen m l := Nat.add_left_cancel h
  have key : ∀ {i j : Nat}, i ≤ j → j ≤ n → j < lineLen m l → (n - i) % lineLen m l = (n - j) % lineLen m l → i = j := by
    intro i j hij hjn hjl hmod
    have hdvd := (Nat.modEq_iff_dvd' (by omega : n - j ≤ n - i)).1 hmod.symm
    have hzero := Nat.eq_zero_of_dvd_of_lt hdvd (by omega)
    omega
  rcases Nat.le_total i j with hij | hji
  · exact key hij hj hjl hmod
  · exact (key hji hi hil hmod.symm).symm

/-- The ages that the head holds and DRAM does not yet. -/
def backAges (s : State) (l : Nat) : List Nat := (List.range (lineOf s l).head.length).filter
  (fun age => (lineOf s l).wb ≤ renderN s - age && age ≤ renderN s)

theorem mem_backAges {s : State} {l age : Nat} :
    age ∈ backAges s l ↔ age < (lineOf s l).head.length ∧ (lineOf s l).wb ≤ renderN s - age ∧ age ≤ renderN s := by
  rw [backAges, List.mem_filter, List.mem_range, Bool.and_eq_true, decide_eq_true_eq, decide_eq_true_eq]

theorem after_headWriteBack {s : State} {l : Nat} (hl : l < 2048) (hup : dramUp s = true) : s.after (headWriteBack l) =
    (s.after (each (backAges s l) (backWrite (lineOf s l) l))).after (setLine l fun x => { x with wb := renderN s + 1 }) := by
  have hgo : (decide (2048 ≤ l) || !dramUp s) = false := by rw [hup, decide_eq_false (by omega)]; rfl
  have hact : s.after (headWriteBack l) =
      s.after (seq [each (backAges s l) (backWrite (lineOf s l) l), setLine l fun x => { x with wb := renderN s + 1 }]) := after_congr (by
    rw [headWriteBack, hgo]
    rfl)
  rw [hact, after_seq_cons, after_seq_cons, after_seq_nil]

theorem backStore_of_sample {s : State} {l age : Nat} {v : Int} (hv : (lineOf s l).head[age]? = some (some v)) :
    backStore s l age = some (lineAddr (rd s) l (renderN s - age), wdI v) := by
  rw [backStore, List.getD_eq_getElem?_getD, hv, Option.getD_some, Option.map_some]

/-- A store of the write-back lies at its age's place. -/
theorem backStore_place {s : State} {l age a : Nat} {w : Word} (h : backStore s l age = some (a, w)) :
    a = lineAddr (rd s) l (renderN s - age) := by
  obtain ⟨v, -, hv⟩ := Option.map_eq_some_iff.1 h
  exact (congrArg Prod.fst hv).symm

section
variable {s : State} {l : Nat} (h : WritesBack s s) (hl : l < 2048) (hup : dramUp s = true)
include h hl hup

theorem headWriteBack_wav : (s.after (headWriteBack l)).wav = s.wav.withLine l { lineOf s l with wb := renderN s + 1 } := by
  have hwav := ((writesBack_each hl (x := 0) (by decide) (backAges s l) (v := rd s 0)
    (fun age _ w hst => absurd (backStore_place hst) (by have := lineAddr_low (rd s) l (renderN s - age); omega)) h (.inl rfl)).1).wav
  rw [after_headWriteBack hl hup, setLine_wav, lineOf_congr hwav, hwav]

/-- Every sample of the head that DRAM does not hold yet stands at its place in the line's region. -/
theorem headWriteBack_sample (hhead : (lineOf s l).head.length ≤ lineLen (rd s) l) {age : Nat} {v : Int}
    (hv : (lineOf s l).head[age]? = some (some v)) (hage : age ≤ renderN s) (hwb : (lineOf s l).wb ≤ renderN s - age) :
    rd (s.after (headWriteBack l)) (lineAddr (rd s) l (renderN s - age)) = wdI v := by
  have hin (i : Nat) (hi : i ∈ backAges s l) : i < lineLen (rd s) l ∧ i ≤ renderN s := by
    have := mem_backAges.1 hi
    omega
  have hmem : age ∈ backAges s l := mem_backAges.2 ⟨(List.getElem?_eq_some_iff.1 hv).1, hwb, hage⟩
  have hlow := lineAddr_low (rd s) l (renderN s - age)
  have hne : lineAddr (rd s) l (renderN s - age) ≠ DRC := by unfold DRC; omega
  have honly (i : Nat) (hi : i ∈ backAges s l) (w : Word)
      (hst : backStore s l i = some (lineAddr (rd s) l (renderN s - age), w)) : w = wdI v := by
    have hsame : age = i := lineAddr_inj hage (hin i hi).2 (hin age hmem).1 (hin i hi).1 (backStore_place hst)
    rw [← hsame, backStore_of_sample hv] at hst
    exact (congrArg Prod.snd (Option.some.inj hst)).symm
  rw [after_headWriteBack hl hup, setLine_rd]
  exact (writesBack_each hl hne _ honly h (.inr ⟨age, hmem, backStore_of_sample hv⟩)).2

/-- No word outside the line's region changes. -/
theorem headWriteBack_outside (hlen : 0 < lineLen (rd s) l) {a : Nat} (hd : a ≠ DRC)
    (ha : a < lineStart (rd s) l ∨ lineStart (rd s) l + lineLen (rd s) l ≤ a) : rd (s.after (headWriteBack l)) a = rd s a := by
  have honly (i : Nat) (_ : i ∈ backAges s l) (w : Word) (hst : backStore s l i = some (a, w)) : w = rd s a := by
    have hplace := backStore_place hst
    have hmod := Nat.mod_lt (renderN s - i) hlen
    rw [lineAddr] at hplace
    omega
  rw [after_headWriteBack hl hup, setLine_rd]
  exact (writesBack_each hl hd _ honly h (.inl rfl)).2
end

/-! ### JUMP_FILL_COMPLETE -/

theorem after_jumpFillComplete {s : State} {l p : Nat} (hup : dramUp s = true) (hp : (lineOf s l).jumpAt = some p) :
    s.after (jumpFillComplete l) =
      ((s.after (countReads s l p)).after (setLine l fun x => { x with jump := windowFrom s l p })).after (bump (DRC + 5) 11 0 1) := by
  have hact : s.after (jumpFillComplete l) =
      s.after (seq [countReads s l p, setLine l fun x => { x with jump := windowFrom s l p }, bump (DRC + 5) 11 0 1]) := after_congr (by
    rw [jumpFillComplete, hup, hp]
    rfl)
  rw [hact, after_seq_cons, after_seq_cons, after_seq_cons, after_seq_nil]

section
variable {s : State} {l p : Nat} (hm : s.memOk = true) (hup : dramUp s = true) (hp : (lineOf s l).jumpAt = some p)
include hm hup hp

theorem jumpFillComplete_wav : (s.after (jumpFillComplete l)).wav = s.wav.withLine l { lineOf s l with jump := windowFrom s l p } := by
  obtain ⟨hwav, -⟩ := linesPart_after (quiet_linesPart.countReads (s := s) (l := l) (p := p)) hm
  have hcm := after_memOk (setLine l fun x => { x with jump := windowFrom s l p }) (after_memOk (countReads s l p) hm)
  have hbump := (linesPart_after (quiet_linesPart.bump (a := DRC + 5) (hi := 11) (lo := 0) (n := 1)) hcm).1
  rw [after_jumpFillComplete hup hp, hbump, setLine_wav, lineOf_congr hwav, hwav]

theorem jumpFillComplete_rd (hnone : windowReads s l p = []) :
    rdF (s.after (jumpFillComplete l)) (DRC + 5) 11 0 = min 4095 (rdF s (DRC + 5) 11 0 + 1) ∧
      SameBut s (s.after (jumpFillComplete l)) [DRC + 5] := by
  have hset := setLine_rd s l fun x => { x with jump := windowFrom s l p }
  have hsm := after_memOk (setLine l fun x => { x with jump := windowFrom s l p }) hm
  rw [after_jumpFillComplete hup hp, countReads_nothing hnone]
  generalize s.after (setLine l fun x => { x with jump := windowFrom s l p }) = u at hset hsm
  refine ⟨?_, fun b hb => ?_⟩
  · rw [rdF_bump hsm (DRC + 5) 1 (by decide) (by decide), rdF, hset, ← rdF, show 2 ^ (11 + 1 - 0) - 1 = 4095 by decide]
  · rw [(keeps_bump _ b _ _ _ fun h => hb (List.mem_singleton.2 h)).after hsm, hset]
end

/-! ### The three commands -/

theorem exec_tailFill (l : Nat) (s : State) : exec (.tailFill l) s = .next (s.begun.after (tailFill l)) := rfl
theorem exec_headWriteBack (l : Nat) (s : State) : exec (.headWriteBack l) s = .next (s.begun.after (headWriteBack l)) := rfl
theorem exec_jumpFillComplete (l : Nat) (s : State) : exec (.jumpFillComplete l) s = .next (s.begun.after (jumpFillComplete l)) := rfl

/-- While the dies do not accept traffic none of them does anything. -/
theorem lines_wait {s : State} (l : Nat) (h : dramUp s = false) :
    s.after (tailFill l) = s ∧ s.after (headWriteBack l) = s ∧ s.after (jumpFillComplete l) = s := by
  have hwait : (decide (2048 ≤ l) || !dramUp s) = true := by rw [h, Bool.not_false, Bool.or_true]
  refine ⟨?_, ?_, ?_⟩
  · rw [State.after, tailFill, if_pos hwait, applyAll_nil]
  · rw [State.after, headWriteBack, if_pos hwait, applyAll_nil]
  · rw [State.after, jumpFillComplete, h, Bool.not_false, if_pos rfl, applyAll_nil]

theorem jumpFillComplete_nothing {s : State} {l : Nat} (h : (lineOf s l).jumpAt = none) : s.after (jumpFillComplete l) = s := by
  rw [State.after, jumpFillComplete, h]
  split <;> rfl

/-- Settles O16: a fill sets one line and reads DRAM without moving the render; a write-back stores sample after sample, each at a place of
its own in the region. -/
theorem delayLinesKeepTheirSamples : Obligations.DelayLinesKeepTheirSamples := by
  intro s l hm
  have hm' : s.begun.memOk = true := hm
  refine ⟨fun p hl hup hp => ?_, fun hl hup h0 h4 h8 h12 hq hlen hhead _ => ?_, fun p hup hp => ?_, fun _ hj => ?_, fun h => ?_⟩
  · exact ⟨_, exec_tailFill l s, tailFill_sets (s := s.begun) hm' hl hup hp⟩
  · have h := writesBack_start (s := s.begun) hm' hq h0 h4 h8 h12
    exact ⟨_, exec_headWriteBack l s, headWriteBack_wav h hl hup, fun age v hv hage hwb => headWriteBack_sample h hl hup hhead hv hage hwb,
      fun a hd ha => headWriteBack_outside h hl hup hlen hd ha⟩
  · exact ⟨_, exec_jumpFillComplete l s, jumpFillComplete_wav (s := s.begun) hm' hup hp, jumpFillComplete_rd (s := s.begun) hm' hup hp⟩
  · exact congrArg Host.Outcome.next (jumpFillComplete_nothing (s := s.begun) hj)
  · obtain ⟨htail, hback, hjump⟩ := lines_wait (s := s.begun) l h
    exact ⟨congrArg Host.Outcome.next htail, congrArg Host.Outcome.next hback, congrArg Host.Outcome.next hjump⟩

end Sys2Proof.Machine

/-! SUPPORT. The control tick's boundary, Locator's results for it, the probe, and meter snapshots (R21, R22, R161, R213). -/
namespace Sys2Proof.Machine
open Sys2Proof

/-! ### CONTROL_TICK -/

/-- What a boundary decides of the scene. -/
def dealtPart (s : State) := (s.scene.boundary, s.scene.initKf, s.scene.pending)

theorem unrendered_dealtPart : Unrendered dealtPart where
  toQuiet := quiet_of fun _ _ h => congrArg (fun (_, _, _, _, scene, _) => (scene.boundary, scene.initKf, scene.pending)) h
  loc _ _ := rfl
  feeds _ _ := rfl
  wav _ _ _ _ _ := rfl

theorem moving_dealtPart : Moving dealtPart where
  toQuiet := unrendered_dealtPart.toQuiet
  sys _ _ := rfl
  cru _ _ := rfl
  tpr _ _ := rfl
  lan _ _ := rfl
  bel _ _ _ := rfl

/-- Boundary b is dealt with: the scene stands at it, the initial keyframes that still wait are `kf`, and no frame for it is pending. -/
structure Dealt (b : Nat) (kf : List SceneCmd) (s : State) : Prop where
  boundary : s.scene.boundary = b
  initKf : s.scene.initKf = kf
  pending : ∀ f ∈ s.scene.pending, f.bnd ≠ b

section
variable {b : Nat} {kf : List SceneCmd}

theorem Keeps.dealt {a : Act} (h : Keeps dealtPart a) : Preserves (Dealt b kf) a := fun s hm hd => by
  have hkept := h.after hm
  simp only [dealtPart, Prod.mk.injEq] at hkept
  obtain ⟨hbound, hinit, hpend⟩ := hkept
  exact ⟨hbound.trans hd.boundary, hinit.trans hd.initKf, hpend ▸ hd.pending⟩

/-- The frames that leaving RUN loses are then not pending. -/
theorem losePending_dealt : Preserves (Dealt b kf) losePending := fun s hm hd => by
  have h := unrendered_dealtPart.toQuiet
  unfold State.after losePending
  split
  · exact hd
  · have hframe (f : SceneFrame) : Keeps dealtPart (if f.host = true then hostResult false 0x17 0xFFFF
        else when (fun s => f.own && f.ackApplied && portUp s f.port) (sendAck f.port f.ip f.udp f.peer 0x17 0xFFFF f.counter f.bnd)) := by
      split
      · exact h.hostResult
      · exact keeps_when h.sendAck
    have hclear : Preserves (Dealt b kf) (onScene fun _ c => { c with pending := [] }) := fun _ _ hd =>
      ⟨hd.boundary, hd.initKf, fun _ hf => absurd hf List.not_mem_nil⟩
    exact preserves_actsAt s ⟨(keeps_each _ hframe).dealt, hclear, h.pokeF.dealt, h.pokeF.dealt, h.report.dealt, h.ring.dealt⟩ hm hd

theorem leaveRun_dealt : Preserves (Dealt b kf) leaveRun := fun s hm hd => by
  rw [leaveRun, after_seq_cons]
  exact moving_dealtPart.leaveRun_tail.dealt _ (after_memOk _ hm) (losePending_dealt s hm hd)

theorem enterSafe_dealt {x : Bool} : Preserves (Dealt b kf) (enterSafe x) := fun s hm hd => by
  have h := moving_dealtPart
  have hqch {g} : Keeps dealtPart (onQch g) := fun _ _ => rfl
  unfold State.after enterSafe
  split
  · exact preserves_actsAt s ⟨h.setState.dealt, h.onSys.dealt, hqch.dealt⟩ hm hd
  · exact preserves_actsAt s ⟨leaveRun_dealt, h.setState.dealt, h.onSys.dealt, hqch.dealt,
      Keeps.dealt (keeps_when (keeps_acts ⟨h.pokeF, h.onSys⟩))⟩ hm hd
  · exact h.onSys.dealt s hm hd
  · exact hd

theorem deviceFault_dealt {n : Nat} : Preserves (Dealt b kf) (deviceFault n) :=
  preserves_acts ⟨(moving_dealtPart.latchFault fun _ _ => rfl).dealt, enterSafe_dealt⟩

theorem locFails_dealt {n : Nat} : Preserves (Dealt b kf) (locFails n) := fun s hm hd =>
  preserves_actsAt s ⟨unrendered_dealtPart.onLoc.dealt,
    (keeps_when (unrendered_dealtPart.onWav (fun _ => rfl) (fun _ => rfl) fun _ => rfl)).dealt,
    preserves_when fun t htm _ ht => deviceFault_dealt t htm ht⟩ hm hd

theorem checkPairs_dealt : Preserves (Dealt b kf) checkPairs := by
  have h := moving_dealtPart
  refine preserves_acts ⟨preserves_when fun t htm _ ht => ?_, Keeps.dealt fun t => ?_⟩
  · have hfault : Preserves (Dealt b kf) (seq [bump (QCH + 3) 11 0 1, deviceFault 2]) := preserves_acts ⟨h.bump.dealt, deviceFault_dealt⟩
    exact hfault t htm ht
  · dsimp only
    split
    · exact keeps_nop t
    · split
      · exact keeps_nop t
      · exact keeps_actsAt t ⟨h.bump, h.warn⟩

theorem annMode_dealt : Keeps dealtPart annMode := fun s => by
  have h := unrendered_dealtPart
  unfold annMode
  dsimp only
  split
  · exact keeps_nop s
  · exact keeps_actsAt s ⟨fun _ _ => rfl, h.ring, h.report⟩
end

/-- What the first of several acts sets up and the others keep. -/
theorem holds_actsAt {P : State → Prop} {a : Act} {as : List Act} (s : State) (hm : s.memOk = true) (ha : P (s.after a))
    (h : as.Forall (Preserves P)) : P (applyAll (seq (a :: as) s) s) := by
  have hsplit := after_seq_cons s a as
  rw [State.after] at hsplit
  rw [hsplit]
  exact preserves_acts h _ (after_memOk a hm) ha

/-- A boundary deals with the scene; while the device is in SAFE the initial keyframes wait on. -/
theorem boundary_dealt {b : Nat} {s : State} (hm : s.memOk = true) :
    Dealt b (if s.sys.state == .safe then s.scene.initKf else []) (s.after (boundary b)) := by
  have h := unrendered_dealtPart
  unfold State.after boundary
  refine holds_actsAt s hm ⟨rfl, rfl, fun f hf => ?_⟩ ⟨h.storeList.dealt, Keeps.dealt (keeps_each _ fun _ => keeps_acts ⟨h.bump, h.report⟩),
    (keeps_each _ fun _ => h.frameResult).dealt, h.showPending.dealt, moving_dealtPart.onTpr.dealt, h.swapBuffers.dealt, locFails_dealt,
    h.useJumps.dealt, Keeps.dealt fun _ _ => rfl, annMode_dealt.dealt, h.holdDecay.dealt, h.probeLatch.dealt, checkPairs_dealt,
    Keeps.dealt fun t => keeps_actsAt t ⟨h.pokeF, h.pokeF⟩⟩
  simpa using (List.mem_filter.1 hf).2

/-- Is the probe's latch armed? -/
def probeArmedOf (s : State) : Bool := s.loc.probeArmed

theorem probeArmed_eq (s : State) : s.loc.probeArmed = probeArmedOf s := rfl

theorem aside_probeArmedOf : Aside probeArmedOf := aside_of fun _ _ h => congrArg (fun (_, _, loc, _) => loc.probeArmed) h

theorem probeLatch_armed : Leaves probeArmedOf false probeLatch := fun s hm => by
  have h := aside_probeArmedOf
  unfold State.after probeLatch
  split
  next hidle => simpa [probeArmedOf] using hidle
  next => exact leaves_drop s hm 0 (leaves_cons (fun _ _ => rfl) (keeps_acts ⟨h.poke, h.poke, h.poke, h.pokeList⟩))

theorem boundary_probe {b : Nat} {s : State} (hm : s.memOk = true) : (s.after (boundary b)).loc.probeArmed = false := by
  have h := aside_probeArmedOf
  rw [probeArmed_eq]
  unfold State.after boundary
  refine leaves_drop s hm 12 (leaves_cons probeLatch_armed ?_)
  exact keeps_acts ⟨h.checkPairs fun _ _ => rfl, fun t => keeps_actsAt t ⟨h.pokeF, h.pokeF⟩⟩

theorem exec_controlTick (s : State) : exec .controlTick s = .next (s.begun.after controlTick) := rfl

theorem after_controlTick {s : State} (hstate : s.sys.state = .run ∨ s.sys.state = .safe) (h16 : (renderN s + 1) % 16 = 0)
    (hnew : s.scene.boundary ≠ renderN s + 1) : s.after controlTick = s.after (boundary (renderN s + 1)) := after_congr (by
  have hcounts : (s.sys.state == .run || s.sys.state == .safe) = true := by rcases hstate with h | h <;> rw [h] <;> rfl
  have hdue : (s.scene.boundary != renderN s + 1) = true := bne_iff_ne.2 hnew
  rw [controlTick, hcounts, hdue, decide_eq_true h16]
  rfl)

theorem controlTick_elsewhere {s : State} (hrun : s.sys.state ≠ .run) (hsafe : s.sys.state ≠ .safe) : s.after controlTick = s := by
  have hcounts : (s.sys.state == .run || s.sys.state == .safe) = false := by rw [beq_false_of_ne hrun, beq_false_of_ne hsafe]; rfl
  rw [State.after, controlTick, hcounts, Bool.and_false]
  rfl

/-- The initial keyframes after a boundary in RUN or SAFE. -/
theorem initKf_left {s : State} (hstate : s.sys.state = .run ∨ s.sys.state = .safe) :
    (if s.sys.state == .safe then s.scene.initKf else []) = if s.sys.state = .run then [] else s.scene.initKf := by
  rcases hstate with h | h <;> rw [h] <;> rfl

theorem controlTick_deals {s : State} (hm : s.memOk = true) (hstate : s.sys.state = .run ∨ s.sys.state = .safe)
    (h16 : (renderN s + 1) % 16 = 0) (hnew : s.scene.boundary ≠ renderN s + 1) :
    (s.after controlTick).scene.boundary = renderN s + 1 ∧
      (s.after controlTick).scene.initKf = (if s.sys.state = .run then [] else s.scene.initKf) ∧
      (∀ f ∈ (s.after controlTick).scene.pending, f.bnd ≠ renderN s + 1) ∧ (s.after controlTick).loc.probeArmed = false := by
  rw [after_controlTick hstate h16 hnew]
  have hdealt := boundary_dealt (b := renderN s + 1) hm
  rw [initKf_left hstate] at hdealt
  exact ⟨hdealt.boundary, hdealt.initKf, hdealt.pending, boundary_probe hm⟩

/-! ### LOCATOR_COMPLETE -/

/-- Locator. -/
def locOf (s : State) : Loc := s.loc

theorem quiet_locOf : Quiet locOf := quiet_of fun _ _ h => congrArg (fun (_, _, _, _, _, _, _, _, loc, _) => loc) h

theorem setLine_loc {l : Nat} {f : Line → Line} : Keeps locOf (setLine l f) := fun _ _ => rfl

/-- Requests for jump fills only mark lines. -/
theorem keeps_jumpRequests {β : Sort _} {f : State → β} (h : ∀ l g, Keeps f (setLine l g)) {b : Nat} {buf : LBuf} :
    Keeps f (jumpRequests b buf) := fun s => by
  unfold jumpRequests
  refine keeps_each _ (fun e => ?_) s
  dsimp only
  split
  · exact h _ _
  · exact keeps_nop

/-- The pairs that Locator leaves unfinished: those an internal fault stopped, and those of an unreadable table (R23, R317, R330). -/
def unfinishedPairs (s : State) (l : List Nat) : List Nat :=
  l ++ (badPairs s).filter (fun k => (objTargets (rd s) (k / 8)).testBit (k % 8))

/-- The results stand in the inactive buffer. -/
def standResults (buf : LBuf) (gone : List Nat) : Act := onLoc fun _ c => { c with next := some buf, unfinished := gone }

theorem exec_locatorComplete (l : List Nat) (time : Nat) (s : State) :
    exec (.locatorComplete l time) s = .next (s.begun.after (locatorComplete l time)) := rfl

theorem after_locatorComplete {s : State} (l : List Nat) (time : Nat) (h : counting s = true) : s.after (locatorComplete l time) =
    s.after (seq [standResults (locBuffer s (nextBoundary s) (unfinishedPairs s l)) (unfinishedPairs s l),
      jumpRequests (nextBoundary s) (locBuffer s (nextBoundary s) (unfinishedPairs s l)),
      fun s => pokeF (LOC + 0x10) 31 16 (max (min 0xFFFF time) (rdF s (LOC + 0x10) 31 16)) s, pokeF (LOC + 0x10) 15 0 (min 0xFFFF time)]) :=
  after_congr (by
    rw [locatorComplete, h]
    rfl)

theorem locatorComplete_idle {s : State} (l : List Nat) (time : Nat) (h : counting s = false) : s.after (locatorComplete l time) = s := by
  rw [State.after, locatorComplete, h]
  rfl

section
variable {s : State} (hm : s.memOk = true) (buf : LBuf) (gone : List Nat) (b x : Nat)
include hm

theorem results_loc : (s.after (seq [standResults buf gone, jumpRequests b buf,
    fun s => pokeF (LOC + 0x10) 31 16 (max x (rdF s (LOC + 0x10) 31 16)) s, pokeF (LOC + 0x10) 15 0 x])).loc =
      { s.loc with next := some buf, unfinished := gone } := by
  have hrest : Keeps locOf (seq [jumpRequests b buf,
      fun s => pokeF (LOC + 0x10) 31 16 (max x (rdF s (LOC + 0x10) 31 16)) s, pokeF (LOC + 0x10) 15 0 x]) :=
    keeps_acts ⟨keeps_jumpRequests fun _ _ => setLine_loc, fun t => quiet_locOf.pokeF t, quiet_locOf.pokeF⟩
  rw [after_seq_cons]
  exact hrest.after (after_memOk _ hm)

theorem results_rd {y : Nat} (hy : y ≠ LOC + 0x10) : rd (s.after (seq [standResults buf gone, jumpRequests b buf,
    fun s => pokeF (LOC + 0x10) 31 16 (max x (rdF s (LOC + 0x10) 31 16)) s, pokeF (LOC + 0x10) 15 0 x])) y = rd s y := by
  have hkeeps : Keeps (fun t => rd t y) (seq [standResults buf gone, jumpRequests b buf,
      fun s => pokeF (LOC + 0x10) 31 16 (max x (rdF s (LOC + 0x10) 31 16)) s, pokeF (LOC + 0x10) 15 0 x]) :=
    keeps_acts ⟨fun _ _ => rfl, keeps_jumpRequests fun _ _ _ _ => rfl, fun t => keeps_pokeF _ y _ _ _ hy t, keeps_pokeF _ y _ _ _ hy⟩
  exact hkeeps.after hm

theorem results_time : rdF (s.after (seq [standResults buf gone, jumpRequests b buf,
    fun s => pokeF (LOC + 0x10) 31 16 (max x (rdF s (LOC + 0x10) 31 16)) s, pokeF (LOC + 0x10) 15 0 x])) (LOC + 0x10) 15 0 = x % 2 ^ 16 := by
  rw [after_seq_cons, after_seq_cons, after_seq_cons, after_seq_cons, after_seq_nil]
  exact rdF_pokeF (after_memOk _ (after_memOk _ (after_memOk _ hm))) _ _ (by decide) (by decide)
end

theorem locatorComplete_stands {s : State} (hm : s.memOk = true) (l : List Nat) (time : Nat) (h : counting s = true) :
    (s.after (locatorComplete l time)).loc =
        { s.loc with next := some (locBuffer s (nextBoundary s) (unfinishedPairs s l)), unfinished := unfinishedPairs s l } ∧
      rdF (s.after (locatorComplete l time)) (LOC + 0x10) 15 0 = min 0xFFFF time ∧
      SameBut s (s.after (locatorComplete l time)) [LOC + 0x10] := by
  rw [after_locatorComplete l time h]
  refine ⟨results_loc hm _ _ _ _, ?_, fun y hy => results_rd hm _ _ _ _ fun h => hy (List.mem_singleton.2 h)⟩
  exact (results_time hm _ _ _ _).trans (Nat.mod_eq_of_lt (by omega))

/-! ### LOC_PROBE_SEL, CRU_METER_SNAP, METER_AUTO_SNAPSHOT -/

theorem exec_locProbeSel (w : Word) (s : State) : exec (.locProbeSel w) s = .next (s.begun.after (locProbeSel w)) := rfl

theorem after_locProbeSel (w : Word) (s : State) : s.after (locProbeSel w) = ((s.after (poke (LOC + 0x20) (w &&& wd 0x1FFF))).after
    (pokeF (LOC + 0x21) 35 35 0)).after (onLoc fun _ c => { c with probeArmed := true }) := by
  rw [locProbeSel, after_seq_cons, after_seq_cons, after_seq_cons, after_seq_nil]

theorem onLoc_loc (s : State) (g : State → Loc → Loc) : (s.after (onLoc g)).loc = g s s.loc := rfl

theorem locProbeSel_loc {s : State} (hm : s.memOk = true) (w : Word) :
    (s.after (locProbeSel w)).loc = { s.loc with probeArmed := true } := by
  have hkept : Keeps locOf (seq [poke (LOC + 0x20) (w &&& wd 0x1FFF), pokeF (LOC + 0x21) 35 35 0]) :=
    keeps_acts ⟨quiet_locOf.poke, quiet_locOf.pokeF⟩
  have hloc := hkept.after hm
  rw [after_seq_cons, after_seq_cons, after_seq_nil] at hloc
  rw [after_locProbeSel, onLoc_loc]
  exact congrArg (fun c : Loc => { c with probeArmed := true }) hloc

theorem onLoc_rd (s : State) (g : State → Loc → Loc) : rd (s.after (onLoc g)) = rd s := rfl

theorem locProbeSel_rd {s : State} (hm : s.memOk = true) (w : Word) : rd (s.after (locProbeSel w)) (LOC + 0x20) = w &&& wd 0x1FFF ∧
    rdF (s.after (locProbeSel w)) (LOC + 0x21) 35 35 = 0 ∧ SameBut s (s.after (locProbeSel w)) [LOC + 0x20, LOC + 0x21] := by
  have hpoke := after_memOk (poke (LOC + 0x20) (w &&& wd 0x1FFF)) hm
  rw [after_locProbeSel, rdF, onLoc_rd, ← rdF]
  refine ⟨?_, rdF_pokeF hpoke _ _ (by decide) (by decide), fun y hy => ?_⟩
  · exact ((keeps_pokeF _ _ _ _ _ (by decide)).after hpoke).trans (rd_poke s _ _ hm)
  · simp only [List.mem_cons, List.not_mem_nil, or_false, not_or] at hy
    rw [onLoc_rd, (keeps_pokeF _ y _ _ _ hy.2).after hpoke, (keeps_poke _ y _ hy.1).after hm]

theorem exec_snap (m : Nat) (w : Word) (s : State) : exec (.snap m w) s = .next (s.begun.after (writing m (snap m w))) := rfl

/-- With nothing staged a write is its own act. -/
theorem after_writing {s : State} {m : Nat} (h : stagedOf s m = none) (a : Act) : s.after (writing m a) = s.after a := by
  rw [writing, after_seq_cons, after_seq_cons, after_seq_nil, keepStaged_of_none _ h]

theorem requestSnap_cru (s : State) : (s.after requestSnap).cru = { s.cru with snapReq := true } := rfl

theorem after_requestSnap_rd (s : State) : rd (s.after requestSnap) = rd (s.after (pokeF (CRU + 0x23) 0 0 1)) := rfl

theorem meterAutoSnapshot_due {s : State} (hstate : s.sys.state = .run ∨ s.sys.state = .safe) (h16 : (s.wav.n + 1) % 16 = 0)
    (hauto : rdF s (CRU + 0x20) 35 24 ≠ 0) (hdue : (s.wav.n + 1) / 16 % rdF s (CRU + 0x20) 35 24 = 0) :
    s.after meterAutoSnapshot = { s with cru := { s.cru with snapReq := true } } := by
  have hcounts : (s.sys.state == .run || s.sys.state == .safe) = true := by rcases hstate with h | h <;> rw [h] <;> rfl
  have hact : meterAutoSnapshot s = onCru (fun _ c => { c with snapReq := true }) s := by
    rw [meterAutoSnapshot, hcounts, bne_iff_ne.2 hauto, beq_iff_eq.2 h16, beq_iff_eq.2 hdue]
    rfl
  exact after_congr hact

theorem meterAutoSnapshot_off {s : State} (hauto : rdF s (CRU + 0x20) 35 24 = 0) : s.after meterAutoSnapshot = s := by
  rw [State.after, meterAutoSnapshot, hauto]
  rfl

/-- Settles O15: a boundary's first act sets what the statement says of the scene, and what follows it either leaves the scene alone or loses
frames that wait. -/
theorem controlTicksMoveTheScene : Obligations.ControlTicksMoveTheScene := by
  refine ⟨fun s l time w hm => ?_, fun s m w hm hst => ?_⟩
  · have hm' : s.begun.memOk = true := hm
    refine ⟨fun hstate h16 hnew => ?_, fun hrun hsafe => ?_, fun hc => ?_, fun hc => ?_, ?_⟩
    · exact ⟨_, exec_controlTick s, controlTick_deals (s := s.begun) hm' hstate h16 hnew⟩
    · exact congrArg Host.Outcome.next (controlTick_elsewhere (s := s.begun) hrun hsafe)
    · exact ⟨_, _, exec_locatorComplete l time s, rfl, locatorComplete_stands (s := s.begun) hm' l time hc⟩
    · exact congrArg Host.Outcome.next (locatorComplete_idle (s := s.begun) l time hc)
    · obtain ⟨hsel, hready, hsame⟩ := locProbeSel_rd hm' w
      exact ⟨_, exec_locProbeSel w s, hsel, hready, locProbeSel_loc hm' w, hsame⟩
  · have hm' : s.begun.memOk = true := hm
    have hsnap := after_writing (s := s.begun) hst (snap m w)
    refine ⟨fun hw => ?_, fun hw => ?_, fun hstate h16 hauto hdue => ?_, fun hauto => ?_⟩
    · have hreq : s.begun.after (snap m w) = s.begun.after requestSnap := after_congr (when_pos _ _ _ hw)
      refine ⟨_, (exec_snap m w s).trans (congrArg _ (hsnap.trans hreq)), requestSnap_cru _, ?_, fun y hy => ?_⟩
      · rw [rdF, after_requestSnap_rd, ← rdF]
        exact rdF_pokeF hm' _ _ (by decide) (by decide)
      · rw [after_requestSnap_rd]
        exact (keeps_pokeF _ y _ _ _ fun h => hy (List.mem_singleton.2 h)).after hm'
    · exact congrArg Host.Outcome.next (hsnap.trans (after_when_neg hw))
    · exact congrArg Host.Outcome.next (meterAutoSnapshot_due (s := s.begun) hstate h16 hauto hdue)
    · exact congrArg Host.Outcome.next (meterAutoSnapshot_off (s := s.begun) hauto)

end Sys2Proof.Machine

/-! SUPPORT. Additions into an accumulator, one after the other (R34, R35). -/
namespace Sys2Proof.Machine
open Sys2Proof

theorem out80_iff (z : Int) : out80 z = true ↔ ¬ (-(2 ^ 79) ≤ z ∧ z ≤ 2 ^ 79 - 1) := by
  simp only [out80, Bool.or_eq_true, decide_eq_true_eq]
  omega

/-- A sum in the 80-bit range is exact (R34). -/
theorem bmod80_of_inRange {z : Int} (hlo : -(2 ^ 79) ≤ z) (hhi : z < 2 ^ 79) : Int.bmod z (2 ^ 80) = z :=
  Int.bmod_eq_of_le (by norm_num; omega) (by norm_num; omega)

/-- The nearer extreme (R35). -/
theorem sat80_val (z : Int) : (sat80 z).1 = max (-(2 ^ 79)) (min (2 ^ 79 - 1) z) := by
  unfold sat80
  split
  · omega
  · split <;> omega

theorem sat80_flag (z : Int) : (sat80 z).2 = true ↔ (sat80 z).1 ≠ z := by
  unfold sat80
  split
  · simp only [true_iff]; omega
  · split
    · simp only [true_iff]; omega
    · simp

/-- The last addition works on what the earlier ones leave. -/
theorem accAdds_snoc (sat : Bool) (z t : Int) (ts : List Int) : accAdds sat z (ts ++ [t]) = accAdd sat (accAdds sat z ts) t := by
  rw [accAdds, List.foldl_append]
  rfl

/-- In WRAP mode what is left is the sum modulo 2^80 (R34). -/
theorem accAdds_wrap_val {z : Int} (hlo : -(2 ^ 79) ≤ z) (hhi : z < 2 ^ 79) (ts : List Int) :
    (accAdds false z ts).val = Int.bmod (z + ts.sum) (2 ^ 80) := by
  induction ts using List.reverseRecOn with
  | nil => rw [List.sum_nil, Int.add_zero, bmod80_of_inRange hlo hhi]; rfl
  | append_singleton ts t ih =>
    have hstep : (accAdds false z (ts ++ [t])).val = Int.bmod ((accAdds false z ts).val + t) (2 ^ 80) := by rw [accAdds_snoc]; rfl
    rw [hstep, ih, Int.bmod_add_bmod, List.sum_append, List.sum_singleton, Int.add_assoc]

/-- WRAP mode never sets SOV, SAT mode never GOV. -/
theorem accAdds_wrap_sov (z : Int) (ts : List Int) : (accAdds false z ts).sov = false := by
  induction ts using List.reverseRecOn with
  | nil => rfl
  | append_singleton ts t ih => rw [accAdds_snoc]; exact ih

theorem accAdds_sat_gov (z : Int) (ts : List Int) : (accAdds true z ts).gov = false := by
  induction ts using List.reverseRecOn with
  | nil => rfl
  | append_singleton ts t ih => rw [accAdds_snoc]; exact ih

theorem accAdds_wrap_gov (z t : Int) (ts : List Int) : (accAdds false z (ts ++ [t])).gov = true ↔
    (accAdds false z ts).gov = true ∨ out80 ((accAdds false z ts).val + t) = true := by
  rw [accAdds_snoc]
  exact Bool.or_eq_true_iff

theorem accAdds_sat_val (z t : Int) (ts : List Int) :
    (accAdds true z (ts ++ [t])).val = (sat80 ((accAdds true z ts).val + t)).1 := by
  rw [accAdds_snoc]
  rfl

theorem accAdds_sat_sov (z t : Int) (ts : List Int) : (accAdds true z (ts ++ [t])).sov = true ↔
    (accAdds true z ts).sov = true ∨ (sat80 ((accAdds true z ts).val + t)).2 = true := by
  rw [accAdds_snoc]
  exact Bool.or_eq_true_iff

/-- After an addition in SAT mode the value is in range (R35). -/
theorem accAdds_sat_inRange (z : Int) {ts : List Int} (h : ts ≠ []) :
    -(2 ^ 79) ≤ (accAdds true z ts).val ∧ (accAdds true z ts).val ≤ 2 ^ 79 - 1 := by
  obtain ⟨us, u, rfl⟩ := List.eq_nil_or_concat' ts |>.resolve_left h
  rw [accAdds_sat_val, sat80_val]
  omega

/-- Settles O28: the last addition of a list, in either mode, and the exact sum modulo 2^80 by induction on the list. -/
theorem accumulatorsWrapOrSaturate : Obligations.AccumulatorsWrapOrSaturate := by
  refine ⟨fun z ts hlo hhi => ⟨accAdds_wrap_val hlo hhi ts, accAdds_wrap_sov z ts⟩, fun z ts hlo hhi hlo' hhi' => ?_,
    fun z ts us hlo hhi hperm => ?_, fun z t ts => ?_, fun z t ts => ⟨?_, ?_⟩, fun z t ts => ?_⟩
  · rw [accAdds_wrap_val hlo hhi, bmod80_of_inRange hlo' hhi']
  · rw [accAdds_wrap_val hlo hhi, accAdds_wrap_val hlo hhi, hperm.sum_eq]
  · rw [accAdds_wrap_gov, out80_iff]
  · rw [accAdds_sat_val, sat80_val]
  · rw [accAdds_sat_sov, sat80_flag, accAdds_sat_val]
  · exact ⟨accAdds_sat_gov z _, accAdds_sat_inRange z (List.cons_ne_nil t ts)⟩

end Sys2Proof.Machine

/-! SUPPORT. The M slot (R272-R274): what each kind of operation leaves of the run. -/
namespace Sys2Proof.Machine
open Sys2Proof

theorem negate_eq_mul (neg : Bool) (z : Int) : negate neg z = (if neg then -1 else 1) * z := by
  cases neg <;> simp [negate]

/-- The shift of a product as R273 lists it. -/
theorem product_eq (r : LaneRun) (neg : Bool) (aln i j : Nat) : product r neg aln i j =
    (if neg then -1 else 1) * (sD r i * sD r j * 2 ^ (if aln = 1 then 1 else if aln = 2 then 3 else 0)) := negate_eq_mul _ _

theorem addShift_eq (aln : Nat) : addShift aln = if aln = 0 then 0 else if aln = 3 then 34 else 30 + aln := by
  unfold addShift
  split
  · rfl
  · split <;> rfl

/-- The shift of an operand added alone as R273 lists it. -/
theorem operand_eq (r : LaneRun) (neg : Bool) (aln i : Nat) : operand r neg aln i =
    (if neg then -1 else 1) * (sD r i * 2 ^ (if aln = 0 then 0 else if aln = 3 then 34 else 30 + aln)) := by
  rw [operand, negate_eq_mul, addShift_eq]

section
variable {s : State} {p : Nat} {r : LaneRun} {enc : Option Nat} {c : Instr}

/-- An instruction that issues with new values of accumulators. -/
theorem exec_accs (f : LaneRun → List (Nat × Flagged Int)) {v : Nat × Flagged Int} {vs : List (Nat × Flagged Int)}
    (hc : exec c s = done (issue p .m enc (fun r => setAccs p (f r))) s) (h : Issues s p .m enc r) (hf : f r = v :: vs) :
    exec c s = .next (s.issuedAs p .m (r.withAccs (v :: vs))) := by
  rw [hc, done, accs_run s p enc r v vs f h hf, hf]

/-- An instruction that issues with a result for a data register, two steps later (R277). -/
theorem exec_result (dd : Nat) (f : LaneRun → Flagged Word) (hc : exec c s = done (issue p .m enc (fun r => result p r .m dd 2 (f r))) s)
    (h : Issues s p .m enc r) : exec c s = .next (s.issuedAs p .m
      (r.sending ((.d (phys r dd), (f r).val.toNat, 2, 1) :: (f r).sets.map (fun i => (.sticky i, 1, 4, 1))))) := by
  rw [hc, done, issue_run s p .m enc _ r _ h (result_after s.begun p r .m dd 2 (f r) h.1)]
  rfl

end

/-- Saturation is the clamp, with the flag where the clamp changes the value. -/
theorem saturate36_eq (z : Int) : saturate36 z = (sat36 z, decide (sat36 z ≠ z)) := by
  have hclamp : sat36 z = if 2 ^ 35 - 1 < z then 2 ^ 35 - 1 else if z < -(2 ^ 35) then -(2 ^ 35) else z := by
    unfold sat36 clampI
    split_ifs <;> omega
  rw [hclamp, saturate36]
  split
  · rw [decide_eq_true (by omega)]
  · split
    · rw [decide_eq_true (by omega)]
    · rw [decide_eq_false (by omega)]

theorem rndResult_eq (a : Int) (sh : Nat) : rndResult a sh =
    ⟨wdI (sat36 (roundEven a sh)), false, false, decide (sat36 (roundEven a sh) ≠ roundEven a sh)⟩ := by
  rw [rndResult, storeF36, saturate36_eq]

/-- RND sets FSAT where 36 bits do not hold the rounded value (R274). -/
theorem rndResult_flags (a : Int) (sh : Nat) : (rndResult a sh).sets.map (fun i => ((.sticky i, 1, 4, 1) : Landing)) =
    if sat36 (roundEven a sh) = roundEven a sh then [] else [(.sticky 2, 1, 4, 1)] := by
  rw [rndResult_eq]
  by_cases h : sat36 (roundEven a sh) = roundEven a sh
  · rw [if_pos h, decide_eq_false (not_not_intro h)]; rfl
  · rw [if_neg h, decide_eq_true h]; rfl

/-- Settles O27: each operation by the kind of its result, with the shifts of R273 written out. -/
theorem laneMultiplyAccumulates : Obligations.LaneMultiplyAccumulates := by
  intro s p ra rb ac aln sh part neg r sign prod opnd mode add put accs mac mac4v mac4s mac4r adda
  have hprod (i j : Nat) : product r neg aln i j = prod i j := product_eq r neg aln i j
  have hopnd : operand r neg aln ra = opnd := operand_eq r neg aln ra
  have hadd (sfx i : Nat) (ts : List Int) : accumulate r sfx i ts = add sfx i ts := rfl
  have hmac (c) (op sfx : Nat) (hc : exec (c p ra rb ac aln neg) s = done (macOp p op sfx ra rb ac aln neg) s) : mac c op sfx :=
    fun h => exec_accs _ hc h (by rw [hprod, hadd])
  have hmac4v (c) (op sfx : Nat) (hc : exec (c p ra rb aln neg) s = done (mac4vOp p op sfx ra rb aln neg) s) : mac4v c op sfx :=
    fun h => exec_accs _ hc h (by simp only [hprod, hadd]; rfl)
  have hmac4s (c) (op sfx : Nat) (hc : exec (c p ra rb aln neg) s = done (mac4sOp p op sfx ra rb aln neg) s) : mac4s c op sfx :=
    fun h => exec_accs _ hc h (by simp only [hprod, hadd]; rfl)
  have hproducts : products4 r neg aln ra rb = [prod ra rb, prod (ra + 1) (rb + 1), prod (ra + 2) (rb + 2), prod (ra + 3) (rb + 3)] := by
    simp only [products4, hprod]; rfl
  have hmac4r (c) (op sfx : Nat) (hc : exec (c p ra rb ac aln neg) s = done (mac4rOp p op sfx ra rb ac aln neg) s) : mac4r c op sfx :=
    fun h => exec_accs _ hc h (by rw [hproducts, hadd])
  have hadda (c) (op sfx : Nat) (hc : exec (c p ra ac aln neg) s = done (addaOp p op sfx ra ac aln neg) s) : adda c op sfx :=
    fun h => exec_accs _ hc h (by rw [hopnd, hadd])
  refine ⟨hmac _ 1 0 rfl, hmac _ 2 1 rfl, hmac _ 3 2 rfl, hmac4v _ 4 0 rfl, hmac4v _ 5 1 rfl, hmac4v _ 6 2 rfl,
    hmac4s _ 7 0 rfl, hmac4s _ 8 1 rfl, hmac4s _ 9 2 rfl, hmac4r _ 10 0 rfl, hmac4r _ 11 1 rfl, hmac4r _ 12 2 rfl,
    fun h => exec_accs _ rfl h ?_, fun h => exec_accs _ rfl h ?_, fun h => exec_accs _ rfl h rfl, fun h => exec_accs _ rfl h ?_,
    hadda _ 17 0 rfl, hadda _ 18 1 rfl, hadda _ 19 2 rfl, fun h => ?_, fun h => ?_, fun h => ?_⟩
  · rw [hprod]; rfl
  · rw [hproducts, List.foldl_cons, List.foldl_cons, List.foldl_cons, List.foldl_cons, List.foldl_nil, Int.zero_add]; rfl
  · rw [hopnd]; rfl
  · rw [exec_result ra (fun r => rndResult (accLate r ac) (if sh = 0 then 34 else sh)) rfl h, rndResult_flags, rndResult_eq]
  · exact exec_result ra (fun r => bitResult (wd (accPart (accLate r ac) part))) rfl h
  · exact exec_accs (fun r => [exactly ac (accWithPart (accLate r ac) part (uD r ra))]) rfl h rfl

end Sys2Proof.Machine

/-! SUPPORT. A host word as ten nibbles (R43, R44): the check nibble and the nine data nibbles. -/
namespace Sys2Proof.Machine
open Sys2Proof

/-- Five bytes of ten nibbles, nibble 9 first (R43). -/
def nibbleBytes (f : Nat → Nat) : List Nat := [16 * f 9 + f 8, 16 * f 7 + f 6, 16 * f 5 + f 4, 16 * f 3 + f 2, 16 * f 1 + f 0]

/-- The word of the nine data nibbles, nibble i in bits 4i+3:4i. -/
def nibbleWord (f : Nat → Nat) : Word :=
  wd (f 8 * 2 ^ 32 + f 7 * 2 ^ 28 + f 6 * 2 ^ 24 + f 5 * 2 ^ 20 + f 4 * 2 ^ 16 + f 3 * 2 ^ 12 + f 2 * 2 ^ 8 + f 1 * 2 ^ 4 + f 0)

/-- The XOR of the first n nibbles. -/
def nibbleXor (f : Nat → Nat) (n : Nat) : Nat := (List.range n).foldl (fun x i => x ^^^ f i) 0

/-- The ten nibbles that travel for a word: its own, and the check nibble as nibble 9. -/
def wordNibble (w : Word) (i : Nat) : Nat := if i = 9 then checkNibble w else fld w (4 * i + 3) (4 * i)

/-! ### The XOR of nibbles -/

theorem nibbleXor_succ (f : Nat → Nat) (n : Nat) : nibbleXor f (n + 1) = nibbleXor f n ^^^ f n := by
  rw [nibbleXor, List.range_succ, List.foldl_append]
  rfl

theorem nibbleXor_lt {f : Nat → Nat} (n : Nat) (hf : ∀ i < n, f i < 16) : nibbleXor f n < 16 := by
  induction n with
  | zero => exact Nat.zero_lt_succ 15
  | succ n ih =>
    rw [nibbleXor_succ]
    exact Nat.xor_lt_two_pow (n := 4) (ih fun i hi => hf i (by omega)) (hf n (by omega))

theorem nibbleXor_congr {f g : Nat → Nat} (n : Nat) (h : ∀ i < n, f i = g i) : nibbleXor f n = nibbleXor g n := by
  induction n with
  | zero => rfl
  | succ n ih => rw [nibbleXor_succ, nibbleXor_succ, ih fun i hi => h i (by omega), h n (by omega)]

/-- Changing one nibble by x changes the XOR of all by x. -/
theorem nibbleXor_update (f : Nat → Nat) {j n : Nat} (hj : j < n) (x : Nat) :
    nibbleXor (Function.update f j (f j ^^^ x)) n = nibbleXor f n ^^^ x := by
  induction n with
  | zero => omega
  | succ n ih =>
    rw [nibbleXor_succ, nibbleXor_succ]
    by_cases hjn : j = n
    · subst hjn
      rw [Function.update_self, nibbleXor_congr j fun i hi => Function.update_of_ne (by omega) _ f, Nat.xor_assoc]
    · rw [ih (by omega), Function.update_of_ne (Ne.symm hjn), Nat.xor_assoc, Nat.xor_assoc, Nat.xor_comm x]

theorem xor_ne_self {a x : Nat} (hx : 0 < x) : a ^^^ x ≠ a := fun h => by
  have h0 : x = 0 := by rw [← Nat.xor_xor_cancel_left a x, h, Nat.xor_self]
  omega

/-- XOR of two bytes, nibble by nibble. -/
theorem byte_xor {h l g m : Nat} (hl : l < 16) (hm : m < 16) : (16 * h + l) ^^^ (16 * g + m) = 16 * (h ^^^ g) + (l ^^^ m) := by
  have hlm : l ^^^ m < 2 ^ 4 := Nat.xor_lt_two_pow hl hm
  apply Nat.eq_of_testBit_eq
  intro i
  rw [show (16 : Nat) = 2 ^ 4 from rfl, Nat.testBit_xor, Nat.testBit_two_pow_mul_add _ hl, Nat.testBit_two_pow_mul_add _ hm,
    Nat.testBit_two_pow_mul_add _ hlm]
  split <;> rw [Nat.testBit_xor]

/-! ### Words and their nibbles -/

theorem bits_eq_div (w hi lo : Nat) : bits w hi lo = w / 2 ^ lo % 2 ^ (hi + 1 - lo) := by rw [bits, Nat.shiftRight_eq_div_pow]

/-- A byte of a word is its two nibbles. -/
theorem fld_byte (w : Word) (lo : Nat) : fld w (lo + 7) lo = 16 * fld w (lo + 7) (lo + 4) + fld w (lo + 3) lo := by
  rw [fld, fld, fld, bits_eq_div, bits_eq_div, bits_eq_div, show lo + 7 + 1 - lo = 8 by omega, show lo + 7 + 1 - (lo + 4) = 4 by omega,
    show lo + 3 + 1 - lo = 4 by omega, Nat.pow_add, ← Nat.div_div_eq_div_mul]
  omega

theorem wordBytes_eq (w : Word) : wordBytes w = nibbleBytes (wordNibble w) := by
  rw [wordBytes, fld_byte w 24, fld_byte w 16, fld_byte w 8, fld_byte w 0, Nat.mul_comm]
  rfl

theorem checkNibble_eq (w : Word) : checkNibble w = 15 - nibbleXor (fun i => fld w (4 * i + 3) (4 * i)) 9 := rfl

theorem wordNibble_lt (w : Word) (i : Nat) : wordNibble w i < 16 := by
  unfold wordNibble
  split
  · rw [checkNibble_eq]; omega
  · have h := fld_lt w (4 * i + 3) (4 * i)
    rwa [show 4 * i + 3 + 1 - 4 * i = 4 by omega] at h

theorem nibbleWord_toNat {f : Nat → Nat} (hf : ∀ i, f i < 16) : (nibbleWord f).toNat =
    f 8 * 2 ^ 32 + f 7 * 2 ^ 28 + f 6 * 2 ^ 24 + f 5 * 2 ^ 20 + f 4 * 2 ^ 16 + f 3 * 2 ^ 12 + f 2 * 2 ^ 8 + f 1 * 2 ^ 4 + f 0 := by
  have h0 := hf 0; have h1 := hf 1; have h2 := hf 2; have h3 := hf 3; have h4 := hf 4
  have h5 := hf 5; have h6 := hf 6; have h7 := hf 7; have h8 := hf 8
  rw [nibbleWord, wd, BitVec.toNat_ofNat, Nat.mod_eq_of_lt]
  omega

/-- The first n nibbles of a word are its low 4n bits. -/
theorem sum_wordNibble (w : Word) {n : Nat} (hn : n ≤ 9) :
    ∑ i ∈ Finset.range n, wordNibble w i * 2 ^ (4 * i) = w.toNat % 2 ^ (4 * n) := by
  induction n with
  | zero => rw [Finset.sum_range_zero, Nat.mul_zero, Nat.pow_zero, Nat.mod_one]
  | succ n ih =>
    rw [Finset.sum_range_succ, ih (by omega), wordNibble, if_neg (by omega), fld, bits_eq_div, Nat.mul_succ, Nat.pow_add, Nat.mod_mul,
      Nat.mul_comm (2 ^ (4 * n)), show 4 * n + 3 + 1 - 4 * n = 4 by omega]

theorem nibbleWord_wordNibble (w : Word) : nibbleWord (wordNibble w) = w := by
  apply BitVec.eq_of_toNat_eq
  have hw : w.toNat % 2 ^ (4 * 9) = w.toNat := Nat.mod_eq_of_lt w.isLt
  have hsum := sum_wordNibble w (n := 9) (by decide)
  rw [hw] at hsum
  simp only [Finset.sum_range_succ, Finset.sum_range_zero] at hsum
  rw [nibbleWord_toNat (wordNibble_lt w), ← hsum]
  omega

theorem fld_nibbleWord {f : Nat → Nat} (hf : ∀ i, f i < 16) {i : Nat} (hi : i < 9) : fld (nibbleWord f) (4 * i + 3) (4 * i) = f i := by
  have h0 := hf 0; have h1 := hf 1; have h2 := hf 2; have h3 := hf 3; have h4 := hf 4
  have h5 := hf 5; have h6 := hf 6; have h7 := hf 7; have h8 := hf 8
  rw [fld, nibbleWord_toNat hf, bits_eq_div]
  interval_cases i <;> norm_num <;> omega

/-- Bytes whose nibble 9 is the check of the others are received as a word, all others not (R44). -/
theorem bytesWord_nibbleBytes {f : Nat → Nat} (hf : ∀ i, f i < 16) :
    bytesWord (nibbleBytes f) = if f 9 = 15 - nibbleXor f 9 then some (nibbleWord f) else none := by
  have h0 := hf 0; have h1 := hf 1; have h2 := hf 2; have h3 := hf 3; have h4 := hf 4
  have h5 := hf 5; have h6 := hf 6; have h7 := hf 7; have h8 := hf 8
  have hword : wd ((16 * f 9 + f 8) % 16 * 2 ^ 32 + (16 * f 7 + f 6) % 256 * 2 ^ 24 + (16 * f 5 + f 4) % 256 * 2 ^ 16 +
      (16 * f 3 + f 2) % 256 * 2 ^ 8 + (16 * f 1 + f 0) % 256) = nibbleWord f := by
    refine congrArg wd ?_
    omega
  have hcheck : checkNibble (nibbleWord f) = 15 - nibbleXor f 9 := by
    rw [checkNibble_eq, nibbleXor_congr 9 fun i hi => fld_nibbleWord hf hi]
  have hnib : (16 * f 9 + f 8) / 16 = f 9 := by omega
  simp only [bytesWord, nibbleBytes, hword, hcheck, hnib]

theorem wordNibble_check (w : Word) : wordNibble w 9 = 15 - nibbleXor (wordNibble w) 9 := by
  rw [nibbleXor_congr (f := wordNibble w) 9 fun i hi => if_neg (show i ≠ 9 by omega)]
  exact checkNibble_eq w

/-- A change in the k-th nibble on the wire is a change of nibble 9 - k. -/
theorem nibbleBytes_change {f : Nat → Nat} (hf : ∀ i, f i < 16) {k x : Nat} (hk : k < 10) (hx : x < 16) :
    (nibbleBytes f).zipIdx.map (fun e => if e.2 = k / 2 then e.1 ^^^ (x * 16 ^ (1 - k % 2)) else e.1) =
      nibbleBytes (Function.update f (9 - k) (f (9 - k) ^^^ x)) := by
  have hhigh (i j : Nat) : (16 * f i + f j) ^^^ (x * 16) = 16 * (f i ^^^ x) + f j := by
    have h := byte_xor (h := f i) (g := x) (hf j) (show 0 < 16 by decide)
    rwa [Nat.add_zero, Nat.xor_zero, Nat.mul_comm 16 x] at h
  have hlow (i j : Nat) : (16 * f i + f j) ^^^ x = 16 * f i + (f j ^^^ x) := by
    have h := byte_xor (h := f i) (g := 0) (hf j) hx
    rwa [Nat.mul_zero, Nat.zero_add, Nat.xor_zero] at h
  interval_cases k <;> simp [nibbleBytes, Function.update, hhigh, hlow]

/-- Changing one of ten nibbles breaks the check (R44). -/
theorem bytesWord_change {f : Nat → Nat} (hf : ∀ i, f i < 16) (hcheck : f 9 = 15 - nibbleXor f 9) {j x : Nat} (hj : j < 10)
    (hx : 0 < x) (hx16 : x < 16) : bytesWord (nibbleBytes (Function.update f j (f j ^^^ x))) = none := by
  have hjx : f j ^^^ x < 16 := Nat.xor_lt_two_pow (n := 4) (hf j) hx16
  have hf' (i : Nat) : Function.update f j (f j ^^^ x) i < 16 := by
    by_cases hij : i = j
    · rw [hij, Function.update_self]; exact hjx
    · rw [Function.update_of_ne hij]; exact hf i
  rw [bytesWord_nibbleBytes hf', if_neg]
  have hlt := nibbleXor_lt (f := f) 9 fun i _ => hf i
  rcases Nat.lt_or_ge j 9 with hj9 | hj9
  · rw [Function.update_of_ne (by omega), nibbleXor_update f hj9, hcheck]
    have hne := xor_ne_self (a := nibbleXor f 9) hx
    have hlt' := Nat.xor_lt_two_pow (n := 4) hlt hx16
    omega
  · obtain rfl : j = 9 := by omega
    rw [Function.update_self, nibbleXor_congr 9 fun i hi => Function.update_of_ne (by omega) _ f, ← hcheck]
    exact xor_ne_self hx

/-- Settles O10: the ten nibbles of a word, the check they pass, and how one changed nibble breaks it. -/
theorem hostWordsCarryTheirCheck : Obligations.HostWordsCarryTheirCheck := by
  refine ⟨fun w => wordBytes_eq w, fun w => ?_, fun w k x hk hx hx16 => ?_⟩
  · rw [wordBytes_eq, bytesWord_nibbleBytes (wordNibble_lt w), if_pos (wordNibble_check w), nibbleWord_wordNibble]
  · rw [wordBytes_eq, nibbleBytes_change (wordNibble_lt w) hk hx16]
    exact bytesWord_change (wordNibble_lt w) (wordNibble_check w) (by omega) hx hx16

end Sys2Proof.Machine

/-! SUPPORT. Complement pairs over the crossbar (R39-R41): the write that is held, the write that commits or is rejected, the timeout. -/
namespace Sys2Proof.Machine
open Sys2Proof

/-! ### Counted and logged -/

/-- An event counted in a field of a register and reported: the count rises by one, and no other word changes. -/
theorem bump_report {s : State} (hm : s.memOk = true) (x src d0 d1 : Nat) (e : Event) {hi lo : Nat} (h : hi < 36) (hl : lo ≤ hi) :
    SameBut s (s.after (seq [bump x hi lo 1, report src e d0 d1])) [x] ∧
    rdF (s.after (seq [bump x hi lo 1, report src e d0 d1])) x hi lo = min (2 ^ (hi + 1 - lo) - 1) (rdF s x hi lo + 1) := by
  refine ⟨fun b hb => ?_, rdF_bump hm x 1 h hl⟩
  exact (keeps_bump x b hi lo 1 fun hbx => hb (List.mem_singleton.2 hbx)).after hm

/-- PAIR_REJECT counts (R40, R41, R327). -/
theorem pairReject_counts {s : State} (hm : s.memOk = true) (m a : Nat) (discard : Bool) :
    SameBut s (s.after (pairReject m a discard)) [QCH + 4] ∧
    rdF (s.after (pairReject m a discard)) (QCH + 4) 35 24 = min 4095 (rdF s (QCH + 4) 35 24 + 1) :=
  bump_report hm _ _ _ _ _ (by decide) (by decide)

theorem pairReject_keeps {β : Sort _} {f : State → β} (hmem : ∀ s x v, f (applyEff s (.mem x v)) = f s)
    (hlog : ∀ s v, f (applyEff s (.log v)) = f s) (m a : Nat) (discard : Bool) : Keeps f (pairReject m a discard) :=
  keeps_acts ⟨fun _ _ => hmem _ _ _, fun _ _ => hlog _ _⟩

/-- The same with what the master holds forgotten first, in a state whose words are those of s. -/
theorem unstage_pairReject_counts {s u : State} (hm : u.memOk = true) (hrd : rd u = rd s) (m a : Nat) (discard : Bool) :
    SameBut s ((u.after (unstage m)).after (pairReject m a discard)) [QCH + 4] ∧
    rdF ((u.after (unstage m)).after (pairReject m a discard)) (QCH + 4) 35 24 = min 4095 (rdF s (QCH + 4) 35 24 + 1) := by
  have hrd' : rd (u.after (unstage m)) = rd s := hrd
  obtain ⟨hsame, hcount⟩ := pairReject_counts (s := u.after (unstage m)) hm m a discard
  refine ⟨fun b hb => (hsame b hb).trans (congrFun hrd' b), ?_⟩
  rw [hcount, rdF, hrd', ← rdF]

/-! ### What a master has staged -/

theorem keepStaged_mine {s : State} {m : Nat} {g : Staged} {mine : Nat → Bool} (h : stagedOf s m = some g) (hg : mine g.addr = true) :
    s.after (keepStaged m mine) = s := by
  simp [State.after, keepStaged, h, hg]

theorem keepStaged_other {s : State} {m : Nat} {g : Staged} {mine : Nat → Bool} (h : stagedOf s m = some g) (hg : mine g.addr = false) :
    s.after (keepStaged m mine) = s.after (discardStaged m) := by
  refine after_congr ?_
  simp [keepStaged, h, hg]

/-- A half-written pair that is discarded is counted (R41). -/
theorem discardStaged_pair {s : State} {m : Nat} {g : Staged} (h : stagedOf s m = some g) (hg : isPairWord g.addr = true) :
    s.after (discardStaged m) = (s.after (unstage m)).after (pairReject m g.addr true) := by
  have hact : discardStaged m s = seq [unstage m, when (fun _ => isPairWord g.addr) (pairReject m g.addr true)] s := by
    rw [discardStaged, h]
  rw [after_congr hact, after_seq_cons, after_seq_cons, after_seq_nil]
  exact after_congr (when_pos _ _ _ hg)

/-! ### The acts of the pair target (R40) -/

theorem pairStage_none {s : State} {m : Nat} (a : Nat) (w : Word) (h : stagedOf s m = none) :
    s.after (pairStage m a w) = s.after (stage m a w) := by
  rw [pairStage, after_seq_cons, after_when_neg (by rw [h]), after_seq_cons, after_seq_nil]

theorem pairCommit_complement {s : State} {m a : Nat} {v : Word} (h : stagedOf s m = some { addr := a, word := v }) :
    s.after (pairCommit m a (notW v)) = (s.after (unstage m)).after (pokePairVal a v) := by
  have hact : pairCommit m a (notW v) s = seq [unstage m, pokePairVal a v] s := by simp [pairCommit, h]
  rw [after_congr hact, after_seq_cons, after_seq_cons, after_seq_nil]

theorem pairCommit_rejected {s : State} {m a : Nat} {v w : Word} (h : stagedOf s m = some { addr := a, word := v }) (hw : w ≠ notW v) :
    s.after (pairCommit m a w) = (s.after (unstage m)).after (pairReject m a false) := by
  have hact : pairCommit m a w s = seq [unstage m, pairReject m a false] s := by simp [pairCommit, h, hw]
  rw [after_congr hact, after_seq_cons, after_seq_cons, after_seq_nil]

/-- A pair committed whole reads as its value, and no other word changes (R39, R40). -/
theorem pokePairVal_reads {s : State} (hm : s.memOk = true) (a : Nat) (v : Word) :
    pairVal (s.after (pokePairVal a v)) a = some v ∧ SameBut s (s.after (pokePairVal a v)) [a, a + 1] := by
  have hm' := mem_memOk s a v hm
  have hrd (b : Nat) : rd (s.after (pokePairVal a v)) b = if b = a + 1 then notW v else if b = a then v else rd s b := by
    rw [← rd_mem s a b v hm]
    exact rd_mem _ _ _ _ hm'
  have hbad : (s.after (pokePairVal a v)).bad = (s.bad.filter (· != a)).filter (· != a + 1) := rfl
  refine ⟨?_, fun b hb => ?_⟩
  · have hvalue : rd (s.after (pokePairVal a v)) a = v := by rw [hrd, if_neg (by omega), if_pos rfl]
    have hcompl : rd (s.after (pokePairVal a v)) (a + 1) = notW v := by rw [hrd, if_pos rfl]
    rw [pairVal, hvalue, hcompl, if_pos]
    refine ⟨rfl, ?_, ?_⟩ <;> simp [hbad]
  · simp only [List.mem_cons, List.not_mem_nil, or_false, not_or] at hb
    rw [hrd, if_neg hb.2, if_neg hb.1]

/-! ### The loader's writes of pair words -/

/-- The pair words by their ranges (R39). -/
theorem isPairWord_iff (a : Nat) : isPairWord a = true ↔ (QCH + 0x800 ≤ a ∧ a ≤ QCH + 0x803) ∨ (QCH + 0x1000 ≤ a ∧ a ≤ QCH + 0x17FF) ∨
    (PIN ≤ a ∧ a ≤ PIN + 3) ∨ (TWN + 0x800 ≤ a ∧ a ≤ TWN + 0x801) ∨ (CRU + 0x4000 ≤ a ∧ a ≤ CRU + 0x401F) ∨
    (CRU + 0x4800 ≤ a ∧ a ≤ CRU + 0x57FF) := by
  delta isPairWord
  simp only [Bool.or_eq_true, Bool.and_eq_true, decide_eq_true_eq, or_assoc]

theorem isPairWord_regs {a : Nat} (h : isPairWord a = true) : 0x30000000 ≤ a ∧ a ≤ 0x3015FFFF := by
  rw [isPairWord_iff] at h
  unfold QCH PIN TWN CRU at h
  omega

theorem isPairWord_odd {a : Nat} (h : isPairWord a = true) (heven : a % 2 = 0) : isPairWord (a + 1) = true := by
  rw [isPairWord_iff] at h ⊢
  unfold QCH PIN TWN CRU at *
  omega

theorem portOf_pair {a : Nat} (h : isPairWord a = true) : portOf a = some .regs := by
  obtain ⟨hlo, hhi⟩ := isPairWord_regs h
  have ht : inTables a = false := by
    simp only [inTables, Bool.or_eq_false_iff, Bool.and_eq_false_iff, decide_eq_false_iff_not]
    omega
  have hl : inLaneMem a = false := by
    rw [inLaneMem, decide_eq_false (show ¬ a < 0x29200000 by omega), Bool.and_false, Bool.false_and]
  have hr : (decide (0x30000000 ≤ a) && decide (a ≤ 0x3015FFFF)) = true := by rw [decide_eq_true hlo, decide_eq_true hhi]; rfl
  rw [portOf, if_neg (by omega), if_neg (by simp; omega), ht, hl, hr]
  rfl

theorem writeStatus_pair (s : State) {a : Nat} (h : isPairWord a = true) : writeStatus s 2 a = 0 := by
  simp [writeStatus, portOf_pair h, regWriter, h]

/-- The loader is served: the block runs, and no drain of its port is in progress (R468). -/
def LoaderServed (s : State) : Prop := busUp s = true ∧ s.sys.state ≠ .reset ∧ s.sys.draining.contains 2 = false

/-- The loader is served on while the record of the device state stays. -/
theorem LoaderServed.goesOn {s t : State} (h : LoaderServed s) (hsys : t.sys = s.sys) :
    (busUp t && t.sys.state != .reset && !t.sys.draining.contains 2) = true := by
  obtain ⟨hbus, hstate, hdrain⟩ := h
  have hbus' : busUp t = true := by rw [busUp, hsys]; exact hbus
  rw [hbus', hsys, hdrain, bne_iff_ne.2 hstate]
  rfl

theorem run_onBus_loader {s : State} (h : LoaderServed s) (a : Nat) (act : Act) :
    ∃ g, run (onBus 2 a act) s = (s.granting g).after act := by
  obtain ⟨hbus, -, hdrain⟩ := h
  have hbus' : busUp s.begun = true := hbus
  have hdrain' : s.begun.sys.draining.contains 2 = false := hdrain
  have hrun : run (onBus 2 a act) s = applyAll (onBus 2 a act s.begun) s.begun := rfl
  rw [hrun]
  simp only [onBus, hbus', show isMaster 2 = true from rfl, hdrain', Bool.not_true, Bool.or_self, Bool.false_eq_true, if_false,
    seq_cons, seq_nil]
  cases portOf a with
  | some p => exact ⟨sparsePut s.xbr.granted (portNumber p) (masterPort 2), rfl⟩
  | none => exact ⟨s.xbr.granted, rfl⟩

/-- The loader's write of a word of the pair it has staged, or of any with nothing staged, is performed and answered OK. -/
theorem run_write1_pair {s : State} {a : Nat} {w : Word} (h : LoaderServed s) (hpair : isPairWord a = true)
    (hstaged : ∀ g, stagedOf s 2 = some g → keepsStaged a g.addr = true)
    (hsys : ∀ g, ((s.granting g).after (regWrite commandWord 2 a w)).sys = s.sys) :
    ∃ g, run (write1 2 a w) s = ((s.granting g).after (regWrite commandWord 2 a w)).after (emit (.resp 0 [])) := by
  obtain ⟨g, hg⟩ := run_onBus_loader h a (writeWords 2 [(a, true, w)] 0)
  have hok := writeStatus_pair (s.granting g) hpair
  have hkeep : (s.granting g).after (keepStaged 2 (keepsStaged a)) = s.granting g := by
    cases he : stagedOf s 2 with
    | none => exact keepStaged_of_none (s := s.granting g) _ he
    | some e => exact keepStaged_mine (s := s.granting g) he (hstaged e he)
  have hword : (s.granting g).after (writeWord 2 a w) = (s.granting g).after (regWrite commandWord 2 a w) := by
    rw [writeWord, writeWordWith, after_seq_cons, hkeep, after_seq_cons, after_seq_nil]
    refine after_congr ?_
    simp only [hok, performWrite, portOf_pair hpair]
  refine ⟨g, ?_⟩
  have ha : a < 2 ^ 32 := by have := (isPairWord_regs hpair).2; omega
  rw [write1, if_pos ha, hg, ← hword, State.after, writeWords]
  simp only [if_true, hok, seq_cons, seq_nil]
  refine congrArg (applyAll · _) (if_pos ?_)
  have hgo := hsys g
  rw [← hword] at hgo
  exact h.goesOn hgo

theorem emit_xbr (s : State) (o : Out) : (s.after (emit o)).xbr = s.xbr := rfl

/-- A command that is such a write, by what the target does: the act of the pair target and the answer OK. -/
theorem exec_loader_pair {c : Instr} {s : State} {a : Nat} {w : Word} {act : Act} (h : LoaderServed s) (hpair : isPairWord a = true)
    (hexec : exec c s = .next (run (write1 2 a w) s)) (hact : regWrite commandWord 2 a w = act)
    (hstaged : ∀ g, stagedOf s 2 = some g → keepsStaged a g.addr = true) (hsys : ∀ g, ((s.granting g).after act).sys = s.sys) :
    ∃ g, exec c s = .next (((s.granting g).after act).after (emit (.resp 0 []))) := by
  subst hact
  obtain ⟨g, hg⟩ := run_write1_pair h hpair hstaged hsys
  exact ⟨g, hexec.trans (congrArg _ hg)⟩

section
variable {s : State} {a : Nat} {v w : Word}

theorem exec_pairStageWrite (m : Nat) (hpair : isPairWord a = true) (heven : a % 2 = 0) :
    exec (.pairStageWrite m a w) s = .next (run (write1 m a w) s) := by
  have hexec : exec (.pairStageWrite m a w) s = .next (run (write1 m (a - a % 2) w) s) := congrArg Host.Outcome.next (run_when _ hpair)
  rwa [heven, Nat.sub_zero] at hexec

theorem exec_pairCommitWrite (m : Nat) (hpair : isPairWord a = true) (heven : a % 2 = 0) :
    exec (.pairCommitWrite m a w) s = .next (run (write1 m (a + 1) w) s) := by
  have hexec : exec (.pairCommitWrite m a w) s = .next (run (write1 m (a - a % 2 + 1) w) s) :=
    congrArg Host.Outcome.next (run_when _ hpair)
  rwa [heven, Nat.sub_zero] at hexec

theorem regWrite_pair_even (sp : Nat → Nat → Word → Act) (m : Nat) (hpair : isPairWord a = true) (heven : a % 2 = 0) :
    regWrite sp m a w = pairStage m a w := by
  rw [regWrite, if_pos hpair, if_pos heven]

theorem regWrite_pair_odd (sp : Nat → Nat → Word → Act) (m : Nat) (hpair : isPairWord a = true) (heven : a % 2 = 0) :
    regWrite sp m (a + 1) w = pairCommit m a w := by
  rw [regWrite, if_pos (isPairWord_odd hpair heven), if_neg (by omega), Nat.add_sub_cancel]

/-- A write of the odd word leaves its own pair held (R41). -/
theorem odd_keepsStaged {m : Nat} (hheld : stagedOf s m = some { addr := a, word := v }) (g : Staged) (hg : stagedOf s m = some g) :
    keepsStaged (a + 1) g.addr = true := by
  obtain rfl := Option.some.inj (hheld.symm.trans hg)
  simp [keepsStaged]

/-- The write to the even word of a pair is held (R40). -/
theorem pairStageWrite_holds (h : LoaderServed s) (hpair : isPairWord a = true) (heven : a % 2 = 0) (hnone : stagedOf s 2 = none) :
    ∃ t, exec (.pairStageWrite 2 a w) s = .next t ∧ stagedOf t 2 = some { addr := a, word := w } ∧ t.mem = s.mem ∧
      t.out = [.resp 0 []] := by
  have hact (g : Sparse Nat) : (s.granting g).after (pairStage 2 a w) = (s.granting g).after (stage 2 a w) :=
    pairStage_none (s := s.granting g) a w hnone
  obtain ⟨g, hg⟩ := exec_loader_pair h hpair (exec_pairStageWrite 2 hpair heven) (regWrite_pair_even _ 2 hpair heven)
    (fun g hg => absurd (hnone.symm.trans hg) (by simp)) (fun g => by rw [hact]; rfl)
  rw [hact] at hg
  exact ⟨_, hg, sparseFind_put _ _ _, rfl, rfl⟩

variable (h : LoaderServed s) (hm : s.memOk = true) (hpair : isPairWord a = true) (heven : a % 2 = 0)
  (hheld : stagedOf s 2 = some { addr := a, word := v })
include h hm hpair heven hheld

/-- The complement in the odd word commits the pair whole (R40). -/
theorem pairCommitWrite_commits : ∃ t, exec (.pairCommitWrite 2 a (~~~ v)) s = .next t ∧
    pairVal t a = some v ∧ SameBut s t [a, a + 1] ∧ t.xbr.staged = sparseDrop s.xbr.staged 2 := by
  have hact (g : Sparse Nat) : (s.granting g).after (pairCommit 2 a (~~~ v)) = ((s.granting g).after (unstage 2)).after (pokePairVal a v) :=
    pairCommit_complement (s := s.granting g) hheld
  obtain ⟨g, hg⟩ := exec_loader_pair h (isPairWord_odd hpair heven) (exec_pairCommitWrite 2 hpair heven)
    (regWrite_pair_odd _ 2 hpair heven) (odd_keepsStaged hheld) (fun g => by rw [hact]; rfl)
  rw [hact] at hg
  obtain ⟨hval, hsame⟩ := pokePairVal_reads (s := (s.granting g).after (unstage 2)) hm a v
  exact ⟨_, hg, hval, hsame, rfl⟩

/-- Anything else in the odd word commits nothing and is counted (R40). -/
theorem pairCommitWrite_rejects (hw : w ≠ ~~~ v) : ∃ t, exec (.pairCommitWrite 2 a w) s = .next t ∧ SameBut s t [QCH + 4] ∧
    rdF t (QCH + 4) 35 24 = min 4095 (rdF s (QCH + 4) 35 24 + 1) ∧ t.xbr.staged = sparseDrop s.xbr.staged 2 := by
  have hact (g : Sparse Nat) : (s.granting g).after (pairCommit 2 a w) = ((s.granting g).after (unstage 2)).after (pairReject 2 a false) :=
    pairCommit_rejected (s := s.granting g) hheld hw
  obtain ⟨g, hg⟩ := exec_loader_pair h (isPairWord_odd hpair heven) (exec_pairCommitWrite 2 hpair heven)
    (regWrite_pair_odd _ 2 hpair heven) (odd_keepsStaged hheld)
    (fun g => by rw [hact]; exact (pairReject_keeps mem_sys log_sys 2 a false).after (s := (s.granting g).after (unstage 2)) hm)
  rw [hact] at hg
  obtain ⟨hsame, hcount⟩ := unstage_pairReject_counts (s := s) (u := s.granting g) hm (granting_rd s g) 2 a false
  have hxbr := (pairReject_keeps (f := (·.xbr)) mem_xbr log_xbr 2 a false).after (s := (s.granting g).after (unstage 2)) hm
  refine ⟨_, hg, fun b hb => ?_, ?_, ?_⟩
  · rw [emit_rd, hsame b hb]
  · rwa [rdF, emit_rd, ← rdF]
  · rw [emit_xbr, hxbr]
    rfl

omit h heven in
/-- A millisecond without the second write discards what was held, counted (R41). -/
theorem pairStageTimeout_discards : ∃ t, exec (.pairStageTimeout 2) s = .next t ∧ SameBut s t [QCH + 4] ∧
    rdF t (QCH + 4) 35 24 = min 4095 (rdF s (QCH + 4) 35 24 + 1) ∧ t.xbr.staged = sparseDrop s.xbr.staged 2 := by
  have hheld' : stagedOf s.begun 2 = some { addr := a, word := v } := hheld
  have hexec : exec (.pairStageTimeout 2) s = .next (s.begun.after (discardStaged 2)) :=
    congrArg Host.Outcome.next (run_when _ (by rw [hheld']; exact hpair))
  rw [discardStaged_pair hheld' hpair] at hexec
  obtain ⟨hsame, hcount⟩ := unstage_pairReject_counts (s := s) (u := s.begun) hm rfl 2 a true
  exact ⟨_, hexec, hsame, hcount, rfl⟩

end

/-- Settles O6: the four things that can become of a half-written pair of the loader. -/
theorem complementPairsAreStagedAndCommittedWhole : Obligations.ComplementPairsAreStagedAndCommittedWhole := by
  intro s a v w hpair heven hbus hstate hdrain hm
  have h : LoaderServed s := ⟨hbus, hstate, hdrain⟩
  exact ⟨pairStageWrite_holds h hpair heven, pairCommitWrite_commits h hm hpair heven, pairCommitWrite_rejects h hm hpair heven,
    pairStageTimeout_discards hm hpair⟩

end Sys2Proof.Machine

/-! SUPPORT. The loader's direct write of a route entry while it holds half of a complement pair (R41, R198). -/
namespace Sys2Proof.Machine
open Sys2Proof

/-- The write goes to another address than the pair's, so the half-written pair is discarded and counted in PAIR_REJECT (R41). -/
theorem loader_routeCtrlWrite_counts_pair {s : State} {g : Staged} (hm : s.memOk = true) (hheld : stagedOf s 2 = some g)
    (hpair : isPairWord g.addr = true) (e : Nat) (w : Word) :
    rdF (s.after (routeCtrlWrite 2 e w)) (QCH + 4) 35 24 = min 4095 (rdF s (QCH + 4) 35 24 + 1) := by
  have hlow : tblRoute + 2 * (e % 4096) < 0x30000000 := by unfold tblRoute; omega
  have hother : (g.addr == tblRoute + 2 * (e % 4096)) = false := by
    rw [beq_eq_false_iff_ne]
    have := (isPairWord_regs hpair).1
    omega
  have hact : routeCtrlWrite 2 e w s =
      seq [keepStaged 2 (fun x => x == tblRoute + 2 * (e % 4096)), poke (tblRoute + 2 * (e % 4096)) w] s := by
    simp [routeCtrlWrite, routeMaster]
  rw [after_congr hact, after_seq_cons, after_seq_cons, after_seq_nil, keepStaged_other hheld hother, discardStaged_pair hheld hpair,
    ← (unstage_pairReject_counts (s := s) (u := s) hm rfl 2 g.addr true).2]
  have hq : QCH + 4 ≠ tblRoute + 2 * (e % 4096) := by unfold QCH; omega
  exact congrArg (fld · 35 24) ((keeps_poke _ (QCH + 4) w hq).after (after_memOk _ hm))

/-- The state after reset in which the loader has written the even word of the pair QCH_CEIL_0. -/
def loaderHolding : State := State.reset.after (stage 2 (QCH + 0x1000) 5)

/-- Refutes O18: its words ask that nothing be staged, its clause on the loader does not. With the even word of a pair held, the loader's
write of a route's CTRL also changes PAIR_REJECT of QCH_COUNT_1 (R41), a word that the clause says stays. -/
theorem not_routeEntriesAreWrittenWhole : ¬ Obligations.RouteEntriesAreWrittenWhole := by
  intro h
  obtain ⟨-, -, -, -, ⟨⟨t, ht, -, hsame⟩, -⟩, -⟩ := h loaderHolding 0 0 0 0 0 (by decide) (by decide) (by decide) (by decide)
  have hcount := loader_routeCtrlWrite_counts_pair (s := loaderHolding.begun) (g := { addr := QCH + 0x1000, word := 5 }) (by decide) rfl
    (by decide) 0 0
  have hsame' : rdF t (QCH + 4) 35 24 = 0 := (congrArg (fld · 35 24) (hsame (QCH + 4) (by decide))).trans (by decide +kernel)
  obtain rfl : run (routeCtrlWrite 2 0 0) loaderHolding = t := Host.Outcome.next.inj ht
  exact absurd (hcount.symm.trans hsame') (by omega)

end Sys2Proof.Machine

/-! SUPPORT. What Hearth's acts are made of: words stored and fields shown, events rung and logged, writes refused (R464, R479, R520). -/
namespace Sys2Proof.Machine
open Sys2Proof

/-- The last of several acts. -/
theorem after_seq_snoc (as : List Act) (a : Act) (s : State) : s.after (seq (as ++ [a])) = (s.after (seq as)).after a := by
  rw [after_seq_append, after_seq_cons, after_seq_nil]

theorem after_two (a b : Act) (s : State) : s.after (seq [a, b]) = (s.after a).after b := by
  rw [after_seq_cons, after_seq_cons, after_seq_nil]

theorem after_three (a b c : Act) (s : State) : s.after (seq [a, b, c]) = ((s.after a).after b).after c := by
  rw [after_seq_cons, after_two]

theorem after_four (a b c d : Act) (s : State) : s.after (seq [a, b, c, d]) = (((s.after a).after b).after c).after d := by
  rw [after_seq_cons, after_three]

/-! ### One block at a time -/

section
variable (s : State)

theorem onLog_log (g : State → Log → Log) : (s.after (onLog g)).log = g s s.log := rfl
theorem onHth_hth (g : State → Hth → Hth) : (s.after (onHth g)).hth = g s s.hth := rfl
theorem onFlash_flash (g : State → Flash → Flash) : (s.after (onFlash g)).flash = g s s.flash := rfl
theorem onLog_hth (g : State → Log → Log) : (s.after (onLog g)).hth = s.hth := rfl
theorem onLog_flash (g : State → Log → Log) : (s.after (onLog g)).flash = s.flash := rfl
theorem onHth_log (g : State → Hth → Hth) : (s.after (onHth g)).log = s.log := rfl
theorem onHth_macs (g : State → Hth → Hth) : (s.after (onHth g)).macs = s.macs := rfl
theorem onFlash_log (g : State → Flash → Flash) : (s.after (onFlash g)).log = s.log := rfl
theorem onLog_words (g : State → Log → Log) : rd (s.after (onLog g)) = rd s := rfl
theorem onHth_words (g : State → Hth → Hth) : rd (s.after (onHth g)) = rd s := rfl
end

/-! ### Acts that only show, ring and log -/

/-- A reading of the state that looks at no word. -/
structure Wordless {β : Sort _} (f : State → β) : Prop where
  mem : ∀ s a w, f (applyEff s (.mem a w)) = f s

namespace Wordless
variable {β : Sort _} {f : State → β} (h : Wordless f)
include h

theorem poke {a w} : Keeps f (poke a w) := fun _ _ => h.mem _ _ _
theorem pokeF {a hi lo v} : Keeps f (pokeF a hi lo v) := fun _ _ => h.mem _ _ _
theorem setBits {a m} : Keeps f (setBits a m) := fun _ _ => h.mem _ _ _
theorem clrBits {a m} : Keeps f (clrBits a m) := fun _ _ => h.mem _ _ _
theorem bump {a hi lo n} : Keeps f (bump a hi lo n) := fun _ _ => h.mem _ _ _
theorem ring {r b} : Keeps f (ring r b) := h.setBits

theorem stores (l : List (Nat × Word)) (place : Nat → Nat) (s : State) : f (applyAll (l.map fun e => .mem (place e.1) e.2) s) = f s := by
  induction l generalizing s with
  | nil => rfl
  | cons x l ih => exact (ih _).trans (h.mem _ _ _)

end Wordless

theorem wordless_log : Wordless (·.log) := ⟨mem_log⟩
theorem wordless_hth : Wordless (·.hth) := ⟨mem_hth⟩
theorem wordless_flash : Wordless (·.flash) := ⟨mem_flash⟩
theorem wordless_macs : Wordless (·.macs) := ⟨mem_macs⟩

/-- A reading of the state that looks at no word, at no report, and not at the queues of the DRAM channels. -/
structure Aloof {β : Sort _} (f : State → β) : Prop extends Wordless f where
  out : ∀ s v, f (applyEff s (.out v)) = f s
  log : ∀ s v, f (applyEff s (.log v)) = f s
  drc : ∀ s v, f (applyEff s (.drc v)) = f s

namespace Aloof
variable {β : Sort _} {f : State → β} (h : Aloof f)
include h

theorem report {src e a b} : Keeps f (report src e a b) := fun _ _ => h.log _ _
theorem emit {o} : Keeps f (emit o) := fun _ _ => h.out _ _
theorem onDrc {g} : Keeps f (onDrc g) := fun _ _ => h.drc _ _

end Aloof

/-- A report changes no word. -/
theorem report_rd {src d0 d1 : Nat} {e : Event} : Keeps rd (report src e d0 d1) := fun _ _ => rfl

theorem ring_rd {r bit b : Nat} (h : b ≠ MBX + 0x402 + 4 * r) : Keeps (fun s => rd s b) (ring r bit) := keeps_setBits _ b _ h

/-- A field of a word is kept by what keeps the word. -/
theorem rdF_congr {s t : State} {a : Nat} (h : rd t a = rd s a) (hi lo : Nat) : rdF t a hi lo = rdF s a hi lo := congrArg (fld · hi lo) h

theorem poke_rd {s : State} (hm : s.memOk = true) (a : Nat) (w : Word) : rd (s.after (poke a w)) a = w := rd_poke s a w hm

theorem pokeF_rd {s : State} (hm : s.memOk = true) (a hi lo v : Nat) : rd (s.after (pokeF a hi lo v)) a = setFld (rd s a) hi lo v :=
  rd_poke s a _ hm

theorem setBits_rd {s : State} (hm : s.memOk = true) (a m : Nat) : rd (s.after (setBits a m)) a = rd s a ||| wd m := rd_poke s a _ hm

/-- A bit of a word after it was set. -/
theorem flag_pokeF {s : State} (hm : s.memOk = true) (a i : Nat) (b : Bool) (h : i < 36) :
    flag (rd (s.after (pokeF a i i (b2n b))) a) i = b := by
  have hfield := rdF_pokeF hm a (b2n b) h (Nat.le_refl i)
  rw [rdF] at hfield
  rw [flag_eq_fld, hfield, Nat.add_sub_cancel_left]
  cases b <;> rfl

/-! ### Refused writes (R464) -/

/-- A refused write is counted, recorded and logged; what is kept by each of these is kept. -/
theorem refused_keeps {β : Sort _} {f : State → β} (hcount : Keeps f (bump XBR 35 24 1)) (hat : ∀ w, Keeps f (poke (XBR + 1) w))
    (hby : ∀ w, Keeps f (poke (XBR + 2) w)) (hreport : ∀ src e d0 d1, Keeps f (report src e d0 d1))
    (hhth : ∀ s v, f (applyEff s (.hth v)) = f s) (m a : Nat) (w : Bool) : Keeps f (refused m a w) := by
  refine keeps_acts ⟨hcount, hat _, hby _, fun s hm => ?_⟩
  dsimp only
  split
  · exact keeps_actsAt s ⟨hreport _ _ _ _, fun _ _ => hhth _ _⟩ hm
  · exact hhth _ _

/-- Of the words a refused write changes the three in which the crossbar counts and records it. -/
theorem refused_same {s : State} (hm : s.memOk = true) (m a : Nat) (w : Bool) :
    SameBut s (s.after (refused m a w)) [XBR, XBR + 1, XBR + 2] := fun b hb => by
  simp only [List.mem_cons, List.not_mem_nil, or_false, not_or] at hb
  obtain ⟨h0, h1, h2⟩ := hb
  exact (refused_keeps (f := fun s => rd s b) (keeps_bump _ b _ _ _ h0) (fun _ => keeps_poke _ b _ h1) (fun _ => keeps_poke _ b _ h2)
    (fun _ _ _ _ => report_rd.map (· b)) (fun _ _ => rfl) m a w).after hm

/-- No block beside the log and Hearth's own counts takes part in a refusal. -/
theorem Aloof.refused {β : Sort _} {f : State → β} (h : Aloof f) (hhth : ∀ s v, f (applyEff s (.hth v)) = f s) (m a : Nat) (w : Bool) :
    Keeps f (refused m a w) := refused_keeps h.bump (fun _ => h.poke) (fun _ => h.poke) (fun _ _ _ _ => h.report) hhth m a w

end Sys2Proof.Machine

/-! SUPPORT. Sensors, the lifetime record and the calendar (R514-R517, R523-R528). -/
namespace Sys2Proof.Machine
open Sys2Proof

/-! ### Doorbells and the words of Hearth -/

/-- No doorbell lies among the words behind those of the mailboxes. -/
theorem ring_hth {r bit b : Nat} (hr : r < 4) (hb : HPT ≤ b) : Keeps (fun s => rd s b) (ring r bit) :=
  ring_rd (by unfold HPT at hb; unfold MBX; omega)

theorem flag_setBits {s : State} (hm : s.memOk = true) (a : Nat) {i : Nat} (h : i < 36) :
    flag (rd (s.after (setBits a (2 ^ i))) a) i = true := by
  rw [setBits_rd hm, flag, BitVec.getLsbD_or, wd, BitVec.getLsbD_ofNat, Nat.testBit_two_pow_self, decide_eq_true h]
  exact Bool.or_true _

/-! ### Die temperatures (R514, R515) -/

/-- A signed field of twelve bits holds what was put there. -/
theorem sfld_setFld (w : Word) {v : Int} (hlo : -2048 ≤ v) (hhi : v < 2048) : sfld (setFld w 11 0 (v % 4096).toNat) 11 0 = v := by
  rw [sfld, fld_setFld _ _ _ _ (by decide) (by decide), signedN]
  simp only [show 11 + 1 - 0 = 12 from rfl]
  split <;> omega

theorem hottest_congr {s t : State} (h : ∀ j, j < 8 → rd t (HTH + j) = rd s (HTH + j)) : hottest t = hottest s := by
  have htemp (j : Nat) (hj : j < 8) : tempRd t j = tempRd s j := congrArg (sfld · 11 0) (h j hj)
  rw [hottest, hottest, htemp 0 (by decide)]
  exact List.foldl_ext _ _ _ fun m j hj => by rw [htemp j (List.mem_range.1 hj)]

/-- The thermal warning as a sample leaves it (R515). -/
def warmNow (s : State) : Bool :=
  if hottest s ≥ 4 * (rdF s (HTH + 0x30) 7 0 : Int) then true
  else if hottest s < 4 * ((rdF s (HTH + 0x30) 7 0 : Int) - rdF s (HTH + 0x30) 11 8) then false
  else flag (rd s (HTH + 0x31)) 10

theorem thermalWarning_eq (s : State) : thermalWarning s = if warmNow s == flag (rd s (HTH + 0x31)) 10 then [] else
    seq [pokeF (HTH + 0x31) 10 10 (b2n (warmNow s)), ringThermal, report 0x30 .thermal (b2n (warmNow s)) 0] s := rfl

theorem ringThermal_hth {b : Nat} (hb : HPT ≤ b) : Keeps (fun s => rd s b) ringThermal := by
  unfold ringThermal
  exact keeps_acts ⟨ring_hth (by decide) hb, ring_hth (by decide) hb⟩

theorem thermalWarning_rd {b : Nat} (hb : HPT ≤ b) (hwarn : b ≠ HTH + 0x31) : Keeps (fun s => rd s b) thermalWarning := fun s hm => by
  rw [thermalWarning_eq]
  split
  · rfl
  · exact keeps_actsAt s (as := [_, _, _]) ⟨keeps_pokeF _ b _ _ _ hwarn, ringThermal_hth hb, report_rd.map (· b)⟩ hm

theorem thermalWarning_flag {s : State} (hm : s.memOk = true) : flag (rd (s.after thermalWarning) (HTH + 0x31)) 10 = warmNow s := by
  rw [State.after, thermalWarning_eq]
  split
  next hsame => exact (beq_iff_eq.1 hsame).symm
  next =>
    have hrest : Keeps (fun u => rd u (HTH + 0x31)) (seq [ringThermal, report 0x30 .thermal (b2n (warmNow s)) 0]) :=
      keeps_acts ⟨ringThermal_hth (by decide), report_rd.map (· _)⟩
    rw [seq_cons]
    exact (congrArg (flag · 10) (hrest.after (after_memOk (pokeF _ 10 10 _) hm))).trans (flag_pokeF hm _ _ _ (by decide))

/-- The reading of die i and its maximum put in its register, and noted. -/
def publishTemp (i : Nat) (v mx : Int) : Act := seq [
  pokeF (HTH + i) 23 12 (mx % 4096).toNat, pokeF (HTH + i) 11 0 (v % 4096).toNat, lifeMax 28 (v + 220).toNat, sampledNow i]

theorem publishTemp_rd_other {i b : Nat} {v mx : Int} (hb : b ≠ HTH + i) : Keeps (fun s => rd s b) (publishTemp i v mx) :=
  keeps_acts ⟨keeps_pokeF _ b _ _ _ hb, keeps_pokeF _ b _ _ _ hb, fun _ _ => rfl, fun _ _ => rfl⟩

theorem publishTemp_reads {s : State} (hm : s.memOk = true) (i : Nat) (mx : Int) {v : Int} (hlo : -2048 ≤ v) (hhi : v < 2048) :
    tempRd (s.after (publishTemp i v mx)) i = v := by
  have hnoted : Keeps rd (seq [lifeMax 28 (v + 220).toNat, sampledNow i]) := keeps_acts ⟨fun _ _ => rfl, fun _ _ => rfl⟩
  have hmax := after_memOk (pokeF (HTH + i) 23 12 (mx % 4096).toNat) hm
  rw [publishTemp, after_seq_cons, after_seq_cons, tempRd, hnoted.after (after_memOk _ hmax)]
  rw [pokeF_rd hmax, sfld_setFld _ hlo hhi]

/-- The maximum of die i, which stands from its first sample on (R514). -/
def tempMax (s : State) (i : Nat) (v : Int) : Int := if !s.hth.sampled.contains i then v else max v (sfld (rd s (HTH + i)) 23 12)

theorem after_sampleTemp (i : Nat) (v : Int) (s : State) :
    s.after (sampleTemp i v) = (s.after (publishTemp i v (tempMax s i v))).after thermalWarning := by
  have hacts : s.after (sampleTemp i v) = s.after (seq [pokeF (HTH + i) 23 12 (tempMax s i v % 4096).toNat,
      pokeF (HTH + i) 11 0 (v % 4096).toNat, lifeMax 28 (v + 220).toNat, sampledNow i, thermalWarning]) := after_congr rfl
  exact hacts.trans (after_seq_snoc [_, _, _, _] _ s)

/-- A sample of die i shows in its register, and the warning follows the hottest die (R514, R515). -/
theorem sampleTemp_shows {s : State} (hm : s.memOk = true) {i : Nat} {v : Int} (hi : i < 8) (hlo : -2048 ≤ v) (hhi : v < 2048) :
    let t := s.after (sampleTemp i v)
    tempRd t i = v ∧ (∀ j, j < 8 → j ≠ i → rd t (HTH + j) = rd s (HTH + j)) ∧
    flag (rd t (HTH + 0x31)) 10 = (if (4 * rdF s (HTH + 0x30) 7 0 : Int) ≤ hottest t then true
      else if hottest t < 4 * ((rdF s (HTH + 0x30) 7 0 : Int) - rdF s (HTH + 0x30) 11 8) then false
      else flag (rd s (HTH + 0x31)) 10) := by
  generalize hmx : tempMax s i v = mx
  have heq := hmx ▸ after_sampleTemp i v s
  have hpub := after_memOk (publishTemp i v mx) hm
  have hwarn (b : Nat) (hb : HPT ≤ b) (hne : b ≠ HTH + 0x31) :
      rd ((s.after (publishTemp i v mx)).after thermalWarning) b = rd (s.after (publishTemp i v mx)) b :=
    (thermalWarning_rd hb hne).after hpub
  have hdie (j : Nat) (hj : j < 8) : rd ((s.after (publishTemp i v mx)).after thermalWarning) (HTH + j) = rd (s.after (publishTemp i v mx)) (HTH + j) :=
    hwarn _ (by unfold HPT HTH; omega) (by omega)
  have hlimits : rd (s.after (publishTemp i v mx)) (HTH + 0x30) = rd s (HTH + 0x30) := (publishTemp_rd_other (by omega)).after hm
  have hflag : rd (s.after (publishTemp i v mx)) (HTH + 0x31) = rd s (HTH + 0x31) := (publishTemp_rd_other (by omega)).after hm
  simp only [heq]
  refine ⟨?_, fun j hj hne => ?_, ?_⟩
  · exact (congrArg (sfld · 11 0) (hdie i hi)).trans (publishTemp_reads hm i mx hlo hhi)
  · exact (hdie j hj).trans ((publishTemp_rd_other (by omega)).after hm)
  · rw [thermalWarning_flag hpub, hottest_congr hdie, warmNow, rdF_congr hlimits, rdF_congr hlimits, hflag]

/-! ### Voltages, clocks, late duties (R514, R516, R517) -/

/-- The lowest of the three readings that a word of a voltage monitor holds. -/
theorem fld_threeReadings (mx mn : Nat) {mv : Nat} (h : mv < 4096) :
    fld (wd (mx % 4096 * 2 ^ 24 + mn % 4096 * 2 ^ 12 + mv % 4096)) 11 0 = mv := by
  rw [fld, bits, wd, BitVec.toNat_ofNat, Nat.shiftRight_zero]
  omega

/-- A rail's warning rings and is logged, once a second (R516). -/
def logVolt (i mv : Nat) : Act := when (fun s => voltWarn i mv && !s.hth.voltLogged.contains i) (seq [
  ringFault, report 0x30 .voltage i mv, onHth fun _ h => { h with voltLogged := h.voltLogged ++ [i] }])

theorem logVolt_rd {i mv b : Nat} (hb : HPT ≤ b) : Keeps (fun s => rd s b) (logVolt i mv) :=
  keeps_when (keeps_acts ⟨ring_hth (by decide) hb, report_rd.map (· b), fun _ _ => rfl⟩)

theorem logVolt_logged {i mv : Nat} (h : voltWarn i mv = true) (s : State) : i ∈ (s.after (logVolt i mv)).hth.voltLogged := by
  rw [logVolt, State.after, when, h, Bool.true_and]
  split
  · rw [seq_cons, seq_cons, seq_cons, seq_nil]
    exact List.mem_append_right _ List.mem_cons_self
  next hin => simpa using hin

/-- The extremes of monitor i, which stand from its first sample on (R514). -/
def voltMax (s : State) (i mv : Nat) : Nat :=
  if !s.hth.sampled.contains (16 + i) then mv else max mv (fld (rd s (HTH + 0x10 + i)) 35 24)
def voltMin (s : State) (i mv : Nat) : Nat :=
  if !s.hth.sampled.contains (16 + i) then mv else min mv (fld (rd s (HTH + 0x10 + i)) 23 12)

/-- The reading of monitor i and its extremes put in its register, its warning shown. -/
def publishVolt (i mv mx mn : Nat) : Act := seq [sampledNow (16 + i),
  poke (HTH + 0x10 + i) (wd (mx % 4096 * 2 ^ 24 + mn % 4096 * 2 ^ 12 + mv % 4096)), pokeF (HTH + 0x31) i i (b2n (voltWarn i mv))]

theorem after_sampleVolt (i mv : Nat) (s : State) :
    s.after (sampleVolt i mv) = (s.after (publishVolt i mv (voltMax s i mv) (voltMin s i mv))).after (logVolt i mv) := by
  have hacts : s.after (sampleVolt i mv) = s.after (seq [sampledNow (16 + i),
      poke (HTH + 0x10 + i) (wd (voltMax s i mv % 4096 * 2 ^ 24 + voltMin s i mv % 4096 * 2 ^ 12 + mv % 4096)),
      pokeF (HTH + 0x31) i i (b2n (voltWarn i mv)), logVolt i mv]) := after_congr rfl
  exact hacts.trans (after_seq_snoc [_, _, _] _ s)

theorem publishVolt_reads {s : State} (hm : s.memOk = true) {i mv : Nat} (hi : i < 10) (hmv : mv < 4096) (mx mn : Nat) :
    rdF (s.after (publishVolt i mv mx mn)) (HTH + 0x10 + i) 11 0 = mv ∧
    flag (rd (s.after (publishVolt i mv mx mn)) (HTH + 0x31)) i = voltWarn i mv := by
  have hnoted := after_memOk (sampledNow (16 + i)) hm
  have hput := after_memOk (poke (HTH + 0x10 + i) (wd (mx % 4096 * 2 ^ 24 + mn % 4096 * 2 ^ 12 + mv % 4096))) hnoted
  rw [publishVolt, after_seq_cons, after_seq_cons, after_seq_cons, after_seq_nil]
  refine ⟨?_, flag_pokeF hput _ _ _ (by omega)⟩
  rw [rdF, (keeps_pokeF _ (HTH + 0x10 + i) _ _ _ (by omega)).after hput, poke_rd hnoted, fld_threeReadings mx mn hmv]

/-- A reading of monitor i shows in its register, its warning in the rail's bit, and the warning is logged (R514, R516). -/
theorem sampleVolt_shows {s : State} (hm : s.memOk = true) {i mv : Nat} (hi : i < 10) (hmv : mv < 4096) :
    rdF (s.after (sampleVolt i mv)) (HTH + 0x10 + i) 11 0 = mv ∧ flag (rd (s.after (sampleVolt i mv)) (HTH + 0x31)) i = voltWarn i mv ∧
    (voltWarn i mv = true → i ∈ (s.after (sampleVolt i mv)).hth.voltLogged) := by
  obtain ⟨hread, hflag⟩ := publishVolt_reads hm hi hmv (voltMax s i mv) (voltMin s i mv)
  have hpub := after_memOk (publishVolt i mv (voltMax s i mv) (voltMin s i mv)) hm
  rw [after_sampleVolt]
  refine ⟨?_, ?_, fun hbad => logVolt_logged hbad _⟩
  · rw [rdF_congr ((logVolt_rd (by unfold HPT HTH; omega)).after hpub), hread]
  · rw [(logVolt_rd (by decide)).after hpub, hflag]

/-- A late duty's bit is set; it is logged where that is due (R517). -/
def lateDuty (d : Nat) : Act := seq [setBits (HTH + 0x32) (2 ^ d),
  when (fun s => (sparseFind s.hth.lateLogged d).isNone) (seq [report 0x30 .dutyLate (d + 1) 0,
    onHth fun _ h => { h with lateLogged := sparsePut h.lateLogged d 61 }])]

theorem logLate_rd {d : Nat} : Keeps rd (when (fun s => (sparseFind s.hth.lateLogged d).isNone) (seq [report 0x30 .dutyLate (d + 1) 0,
    onHth fun _ h => { h with lateLogged := sparsePut h.lateLogged d 61 }])) := keeps_when (keeps_acts ⟨report_rd, fun _ _ => rfl⟩)

theorem lateDuty_shows {s : State} (hm : s.memOk = true) {d : Nat} (hd : d < 10) : let t := s.after (lateDuty d)
    flag (rd t (HTH + 0x32)) d = true ∧ SameBut s t [HTH + 0x32] ∧
    t.log.reports.length = s.log.reports.length + b2n (sparseFind s.hth.lateLogged d).isNone := by
  have hset := after_memOk (setBits (HTH + 0x32) (2 ^ d)) hm
  simp only [lateDuty, after_seq_cons, after_seq_nil]
  refine ⟨?_, fun b hb => ?_, ?_⟩
  · rw [logLate_rd.after hset]
    exact flag_setBits hm _ (by omega)
  · rw [logLate_rd.after hset]
    exact (keeps_setBits _ b _ fun h => hb (List.mem_singleton.2 h)).after hm
  · have hlate : (s.after (setBits (HTH + 0x32) (2 ^ d))).hth = s.hth := rfl
    rw [State.after, when, hlate]
    cases (sparseFind s.hth.lateLogged d).isNone
    · rfl
    · rw [if_pos rfl, seq_cons, seq_cons, seq_nil]
      exact List.length_append

/-! ### The lifetime record and the backup bits (R523-R526) -/

/-- The lowest value since the last counted thermal cycle is followed; a reading 40 degrees above it counts a cycle (R524). -/
def followCycle (off : Nat) : Act := fun s => match s.life.cycleMin with
  | none => onLife (fun _ l => { l with cycleMin := some off }) s
  | some m => if m + 160 ≤ off then seq [life 23 1, onLife fun _ l => { l with cycleMin := some off }] s
              else onLife (fun _ l => { l with cycleMin := some (min m off) }) s

theorem followCycle_keeps {β : Sort _} {f : State → β} (hcycle : ∀ s v, v.hist = s.life.hist → f (applyEff s (.life v)) = f s) (off : Nat) :
    Keeps f (followCycle off) := fun s hm => by
  unfold followCycle
  split
  · exact hcycle s _ rfl
  · split
    · exact keeps_actsAt s ⟨fun s _ => hcycle s _ rfl, fun s _ => hcycle s _ rfl⟩ hm
    · exact hcycle s _ rfl

theorem followCycle_min (off : Nat) (s : State) : (s.after (followCycle off)).life.cycleMin = (match s.life.cycleMin with
    | none => some off
    | some m => if m + 160 ≤ off then some off else some (min m off)) := by
  rw [State.after, followCycle]
  cases s.life.cycleMin with
  | none => rfl
  | some m =>
    dsimp only
    split <;> rfl

/-- A second of the hottest reading in its bin (R524). -/
def binSecond (b : Nat) : Act := onLife fun _ l => { l with
  hist := sparseSet (fun _ => 0) l.hist b (min (2 ^ 36 - 1) (sparseGet (fun _ => 0) l.hist b + 1)) }

/-- The seconds counts of R523. -/
def countSeconds : Act := seq [life 0 1, when (fun s => s.sys.state == .run) (life 1 1)]

theorem countSeconds_keeps {β : Sort _} {f : State → β}
    (hctr : ∀ s v, v.hist = s.life.hist → v.cycleMin = s.life.cycleMin → f (applyEff s (.life v)) = f s) : Keeps f countSeconds :=
  keeps_acts ⟨fun s _ => hctr s _ rfl rfl, keeps_when fun s _ => hctr s _ rfl rfl⟩

theorem after_thermalHistogram {s : State} (hup : s.sys.hearthDown = false) (hrails : s.sys.rails = true) :
    s.after thermalHistogram =
      ((s.after (binSecond (histBin (hottest s)))).after countSeconds).after (followCycle (hottest s + 220).toNat) := by
  have hacts : s.after thermalHistogram = s.after (seq [binSecond (histBin (hottest s)), life 0 1,
      when (fun s => s.sys.state == .run) (life 1 1), followCycle (hottest s + 220).toNat]) := after_congr (by
    rw [thermalHistogram, hup, hrails]
    rfl)
  rw [hacts, countSeconds]
  simp only [after_seq_cons, after_seq_nil]

theorem thermalHistogram_counts {s : State} (hm : s.memOk = true) (hup : s.sys.hearthDown = false) (hrails : s.sys.rails = true) :
    let t := s.after thermalHistogram
    t.mem = s.mem ∧ t.life.hist = sparseSet (fun _ => 0) s.life.hist (histBin (hottest s))
      (min (2 ^ 36 - 1) (sparseGet (fun _ => 0) s.life.hist (histBin (hottest s)) + 1)) ∧
    t.life.cycleMin = (match s.life.cycleMin with
      | none => some (hottest s + 220).toNat
      | some m => if m + 160 ≤ (hottest s + 220).toNat then some (hottest s + 220).toNat else some (min m (hottest s + 220).toNat)) := by
  have hbin := after_memOk (binSecond (histBin (hottest s))) hm
  have hcount := after_memOk countSeconds hbin
  simp only [after_thermalHistogram hup hrails]
  refine ⟨?_, ?_, ?_⟩
  · exact ((followCycle_keeps (f := (·.mem)) (fun _ _ _ => rfl) _).after hcount).trans
      ((countSeconds_keeps (f := (·.mem)) fun _ _ _ _ => rfl).after hbin)
  · exact ((followCycle_keeps (f := (·.life.hist)) (fun _ _ h => h) _).after hcount).trans
      ((countSeconds_keeps (f := (·.life.hist)) fun _ _ h _ => h).after hbin)
  · have hkept : ((s.after (binSecond (histBin (hottest s)))).after countSeconds).life.cycleMin = s.life.cycleMin :=
      (countSeconds_keeps (f := (·.life.cycleMin)) fun _ _ _ h => h).after hbin
    rw [followCycle_min, hkept]

/-- While LOAD holds the flash, or Hearth restarts, Hearth may not program it (R80, R517). -/
theorem flashFree_false {s : State} (h : s.sys.hearthDown = true ∨ s.sys.state = .load) : flashFree s = false := by
  rcases h with h | h <;> simp [flashFree, h]

theorem lifetimeSnapshot_acts (s : State) : s.after lifetimeSnapshot =
    (let u := s.after (life 26 1)
     let sec := if s.life.snapSeq = 0 then 0 else (s.life.snapSector + 1) % 256
     { u with
       flash := { s.flash with life := sparsePut s.flash.life sec (snapBytes u (s.life.snapSeq + 1)) },
       life := { u.life with snapSeq := s.life.snapSeq + 1, snapSector := sec, snapPower := lifeGet u 0, ageSec := 0 },
       cocoon := { s.cocoon with backupSeq := (s.life.snapSeq + 1) % 2 ^ 16, backupSecs := 0 } }) := by
  rw [lifetimeSnapshot, after_seq_cons, after_seq_cons, after_seq_nil]
  rfl

/-! ### The calendar (R527, R528) -/

theorem calendarDiscipline_idle {s : State} (h : ptpLocked s = false) (sec sub : Nat) : s.after (calendarDiscipline sec sub) = s := by
  rw [State.after, calendarDiscipline, h]
  rfl

/-- By how many cycles of the crystal PTP time is ahead of the calendar. -/
def calendarLag (s : State) (sec sub : Nat) : Int := ((sec : Int) - s.cocoon.calSec) * 32768 + (sub : Int) - s.cocoon.calSub

theorem after_calendarDiscipline {s : State} (hlock : ptpLocked s = true) (hup : s.sys.hearthDown = false) (sec sub : Nat) :
    s.after (calendarDiscipline sec sub) = if (calendarLag s sec sub).natAbs * 1000000 ≤ 100 * 32768 then s else
      { s with cocoon := { s.cocoon with calSec := sec % 2 ^ 48, calSub := sub % 2 ^ 15, calSource := 2 } } := by
  have hact : calendarDiscipline sec sub s = if (calendarLag s sec sub).natAbs * 1000000 ≤ 100 * 32768 then [] else
      onCocoon (fun _ c => { c with calSec := sec % 2 ^ 48, calSub := sub % 2 ^ 15, calSource := 2 }) s := by
    rw [calendarDiscipline, hlock, hup]
    exact if_neg Bool.false_ne_true
  rw [State.after, hact]
  split <;> rfl

/-- The host's second word sets the calendar, unless PTP keeps it (R528). -/
theorem lifCalSet1_sets {s : State} (hm : s.memOk = true) {g : Staged} (hheld : stagedOf s 1 = some g) (haddr : g.addr = LIF + 4) (w : Word) :
    let t := s.after (lifCalSet1 1 w)
    t.xbr.staged = sparseDrop s.xbr.staged 1 ∧ SameBut s t [LIF + 6] ∧
    (if s.img.clock = 0 ∧ ptpLocked s = true then t.cocoon = s.cocoon ∧ rdF t (LIF + 6) 3 2 = 2
     else t.cocoon = { s.cocoon with calSec := fld g.word 15 0 * 2 ^ 32 + fld w 31 0, calSub := 0, calSource := 1 } ∧
       rdF t (LIF + 6) 3 2 = 1) := by
  have hact : lifCalSet1 1 w s = if s.img.clock = 0 ∧ ptpLocked s = true then seq [unstage 1, pokeF (LIF + 6) 3 2 2] s else
      seq [unstage 1, onCocoon fun _ c => { c with calSec := fld g.word 15 0 * 2 ^ 32 + fld w 31 0, calSub := 0, calSource := 1 },
        pokeF (LIF + 6) 3 2 1] s := by
    simp [lifCalSet1, hheld, haddr]
  have hshow (u : State) (hu : rd u = rd s) (hum : u.memOk = true) (v : Nat) :
      (u.after (pokeF (LIF + 6) 3 2 v)).xbr = u.xbr ∧ (u.after (pokeF (LIF + 6) 3 2 v)).cocoon = u.cocoon ∧
      SameBut s (u.after (pokeF (LIF + 6) 3 2 v)) [LIF + 6] ∧ rdF (u.after (pokeF (LIF + 6) 3 2 v)) (LIF + 6) 3 2 = v % 4 :=
    ⟨mem_xbr _ _ _, mem_cocoon _ _ _,
     fun b hb => ((keeps_pokeF _ b _ _ _ fun h => hb (List.mem_singleton.2 h)).after hum).trans (congrFun hu b),
     rdF_pokeF hum _ v (by decide) (by decide)⟩
  dsimp only
  rw [State.after, hact]
  split
  · obtain ⟨hxbr, hcal, hsame, hfield⟩ := hshow (s.after (unstage 1)) rfl hm 2
    rw [seq_cons, seq_cons, seq_nil]
    exact ⟨congrArg (·.staged) hxbr, hsame, hcal, hfield⟩
  · obtain ⟨hxbr, hcal, hsame, hfield⟩ := hshow ((s.after (unstage 1)).after (onCocoon fun _ c =>
      { c with calSec := fld g.word 15 0 * 2 ^ 32 + fld w 31 0, calSub := 0, calSource := 1 })) rfl hm 1
    rw [seq_cons, seq_cons, seq_cons, seq_nil]
    exact ⟨congrArg (·.staged) hxbr, hsame, hcal, hfield⟩

/-! ### The duties -/

section
variable {s : State} (hup : s.sys.hearthDown = false)
include hup

/-- A sample that arrives while Hearth runs is the act of its sensor (R514, R517). -/
theorem after_sensorSample_temp {i : Nat} (hi : i < 8) (v : Int) : s.after (sensorSample (.temp i v)) = s.after (sampleTemp i v) :=
  after_congr (by rw [sensorSample, hup]; exact if_pos hi)

theorem after_sensorSample_volt {i : Nat} (hi : i < 10) (mv : Nat) : s.after (sensorSample (.volt i mv)) = s.after (sampleVolt i mv) :=
  after_congr (by rw [sensorSample, hup]; exact if_pos hi)

theorem after_sensorSample_clock {i : Nat} (hi : i < 6) (p : Bool) (dev : Int) :
    s.after (sensorSample (.clock i p dev)) = s.after (poke (HTH + 0x20 + i) (wd (b2n p * 2 ^ 35 + clkDev dev))) :=
  after_congr (by rw [sensorSample, hup]; exact if_pos hi)

theorem after_sensorSample_late {d : Nat} (hd : d < 10) : s.after (sensorSample (.late d)) = s.after (lateDuty d) :=
  after_congr (by rw [sensorSample, hup]; exact if_pos hd)
end

/-- While Hearth restarts, a duty does nothing (R517). -/
theorem sensorSample_down {s : State} (hdown : s.sys.hearthDown = true) (k : Sensor) : s.after (sensorSample k) = s :=
  after_congr (s := s) (b := nop) (if_pos hdown)

theorem thermalHistogram_down {s : State} (hdown : s.sys.hearthDown = true) : s.after thermalHistogram = s := by
  rw [State.after, thermalHistogram, hdown]
  rfl

theorem backupSecondsUpdate_down {s : State} (hdown : s.sys.hearthDown = true) : s.after backupSecondsUpdate = s :=
  after_when_neg (by rw [hdown]; exact Bool.and_false _)

theorem after_backupSecondsUpdate {s : State} (hup : s.sys.hearthDown = false) (hrails : s.sys.rails = true) :
    s.after backupSecondsUpdate = { s with cocoon := { s.cocoon with
      backupSeq := s.life.snapSeq % 2 ^ 16, backupSecs := (lifeGet s 0 - s.life.snapPower) % 2 ^ 32 } } :=
  after_congr (s := s) (when_pos _ _ s (by rw [hup, hrails]; rfl))

theorem exec_lifCalSet1 (m : Nat) (w : Word) (s : State) :
    exec (.lifCalSet1 m w) s = .next ((s.begun.after (keepStaged m fun y => y == LIF + 4)).after (lifCalSet1 m w)) := by
  rw [← after_seq_nil ((s.begun.after _).after _), ← after_seq_cons, ← after_seq_cons]
  rfl

/-- From a master other than the host the calendar is not set (R528). -/
theorem lifCalSet1_refused {s : State} (hm : s.memOk = true) {m : Nat} (hne : m ≠ 1) (hnone : stagedOf s m = none) (w : Word) :
    ∃ t, exec (.lifCalSet1 m w) s = .next t ∧ t.cocoon = s.cocoon ∧ SameBut s t [XBR, XBR + 1, XBR + 2] := by
  have hact : s.begun.after (lifCalSet1 m w) = s.begun.after (refused m (LIF + 5) true) := after_congr (if_pos (bne_iff_ne.2 hne))
  have hexec := exec_lifCalSet1 m w s
  rw [keepStaged_of_none (s := s.begun) _ hnone, hact] at hexec
  have hcal : Keeps (·.cocoon) (refused m (LIF + 5) true) :=
    Aloof.refused ⟨⟨mem_cocoon⟩, out_cocoon, log_cocoon, drc_cocoon⟩ (fun _ _ => rfl) _ _ _
  exact ⟨_, hexec, hcal.after (s := s.begun) hm, refused_same (s := s.begun) hm _ _ _⟩

/-- Settles O53: each duty is its act, which the lemmas above describe; with Hearth or PTP away it is none. -/
theorem sensorsAndTheRecordAreKept : Obligations.SensorsAndTheRecordAreKept := by
  intro s i hm
  have hm' : s.begun.memOk = true := hm
  refine ⟨fun hdown => ⟨fun k => ?_, ?_, ?_⟩, fun hbusy => ?_, flashFree_false, fun hup => ⟨?_, ?_, ?_, ?_, ?_, ?_⟩, ?_, ?_, ?_, ?_⟩
  · exact congrArg Host.Outcome.next (sensorSample_down (s := s.begun) hdown k)
  · exact congrArg Host.Outcome.next (thermalHistogram_down (s := s.begun) hdown)
  · exact congrArg Host.Outcome.next (backupSecondsUpdate_down (s := s.begun) hdown)
  · exact congrArg Host.Outcome.next (after_when_neg (u := s.begun) hbusy)
  · intro v hi hlo hhi
    exact ⟨_, congrArg Host.Outcome.next (after_sensorSample_temp (s := s.begun) hup hi v), sampleTemp_shows hm' hi hlo hhi⟩
  · intro mv hi hmv
    exact ⟨_, congrArg Host.Outcome.next (after_sensorSample_volt (s := s.begun) hup hi mv), sampleVolt_shows hm' hi hmv⟩
  · intro p dev hi
    exact ⟨_, congrArg Host.Outcome.next (after_sensorSample_clock (s := s.begun) hup hi p dev),
      fun b hb => (keeps_poke _ b _ fun h => hb (List.mem_singleton.2 h)).after hm', poke_rd hm' _ _⟩
  · intro hi
    exact ⟨_, congrArg Host.Outcome.next (after_sensorSample_late (s := s.begun) hup hi), lateDuty_shows hm' hi⟩
  · intro hrails
    exact ⟨⟨_, rfl, thermalHistogram_counts (s := s.begun) hm' hup hrails⟩,
      congrArg Host.Outcome.next (after_backupSecondsUpdate (s := s.begun) hup hrails)⟩
  · intro hfree
    have hexec : exec .lifetimeSnapshot s = .next (s.begun.after lifetimeSnapshot) :=
      congrArg Host.Outcome.next (after_congr (s := s.begun) (when_pos flashFree lifetimeSnapshot s.begun hfree))
    exact ⟨_, hexec.trans (congrArg Host.Outcome.next (lifetimeSnapshot_acts s.begun)), rfl, rfl, rfl, rfl, rfl⟩
  · exact fun m w hne hnone => lifCalSet1_refused hm hne hnone w
  · intro w g hheld haddr
    have hexec := exec_lifCalSet1 1 w s
    rw [keepStaged_mine (s := s.begun) (mine := fun y => y == LIF + 4) hheld (beq_iff_eq.2 haddr)] at hexec
    exact ⟨_, hexec, lifCalSet1_sets hm' hheld haddr w⟩
  · intro sec sub hlock hup d
    have hexec : exec (.calendarDiscipline sec sub) s = .next (if d.natAbs * 1000000 ≤ 100 * 32768 then s.begun else
        { s.begun with cocoon := { s.cocoon with calSec := sec % 2 ^ 48, calSub := sub % 2 ^ 15, calSource := 2 } }) :=
      congrArg Host.Outcome.next (after_calendarDiscipline (s := s.begun) hlock hup sec sub)
    rw [hexec]
    exact ⟨fun hfar => congrArg _ (if_neg (Nat.not_le.2 hfar)), fun hnear => congrArg _ (if_pos hnear)⟩
  · exact fun sec sub hfree => congrArg Host.Outcome.next (calendarDiscipline_idle (s := s.begun) hfree sec sub)

end Sys2Proof.Machine

/-! SUPPORT. The event log and telemetry (R518-R522, R529-R532). -/
namespace Sys2Proof.Machine
open Sys2Proof

/-! ### The entry that a full ring discards (R520) -/

theorem find?_or_eq_some {α : Type} {p : α → Bool} {l : List α} {o : Option α} {v : α} (h : (l.find? p).or o = some v) :
    (v ∈ l ∧ p v = true) ∨ (∀ e ∈ l, p e = false) ∧ o = some v := by
  cases hfind : l.find? p with
  | some e =>
    rw [hfind] at h
    obtain rfl := Option.some.inj h
    exact .inl ⟨List.mem_of_find?_eq_some hfind, List.find?_some hfind⟩
  | none =>
    rw [hfind] at h
    exact .inr ⟨fun e he => Bool.eq_false_iff.2 (List.find?_eq_none.1 hfind e he), h⟩

/-- Is an entry in flash, where every entry up to `fl` is? -/
def inFlash (fl : Option Nat) (e : LogEntry) : Bool := match fl with
  | some f => e.seq ≤ f
  | none => false

/-- The choices of R520 in their order. -/
theorem victim_eq (ring : List LogEntry) (fl : Option Nat) : victim ring fl = (ring.find? (inFlash fl)).or
    ((ring.find? (·.sev == 0)).or ((ring.find? (·.sev == 1)).or ((ring.find? (·.sev == 2)).or ring.head?))) := by
  have hor (o p : Option LogEntry) : (match o with
      | some e => some e
      | none => p) = o.or p := by cases o <;> rfl
  simp only [← hor]
  rfl

/-- An entry is discarded for being in flash; where none is, for having the least of the severities below FAULT that occur. -/
theorem victim_cases {ring : List LogEntry} {fl : Option Nat} {v : LogEntry} (h : victim ring fl = some v) : v ∈ ring ∧
    (inFlash fl v = true ∨ (∀ e ∈ ring, inFlash fl e = false) ∧ ∀ k, k < 3 → (∃ e ∈ ring, e.sev = k) → v.sev ≤ k) := by
  rw [victim_eq] at h
  obtain ⟨hin, hflash⟩ | ⟨hnone, h⟩ := find?_or_eq_some h
  · exact ⟨hin, .inl hflash⟩
  · have hleast {j : Nat} (hsev : (v.sev == j) = true) (hbelow : ∀ i < j, ∀ e ∈ ring, (e.sev == i) = false) (k : Nat)
        (hk : ∃ e ∈ ring, e.sev = k) : v.sev ≤ k := by
      obtain ⟨e, he, rfl⟩ := hk
      rw [beq_iff_eq.1 hsev]
      exact Nat.not_lt.1 fun hlt => by simpa using hbelow e.sev hlt e he
    obtain ⟨hin, hsev⟩ | ⟨h0, h⟩ := find?_or_eq_some h
    · exact ⟨hin, .inr ⟨hnone, fun k _ => hleast hsev (fun i hi => absurd hi (Nat.not_lt_zero i)) k⟩⟩
    obtain ⟨hin, hsev⟩ | ⟨h1, h⟩ := find?_or_eq_some h
    · exact ⟨hin, .inr ⟨hnone, fun k _ => hleast hsev (fun i hi => by obtain rfl : i = 0 := by omega
                                                                      exact h0) k⟩⟩
    obtain ⟨hin, hsev⟩ | ⟨h2, h⟩ := find?_or_eq_some h
    · exact ⟨hin, .inr ⟨hnone, fun k _ => hleast hsev (fun i hi => by obtain rfl | rfl : i = 0 ∨ i = 1 := by omega
                                                                      · exact h0
                                                                      · exact h1) k⟩⟩
    · refine ⟨List.mem_of_head? h, .inr ⟨hnone, fun k hk hex => ?_⟩⟩
      obtain ⟨e, he, rfl⟩ := hex
      have hno : (e.sev == 0) = false ∧ (e.sev == 1) = false ∧ (e.sev == 2) = false := ⟨h0 e he, h1 e he, h2 e he⟩
      simp only [beq_eq_false_iff_ne] at hno
      omega

/-! ### An entry placed (R518-R520) -/

/-- The registers that show the log are words. -/
theorem logRegs_keeps {β : Sort _} {f : State → β} (h0 : ∀ w, Keeps f (poke (HTH + 0x40) w)) (h1 : ∀ w, Keeps f (poke (HTH + 0x41) w))
    (h2 : ∀ w, Keeps f (poke (HTH + 0x42) w)) : Keeps f logRegs := fun s => keeps_actsAt s ⟨h0 _, h1 _, h2 _⟩

theorem logRegs_rd {b : Nat} (hb : b ∉ [HTH + 0x40, HTH + 0x41, HTH + 0x42]) : Keeps (fun s => rd s b) logRegs := by
  simp only [List.mem_cons, List.not_mem_nil, or_false, not_or] at hb
  obtain ⟨h0, h1, h2⟩ := hb
  exact logRegs_keeps (fun _ => keeps_poke _ b _ h0) (fun _ => keeps_poke _ b _ h1) (fun _ => keeps_poke _ b _ h2)

theorem logRegs_head {s : State} (hm : s.memOk = true) : rd (s.after logRegs) (HTH + 0x40) = wd (s.log.next - 1) := by
  have hrest : Keeps (fun u => rd u (HTH + 0x40)) (seq [poke (HTH + 0x41) (wd (s.log.flashed.getD 0)), poke (HTH + 0x42) (wd (oldestSeq s.log))]) :=
    keeps_acts ⟨keeps_poke _ _ _ (by decide), keeps_poke _ _ _ (by decide)⟩
  have hacts : s.after logRegs = (s.after (poke (HTH + 0x40) (wd (s.log.next - 1)))).after
      (seq [poke (HTH + 0x41) (wd (s.log.flashed.getD 0)), poke (HTH + 0x42) (wd (oldestSeq s.log))]) := after_seq_cons _ _ _
  rw [hacts, hrest.after (after_memOk _ hm), poke_rd hm]

/-- The oldest report leaves those that wait. -/
def takeReport (rest : List Report) : Act := onLog fun _ l => { l with reports := rest }

/-- Report r becomes the last entry of the ring, as number q. -/
def addEntry (q : Nat) (r : Report) (loud : Bool) : Act := onLog fun _ l => { l with
  ring := l.ring ++ [{ seq := q, sev := r.sev, words := logWords q r }], next := q + 1,
  telemetry := if loud then l.telemetry ++ [q] else l.telemetry }

/-- The log shown anew, and its doorbell rung for a loud entry. -/
def showLog (loud : Bool) : Act := seq [logRegs, when (fun _ => loud) (ring 0 6)]

theorem showLog_beside {β : Sort _} {f : State → β} (h : ∀ s a w, f (applyEff s (.mem a w)) = f s) (loud : Bool) : Keeps f (showLog loud) :=
  keeps_acts ⟨logRegs_keeps (fun _ s _ => h s _ _) (fun _ s _ => h s _ _) fun _ s _ => h s _ _, keeps_when fun s _ => h s _ _⟩

theorem showLog_rd {b : Nat} {loud : Bool} (hb : HPT ≤ b) (hne : b ∉ [HTH + 0x40, HTH + 0x41, HTH + 0x42]) :
    Keeps (fun s => rd s b) (showLog loud) := keeps_acts ⟨logRegs_rd hne, keeps_when (ring_hth (by decide) hb)⟩

theorem showLog_head {s : State} (hm : s.memOk = true) (loud : Bool) : rd (s.after (showLog loud)) (HTH + 0x40) = wd (s.log.next - 1) := by
  have hring : Keeps (fun u => rd u (HTH + 0x40)) (when (fun _ => loud) (ring 0 6)) := keeps_when (ring_hth (by decide) (by decide))
  rw [showLog, after_seq_cons, after_seq_cons, after_seq_nil, hring.after (after_memOk _ hm), logRegs_head hm]

section
variable {s : State} (hup : s.sys.hearthDown = false) {r : Report} {rest : List Report} (hr : s.log.reports = r :: rest)

include hup hr in
theorem after_logEntry : s.after logEntry = (((s.after (takeReport rest)).after logMakeRoom).after
    (addEntry s.log.next r (decide (rdF s (HTH + 0x43) 1 0 ≤ r.sev)))).after (showLog (decide (rdF s (HTH + 0x43) 1 0 ≤ r.sev))) := by
  have hacts : s.after logEntry = s.after (seq [takeReport rest, logMakeRoom,
      addEntry s.log.next r (decide (rdF s (HTH + 0x43) 1 0 ≤ r.sev)), logRegs,
      when (fun _ => decide (rdF s (HTH + 0x43) 1 0 ≤ r.sev)) (ring 0 6)]) := after_congr (by
    rw [logEntry, hup, hr]
    simp only [addEntry, decide_eq_true_eq]
    rfl)
  rw [hacts, showLog]
  simp only [after_seq_cons, after_seq_nil]

/-- A ring with room takes an entry as it is. -/
theorem logMakeRoom_room {u : State} (hroom : u.log.ring.length < 8192) :
    u.after logMakeRoom = { u with log := { u.log with wasFull := false } } :=
  after_congr (s := u) (b := onLog fun _ l => { l with wasFull := false }) (if_pos hroom)

/-- A full one discards its victim. -/
def discardEntry (v : LogEntry) : Act := onLog fun _ l => { l with ring := l.ring.filter (fun e => e.seq != v.seq), wasFull := true }

theorem logMakeRoom_full {u : State} (hfull : 8192 ≤ u.log.ring.length) {v : LogEntry} (hv : victim u.log.ring u.log.flashed = some v) :
    u.after logMakeRoom = ((u.after (discardEntry v)).after (bump (HTH + 0x44) 35 24 1)).after
      (if u.log.wasFull then nop else report 0x30 .logDropped v.seq 0) := by
  have hacts : u.after logMakeRoom = u.after (seq [discardEntry v, bump (HTH + 0x44) 35 24 1,
      fun t => if u.log.wasFull then [] else report 0x30 .logDropped v.seq 0 t]) := after_congr (by
    rw [logMakeRoom, if_neg (Nat.not_lt.2 hfull), hv]
    rfl)
  rw [hacts, after_seq_cons, after_seq_cons, after_seq_cons, after_seq_nil]
  cases u.log.wasFull <;> rfl

theorem report_unless_log (c : Bool) (w : State) (src d0 d1 : Nat) (e : Event) :
    (∃ told : List Report, told.length = (if c then 0 else 1) ∧
      (w.after (if c then nop else report src e d0 d1)).log = { w.log with reports := w.log.reports ++ told }) ∧
    rd (w.after (if c then nop else report src e d0 d1)) = rd w := by
  cases c with
  | true => exact ⟨⟨[], rfl, by rw [List.append_nil]; rfl⟩, rfl⟩
  | false => exact ⟨⟨[_], rfl, rfl⟩, rfl⟩

/-- The discard is counted, and reported when it is the first (R520). -/
theorem logMakeRoom_discards {u : State} (hm : u.memOk = true) (hfull : 8192 ≤ u.log.ring.length) {v : LogEntry}
    (hv : victim u.log.ring u.log.flashed = some v) : (∃ told : List Report, told.length = (if u.log.wasFull then 0 else 1) ∧
      (u.after logMakeRoom).log = { u.log with
        ring := u.log.ring.filter (fun x => x.seq != v.seq), wasFull := true, reports := u.log.reports ++ told }) ∧
    rdF (u.after logMakeRoom) (HTH + 0x44) 35 24 = min 4095 (rdF u (HTH + 0x44) 35 24 + 1) := by
  have hgone : (u.after (discardEntry v)).memOk = true := hm
  have hlog : ((u.after (discardEntry v)).after (bump (HTH + 0x44) 35 24 1)).log = (u.after (discardEntry v)).log := mem_log _ _ _
  obtain ⟨⟨told, hlength, htold⟩, hrd⟩ := report_unless_log u.log.wasFull
    ((u.after (discardEntry v)).after (bump (HTH + 0x44) 35 24 1)) 0x30 v.seq 0 .logDropped
  rw [hlog] at htold
  rw [logMakeRoom_full hfull hv, rdF_congr (congrFun hrd _) 35 24]
  exact ⟨⟨told, hlength, htold⟩, rdF_bump hgone _ 1 (by decide) (by decide)⟩

variable (hm : s.memOk = true)
include hup hr hm

theorem logEntry_log : (s.after logEntry).log = { ((s.after (takeReport rest)).after logMakeRoom).log with
    ring := ((s.after (takeReport rest)).after logMakeRoom).log.ring ++
      [{ seq := s.log.next, sev := r.sev, words := logWords s.log.next r }],
    next := s.log.next + 1,
    telemetry := if rdF s (HTH + 0x43) 1 0 ≤ r.sev then ((s.after (takeReport rest)).after logMakeRoom).log.telemetry ++ [s.log.next]
      else ((s.after (takeReport rest)).after logMakeRoom).log.telemetry } := by
  have hroom := after_memOk logMakeRoom (s := s.after (takeReport rest)) hm
  have hadded := after_memOk (addEntry s.log.next r (decide (rdF s (HTH + 0x43) 1 0 ≤ r.sev))) hroom
  rw [after_logEntry hup hr]
  refine ((showLog_beside mem_log _).after hadded).trans ?_
  simp only [addEntry, decide_eq_true_eq]
  rfl

theorem logEntry_head : rd (s.after logEntry) (HTH + 0x40) = wd s.log.next := by
  have hroom := after_memOk logMakeRoom (s := s.after (takeReport rest)) hm
  have hadded := after_memOk (addEntry s.log.next r (decide (rdF s (HTH + 0x43) 1 0 ≤ r.sev))) hroom
  rw [after_logEntry hup hr, showLog_head hadded]
  exact congrArg wd (Nat.add_sub_cancel _ 1)

/-- A report placed in a ring with room is its last entry, with the next number (R518, R520). -/
theorem logEntry_places (hroom : s.log.ring.length < 8192) : (s.after logEntry).log = { s.log with
    reports := rest, ring := s.log.ring ++ [{ seq := s.log.next, sev := r.sev, words := logWords s.log.next r }],
    next := s.log.next + 1, wasFull := false,
    telemetry := if rdF s (HTH + 0x43) 1 0 ≤ r.sev then s.log.telemetry ++ [s.log.next] else s.log.telemetry } := by
  rw [logEntry_log hup hr hm, logMakeRoom_room (u := s.after (takeReport rest)) hroom]
  rfl

/-- In a full ring it comes behind the entries that are left (R520). -/
theorem logEntry_discards (hfull : 8192 ≤ s.log.ring.length) {v : LogEntry} (hv : victim s.log.ring s.log.flashed = some v) :
    (s.after logEntry).log.ring = s.log.ring.filter (fun x => x.seq != v.seq) ++
      [{ seq := s.log.next, sev := r.sev, words := logWords s.log.next r }] ∧ (s.after logEntry).log.wasFull = true ∧
    rdF (s.after logEntry) (HTH + 0x44) 35 24 = min 4095 (rdF s (HTH + 0x44) 35 24 + 1) ∧
    (s.after logEntry).log.reports.length = rest.length + (if s.log.wasFull then 0 else 1) := by
  obtain ⟨⟨told, hlength, hlog⟩, hcount⟩ := logMakeRoom_discards (u := s.after (takeReport rest)) hm hfull hv
  have hroom := after_memOk logMakeRoom (s := s.after (takeReport rest)) hm
  rw [logEntry_log hup hr hm, hlog]
  refine ⟨rfl, rfl, ?_, (List.length_append).trans (congrArg (rest.length + ·) hlength)⟩
  have hword : rd (s.after logEntry) (HTH + 0x44) = rd ((s.after (takeReport rest)).after logMakeRoom) (HTH + 0x44) := by
    rw [after_logEntry hup hr]
    exact (showLog_rd (by decide) (by decide)).after (after_memOk (addEntry _ _ _) hroom)
  exact (rdF_congr hword 35 24).trans hcount

end

/-! ### Entries copied to flash (R521) -/

theorem mem_sparsePut {α : Type} {t : List (Nat × α)} {k : Nat} {v : α} {x : Nat × α} (h : x ∈ sparsePut t k v) : x = (k, v) ∨ x ∈ t := by
  induction t with
  | nil => exact .inl (List.mem_singleton.1 h)
  | cons e r ih =>
    obtain ⟨j, w⟩ := e
    rw [sparsePut] at h
    split at h
    · exact (List.mem_cons.1 h).imp_right (List.mem_cons_of_mem _)
    · split at h
      · exact List.mem_cons.1 h
      · exact (List.mem_cons.1 h).elim (fun hx => .inr (hx ▸ List.mem_cons_self))
          fun hin => (ih hin).imp_right (List.mem_cons_of_mem _)

/-- Is an entry still to be copied to flash? -/
def unflashed (s : State) (e : LogEntry) : Bool := match s.log.flashed with
  | some f => f < e.seq
  | none => true

/-- The record of the next entry, at the write point. -/
def putRecord (e : LogEntry) : Act := onFlash fun s f => { f with log := sparsePut f.log s.log.writePos (logRecord e.words) }

/-- The log once an entry is in flash. -/
def markFlashed (e : LogEntry) : Act := onLog fun _ l => { l with
  oldest := (match l.flashed with
    | none => e.seq
    | some _ => l.oldest),
  flashed := some e.seq, writePos := (l.writePos + 1) % logRecords, tokens := l.tokens - 1 }

theorem logFlush_idle {s : State} (h : s.log.tokens = 0 ∨ flashFree s = false) : s.after logFlush = s := by
  refine after_congr (s := s) (b := nop) (if_pos ?_)
  rcases h with h | h <;> simp [h]

theorem logFlush_open {s : State} (hfree : flashFree s = true) (htokens : s.log.tokens ≠ 0) :
    ¬ (!flashFree s || s.log.tokens = 0) = true := by
  simp [hfree, htokens]

/-- The copy of an entry, if there is one to copy. -/
def flushEntry (s : State) : Option LogEntry → List Eff
  | none => []
  | some e => seq [eraseAhead, putRecord e, markFlashed e, logRegs] s

theorem logFlush_eq (s : State) : logFlush s =
    if !flashFree s || s.log.tokens = 0 then [] else flushEntry s (s.log.ring.find? (unflashed s)) := rfl

theorem logFlush_done {s : State} (hnone : s.log.ring.find? (unflashed s) = none) : s.after logFlush = s := by
  refine after_congr (s := s) (b := nop) ?_
  rw [logFlush_eq, hnone]
  exact ite_self _

theorem after_logFlush {s : State} (hfree : flashFree s = true) (htokens : s.log.tokens ≠ 0) {e : LogEntry}
    (he : s.log.ring.find? (unflashed s) = some e) :
    s.after logFlush = (((s.after eraseAhead).after (putRecord e)).after (markFlashed e)).after logRegs := by
  have hacts : s.after logFlush = s.after (seq [eraseAhead, putRecord e, markFlashed e, logRegs]) := after_congr (by
    rw [logFlush_eq, if_neg (logFlush_open hfree htokens), he]
    rfl)
  exact hacts.trans (after_four _ _ _ _ s)

/-- Is a record in the sector behind the one that the write point enters? -/
def inNextSector (s : State) (k : Nat) : Bool :=
  decide ((s.log.writePos / 64 + 1) % 3824 * 64 ≤ k) && decide (k < (s.log.writePos / 64 + 1) % 3824 * 64 + 64)

theorem inNextSector_false {s : State} {k : Nat} (h : inNextSector s k = false) : k / 64 ≠ (s.log.writePos / 64 + 1) % 3824 := by
  intro hk
  rw [inNextSector, ← hk, Bool.and_eq_false_iff, decide_eq_false_iff_not, decide_eq_false_iff_not] at h
  omega

/-- On entering a sector the write point erases the next one, of which the log is told (R521). -/
theorem eraseAhead_leaves (s : State) : ∃ oldest : Nat, (s.after eraseAhead).log = { s.log with oldest := oldest } ∧
    (s.after eraseAhead).flash = { s.flash with
      log := if s.log.writePos % 64 = 0 then s.flash.log.filter (fun e => !inNextSector s e.1) else s.flash.log } := by
  by_cases hpos : s.log.writePos % 64 = 0
  · have hact : eraseAhead s = seq [onFlash fun _ f => { f with log := f.log.filter (fun e => !inNextSector s e.1) },
        onLog fun _ l => { l with
          oldest := l.oldest + ((s.flash.log.filter (fun e => inNextSector s e.1)).filter (fun e => recValid e.2)).length }, life 25 1] s :=
      if_neg (by simp [hpos])
    have hafter := (after_congr hact).trans (after_three _ _ _ s)
    rw [hafter, if_pos hpos]
    exact ⟨_, rfl, rfl⟩
  · have hnone : s.after eraseAhead = s := after_congr (s := s) (b := nop) (if_pos (bne_iff_ne.2 hpos))
    refine ⟨s.log.oldest, by rw [hnone], ?_⟩
    rw [hnone, if_neg hpos]

section
variable {s : State} (hm : s.memOk = true) (hfree : flashFree s = true) (htokens : s.log.tokens ≠ 0) {e : LogEntry}
  (he : s.log.ring.find? (unflashed s) = some e)
include hm hfree htokens he

/-- The copy as the log's registers find it. -/
theorem logFlush_shown {β : Sort _} {f : State → β} (h : Wordless f) :
    f (s.after logFlush) = f (((s.after eraseAhead).after (putRecord e)).after (markFlashed e)) := by
  have hmarked : (((s.after eraseAhead).after (putRecord e)).after (markFlashed e)).memOk = true := after_memOk eraseAhead hm
  rw [after_logFlush hfree htokens he]
  exact (logRegs_keeps (fun _ => h.poke) (fun _ => h.poke) fun _ => h.poke).after hmarked

theorem logFlush_flash : (s.after logFlush).flash = { (s.after eraseAhead).flash with
    log := sparsePut (s.after eraseAhead).flash.log s.log.writePos (logRecord e.words) } := by
  obtain ⟨oldest, hlog, -⟩ := eraseAhead_leaves s
  have hshown := logFlush_shown hm hfree htokens he wordless_flash
  rw [markFlashed, onLog_flash, putRecord, onFlash_flash, hlog] at hshown
  exact hshown

theorem logFlush_log : (s.after logFlush).log.flashed = some e.seq ∧ (s.after logFlush).log.writePos = (s.log.writePos + 1) % 244736 ∧
    (s.after logFlush).log.tokens = s.log.tokens - 1 ∧ (s.after logFlush).log.ring = s.log.ring := by
  obtain ⟨oldest, hlog, -⟩ := eraseAhead_leaves s
  have hshown := logFlush_shown hm hfree htokens he wordless_log
  rw [markFlashed, onLog_log, putRecord, onFlash_log, hlog] at hshown
  rw [hshown]
  exact ⟨rfl, rfl, rfl, rfl⟩

/-- A flush writes the record at the write point; on entering a sector it erases the one after it, and nothing else (R521). -/
theorem logFlush_writes :
    (s.log.writePos % 64 ≠ 0 →
      (s.after logFlush).flash = { s.flash with log := sparsePut s.flash.log s.log.writePos (logRecord e.words) }) ∧
    (s.log.writePos % 64 = 0 → ∀ x ∈ (s.after logFlush).flash.log, x = (s.log.writePos, logRecord e.words) ∨
      x ∈ s.flash.log ∧ x.1 / 64 ≠ (s.log.writePos / 64 + 1) % 3824) := by
  obtain ⟨-, -, hflash⟩ := eraseAhead_leaves s
  rw [logFlush_flash hm hfree htokens he, hflash]
  refine ⟨fun hpos => by rw [if_neg hpos], fun hpos x hx => ?_⟩
  rw [if_pos hpos] at hx
  refine (mem_sparsePut hx).imp_right fun hin => ?_
  obtain ⟨hold, hkeep⟩ := List.mem_filter.1 hin
  exact ⟨hold, inNextSector_false (by simpa using hkeep)⟩
end

/-! ### Entries fetched (R522) -/

theorem pokeList_stores (a : Nat) (ws : List Word) (s : State) :
    pokeList a ws s = (ws.zipIdx.map Prod.swap).map fun e => .mem (a + e.1) e.2 := by
  rw [pokeList, List.map_map]
  rfl

theorem pokeList_rd {s : State} (hm : s.memOk = true) (a : Nat) (ws : List Word) {k : Nat} (hk : k < ws.length) :
    rd (s.after (pokeList a ws)) (a + k) = ws.getD k 0 := by
  have hget : ws.getD k 0 = ws[k] := by rw [List.getD_eq_getElem?_getD, List.getElem?_eq_getElem hk]; rfl
  rw [State.after, pokeList_stores]
  refine rd_stores (a + ·) (fun e he hplace => ?_) hm (.inr ⟨(k, ws[k]), ?_, rfl⟩)
  · obtain ⟨x, hx, rfl⟩ := List.mem_map.1 he
    have hkx : x.2 = k := Nat.add_left_cancel hplace
    rw [hget]
    exact Option.some.inj ((hkx ▸ List.mem_zipIdx_iff_getElem?.1 hx).symm.trans (List.getElem?_eq_getElem hk))
  · exact List.mem_map.2 ⟨(ws[k], k), List.mem_zipIdx_iff_getElem?.2 (List.getElem?_eq_getElem hk), rfl⟩

theorem Wordless.pokeList {β : Sort _} {f : State → β} (h : Wordless f) (a : Nat) (ws : List Word) : Keeps f (pokeList a ws) := fun s _ => by
  rw [pokeList_stores]
  exact h.stores _ _ s

/-- A fetch is shown: the words, and whether the entry was found. -/
theorem after_logFetchComplete {s : State} (hfetch : s.log.fetching = true) (hup : s.sys.hearthDown = false) :
    s.after logFetchComplete = ((s.after (pokeList (HTH + 0x50) ((findEntry s (rd s (HTH + 0x48)).toNat).getD (List.replicate 8 0)))).after
      (pokeF (HTH + 0x49) 35 34 (if (findEntry s (rd s (HTH + 0x48)).toNat).isSome then 3 else 2))).after
      (onLog fun _ l => { l with fetching := false }) := by
  have hacts : s.after logFetchComplete = s.after (seq [
      pokeList (HTH + 0x50) ((findEntry s (rd s (HTH + 0x48)).toNat).getD (List.replicate 8 0)),
      pokeF (HTH + 0x49) 35 34 (if (findEntry s (rd s (HTH + 0x48)).toNat).isSome then 3 else 2),
      onLog fun _ l => { l with fetching := false }]) := after_congr (by
    rw [logFetchComplete, hfetch, hup]
    rfl)
  exact hacts.trans (after_three _ _ _ s)

theorem logFetchComplete_shows {s : State} (hm : s.memOk = true) (hfetch : s.log.fetching = true) (hup : s.sys.hearthDown = false)
    {ws : List Word} {code : Nat} (hws : (findEntry s (rd s (HTH + 0x48)).toNat).getD (List.replicate 8 0) = ws) (hlen : ws.length = 8)
    (hcode : (if (findEntry s (rd s (HTH + 0x48)).toNat).isSome then 3 else 2) = code) (hlt : code < 4) :
    (s.after logFetchComplete).log = { s.log with fetching := false } ∧ rdF (s.after logFetchComplete) (HTH + 0x49) 35 34 = code ∧
    ∀ k, k < 8 → rd (s.after logFetchComplete) (HTH + 0x50 + k) = ws.getD k 0 := by
  have hlisted := after_memOk (pokeList (HTH + 0x50) ws) hm
  rw [after_logFetchComplete hfetch hup, hws, hcode]
  refine ⟨?_, ?_, fun k hk => ?_⟩
  · rw [onLog_log, wordless_log.pokeF.after hlisted, (wordless_log.pokeList _ _).after hm]
  · rw [rdF, onLog_words]
    exact (rdF_pokeF hlisted _ code (by decide) (by decide)).trans (Nat.mod_eq_of_lt hlt)
  · rw [onLog_words, (keeps_pokeF _ (HTH + 0x50 + k) _ _ _ (by omega)).after hlisted, pokeList_rd hm _ _ (by omega)]

theorem logFetchComplete_idle {s : State} (h : s.log.fetching = false ∨ s.sys.hearthDown = true) : s.after logFetchComplete = s := by
  refine after_congr (s := s) (b := nop) (if_pos ?_)
  rcases h with h | h <;> simp [h]

/-- HTH_LOG_SEL starts a fetch (R522). -/
def startFetch (q : Nat) : Act := seq [
  poke (HTH + 0x48) (wd q), pokeF (HTH + 0x49) 35 34 0, onLog fun _ l => { l with fetching := true }]

theorem startFetch_shows {s : State} (hm : s.memOk = true) (q : Nat) : (s.after (startFetch q)).log = { s.log with fetching := true } ∧
    rd (s.after (startFetch q)) (HTH + 0x48) = wd q ∧ rdF (s.after (startFetch q)) (HTH + 0x49) 35 34 = 0 ∧
    SameBut s (s.after (startFetch q)) [HTH + 0x48, HTH + 0x49] := by
  have hput := after_memOk (poke (HTH + 0x48) (wd q)) hm
  rw [startFetch, after_three, rdF, onLog_words, ← rdF]
  refine ⟨?_, ?_, rdF_pokeF hput _ _ (by decide) (by decide), fun b hb => ?_⟩
  · rw [onLog_log, wordless_log.pokeF.after hput, wordless_log.poke.after hm]
  · rw [(keeps_pokeF _ (HTH + 0x48) _ _ _ (by decide)).after hput, poke_rd hm]
  · simp only [List.mem_cons, List.not_mem_nil, or_false, not_or] at hb
    rw [onLog_words, (keeps_pokeF _ b _ _ _ hb.2).after hput, (keeps_poke _ b _ hb.1).after hm]

/-! ### Telemetry reports (R529-R532) -/

/-- A frame handed to a port's queue is counted in words, or waits in the port's record. -/
theorem Wordless.sendUdp {β : Sort _} {f : State → β} (h : Wordless f) (hmacs : ∀ s v, f (applyEff s (.macs v)) = f s) {x q ip udp : Nat}
    {src : Option Nat} {payload : List Nat} : Keeps f (sendUdp x q src ip udp payload) := fun s => by
  unfold Machine.sendUdp enqueue
  split
  · exact fun hm => keeps_actsAt s ⟨h.poke, keeps_when (keeps_acts ⟨h.setBits, h.ring⟩)⟩ hm
  · exact fun _ => hmacs _ _

theorem telemetryReport_off {s : State} (h : s.sys.hearthDown = true ∨ rdF s (HTH + 0x60) 15 0 = 0 ∨ keyZero s = none) (c : Bool) :
    s.after (telemetryReport c) = s := by
  refine after_congr (s := s) (b := nop) ?_
  rw [telemetryReport]
  split
  · rfl
  next hon =>
    simp only [Bool.or_eq_true, not_or, decide_eq_true_eq] at hon
    have hkey : sparseFind s.sec.keys 0 = none := (h.resolve_left hon.1.2).resolve_left hon.2
    rw [hkey]
    rfl

/-- The frames of a report whose keys come from `k0`, sent on each port that the configuration selects (R530). -/
def sendReport (s : State) (k0 : Nat) : Act :=
  let mask := rdF s (HTH + 0x60) 20 16
  let recs := ((List.range 5).filter (fun t => mask.testBit t)).map fun t => tlmRecord (t + 1) (tlmBody s (t + 1) (s.log.telemetry.take 32))
  let fs := packFrames (if flag (rd s (HTH + 0x60)) 35 then 8192 else 1472) recs
  let frames := fs.zipIdx.map fun e => tlmFrame s (kdf k0 lblTlm (toBytes 8 Config.otpSerial)) s.hth.report e.2 fs.length e.1
  each ((List.range 2).filter fun x => (rdF s (HTH + 0x60) 34 33).testBit x) fun x => each frames fun fr =>
    sendUdp x 2 (some 30362) (rdF s (HTH + 0x61) 31 0) (rdF s (HTH + 0x62) 15 0) fr

theorem Wordless.sendReport {β : Sort _} {f : State → β} (h : Wordless f) (hmacs : ∀ s v, f (applyEff s (.macs v)) = f s) (s : State)
    (k0 : Nat) : Keeps f (sendReport s k0) := keeps_each _ fun _ => keeps_each _ fun _ => h.sendUdp hmacs

section
variable {s : State} (hcount : counting s = true) (hup : s.sys.hearthDown = false) (hevery : rdF s (HTH + 0x60) 15 0 ≠ 0)
  (hkey : keyZero s ≠ none)
include hcount hup hevery hkey

/-- A report that is due: its frames, the next number, and the entries it carried. -/
theorem after_telemetryReport : ∃ k0 : Nat, s.after (telemetryReport true) =
    ((s.after (sendReport s k0)).after (onHth fun _ h => { h with report := h.report + 1 })).after
      (onLog fun _ l => { l with
        telemetry := if (rdF s (HTH + 0x60) 20 16).testBit 3 then l.telemetry.drop 32 else l.telemetry }) := by
  have hon : ¬ (!counting s || s.sys.hearthDown || rdF s (HTH + 0x60) 15 0 = 0) = true := by simp [hcount, hup, hevery]
  obtain ⟨k0, hk⟩ := Option.ne_none_iff_exists'.1 hkey
  have hk' : sparseFind s.sec.keys 0 = some k0 := hk
  refine ⟨k0, Eq.trans (after_congr ?_) (after_three _ _ _ s)⟩
  rw [telemetryReport, if_neg hon, hk']
  rfl

theorem telemetryReport_sends (hm : s.memOk = true) : (s.after (telemetryReport true)).hth = { s.hth with report := s.hth.report + 1 } ∧
    (s.after (telemetryReport true)).log = { s.log with
      telemetry := if (rdF s (HTH + 0x60) 20 16).testBit 3 then s.log.telemetry.drop 32 else s.log.telemetry } := by
  obtain ⟨k0, hafter⟩ := after_telemetryReport hcount hup hevery hkey
  rw [hafter, onLog_hth, onHth_hth, onLog_log, onHth_log, (wordless_hth.sendReport macs_hth s k0).after hm,
    (wordless_log.sendReport macs_log s k0).after hm]
  exact ⟨rfl, rfl⟩

/-- One that is late is only counted (R532). -/
theorem after_telemetryReport_late : s.after (telemetryReport false) =
    (s.after (bump (HTH + 0x44) 23 12 1)).after (onHth fun _ h => { h with report := h.report + 1 }) := by
  have hon : ¬ (!counting s || s.sys.hearthDown || rdF s (HTH + 0x60) 15 0 = 0) = true := by simp [hcount, hup, hevery]
  obtain ⟨k, hk⟩ := Option.ne_none_iff_exists'.1 hkey
  have hk' : sparseFind s.sec.keys 0 = some k := hk
  refine Eq.trans (after_congr ?_) (after_two _ _ s)
  rw [telemetryReport, if_neg hon, hk']
  rfl

theorem telemetryReport_misses (hm : s.memOk = true) : let t := s.after (telemetryReport false)
    t.hth = { s.hth with report := s.hth.report + 1 } ∧ t.log = s.log ∧ t.macs = s.macs ∧
    rdF t (HTH + 0x44) 23 12 = min 4095 (rdF s (HTH + 0x44) 23 12 + 1) ∧ SameBut s t [HTH + 0x44] := by
  dsimp only
  rw [after_telemetryReport_late hcount hup hevery hkey, onHth_hth, onHth_log, onHth_macs, rdF, onHth_words, ← rdF,
    wordless_hth.bump.after hm, wordless_log.bump.after hm, wordless_macs.bump.after hm]
  refine ⟨rfl, rfl, rfl, rdF_bump hm _ 1 (by decide) (by decide), fun b hb => ?_⟩
  rw [onHth_words]
  exact (keeps_bump _ b _ _ _ fun h => hb (List.mem_singleton.2 h)).after hm
end

/-- A write to HTH_LOG_SEL by a master that may not make it leaves the fetch as it is. -/
theorem hthLogSel_refused {s : State} (hm : s.memOk = true) {m : Nat} (h : 1 < m) (q : Nat) :
    (s.after (hthLogSel m q)).log.fetching = s.log.fetching ∧ SameBut s (s.after (hthLogSel m q)) [XBR, XBR + 1, XBR + 2] := by
  have hact : hthLogSel m q = refused m (HTH + 0x48) true := if_pos h
  have hlog : Keeps (·.log.fetching) (refused m (HTH + 0x48) true) :=
    refused_keeps (wordless_log.bump.map (·.fetching)) (fun _ => wordless_log.poke.map (·.fetching))
      (fun _ => wordless_log.poke.map (·.fetching)) (fun _ _ _ _ _ _ => rfl) (fun _ _ => rfl) _ _ _
  rw [hact]
  exact ⟨hlog.after hm, refused_same hm _ _ _⟩

/-- Settles O54: each clause is what one of the log's acts leaves; while Hearth restarts none of them does anything. -/
theorem theLogKeepsItsEntries : Obligations.TheLogKeepsItsEntries := by
  intro s hm
  have hm' : s.begun.memOk = true := hm
  refine ⟨fun ring fl v hv => ?_, fun hdown c hc => ?_, fun hnone => ?_, fun r rest hr hup => ⟨fun hroom => ?_, fun hfull v hv => ?_⟩,
    fun hidle => ?_, fun hfree htokens => ⟨fun hnone => ?_, fun e he => ?_⟩, fun m q hst => ⟨fun hle => ?_, fun hlt => ?_⟩, fun hfetch => ?_,
    fun hfetch hup => ⟨fun ws hws hlen => ?_, fun hnone => ?_⟩, fun hcount hup hevery hkey => ⟨?_, ?_⟩, fun hoff c => ?_⟩
  · obtain ⟨hin, hwhy⟩ := victim_cases hv
    refine ⟨hin, fun f hf hex => ?_, fun hnone => ?_⟩
    · subst hf
      refine hwhy.elim (fun h => of_decide_eq_true h) fun h => ?_
      obtain ⟨e, he, hle⟩ := hex
      exact absurd (h.1 e he) (by simp [inFlash, hle])
    · refine hwhy.elim (fun h => ?_) fun h => h.2
      cases fl with
      | none => cases h
      | some f => exact absurd (of_decide_eq_true h) (Nat.not_le.2 (hnone f rfl v hin))
  · obtain rfl | rfl | rfl | rfl := hc
    · exact congrArg Host.Outcome.next (after_congr (s := s.begun) (b := nop) (if_pos hdown))
    · exact congrArg Host.Outcome.next (logFlush_idle (s := s.begun) (.inr (flashFree_false (.inl hdown))))
    · exact congrArg Host.Outcome.next (logFetchComplete_idle (s := s.begun) (.inr hdown))
    · exact congrArg Host.Outcome.next (telemetryReport_off (s := s.begun) (.inl hdown) true)
  · refine congrArg Host.Outcome.next (after_congr (s := s.begun) (b := nop) ?_)
    have hnone' : s.begun.log.reports = [] := hnone
    rw [logEntry, hnone']
    split <;> rfl
  · exact ⟨_, rfl, logEntry_places (s := s.begun) hup hr hm' hroom, logEntry_head (s := s.begun) hup hr hm'⟩
  · exact ⟨_, rfl, logEntry_discards (s := s.begun) hup hr hm' hfull hv⟩
  · exact congrArg Host.Outcome.next (logFlush_idle (s := s.begun) hidle)
  · exact congrArg Host.Outcome.next (logFlush_done (s := s.begun) hnone)
  · obtain ⟨hflashed, hpos, htok, hring⟩ := logFlush_log (s := s.begun) hm' hfree htokens he
    exact ⟨_, rfl, hflashed, hpos, htok, hring, logFlush_writes (s := s.begun) hm' hfree htokens he⟩
  · have hexec : exec (.hthLogSel m q) s = .next (s.begun.after (startFetch q)) := by
      refine congrArg Host.Outcome.next ((after_writing (s := s.begun) hst (hthLogSel m q)).trans (after_congr (s := s.begun) ?_))
      exact congrFun (if_neg (Nat.not_lt.2 hle)) _
    exact ⟨_, hexec, startFetch_shows hm' q⟩
  · exact ⟨_, congrArg Host.Outcome.next (after_writing (s := s.begun) hst (hthLogSel m q)), hthLogSel_refused (s := s.begun) hm' hlt q⟩
  · exact congrArg Host.Outcome.next (logFetchComplete_idle (s := s.begun) (.inl hfetch))
  · have hws' : findEntry s.begun (rd s.begun (HTH + 0x48)).toNat = some ws := hws
    exact ⟨_, rfl, logFetchComplete_shows (s := s.begun) hm' hfetch hup (by rw [hws']; rfl) hlen (by rw [hws']; rfl) (by decide)⟩
  · have hnone' : findEntry s.begun (rd s.begun (HTH + 0x48)).toNat = none := hnone
    obtain ⟨hlog, hfound, hwords⟩ := logFetchComplete_shows (s := s.begun) hm' hfetch hup (ws := List.replicate 8 0) (code := 2)
      (by rw [hnone']; rfl) List.length_replicate (by rw [hnone']; rfl) (by decide)
    refine ⟨_, rfl, hlog, hfound, fun k hk => (hwords k hk).trans ?_⟩
    rw [List.getD_eq_getElem?_getD, List.getElem?_replicate, if_pos hk]
    rfl
  · exact ⟨_, rfl, telemetryReport_sends (s := s.begun) hcount hup hevery hkey hm'⟩
  · exact ⟨_, rfl, telemetryReport_misses (s := s.begun) hcount hup hevery hkey hm'⟩
  · exact congrArg Host.Outcome.next (telemetryReport_off (s := s.begun) (.inr hoff) c)

end Sys2Proof.Machine

/-! SUPPORT. What the update commands share (R533, R537): the status word, who is heard, a command in progress. -/
namespace Sys2Proof.Machine
open Sys2Proof

/-! ### HTH_UPD_STATUS (R533) -/

/-- HTH_UPD_STATUS shows the command `code` with status `st`. -/
def UpdateShows (t : State) (code st : Nat) : Prop := rdF t (HTH + 0x73) 7 4 = code ∧ rdF t (HTH + 0x73) 3 0 = st

/-- The command that HTH_UPD_STATUS shows. -/
def updCode (s : State) : Nat := rdF s (HTH + 0x73) 7 4

/-- Fields of one word do not disturb each other. -/
theorem keeps_field {a hi lo v hi' lo' : Nat} (h : hi < 36) (hl : lo ≤ hi) (hoff : hi' < lo ∨ hi < lo') :
    Keeps (fun s => rdF s a hi' lo') (pokeF a hi lo v) := fun s hm => by
  have hword : rd (applyAll (pokeF a hi lo v s) s) a = setFld (rd s a) hi lo v := pokeF_rd hm a hi lo v
  dsimp only
  rw [rdF, hword]
  exact hoff.elim (fld_setFld_below _ _ _ _ _ _ h hl) (fld_setFld_above _ _ _ _ _ _ h hl)

theorem updCode_of_words {a : Act} (h : Keeps (fun s => rd s (HTH + 0x73)) a) : Keeps updCode a := h.map (fld · 7 4)

section
variable (st reason : Nat)

theorem Aloof.updDone {β : Sort _} {f : State → β} (h : Aloof f) : Keeps f (updDone st reason) :=
  keeps_acts ⟨h.pokeF, h.pokeF, h.ring, h.report⟩

/-- A field above STATUS and beside REASON stands. -/
theorem updDone_field {hi lo : Nat} (hlo : 3 < lo) (hhi : hi < 20) : Keeps (fun s => rdF s (HTH + 0x73) hi lo) (updDone st reason) :=
  keeps_acts ⟨keeps_field (by decide) (by decide) (.inl hhi), keeps_field (by decide) (by decide) (.inr hlo),
    (ring_hth (b := HTH + 0x73) (by decide) (by decide)).map (fld · hi lo), (report_rd.map (· (HTH + 0x73))).map (fld · hi lo)⟩

theorem updDone_code : Keeps updCode (updDone st reason) := updDone_field st reason (by decide) (by decide)

variable {st} in
theorem updDone_status {s : State} (hm : s.memOk = true) (hst : st < 16) : rdF (s.after (updDone st reason)) (HTH + 0x73) 3 0 = st := by
  have hreason := after_memOk (pokeF (HTH + 0x73) 27 20 reason) hm
  have hrest : Keeps (fun u => rd u (HTH + 0x73)) (seq [ringUpdate, report 0x30 .updateDone st reason]) :=
    keeps_acts ⟨ring_hth (by decide) (by decide), report_rd.map (· (HTH + 0x73))⟩
  rw [updDone, after_seq_cons, after_seq_cons, rdF_congr (hrest.after (after_memOk _ hreason)),
    rdF_pokeF hreason _ _ (by decide) (by decide)]
  exact Nat.mod_eq_of_lt hst

variable {st} in
theorem updDone_shows {s : State} (hm : s.memOk = true) (hst : st < 16) {code : Nat} (hcode : updCode s = code) :
    UpdateShows (s.after (updDone st reason)) code st :=
  ⟨((updDone_code st reason).after hm).trans hcode, updDone_status reason hm hst⟩
end

theorem setVerified_hth (v : Option Nat) (s : State) : (s.after (setVerified v)).hth = { s.hth with verified := v } :=
  (congrArg State.hth (after_two _ _ s)).trans (mem_hth _ _ _)

theorem setVerified_keeps {β : Sort _} {f : State → β} (h : Wordless f) (hhth : ∀ s v, f (applyEff s (.hth v)) = f s) (v : Option Nat) :
    Keeps f (setVerified v) := keeps_acts ⟨fun _ _ => hhth _ _, h.pokeF⟩

theorem setVerified_field {hi lo : Nat} (h : hi < 18 ∨ 19 < lo) (v : Option Nat) :
    Keeps (fun s => rdF s (HTH + 0x73) hi lo) (setVerified v) := keeps_acts ⟨fun _ _ => rfl, keeps_field (by decide) (by decide) h⟩

theorem setVerified_words {b : Nat} (hb : b ≠ HTH + 0x73) (v : Option Nat) : Keeps (fun s => rd s b) (setVerified v) :=
  keeps_acts ⟨fun _ _ => rfl, keeps_pokeF _ b _ _ _ hb⟩

/-! ### Who is heard (R533, R537) -/

/-- The states in which update commands are carried out. -/
def UpdOpen (s : State) : Prop := s.sys.state = .hold ∨ s.sys.state = .armed ∨ s.sys.state = .run ∨ s.sys.state = .safe

/-- The state in which the body of an accepted command runs: HTH_UPD_STATUS names the command. -/
def State.numbered (s : State) (code : Nat) : State := s.after (pokeF (HTH + 0x73) 7 4 code)

section
variable (s : State) (code : Nat)

@[simp] theorem numbered_hth : (s.numbered code).hth = s.hth := mem_hth _ _ _
@[simp] theorem numbered_flash : (s.numbered code).flash = s.flash := mem_flash _ _ _
@[simp] theorem numbered_otp : (s.numbered code).otp = s.otp := mem_otp _ _ _
@[simp] theorem numbered_sys : (s.numbered code).sys = s.sys := mem_sys _ _ _
@[simp] theorem numbered_img : (s.numbered code).img = s.img := mem_img _ _ _
@[simp] theorem numbered_life : (s.numbered code).life = s.life := mem_life _ _ _
@[simp] theorem numbered_cocoon : (s.numbered code).cocoon = s.cocoon := mem_cocoon _ _ _
@[simp] theorem numbered_committed : committedSlot (s.numbered code) = committedSlot s := by
  rw [committedSlot, numbered_flash, committedSlot]
@[simp] theorem numbered_vdd1Ok : vdd1Ok (s.numbered code) = vdd1Ok s := by rw [vdd1Ok, numbered_sys, vdd1Ok]
@[simp] theorem numbered_floorFuses : floorFuses (s.numbered code) = floorFuses s := by
  rw [floorFuses, numbered_img, vendorFloor, numbered_otp, floorFuses, vendorFloor]

variable {s} (hm : s.memOk = true)
include hm

theorem numbered_memOk : (s.numbered code).memOk = true := after_memOk _ hm

theorem numbered_rd {b : Nat} (hb : b ≠ HTH + 0x73) : rd (s.numbered code) b = rd s b := (keeps_pokeF _ b _ _ _ hb).after hm

theorem numbered_code (hcode : code < 16) : updCode (s.numbered code) = code :=
  (rdF_pokeF hm _ _ (by decide) (by decide)).trans (Nat.mod_eq_of_lt hcode)

theorem numbered_updBytes (n : Nat) : updBytes (s.numbered code) n = updBytes s n := by
  have hword (i : Nat) : rdF (s.numbered code) (HTH + 0x1000 + i) 31 0 = rdF s (HTH + 0x1000 + i) 31 0 :=
    rdF_congr (numbered_rd code hm (by omega)) 31 0
  rw [updBytes, updBytes]
  simp only [hword]
end

section
variable {s : State} {m key code : Nat} {body : Act}

/-- From another master an update command is refused. -/
theorem updCmd_foreign (h : m ≠ 1) : s.after (updCmd m key code body) = s.after (refused m (HTH + 0x70) true) := after_congr (if_pos h)

/-- While one is in progress another is counted, but for a valid ABORT. -/
theorem updCmd_running (hjob : s.hth.job.isSome = true) (h : code ≠ 5 ∨ key % 4096 ≠ 0xC0C) :
    s.after (updCmd 1 key code body) = s.after (bump (HTH + 0x73) 35 28 1) := after_congr (by
  rw [updCmd, if_neg (by decide), if_pos]
  rw [hjob, Bool.true_and, Bool.not_eq_true', Bool.and_eq_false_iff, beq_eq_false_iff_ne, beq_eq_false_iff_ne]
  exact h)

theorem updCmd_heard (h : s.hth.job = none ∨ code = 5 ∧ key % 4096 = 0xC0C) : updCmd 1 key code body s =
    (if s.sys.state == .hold || s.sys.state == .armed || s.sys.state == .run || s.sys.state == .safe then
      seq [pokeF (HTH + 0x73) 7 4 code, if key % 4096 ≠ 0xC0C then updDone 4 0 else body] s
    else if s.sys.state == .load then seq [pokeF (HTH + 0x73) 7 4 code, updDone 3 0] s
    else []) := by
  have hgo : (s.hth.job.isSome && !(code == 5 && key % 4096 == 0xC0C)) = false := by
    rcases h with h | ⟨h5, hkey⟩
    · rw [h]; rfl
    · rw [h5, hkey]; exact Bool.and_false _
  rw [updCmd, if_neg (by decide), hgo]
  exact if_neg Bool.false_ne_true

theorem updCmd_open (h : s.hth.job = none ∨ code = 5 ∧ key % 4096 = 0xC0C) (hopen : UpdOpen s) :
    s.after (updCmd 1 key code body) = (s.numbered code).after (if key % 4096 ≠ 0xC0C then updDone 4 0 else body) := by
  have hstate : (s.sys.state == .hold || s.sys.state == .armed || s.sys.state == .run || s.sys.state == .safe) = true := by
    rcases hopen with h | h | h | h <;> rw [h] <;> rfl
  exact (after_congr ((updCmd_heard h).trans (if_pos hstate))).trans (after_two _ _ s)

theorem updCmd_load (h : s.hth.job = none) (hload : s.sys.state = .load) :
    s.after (updCmd 1 key code body) = (s.numbered code).after (updDone 3 0) := by
  have hact : updCmd 1 key code body s = seq [pokeF (HTH + 0x73) 7 4 code, updDone 3 0] s := by rw [updCmd_heard (.inl h), hload]; rfl
  exact (after_congr hact).trans (after_two _ _ s)

theorem updCmd_elsewhere (h : s.hth.job = none) (hload : s.sys.state ≠ .load) (hopen : ¬ UpdOpen s) :
    s.after (updCmd 1 key code body) = s := by
  refine after_congr (s := s) (b := nop) ?_
  unfold UpdOpen at hopen
  simp only [not_or] at hopen
  obtain ⟨hhold, harmed, hrun, hsafe⟩ := hopen
  rw [updCmd_heard (.inl h), beq_false_of_ne hhold, beq_false_of_ne harmed, beq_false_of_ne hrun, beq_false_of_ne hsafe,
    beq_false_of_ne hload]
  rfl
end

/-- An update command with nothing staged is its act. -/
theorem exec_update {c : Instr} {s : State} {m : Nat} {act : Act} (h : exec c s = done (writing m act) s) (hst : stagedOf s m = none) :
    exec c s = .next (s.begun.after act) :=
  h.trans (congrArg Host.Outcome.next (after_writing (s := s.begun) hst act))

/-- What the flash and the fuses hold. -/
def storePart (s : State) := (s.flash, s.otp)

theorem aloof_storePart : Aloof storePart := ⟨⟨fun _ _ _ => rfl⟩, fun _ _ => rfl, fun _ _ => rfl, fun _ _ => rfl⟩

theorem storePart_kept {s t : State} (h : storePart t = storePart s) : t.flash = s.flash ∧ t.otp = s.otp := Prod.ext_iff.1 h

theorem aloof_hth : Aloof (·.hth) := ⟨⟨mem_hth⟩, out_hth, log_hth, drc_hth⟩

/-- How an update command answers that is not carried out: refused, counted, out of its states, with a wrong key (R533). -/
theorem updCmd_turned_away {s : State} (hm : s.memOk = true) (m key code : Nat) (hcode : code < 16) (body : Act) :
    let t := s.after (updCmd m key code body)
    let kept := t.flash = s.flash ∧ t.otp = s.otp
    (m ≠ 1 → kept ∧ SameBut s t [XBR, XBR + 1, XBR + 2]) ∧
    (m = 1 → s.hth.job.isSome = true → code ≠ 5 ∨ key % 4096 ≠ 0xC0C → kept ∧ t.hth = s.hth ∧ SameBut s t [HTH + 0x73] ∧
      rdF t (HTH + 0x73) 35 28 = min 255 (rdF s (HTH + 0x73) 35 28 + 1)) ∧
    (m = 1 → s.hth.job = none →
      (s.sys.state = .load → kept ∧ UpdateShows t code 3) ∧
      (UpdOpen s → key % 4096 ≠ 0xC0C → kept ∧ t.hth = s.hth ∧ UpdateShows t code 4) ∧
      (s.sys.state ≠ .load → ¬ UpdOpen s → t = s)) := by
  have hnum := numbered_memOk code hm
  have hname := numbered_code code hm hcode
  have hstore : storePart (s.numbered code) = storePart s := aloof_storePart.pokeF.after hm
  refine ⟨fun hne => ?_, fun h1 hjob h => ?_, fun h1 hjob => ⟨fun hload => ?_, fun hopen hkey => ?_, fun hload hopen => ?_⟩⟩
  · rw [updCmd_foreign hne]
    exact ⟨storePart_kept ((aloof_storePart.refused (fun _ _ => rfl) _ _ _).after hm), refused_same hm _ _ _⟩
  · subst h1
    rw [updCmd_running hjob h]
    exact ⟨storePart_kept (aloof_storePart.bump.after hm), wordless_hth.bump.after hm,
      fun b hb => (keeps_bump _ b _ _ _ fun h => hb (List.mem_singleton.2 h)).after hm, rdF_bump hm _ 1 (by decide) (by decide)⟩
  · subst h1
    rw [updCmd_load hjob hload]
    exact ⟨storePart_kept (((aloof_storePart.updDone 3 0).after hnum).trans hstore), updDone_shows 0 hnum (by decide) hname⟩
  · subst h1
    rw [updCmd_open (.inl hjob) hopen, if_pos hkey]
    exact ⟨storePart_kept (((aloof_storePart.updDone 4 0).after hnum).trans hstore),
      ((aloof_hth.updDone 4 0).after hnum).trans (numbered_hth s code), updDone_shows 0 hnum (by decide) hname⟩
  · subst h1
    exact updCmd_elsewhere hjob hload hopen

end Sys2Proof.Machine

/-! SUPPORT. Update commands that take time (R533, R537): begun, carried on step by step, ended. -/
namespace Sys2Proof.Machine
open Sys2Proof

/-! ### A command in progress -/

theorem startJob_hth (j : UpdJob) (s : State) : (s.after (startJob j)).hth = { s.hth with job := some j } := by
  rw [startJob, after_two, onHth_hth, State.after, pokeF, applyAll_cons, applyAll_nil, mem_hth]

theorem startJob_keeps {β : Sort _} {f : State → β} (h : Wordless f) (hhth : ∀ s v, f (applyEff s (.hth v)) = f s) (j : UpdJob) :
    Keeps f (startJob j) := keeps_acts ⟨h.pokeF, fun _ _ => hhth _ _⟩

theorem startJob_code (j : UpdJob) : Keeps updCode (startJob j) :=
  keeps_acts ⟨keeps_field (by decide) (by decide) (.inr (by decide)), fun _ _ => rfl⟩

theorem startJob_words {b : Nat} (hb : b ≠ HTH + 0x73) (j : UpdJob) : Keeps (fun s => rd s b) (startJob j) :=
  keeps_acts ⟨keeps_pokeF _ b _ _ _ hb, fun _ _ => rfl⟩

theorem startJob_busy {s : State} (hm : s.memOk = true) (j : UpdJob) : rdF (s.after (startJob j)) (HTH + 0x73) 3 0 = 1 := by
  rw [startJob, after_two, rdF, onHth_words, ← rdF, rdF_pokeF hm _ _ (by decide) (by decide)]
  rfl

theorem aloof_sys : Aloof (·.sys) := ⟨⟨mem_sys⟩, out_sys, log_sys, drc_sys⟩
theorem aloof_otp : Aloof (·.otp) := ⟨⟨mem_otp⟩, out_otp, log_otp, drc_otp⟩
theorem aloof_flash : Aloof (·.flash) := ⟨⟨mem_flash⟩, out_flash, log_flash, drc_flash⟩

/-- No command is in progress. -/
def dropJob : Act := onHth fun _ h => { h with job := none }

section
variable {s : State} (hm : s.memOk = true) (hretry : s.sys.busyCmd ≠ 1) (st reason : Nat)
include hm hretry

/-- A command ends with its status, where no RETRY waits for the flash (R102, R533). -/
theorem after_endJob : s.after (endJob st reason) = (s.after dropJob).after (updDone st reason) := by
  have hsys : ((s.after dropJob).after (updDone st reason)).sys = s.sys := (aloof_sys.updDone st reason).after (by exact hm)
  refine (after_three _ _ _ s).trans (after_when_neg (u := (s.after dropJob).after (updDone st reason)) ?_)
  rw [hsys]
  exact beq_false_of_ne hretry

theorem endJob_hth : (s.after (endJob st reason)).hth = { s.hth with job := none } := by
  rw [after_endJob hm hretry, (aloof_hth.updDone st reason).after (by exact hm), dropJob, onHth_hth]

theorem endJob_keeps {β : Sort _} {f : State → β} (h : Aloof f) (hhth : ∀ s v, f (applyEff s (.hth v)) = f s) :
    f (s.after (endJob st reason)) = f s := by
  rw [after_endJob hm hretry, (h.updDone st reason).after (by exact hm)]
  exact hhth _ _

theorem endJob_code : updCode (s.after (endJob st reason)) = updCode s := by
  rw [after_endJob hm hretry, (updDone_code st reason).after (by exact hm)]
  rfl

theorem endJob_status (hst : st < 16) : rdF (s.after (endJob st reason)) (HTH + 0x73) 3 0 = st := by
  rw [after_endJob hm hretry]
  exact updDone_status reason (by exact hm) hst

theorem endJob_words {b : Nat} (hb : HPT ≤ b) (hne : b ≠ HTH + 0x73) : rd (s.after (endJob st reason)) b = rd s b := by
  have hdone : Keeps (fun u => rd u b) (updDone st reason) :=
    keeps_acts ⟨keeps_pokeF _ b _ _ _ hne, keeps_pokeF _ b _ _ _ hne, ring_hth (by decide) hb, report_rd.map (· b)⟩
  rw [after_endJob hm hretry, hdone.after (by exact hm)]
  rfl
end

/-- n steps of the command in progress. -/
def jobSteps (n : Nat) : Act := seq (List.replicate n jobStep)

theorem finishJob_eq : finishJob = jobSteps 128 := by
  rw [finishJob, each, List.map_const', List.length_range, jobSteps]

theorem after_jobSteps_succ (n : Nat) (s : State) : s.after (jobSteps (n + 1)) = (s.after jobStep).after (jobSteps n) := by
  rw [jobSteps, List.replicate_succ, after_seq_cons, jobSteps]

/-- With no command in progress nothing goes on. -/
theorem after_jobSteps_idle {s : State} (h : s.hth.job = none) (n : Nat) : s.after (jobSteps n) = s := by
  induction n with
  | zero => rfl
  | succ n ih =>
    have hidle : s.after jobStep = s := after_congr (s := s) (b := nop) (by rw [jobStep, h]; rfl)
    rw [after_jobSteps_succ, hidle, ih]

end Sys2Proof.Machine

/-! SUPPORT. Pages of a slot (R534): a page programmed, and a WRITE to its end. -/
namespace Sys2Proof.Machine
open Sys2Proof

theorem mem_sparsePut_other {α : Type} {t : List (Nat × α)} {k : Nat} {v : α} {x : Nat × α} (hx : x ∈ t) (hk : x.1 ≠ k) :
    x ∈ sparsePut t k v := by
  induction t with
  | nil => cases hx
  | cons e r ih =>
    obtain ⟨j, w⟩ := e
    rw [sparsePut]
    split
    next hj =>
      obtain rfl | hin := List.mem_cons.1 hx
      · exact absurd hj hk
      · exact List.mem_cons_of_mem _ hin
    next =>
      split
      · exact List.mem_cons_of_mem _ hx
      · obtain rfl | hin := List.mem_cons.1 hx
        · exact List.mem_cons_self
        · exact List.mem_cons_of_mem _ (ih hin)

/-! ### A page -/

section
variable {β : Sort _} {f : State → β} (hflash : ∀ s v, f (applyEff s (.flash v)) = f s) (hhth : ∀ s v, f (applyEff s (.hth v)) = f s)
  (hlife : ∀ s v, f (applyEff s (.life v)) = f s)
include hflash hhth hlife

theorem eraseSector_keeps (slot k : Nat) : Keeps f (eraseSector slot k) := fun s => by
  unfold eraseSector
  split
  · exact keeps_nop s
  · exact keeps_actsAt s ⟨fun _ _ => hflash _ _, fun _ _ => hhth _ _, fun _ _ => hlife _ _⟩

/-- A page programmed changes the flash, Hearth's notes and a lifetime count. -/
theorem programPage_keeps (slot p : Nat) (b : List Nat) : Keeps f (programPage slot p b) :=
  keeps_acts ⟨eraseSector_keeps hflash hhth hlife _ _, fun _ _ => hflash _ _, fun _ _ => hhth _ _⟩
end

/-- The first page of a sector since BEGIN erases that sector, and notes it. -/
theorem eraseSector_leaves (slot k : Nat) (s : State) :
    (∃ erased, (s.after (eraseSector slot k)).hth = { s.hth with erased := erased }) ∧
    (∀ e ∈ (s.after (eraseSector slot k)).flash.pages, e ∈ s.flash.pages) ∧
    ∀ e ∈ s.flash.pages, e.1 / 16 ≠ 4096 * slot + k → e ∈ (s.after (eraseSector slot k)).flash.pages := by
  rw [State.after, eraseSector]
  split
  · exact ⟨⟨_, rfl⟩, fun _ he => he, fun _ he _ => he⟩
  · exact ⟨⟨_, rfl⟩, fun e he => (List.mem_filter.1 he).1, fun e he hne => List.mem_filter.2 ⟨he, bne_iff_ne.2 hne⟩⟩

theorem programPage_hth (slot p : Nat) (b : List Nat) (s : State) : ∃ erased,
    (s.after (programPage slot p b)).hth = { s.hth with erased := erased, written := s.hth.written ++ [p] } := by
  obtain ⟨⟨erased, hhth⟩, -, -⟩ := eraseSector_leaves slot (p / 16) s
  refine ⟨erased, ?_⟩
  rw [programPage, after_three, onHth_hth]
  exact congrArg (fun h : Hth => { h with written := h.written ++ [p] }) hhth

theorem programPage_pages (slot p : Nat) (b : List Nat) (s : State) : (s.after (programPage slot p b)).flash.pages =
    sparsePut (s.after (eraseSector slot (p / 16))).flash.pages (65536 * slot + p) (b ++ List.replicate (256 - b.length) 0xFF) := by
  rw [programPage, after_three]
  rfl

theorem updCode_aside {a : Act} (h : Keeps rd a) : Keeps updCode a := h.map fun r => fld (r (HTH + 0x73)) 7 4

/-- From `s` to `t` pages `ps` of a slot were programmed, and no other slot was touched. -/
structure Wrote (s t : State) (slot : Nat) (ps : List Nat) : Prop where
  written : t.hth.written = s.hth.written ++ ps
  verified : t.hth.verified = s.hth.verified
  otp : t.otp = s.otp
  sys : t.sys = s.sys
  code : updCode t = updCode s
  fresh : ∀ e ∈ t.flash.pages, e ∈ s.flash.pages ∨ e.1 / 65536 = slot
  others : ∀ e ∈ s.flash.pages, e.1 / 65536 ≠ slot → e ∈ t.flash.pages

theorem Wrote.trans {s t u : State} {slot : Nat} {ps qs : List Nat} (h : Wrote s t slot ps) (g : Wrote t u slot qs) :
    Wrote s u slot (ps ++ qs) where
  written := by rw [g.written, h.written, List.append_assoc]
  verified := g.verified.trans h.verified
  otp := g.otp.trans h.otp
  sys := g.sys.trans h.sys
  code := g.code.trans h.code
  fresh e he := (g.fresh e he).elim (h.fresh e) .inr
  others e he hne := g.others e (h.others e he hne) hne

theorem programPage_wrote {s : State} (hm : s.memOk = true) (slot : Nat) {p : Nat} (hp : p < 65536) (b : List Nat) :
    Wrote s (s.after (programPage slot p b)) slot [p] := by
  obtain ⟨-, hold, hother⟩ := eraseSector_leaves slot (p / 16) s
  obtain ⟨erased, hhth⟩ := programPage_hth slot p b s
  refine ⟨by rw [hhth], by rw [hhth], (programPage_keeps flash_otp hth_otp life_otp _ _ _).after hm,
    (programPage_keeps flash_sys hth_sys life_sys _ _ _).after hm,
    (updCode_aside (programPage_keeps flash_rd hth_rd life_rd _ _ _)).after hm, fun e he => ?_, fun e he hne => ?_⟩
  · rw [programPage_pages] at he
    exact (mem_sparsePut he).elim (fun h => .inr (by rw [h]; omega)) fun h => .inl (hold e h)
  · rw [programPage_pages]
    exact mem_sparsePut_other (hother e he (by omega)) (by omega)

/-- A step of WRITE's own bookkeeping programs no page. -/
theorem onHth_wrote {s : State} {g : Hth → Hth} (hw : (g s.hth).written = s.hth.written) (hv : (g s.hth).verified = s.hth.verified)
    (slot : Nat) : Wrote s (s.after (onHth fun _ => g)) slot [] where
  written := by rw [onHth_hth, hw, List.append_nil]
  verified := by rw [onHth_hth, hv]
  otp := rfl
  sys := rfl
  code := rfl
  fresh _ he := .inl he
  others _ he _ := he

theorem endJob_wrote {s : State} (hm : s.memOk = true) (hretry : s.sys.busyCmd ≠ 1) (st reason slot : Nat) :
    Wrote s (s.after (endJob st reason)) slot [] := by
  have hflash : (s.after (endJob st reason)).flash = s.flash :=
    endJob_keeps hm hretry st reason aloof_flash hth_flash
  have hhth := endJob_hth hm hretry st reason
  exact ⟨by rw [hhth, List.append_nil], by rw [hhth],
    endJob_keeps hm hretry st reason aloof_otp hth_otp, endJob_keeps hm hretry st reason aloof_sys hth_sys,
    endJob_code hm hretry st reason, fun e he => .inl (hflash ▸ he), fun e he _ => hflash.symm ▸ he⟩

/-! ### The pages of a WRITE -/

/-- The bytes of page i of a WRITE. -/
def pageBytes (data : List Nat) (i : Nat) : List Nat := (data.drop (256 * i)).take 256

/-- What follows page i: the end, or the next page. -/
def afterPage (slot p0 : Nat) (data : List Nat) (fail : Option Nat) (i : Nat) : Act :=
  if data.length ≤ 256 * (i + 1) then endJob 2 0 else onHth fun _ h => { h with job := some (.write slot p0 data fail (i + 1)) }

section
variable {s : State} {slot p0 i : Nat} {data : List Nat} {fail : Option Nat} (hjob : s.hth.job = some (.write slot p0 data fail i))
include hjob

theorem jobStep_write (hfail : fail ≠ some i) :
    s.after jobStep = (s.after (programPage slot (p0 + i) (pageBytes data i))).after (afterPage slot p0 data fail i) := by
  have hact : jobStep s = seq [programPage slot (p0 + i) (pageBytes data i), afterPage slot p0 data fail i] s := by
    rw [jobStep, hjob]
    exact congrFun (if_neg hfail) s
  exact (after_congr hact).trans (after_two _ _ s)

/-- A page that fails ends the WRITE; the pages before it stand (R534). -/
theorem jobStep_write_fails (hfail : fail = some i) : s.after jobStep = s.after (endJob 9 0) := by
  refine after_congr ?_
  rw [jobStep, hjob]
  exact congrFun (if_pos hfail) s

variable (hm : s.memOk = true) (hretry : s.sys.busyCmd ≠ 1) (hp : p0 + i < 65536) (hfail : fail ≠ some i)
include hm hretry hp hfail

/-- The last page ends the WRITE (R534). -/
theorem write_last_page (hlast : data.length ≤ 256 * (i + 1)) : Wrote s (s.after jobStep) slot [p0 + i] ∧ (s.after jobStep).hth.job = none ∧
    rdF (s.after jobStep) (HTH + 0x73) 3 0 = 2 ∧
    (s.after jobStep).flash.pages = (s.after (programPage slot (p0 + i) (pageBytes data i))).flash.pages := by
  have hpage := programPage_wrote hm slot hp (pageBytes data i)
  have hm' := after_memOk (programPage slot (p0 + i) (pageBytes data i)) hm
  have hretry' : (s.after (programPage slot (p0 + i) (pageBytes data i))).sys.busyCmd ≠ 1 := by rwa [hpage.sys]
  have hflash := endJob_keeps hm' hretry' 2 0 (f := (·.flash)) aloof_flash hth_flash
  rw [jobStep_write hjob hfail, afterPage, if_pos hlast]
  exact ⟨hpage.trans (endJob_wrote hm' hretry' 2 0 slot), by rw [endJob_hth hm' hretry'], endJob_status hm' hretry' 2 0 (by decide),
    congrArg (·.pages) hflash⟩

omit hretry in
/-- Any other page leaves the next one to be programmed. -/
theorem write_next_page (hmore : ¬ data.length ≤ 256 * (i + 1)) : Wrote s (s.after jobStep) slot [p0 + i] ∧
    (s.after jobStep).hth.job = some (.write slot p0 data fail (i + 1)) := by
  have hpage := programPage_wrote hm slot hp (pageBytes data i)
  rw [jobStep_write hjob hfail, afterPage, if_neg hmore]
  refine ⟨?_, by rw [onHth_hth]⟩
  exact hpage.trans (onHth_wrote (g := fun h => { h with job := some (.write slot p0 data fail (i + 1)) }) rfl rfl slot)
end

/-- A WRITE of which no page fails programs all that are left, in as many steps (R534). -/
theorem write_finishes {slot p0 : Nat} {data : List Nat} (hend : 256 * p0 + data.length ≤ 16777216) (n : Nat) :
    ∀ {s : State} {i : Nat}, s.memOk = true → s.sys.busyCmd ≠ 1 → s.hth.job = some (.write slot p0 data none i) → 256 * i < data.length →
      data.length ≤ 256 * (i + n) → Wrote s (s.after (jobSteps n)) slot ((List.range' i ((data.length + 255) / 256 - i)).map (p0 + ·)) ∧
        (s.after (jobSteps n)).hth.job = none ∧ rdF (s.after (jobSteps n)) (HTH + 0x73) 3 0 = 2 := by
  induction n with
  | zero => intro s i _ _ _ hlo hhi; omega
  | succ n ih =>
    intro s i hm hretry hjob hlo hhi
    have hp : p0 + i < 65536 := by omega
    rw [after_jobSteps_succ]
    by_cases hlast : data.length ≤ 256 * (i + 1)
    · obtain ⟨hwrote, hnone, hstatus, -⟩ := write_last_page hjob hm hretry hp (by simp) hlast
      have hcount : (data.length + 255) / 256 - i = 1 := by omega
      rw [after_jobSteps_idle hnone, hcount]
      exact ⟨hwrote, hnone, hstatus⟩
    · obtain ⟨hwrote, hnext⟩ := write_next_page hjob hm hp (by simp) hlast
      have hretry' : (s.after jobStep).sys.busyCmd ≠ 1 := by rwa [hwrote.sys]
      obtain ⟨hrest, hnone, hstatus⟩ := ih (after_memOk _ hm) hretry' hnext (by omega) (by omega)
      have hcount : (data.length + 255) / 256 - i = (data.length + 255) / 256 - (i + 1) + 1 := by omega
      rw [hcount, List.range'_succ, List.map_cons]
      exact ⟨hwrote.trans hrest, hnone, hstatus⟩

/-! ### WRITE (R534) -/

theorem toBytes_length (n v : Nat) : (toBytes n v).length = n := by rw [toBytes, List.length_map, List.length_range]

theorem updBytes_length (s : State) (n : Nat) : (updBytes s n).length = n := by
  rw [updBytes, List.length_take, List.length_flatMap]
  simp only [toBytes_length, List.map_const', List.length_range, List.sum_replicate, smul_eq_mul]
  omega

/-- The pages that a WRITE names: the first, and how many. -/
def firstPage (s : State) : Nat := rdF s (HTH + 0x71) 24 0 / 256
def writeLength (s : State) : Nat := rdF s (HTH + 0x72) 24 0
def pageCount (s : State) : Nat := (writeLength s + 255) / 256

/-- A WRITE that is carried out begins: the verification is cleared, its pages are to be programmed. -/
def beginWrite (s : State) (slot : Nat) (r : FlashRun) : Act :=
  seq [setVerified none, startJob (.write slot (firstPage s) (updBytes s (writeLength s)) r.fail 0)]

/-- How far a WRITE gets before a further command may come. -/
def writeRun (s : State) (r : FlashRun) : Act := match r.upTo with
  | none => finishJob
  | some k => each (List.range (min k (pageCount s))) (fun _ => jobStep)

/-- What WRITE does once it is heard (R534). -/
def writeBody (r : FlashRun) : Act := fun s =>
  match s.hth.beginSlot with
  | none => updDone 6 0 s
  | some slot =>
    if committedSlot s = some slot then updDone 6 0 s
    else if writeLength s = 0 ∨ 16384 < writeLength s ∨ rdF s (HTH + 0x71) 24 0 % 256 ≠ 0 ∨
      16777216 < rdF s (HTH + 0x71) 24 0 + writeLength s then updDone 5 0 s
    else if (List.range (pageCount s)).any (fun i => s.hth.written.contains (firstPage s + i)) then updDone 5 0 s
    else seq [setVerified none, startJob (.write slot (firstPage s) (updBytes s (writeLength s)) r.fail 0), writeRun s r] s

section
variable {s : State} {slot : Nat} {r : FlashRun}

theorem writeBody_unbegun (h : s.hth.beginSlot = none) : s.after (writeBody r) = s.after (updDone 6 0) :=
  after_congr (by rw [writeBody, h])

variable (hbegin : s.hth.beginSlot = some slot) (hcommit : committedSlot s ≠ some slot)
include hbegin hcommit

/-- Lengths and offsets that no WRITE has, and pages programmed already, are refused (R534). -/
theorem writeBody_bad (h : rdF s (HTH + 0x71) 24 0 % 256 ≠ 0 ∨ writeLength s = 0 ∨ 16384 < writeLength s) :
    s.after (writeBody r) = s.after (updDone 5 0) := after_congr (by
  rw [writeBody, hbegin]
  exact (if_neg hcommit).trans (if_pos (by omega)))

variable (haligned : rdF s (HTH + 0x71) 24 0 % 256 = 0) (hpos : 0 < writeLength s) (hmax : writeLength s ≤ 16384)
  (hend : 256 * firstPage s + writeLength s ≤ 16777216)
include haligned hpos hmax hend

theorem writeBody_fits : writeBody r s =
    if (List.range (pageCount s)).any (fun i => s.hth.written.contains (firstPage s + i)) then updDone 5 0 s
    else seq [setVerified none, startJob (.write slot (firstPage s) (updBytes s (writeLength s)) r.fail 0), writeRun s r] s := by
  rw [writeBody, hbegin]
  have hat : rdF s (HTH + 0x71) 24 0 = 256 * firstPage s := by unfold firstPage; omega
  exact (if_neg hcommit).trans (if_neg (by omega))

theorem writeBody_again (h : ∃ i, i < pageCount s ∧ firstPage s + i ∈ s.hth.written) : s.after (writeBody r) = s.after (updDone 5 0) := by
  obtain ⟨i, hi, hin⟩ := h
  refine after_congr ((writeBody_fits hbegin hcommit haligned hpos hmax hend).trans (if_pos ?_))
  exact List.any_eq_true.2 ⟨i, List.mem_range.2 hi, List.contains_iff_mem.2 hin⟩

theorem after_writeBody (h : ∀ i, i < pageCount s → firstPage s + i ∉ s.hth.written) :
    s.after (writeBody r) = (s.after (beginWrite s slot r)).after (writeRun s r) := by
  have hnone : ¬ (List.range (pageCount s)).any (fun i => s.hth.written.contains (firstPage s + i)) = true := by
    rw [List.any_eq_true]
    rintro ⟨i, hi, hin⟩
    exact h i (List.mem_range.1 hi) (List.contains_iff_mem.1 hin)
  exact (after_congr ((writeBody_fits hbegin hcommit haligned hpos hmax hend).trans (if_neg hnone))).trans (after_seq_snoc [_, _] _ s)
end

/-- What the beginning of a WRITE leaves. -/
theorem beginWrite_leaves {s : State} (hm : s.memOk = true) (slot : Nat) (r : FlashRun) : let t := s.after (beginWrite s slot r)
    t.hth = { s.hth with verified := none, job := some (.write slot (firstPage s) (updBytes s (writeLength s)) r.fail 0) } ∧
    t.flash = s.flash ∧ t.otp = s.otp ∧ t.sys = s.sys ∧ updCode t = updCode s ∧ rdF t (HTH + 0x73) 3 0 = 1 := by
  have hm' := after_memOk (setVerified none) hm
  dsimp only
  rw [beginWrite, after_two]
  refine ⟨by rw [startJob_hth, setVerified_hth], ?_, ?_, ?_, ?_, startJob_busy hm' _⟩
  · exact ((startJob_keeps wordless_flash hth_flash _).after hm').trans ((setVerified_keeps wordless_flash hth_flash _).after hm)
  · exact ((startJob_keeps aloof_otp.toWordless hth_otp _).after hm').trans ((setVerified_keeps aloof_otp.toWordless hth_otp _).after hm)
  · exact ((startJob_keeps aloof_sys.toWordless hth_sys _).after hm').trans ((setVerified_keeps aloof_sys.toWordless hth_sys _).after hm)
  · exact ((startJob_code _).after hm').trans ((setVerified_field (.inl (by decide)) _).after hm)

/-- With every page programmed: the pages written, and nothing in any other slot (R534). -/
theorem write_completes {s : State} (hm : s.memOk = true) (hretry : s.sys.busyCmd ≠ 1) (slot : Nat) (hpos : 0 < writeLength s)
    (hmax : writeLength s ≤ 16384) (hend : 256 * firstPage s + writeLength s ≤ 16777216) :
    let t := (s.after (beginWrite s slot { fail := none, upTo := none })).after finishJob
    updCode t = updCode s ∧ rdF t (HTH + 0x73) 3 0 = 2 ∧ t.otp = s.otp ∧ t.hth.verified = none ∧ t.hth.job = none ∧
    t.hth.written = s.hth.written ++ (List.range (pageCount s)).map (fun i => firstPage s + i) ∧
    (∀ e ∈ t.flash.pages, e ∈ s.flash.pages ∨ e.1 / 65536 = slot) ∧ (∀ e ∈ s.flash.pages, e.1 / 65536 ≠ slot → e ∈ t.flash.pages) := by
  obtain ⟨hhth, hflash, hotp, hsys, hcode, -⟩ := beginWrite_leaves hm slot { fail := none, upTo := none }
  have hlen := updBytes_length s (writeLength s)
  obtain ⟨hwrote, hnone, hstatus⟩ := write_finishes (slot := slot) (p0 := firstPage s) (data := updBytes s (writeLength s))
    (by omega) 128 (after_memOk (beginWrite s slot { fail := none, upTo := none }) hm) (by rwa [hsys]) (i := 0) (by rw [hhth])
    (by omega) (by omega)
  rw [hlen, Nat.sub_zero, ← List.range_eq_range'] at hwrote
  dsimp only
  rw [finishJob_eq]
  refine ⟨hwrote.code.trans hcode, hstatus, hwrote.otp.trans hotp, ?_, hnone, ?_, ?_, ?_⟩
  · rw [hwrote.verified, hhth]
  · rw [hwrote.written, hhth]
    rfl
  · rw [← hflash]
    exact hwrote.fresh
  · rw [← hflash]
    exact hwrote.others

/-- A WRITE of one page programs its bytes; what is beyond them stays erased (R534). -/
theorem write_one_page {s : State} (hm : s.memOk = true) (hretry : s.sys.busyCmd ≠ 1) (slot : Nat) (hend : firstPage s < 65536)
    (hone : pageCount s = 1) : sparseGet (fun _ => [])
      ((s.after (beginWrite s slot { fail := none, upTo := none })).after finishJob).flash.pages (65536 * slot + firstPage s) =
      updBytes s (writeLength s) ++ List.replicate (256 - writeLength s) 0xFF := by
  obtain ⟨hhth, -, -, hsys, -, -⟩ := beginWrite_leaves hm slot { fail := none, upTo := none }
  have hlen := updBytes_length s (writeLength s)
  have hle : writeLength s ≤ 256 := by unfold pageCount at hone; omega
  obtain ⟨-, hnone, -, hpages⟩ := write_last_page (s := s.after (beginWrite s slot { fail := none, upTo := none })) (i := 0)
    (data := updBytes s (writeLength s)) (slot := slot) (p0 := firstPage s) (fail := none)
    (by rw [hhth]) (after_memOk _ hm) (by rwa [hsys]) (by omega) (by simp) (by omega)
  have hbytes : pageBytes (updBytes s (writeLength s)) 0 = updBytes s (writeLength s) := by
    rw [pageBytes, Nat.mul_zero, List.drop_zero, List.take_of_length_le (by omega)]
  rw [finishJob_eq, after_jobSteps_succ, after_jobSteps_idle hnone, hpages, programPage_pages, Nat.add_zero,
    sparseGet_put_same, hbytes, hlen]

/-- A WRITE whose first page fails programs nothing (R534). -/
theorem write_first_fails {s : State} (hm : s.memOk = true) (hretry : s.sys.busyCmd ≠ 1) (slot : Nat) :
    let t := (s.after (beginWrite s slot { fail := some 0, upTo := none })).after finishJob
    t.flash = s.flash ∧ t.otp = s.otp ∧ updCode t = updCode s ∧ rdF t (HTH + 0x73) 3 0 = 9 ∧ t.hth.job = none := by
  obtain ⟨hhth, hflash, hotp, hsys, hcode, -⟩ := beginWrite_leaves hm slot { fail := some 0, upTo := none }
  have hm' := after_memOk (beginWrite s slot { fail := some 0, upTo := none }) hm
  have hretry' : (s.after (beginWrite s slot { fail := some 0, upTo := none })).sys.busyCmd ≠ 1 := by rwa [hsys]
  have hstep := jobStep_write_fails (s := s.after (beginWrite s slot { fail := some 0, upTo := none })) (by rw [hhth]) rfl
  have hnone : ((s.after (beginWrite s slot { fail := some 0, upTo := none })).after jobStep).hth.job = none := by
    rw [hstep, endJob_hth hm' hretry']
  dsimp only
  rw [finishJob_eq, after_jobSteps_succ, after_jobSteps_idle hnone, hstep]
  exact ⟨(endJob_keeps hm' hretry' 9 0 aloof_flash hth_flash).trans hflash,
    (endJob_keeps hm' hretry' 9 0 aloof_otp hth_otp).trans hotp,
    (endJob_code hm' hretry' 9 0).trans hcode, endJob_status hm' hretry' 9 0 (by decide), by rw [endJob_hth hm' hretry']⟩

theorem writeRun_all (s : State) (fail : Option Nat) : writeRun s { fail := fail, upTo := none } = finishJob := rfl

theorem noSteps (n : Nat) (a : Act) : each (List.range (min 0 n)) (fun _ => a) = seq [] := by
  rw [Nat.zero_min]
  rfl

/-- A WRITE that a further command may interrupt before its first page has only begun. -/
theorem after_writeRun_zero (s t : State) (fail : Option Nat) : t.after (writeRun s { fail := fail, upTo := some 0 }) = t := by
  have hnone : writeRun s { fail := fail, upTo := some 0 } = seq [] := noSteps _ _
  rw [hnone, after_seq_nil]

end Sys2Proof.Machine

/-! SUPPORT. BEGIN and VERIFY (R534, R535): the slot opened, and the checks of its image with the stream into the staging region. -/
namespace Sys2Proof.Machine
open Sys2Proof

/-! ### BEGIN (R534) -/

/-- What BEGIN does once it is heard. -/
def beginBody (slot : Nat) : Act := fun s =>
  if committedSlot s = some (slot % 2) then updDone 6 0 s
  else seq [onHth fun _ h => { h with beginSlot := some (slot % 2), written := [], erased := [] }, setVerified none, updDone 2 0] s

theorem beginBody_committed {s : State} {slot : Nat} (h : committedSlot s = some (slot % 2)) :
    s.after (beginBody slot) = s.after (updDone 6 0) := after_congr (if_pos h)

theorem beginBody_opens {s : State} (hm : s.memOk = true) {slot : Nat} (h : committedSlot s ≠ some (slot % 2)) :
    let t := s.after (beginBody slot)
    storePart t = storePart s ∧ UpdateShows t (updCode s) 2 ∧ rdF t (HTH + 0x73) 19 18 = 0 ∧
    t.hth = { s.hth with beginSlot := some (slot % 2), written := [], erased := [], verified := none } := by
  let o : State := s.after (onHth fun _ h => { h with beginSlot := some (slot % 2), written := [], erased := [] })
  have hmo : o.memOk = true := hm
  have hmv : (o.after (setVerified none)).memOk = true := after_memOk _ hmo
  have hact : s.after (beginBody slot) = (o.after (setVerified none)).after (updDone 2 0) :=
    (after_congr (if_neg h)).trans (after_three _ _ _ s)
  have hcode : updCode (o.after (setVerified none)) = updCode s := (setVerified_field (.inl (by decide)) none).after hmo
  have hzero : rdF (o.after (setVerified none)) (HTH + 0x73) 19 18 = 0 := by
    rw [setVerified, after_two]
    exact rdF_pokeF (by exact hm) _ 0 (by decide) (by decide)
  dsimp only
  rw [hact]
  refine ⟨?_, updDone_shows 0 hmv (by decide) hcode, ((updDone_field 2 0 (by decide) (by decide)).after hmv).trans hzero, ?_⟩
  · exact ((aloof_storePart.updDone 2 0).after hmv).trans
      ((setVerified_keeps aloof_storePart.toWordless (fun _ _ => rfl) none).after hmo)
  · rw [(aloof_hth.updDone 2 0).after hmv, setVerified_hth]
    rfl

/-! ### Words of the in-package DRAM (R440, R446) -/

namespace Aloof
variable {β : Sort _} {f : State → β} (h : Aloof f)
include h

theorem dramStoreSlot {a w lap} : Keeps f (dramStoreSlot a w lap) := fun s => by
  unfold Machine.dramStoreSlot
  split
  · exact keeps_nop s
  · exact keeps_actsAt s ⟨keeps_acts ⟨keeps_when h.clrBits, h.onDrc⟩, h.poke, keeps_when h.onDrc⟩

theorem issueRowWrites {a} : Keeps f (issueRowWrites a) := fun s => by
  unfold Machine.issueRowWrites
  split
  · exact keeps_nop s
  · exact keeps_actsAt s ⟨keeps_when (keeps_acts ⟨h.setBits, h.bump⟩), h.onDrc, keeps_each _ fun _ => keeps_acts ⟨h.dramStoreSlot, h.emit⟩,
      keeps_look fun _ => keeps_when h.clrBits⟩

theorem dramPut {a w lap} : Keeps f (dramPut a w lap) := keeps_acts ⟨h.issueRowWrites, h.dramStoreSlot⟩

end Aloof

/-- A word that no store to the row of `a` touches: it lies in another row, and is not one of the controller's own. -/
structure Beside (b a : Nat) : Prop where
  row : dramRow b ≠ dramRow a
  status : b ≠ DRC
  count : b ≠ DRC + 4

theorem dramStoreSlot_rd {a b lap : Nat} {w : Word} (hb : b ≠ a) (hdrc : b ≠ DRC) :
    Keeps (fun s => rd s b) (dramStoreSlot a w lap) := fun s => by
  unfold dramStoreSlot
  split
  · exact keeps_nop (f := fun s => rd s b) s
  · exact keeps_actsAt (f := fun s => rd s b) s ⟨keeps_acts ⟨keeps_when (keeps_clrBits _ b _ hdrc), fun _ _ => rfl⟩,
      keeps_poke _ b _ hb, keeps_when fun _ _ => rfl⟩

theorem issueRowWrites_rd {a b : Nat} (h : Beside b a) : Keeps (fun s => rd s b) (issueRowWrites a) := fun s => by
  unfold issueRowWrites
  split
  · exact keeps_nop (f := fun s => rd s b) s
  · refine keeps_actsAt (f := fun s => rd s b) s ⟨keeps_when (keeps_acts ⟨keeps_setBits _ b _ h.status, keeps_bump _ b _ _ _ h.count⟩),
      fun _ _ => rfl, keeps_seq fun x hx => ?_, keeps_look fun _ => keeps_when (keeps_clrBits _ b _ h.status)⟩
    obtain ⟨q, hq, rfl⟩ := List.mem_map.1 hx
    have hsame : sameRow q.a a = true := (Bool.and_eq_true_iff.1 (List.mem_filter.1 hq).2).2
    have hrow : dramRow q.a = dramRow a := beq_iff_eq.1 (Bool.and_eq_true_iff.1 hsame).2
    exact keeps_acts ⟨dramStoreSlot_rd (fun hba => h.row (hba ▸ hrow)) h.status, fun _ _ => rfl⟩

theorem dramPut_rd_beside {a b lap : Nat} {w : Word} (h : Beside b a) : Keeps (fun s => rd s b) (dramPut a w lap) :=
  keeps_acts ⟨issueRowWrites_rd h, dramStoreSlot_rd (fun hba => h.row (hba ▸ rfl)) h.status⟩

/-- Hearth's words lie beside the first 4 million words of the staging region. -/
theorem beside_staging {b i : Nat} (hlo : HPT ≤ b) (hhi : b < HTH + 0x10000) (hi : i ≤ 0x400000) : Beside b (0x40000000 + i) := by
  have hHPT : HPT = 0x30110000 := rfl
  have hHTH : HTH = 0x30120000 := rfl
  have hDRC : DRC = 0x300C0000 := rfl
  refine ⟨?_, by omega, by omega⟩
  simp only [dramRow, bits, Nat.shiftRight_eq_div_pow]
  omega

/-! ### The stream of a slot (R97, R98) -/

theorem beNat_lt (b : List Nat) : beNat b < 256 ^ b.length := by
  induction b using List.reverseRecOn with
  | nil => decide
  | append_singleton l x ih =>
    have hstep : beNat (l ++ [x]) = beNat l * 256 + x % 256 := by simp only [beNat, List.foldl_append, List.foldl_cons, List.foldl_nil]
    rw [hstep, List.length_append, List.length_singleton, Nat.pow_succ]
    omega

/-- Bytes that begin a header have its IMAGE_LENGTH, or are too few to have four bytes of it. -/
theorem imageLength_of_prefix {p q : List Nat} (h : p <+: q) : imageLength p = imageLength q ∨ imageLength p < 0x1000000 := by
  by_cases hlen : 12 ≤ p.length
  · obtain ⟨r, rfl⟩ := h
    have hdrop : 4 ≤ (p.drop 8).length := by rw [List.length_drop]; omega
    have hbytes : ((p ++ r).drop 8).take 4 = (p.drop 8).take 4 := by
      rw [List.drop_append_of_le_length (by omega), List.take_append_of_le_length hdrop]
    exact .inl (congrArg beNat hbytes.symm)
  · have hfew : ((p.drop 8).take 4).length ≤ 3 := by rw [List.length_take, List.length_drop]; omega
    exact .inr (Nat.lt_of_lt_of_le (beNat_lt _) (Nat.pow_le_pow_right (by decide) hfew))

theorem slotBytes_prefix (f : Flash) (slot : Nat) {m n : Nat} (h : m ≤ n) : slotBytes f slot m <+: slotBytes f slot n := by
  have hpages : (n + 255) / 256 = (m + 255) / 256 + ((n + 255) / 256 - (m + 255) / 256) := by omega
  rw [slotBytes, slotBytes, hpages, List.range_add, List.flatMap_append]
  exact (List.take_prefix_take_left h).trans ((List.prefix_append _ _).take n)

/-- An image whose header passes has at most 16 MiB (R86). -/
theorem imageLength_le {s : State} {f : Flash} {slot : Nat} {x : List SecEntry × Nat}
    (h : headCheck s (slotBytes f slot 4608) = .inr x) : imageLength (slotBytes f slot 512) ≤ 0x1000000 := by
  have hhead : headerCheck (slotBytes f slot 4608) = none := by
    rw [headCheck] at h
    split at h
    next => cases h
    next hnone => exact hnone
  have hlen : imageLength (slotBytes f slot 4608) ≤ 0x1000000 := by
    by_contra hlong
    unfold headerCheck at hhead
    split at hhead
    · cases hhead
    · split at hhead
      · cases hhead
      · rw [if_pos (by omega)] at hhead
        cases hhead
  rcases imageLength_of_prefix (slotBytes_prefix f slot (show 512 ≤ 4608 by decide)) with heq | hlt
  · rwa [heq]
  · exact Nat.le_of_lt hlt

theorem stagingWords_length {f : Flash} {slot n : Nat} (h : n ≤ 0x1000000) : (stagingWords (slotBytes f slot n)).length ≤ 0x400000 := by
  have hbytes : (slotBytes f slot n).length ≤ n := by rw [slotBytes]; exact List.length_take_le _ _
  rw [stagingWords, packBytes, List.length_map, List.length_range]
  omega

/-- The steps on a slot log its retries and, where they get so far, stage its first bytes. -/
theorem slotSteps_cases (tos : List (Nat × Nat)) (slot : Nat) (s : State) : ∃ r, (slotSteps tos slot s).1 = logRetries tos r ∨
    ∃ n ≤ 0x1000000, (slotSteps tos slot s).1 = seq [logRetries tos r, stageWords (stagingWords (slotBytes s.flash slot n))] := by
  unfold slotSteps
  split
  · exact ⟨_, .inl rfl⟩
  · split
    · exact ⟨_, .inl rfl⟩
    · split
      next => exact ⟨_, .inl rfl⟩
      next hhead =>
        have hlen := imageLength_le hhead
        dsimp only
        split
        next b hlate =>
          have hb := List.mem_range.1 (List.mem_of_find?_eq_some hlate)
          exact ⟨_, .inr ⟨4096 * b, by omega, rfl⟩⟩
        next => exact ⟨_, .inr ⟨_, hlen, rfl⟩⟩

section
variable (tos : List (Nat × Nat)) (slot : Nat)

theorem Aloof.slotSteps {β : Sort _} {f : State → β} (h : Aloof f) (s : State) : Keeps f (slotSteps tos slot s).1 := by
  obtain ⟨r, heq | ⟨n, -, heq⟩⟩ := slotSteps_cases tos slot s
  · rw [heq]
    exact keeps_each _ fun _ => h.report
  · rw [heq]
    exact keeps_acts ⟨keeps_each _ fun _ => h.report, keeps_each _ fun _ => h.dramPut⟩

/-- The stream leaves Hearth's words as they are. -/
theorem slotSteps_rd {b : Nat} (hlo : HPT ≤ b) (hhi : b < HTH + 0x10000) (s : State) :
    Keeps (fun u => rd u b) (slotSteps tos slot s).1 := by
  have hlog (r : Nat) : Keeps (fun u => rd u b) (logRetries tos r) := keeps_each _ fun _ => report_rd.map (· b)
  obtain ⟨r, heq | ⟨n, hn, heq⟩⟩ := slotSteps_cases tos slot s
  · rw [heq]
    exact hlog r
  · rw [heq]
    refine keeps_acts ⟨hlog r, keeps_seq fun x hx => ?_⟩
    obtain ⟨e, he, rfl⟩ := List.mem_map.1 hx
    have hlen := stagingWords_length (f := s.flash) (slot := slot) hn
    have hplace := List.snd_lt_of_mem_zipIdx he
    exact dramPut_rd_beside (beside_staging hlo hhi (by omega))

end

/-- A slot with no page programmed is erased (R97). -/
theorem slotSteps_blank (tos : List (Nat × Nat)) {slot : Nat} {s : State} (h : ∀ e ∈ s.flash.pages, e.1 / 65536 ≠ slot) :
    ∃ st, (slotSteps tos slot s).2 = .inl st := by
  have hpage (p : Nat) (hp : p < 16) : slotPage s.flash slot p = List.replicate 256 0xFF := by
    have hnone : sparseFind s.flash.pages (65536 * slot + p) = none := by
      rw [sparseFind, List.find?_eq_none.2 fun e he heq => h e he ?_, Option.map_none]
      have hkey := beq_iff_eq.1 heq
      omega
    rw [slotPage, hnone, Option.getD_none]
  have hall : (slotBytes s.flash slot 4096).all (· == 0xFF) = true := by
    rw [List.all_eq_true]
    intro x hx
    obtain ⟨p, hp, hin⟩ := List.mem_flatMap.1 (List.mem_of_mem_take hx)
    rw [hpage p (List.mem_range.1 hp)] at hin
    exact beq_iff_eq.2 (List.eq_of_mem_replicate hin)
  unfold slotSteps
  split
  · exact ⟨_, rfl⟩
  · exact ⟨_, rfl⟩

end Sys2Proof.Machine

/-! SUPPORT. VERIFY (R535, R511): its verdict on a slot, and the staged image it discards. -/
namespace Sys2Proof.Machine
open Sys2Proof

/-! ### The verdict -/

/-- The checks have passed: what COMMIT will record of the image, and the slot. -/
def passSlot (slot : Nat) (b : List Nat) : Act := seq [
  onHth fun _ h => { h with verDigest := imageDigest b, verLen := imageLength b, verSec := securityVersion b }, setVerified (some slot)]

theorem passSlot_keeps {β : Sort _} {f : State → β} (h : Wordless f) (hhth : ∀ s v, f (applyEff s (.hth v)) = f s) (slot : Nat)
    (b : List Nat) : Keeps f (passSlot slot b) := keeps_acts ⟨fun _ _ => hhth _ _, setVerified_keeps h hhth _⟩

/-- The state after the stream of a slot. -/
def State.streamed (s : State) (tos : List (Nat × Nat)) (slot : Nat) : State := s.after (slotSteps tos slot s).1

/-- What the checks of a streamed image leave to be done. -/
def bodyVerdict (slot : Nat) (b : List Nat) : Option Stop → Act
  | some st => endJob 8 st.1
  | none => seq [onHth fun _ h => { h with verDigest := imageDigest b, verLen := imageLength b, verSec := securityVersion b },
      setVerified (some slot), endJob 2 0]

/-- What follows the stream. -/
def streamVerdict (slot : Nat) : Stop ⊕ Streamed → Act
  | .inl st => endJob 8 st.1
  | .inr x => fun u => bodyVerdict slot x.1 (bodyStop u x) u

theorem verifySlot_eq (tos : List (Nat × Nat)) (slot : Nat) (s : State) :
    verifySlot slot tos s = seq [(slotSteps tos slot s).1, streamVerdict slot (slotSteps tos slot s).2] s := by
  unfold verifySlot
  dsimp only
  cases (slotSteps tos slot s).2 with
  | inl st => rfl
  | inr x =>
    dsimp only [streamVerdict]
    refine congrArg (fun a => seq [(slotSteps tos slot s).1, a] s) (funext fun u => ?_)
    cases bodyStop u x <;> rfl

/-- VERIFY fails, or it passes on what the stream brought. -/
theorem verifySlot_cases (tos : List (Nat × Nat)) (slot : Nat) (s : State) :
    (∃ reason, s.after (verifySlot slot tos) = (s.streamed tos slot).after (endJob 8 reason)) ∨
    ∃ x, (slotSteps tos slot s).2 = .inr x ∧
      s.after (verifySlot slot tos) = ((s.streamed tos slot).after (passSlot slot x.1)).after (endJob 2 0) := by
  have hact : s.after (verifySlot slot tos) = (s.streamed tos slot).after (streamVerdict slot (slotSteps tos slot s).2) :=
    (after_congr (verifySlot_eq tos slot s)).trans (after_two _ _ s)
  rw [hact]
  cases (slotSteps tos slot s).2 with
  | inl st => exact .inl ⟨st.1, rfl⟩
  | inr x =>
    have hbody : (s.streamed tos slot).after (streamVerdict slot (.inr x)) =
        (s.streamed tos slot).after (bodyVerdict slot x.1 (bodyStop (s.streamed tos slot) x)) := after_congr rfl
    rw [hbody]
    cases bodyStop (s.streamed tos slot) x with
    | some st => exact .inl ⟨st.1, rfl⟩
    | none =>
      refine .inr ⟨x, rfl, ?_⟩
      rw [passSlot, after_two]
      exact after_three _ _ _ _

section
variable {tos : List (Nat × Nat)} {slot : Nat} {s : State} (hm : s.memOk = true) (hretry : s.sys.busyCmd ≠ 1)
include hm hretry

theorem streamed_retry : (s.streamed tos slot).sys.busyCmd ≠ 1 := by
  have hsys : (s.streamed tos slot).sys = s.sys := (aloof_sys.slotSteps tos slot s).after hm
  rwa [hsys]

theorem passed_retry (b : List Nat) : ((s.streamed tos slot).after (passSlot slot b)).sys.busyCmd ≠ 1 := by
  have hms : (s.streamed tos slot).memOk = true := after_memOk _ hm
  have hsys : ((s.streamed tos slot).after (passSlot slot b)).sys = (s.streamed tos slot).sys :=
    (passSlot_keeps aloof_sys.toWordless hth_sys slot b).after hms
  rw [hsys]
  exact streamed_retry hm hretry

/-- What neither the stream nor a verdict changes. -/
theorem verifySlot_keeps {β : Sort _} {f : State → β} (h : Aloof f) (hhth : ∀ s v, f (applyEff s (.hth v)) = f s) :
    f (s.after (verifySlot slot tos)) = f s := by
  have hms : (s.streamed tos slot).memOk = true := after_memOk _ hm
  have hstream : f (s.streamed tos slot) = f s := (h.slotSteps tos slot s).after hm
  rcases verifySlot_cases tos slot s with ⟨reason, heq⟩ | ⟨x, -, heq⟩
  · rw [heq, endJob_keeps hms (streamed_retry hm hretry) _ _ h hhth, hstream]
  · rw [heq, endJob_keeps (after_memOk _ hms) (passed_retry hm hretry _) _ _ h hhth,
      (passSlot_keeps h.toWordless hhth _ _).after hms, hstream]

theorem verifySlot_words {b : Nat} (hlo : HPT ≤ b) (hhi : b < HTH + 0x10000) (hne : b ≠ HTH + 0x73) :
    rd (s.after (verifySlot slot tos)) b = rd s b := by
  have hms : (s.streamed tos slot).memOk = true := after_memOk _ hm
  have hstream : rd (s.streamed tos slot) b = rd s b := (slotSteps_rd tos slot hlo hhi s).after hm
  rcases verifySlot_cases tos slot s with ⟨reason, heq⟩ | ⟨x, -, heq⟩
  · rw [heq, endJob_words hms (streamed_retry hm hretry) _ _ hlo hne, hstream]
  · have hpass : Keeps (fun u => rd u b) (passSlot slot x.1) := keeps_acts ⟨fun _ _ => rfl, setVerified_words hne _⟩
    rw [heq, endJob_words (after_memOk _ hms) (passed_retry hm hretry _) _ _ hlo hne, hpass.after hms, hstream]

/-- VERIFY shows FAILED, or DONE with its slot verified; a blank slot fails (R535). -/
theorem verifySlot_ends : let t := s.after (verifySlot slot tos)
    updCode t = updCode s ∧ t.hth.job = none ∧
    (rdF t (HTH + 0x73) 3 0 = 2 ∧ t.hth.verified = some slot ∨ rdF t (HTH + 0x73) 3 0 = 8 ∧ t.hth.verified = s.hth.verified) ∧
    ((∀ e ∈ s.flash.pages, e.1 / 65536 ≠ slot) → rdF t (HTH + 0x73) 3 0 = 8) := by
  have hms : (s.streamed tos slot).memOk = true := after_memOk _ hm
  have hrs : (s.streamed tos slot).sys.busyCmd ≠ 1 := streamed_retry hm hretry
  have hhth : (s.streamed tos slot).hth = s.hth := (aloof_hth.slotSteps tos slot s).after hm
  have hcode : updCode (s.streamed tos slot) = updCode s :=
    (updCode_of_words (slotSteps_rd tos slot (by decide) (by decide) s)).after hm
  dsimp only
  rcases verifySlot_cases tos slot s with ⟨reason, heq⟩ | ⟨x, hx, heq⟩
  · have hstatus := endJob_status hms hrs 8 reason (by decide)
    rw [heq, endJob_hth hms hrs, hhth]
    exact ⟨(endJob_code hms hrs 8 reason).trans hcode, rfl, .inr ⟨hstatus, rfl⟩, fun _ => hstatus⟩
  · have hmp := after_memOk (passSlot slot x.1) hms
    have hrp := passed_retry hm hretry (tos := tos) (slot := slot) x.1
    have hpass : Keeps updCode (passSlot slot x.1) := keeps_acts ⟨fun _ _ => rfl, setVerified_field (.inl (by decide)) _⟩
    have hverified : ((s.streamed tos slot).after (passSlot slot x.1)).hth.verified = some slot := by
      rw [passSlot, after_two, setVerified_hth]
    rw [heq, endJob_hth hmp hrp]
    refine ⟨(endJob_code hmp hrp 2 0).trans ((hpass.after hms).trans hcode), rfl,
      .inl ⟨endJob_status hmp hrp 2 0 (by decide), hverified⟩, fun hblank => ?_⟩
    obtain ⟨st, hst⟩ := slotSteps_blank tos hblank
    rw [hst] at hx
    cases hx
end

/-! ### The command -/

/-- A staged host image is discarded (R511). -/
def dropStagedImage : Act := seq [
  poke (HPT + 3) 0, onImg fun _ g => { g with stagedDiscard := true },
  when (fun s => rdF s (SYS + 5) 7 0 == 1) (onSys fun _ y => { y with imageKept := false })]

/-- VERIFY does so in HOLD. -/
def dropInHold : Act := when (fun s => s.sys.state == .hold) dropStagedImage

/-- What VERIFY does once it is heard. -/
def askVerify (r : VerifyRun) : Act := fun s =>
  match s.hth.beginSlot with
  | none => updDone 6 0 s
  | some slot => seq [setVerified none, dropInHold, startJob (.verify slot r.timeouts), when (fun _ => !r.waits) finishJob] s

/-- A VERIFY that is carried out begins. -/
def beginVerify (slot : Nat) (tos : List (Nat × Nat)) : Act := seq [setVerified none, dropInHold, startJob (.verify slot tos)]

theorem askVerify_unbegun {s : State} {r : VerifyRun} (h : s.hth.beginSlot = none) : s.after (askVerify r) = s.after (updDone 6 0) :=
  after_congr (by rw [askVerify, h])

theorem after_askVerify {s : State} {slot : Nat} (h : s.hth.beginSlot = some slot) (r : VerifyRun) :
    s.after (askVerify r) = (s.after (beginVerify slot r.timeouts)).after (when (fun _ => !r.waits) finishJob) := by
  have hact : askVerify r s =
      seq ([setVerified none, dropInHold, startJob (.verify slot r.timeouts)] ++ [when (fun _ => !r.waits) finishJob]) s := by
    rw [askVerify, h]
    rfl
  exact (after_congr hact).trans (after_seq_snoc _ _ s)

theorem dropInHold_keeps {β : Sort _} {f : State → β} (hmem : Keeps f (poke (HPT + 3) 0)) (himg : ∀ s v, f (applyEff s (.img v)) = f s)
    (hsys : ∀ s v, v.busyCmd = s.sys.busyCmd → f (applyEff s (.sys v)) = f s) : Keeps f dropInHold :=
  keeps_when (keeps_acts ⟨hmem, fun _ _ => himg _ _, keeps_when fun _ _ => hsys _ _ rfl⟩)

theorem dropInHold_discards {s : State} (hm : s.memOk = true) (h : s.sys.state = .hold) :
    rd (s.after dropInHold) (HPT + 3) = 0 ∧ (s.after dropInHold).img.stagedDiscard = true := by
  have hact : s.after dropInHold = s.after dropStagedImage := after_congr (when_pos _ _ s (beq_iff_eq.2 h))
  rw [hact]
  constructor
  · have hrest : Keeps (fun u => rd u (HPT + 3)) (seq [onImg fun _ g => { g with stagedDiscard := true },
        when (fun s => rdF s (SYS + 5) 7 0 == 1) (onSys fun _ y => { y with imageKept := false })]) :=
      keeps_acts ⟨fun _ _ => rfl, keeps_when fun _ _ => rfl⟩
    rw [dropStagedImage, after_seq_cons, hrest.after (after_memOk _ hm)]
    exact poke_rd hm (HPT + 3) 0
  · rw [dropStagedImage, after_three]
    exact (keeps_when (f := (·.img.stagedDiscard)) fun _ _ => rfl).after (after_memOk _ (after_memOk _ hm))

/-- What the beginning of a VERIFY leaves. -/
theorem beginVerify_leaves {s : State} (hm : s.memOk = true) (slot : Nat) (tos : List (Nat × Nat)) :
    let t := s.after (beginVerify slot tos)
    t.hth = { s.hth with verified := none, job := some (.verify slot tos) } ∧ storePart t = storePart s ∧
    t.sys.busyCmd = s.sys.busyCmd ∧ updCode t = updCode s ∧ rdF t (HTH + 0x73) 3 0 = 1 ∧
    (s.sys.state = .hold → rd t (HPT + 3) = 0 ∧ t.img.stagedDiscard = true) := by
  let v : State := s.after (setVerified none)
  let d : State := v.after dropInHold
  have hmv : v.memOk = true := after_memOk _ hm
  have hmd : d.memOk = true := after_memOk _ hmv
  have hact : s.after (beginVerify slot tos) = d.after (startJob (.verify slot tos)) := after_three _ _ _ s
  have hhth : d.hth = { s.hth with verified := none } :=
    ((dropInHold_keeps (f := (·.hth)) wordless_hth.poke (fun _ _ => rfl) fun _ _ _ => rfl).after hmv).trans (setVerified_hth none s)
  have hbusy : Wordless fun s => s.sys.busyCmd := ⟨fun s a w => congrArg (·.busyCmd) (mem_sys s a w)⟩
  have hstage : Wordless fun s => s.img.stagedDiscard := ⟨fun s a w => congrArg (·.stagedDiscard) (mem_img s a w)⟩
  have hsys : v.sys = s.sys := (setVerified_keeps aloof_sys.toWordless hth_sys none).after hm
  dsimp only
  rw [hact]
  refine ⟨by rw [startJob_hth, hhth], ?_, ?_, ?_, startJob_busy hmd _, fun hhold => ?_⟩
  · rw [(startJob_keeps aloof_storePart.toWordless (fun _ _ => rfl) _).after hmd]
    exact ((dropInHold_keeps aloof_storePart.poke (fun _ _ => rfl) fun _ _ _ => rfl).after hmv).trans
      ((setVerified_keeps aloof_storePart.toWordless (fun _ _ => rfl) none).after hm)
  · rw [(startJob_keeps hbusy (fun _ _ => rfl) _).after hmd]
    exact ((dropInHold_keeps hbusy.poke (fun _ _ => rfl) fun _ _ h => h).after hmv).trans
      ((setVerified_keeps hbusy (fun _ _ => rfl) none).after hm)
  · have hdiscard : Keeps updCode dropInHold :=
      updCode_of_words (dropInHold_keeps (keeps_poke _ _ _ (by decide)) (fun _ _ => rfl) fun _ _ _ => rfl)
    rw [(startJob_code _).after hmd]
    exact (hdiscard.after hmv).trans ((setVerified_field (.inl (by decide)) none).after hm)
  · obtain ⟨hword, hdiscard⟩ := dropInHold_discards hmv (by rwa [hsys])
    exact ⟨((startJob_words (by decide) _).after hmd).trans hword, ((startJob_keeps hstage (fun _ _ => rfl) _).after hmd).trans hdiscard⟩

theorem aloof_img : Aloof (·.img) := ⟨⟨mem_img⟩, out_img, log_img, drc_img⟩

/-- A VERIFY to its verdict: nothing is written but what is staged (R535). -/
theorem verify_completes {s : State} (hm : s.memOk = true) (hretry : s.sys.busyCmd ≠ 1) (slot : Nat) (tos : List (Nat × Nat)) :
    let t := (s.after (beginVerify slot tos)).after finishJob
    storePart t = storePart s ∧ t.hth.job = none ∧
    (UpdateShows t (updCode s) 2 ∧ t.hth.verified = some slot ∨ UpdateShows t (updCode s) 8 ∧ t.hth.verified = none) ∧
    ((∀ e ∈ s.flash.pages, e.1 / 65536 ≠ slot) → UpdateShows t (updCode s) 8) ∧
    (s.sys.state = .hold → rd t (HPT + 3) = 0 ∧ t.img.stagedDiscard = true) := by
  obtain ⟨hhth, hstore, hbusy, hcode, -, hhold⟩ := beginVerify_leaves hm slot tos
  let b : State := s.after (beginVerify slot tos)
  have hmb : b.memOk = true := after_memOk _ hm
  have hrb : b.sys.busyCmd ≠ 1 := by rwa [hbusy]
  have hstep : b.after jobStep = b.after (verifySlot slot tos) := after_congr (by rw [jobStep, hhth])
  obtain ⟨hshown, hnone, hverdict, hblank⟩ := verifySlot_ends (tos := tos) (slot := slot) hmb hrb
  have hrun : b.after finishJob = b.after (verifySlot slot tos) := by
    rw [finishJob_eq, after_jobSteps_succ, hstep, after_jobSteps_idle hnone]
  have hnow : updCode (b.after (verifySlot slot tos)) = updCode s := hshown.trans hcode
  have hpages : b.flash.pages = s.flash.pages := congrArg (·.1.pages) hstore
  dsimp only
  rw [hrun]
  refine ⟨(verifySlot_keeps hmb hrb aloof_storePart fun _ _ => rfl).trans hstore, hnone, ?_, fun h => ⟨hnow, hblank (by rwa [hpages])⟩,
    fun h => ?_⟩
  · rcases hverdict with ⟨hst, hver⟩ | ⟨hst, hver⟩
    · exact .inl ⟨⟨hnow, hst⟩, hver⟩
    · exact .inr ⟨⟨hnow, hst⟩, hver.trans (congrArg (·.verified) hhth)⟩
  · obtain ⟨hword, hdiscard⟩ := hhold h
    have himg : (b.after (verifySlot slot tos)).img = b.img := verifySlot_keeps hmb hrb aloof_img hth_img
    exact ⟨(verifySlot_words hmb hrb (by decide) (by decide) (by decide)).trans hword, by rw [himg]; exact hdiscard⟩

end Sys2Proof.Machine

/-! SUPPORT. COMMIT, ABORT and FUSE_ADVANCE (R536, R537, R539, R545), and the lifetime record that follows them (R524). -/
namespace Sys2Proof.Machine
open Sys2Proof

theorem lifetimeSnapshot_keeps {β : Sort _} {f : State → β} (hflash : ∀ s v, f (applyEff s (.flash v)) = f s)
    (hlife : ∀ s v, f (applyEff s (.life v)) = f s) (hcocoon : ∀ s v, f (applyEff s (.cocoon v)) = f s) : Keeps f lifetimeSnapshot :=
  keeps_acts ⟨fun _ _ => hlife _ _, fun s => keeps_actsAt s ⟨fun _ _ => hflash _ _, fun _ _ => hlife _ _, fun _ _ => hcocoon _ _⟩⟩

theorem lifetimeSnapshot_code : Keeps updCode lifetimeSnapshot :=
  updCode_aside (lifetimeSnapshot_keeps flash_rd life_rd cocoon_rd)

theorem aloof_life : Aloof (·.life) := ⟨⟨mem_life⟩, out_life, log_life, drc_life⟩

/-! ### COMMIT (R83, R536) -/

/-- The number of the next commit record, the sector it goes to, and the records that stay with it. -/
def nextCommit (f : Flash) : Nat := match latestCommit f with
  | none => 1
  | some c => commitSeq c + 1
def commitSector (f : Flash) : Nat := (nextCommit f - 1) / 32 % 2
def keptCommits (f : Flash) : List (Nat × List Nat) :=
  if (nextCommit f - 1) % 32 = 0 then f.commits.filter (fun e => e.1 / 32 != commitSector f) else f.commits

/-- What COMMIT does once it is heard. -/
def commitBody : Act := fun s =>
  match s.hth.verified with
  | none => updDone 7 0 s
  | some slot => seq [appendCommit slot, life 21 1, lifetimeSnapshot, updDone 2 0] s

theorem commitBody_unverified {s : State} (h : s.hth.verified = none) : s.after commitBody = s.after (updDone 7 0) :=
  after_congr (by rw [commitBody, h])

theorem appendCommit_flash (slot : Nat) (s : State) : (s.after (appendCommit slot)).flash = { s.flash with
    commits := sparsePut (keptCommits s.flash) (32 * commitSector s.flash + (nextCommit s.flash - 1) % 32)
      (commitBytes (nextCommit s.flash) slot s.hth.verLen s.hth.verSec s.hth.verDigest s.cocoon.calSec) } := rfl

/-- A verified slot is committed, and the lifetime record saved (R536). -/
theorem commitBody_commits {s : State} (hm : s.memOk = true) {slot : Nat} (h : s.hth.verified = some slot) :
    let t := s.after commitBody
    UpdateShows t (updCode s) 2 ∧ t.life.snapSeq = s.life.snapSeq + 1 ∧ t.otp = s.otp ∧ t.flash.pages = s.flash.pages ∧
    t.flash.commits = sparsePut (keptCommits s.flash) (32 * commitSector s.flash + (nextCommit s.flash - 1) % 32)
      (commitBytes (nextCommit s.flash) slot s.hth.verLen s.hth.verSec s.hth.verDigest s.cocoon.calSec) := by
  let c : State := (s.after (appendCommit slot)).after (life 21 1)
  have hmc : c.memOk = true := after_memOk (life 21 1) (after_memOk (appendCommit slot) hm)
  have hms : (c.after lifetimeSnapshot).memOk = true := after_memOk _ hmc
  have hbody : commitBody s = seq [appendCommit slot, life 21 1, lifetimeSnapshot, updDone 2 0] s := by rw [commitBody, h]
  have hact : s.after commitBody = (c.after lifetimeSnapshot).after (updDone 2 0) := (after_congr hbody).trans (after_four _ _ _ _ s)
  have hflash : c.flash = (s.after (appendCommit slot)).flash := rfl
  have hsaved := lifetimeSnapshot_acts c
  have hcode : updCode (c.after lifetimeSnapshot) = updCode s := lifetimeSnapshot_code.after hmc
  have hkept : (c.after lifetimeSnapshot).otp = s.otp := (lifetimeSnapshot_keeps flash_otp life_otp cocoon_otp).after hmc
  dsimp only
  rw [hact, (aloof_otp.updDone 2 0).after hms, (aloof_flash.updDone 2 0).after hms, (aloof_life.updDone 2 0).after hms]
  refine ⟨updDone_shows 0 hms (by decide) hcode, ?_, hkept, ?_, ?_⟩ <;> rw [hsaved]
  · rfl
  · exact congrArg (·.pages) (appendCommit_flash slot s)
  · exact congrArg (·.commits) (appendCommit_flash slot s)

/-! ### ABORT (R537) -/

/-- What ABORT does once it is heard. -/
def abortBody : Act := seq [jobCurrent, setVerified none, endJob 2 0]

/-- After its current page or fuse the command in progress ends, and the verification is cleared. -/
theorem abortBody_ends {s : State} (hm : s.memOk = true) (hretry : (s.after jobCurrent).sys.busyCmd ≠ 1) :
    let t := s.after abortBody
    let c := s.after jobCurrent
    t.hth = { c.hth with verified := none, job := none } ∧ storePart t = storePart c ∧ UpdateShows t (updCode c) 2 := by
  let v : State := (s.after jobCurrent).after (setVerified none)
  have hmc : (s.after jobCurrent).memOk = true := after_memOk _ hm
  have hmv : v.memOk = true := after_memOk _ hmc
  have hsys : v.sys = (s.after jobCurrent).sys := (setVerified_keeps aloof_sys.toWordless hth_sys none).after hmc
  have hrv : v.sys.busyCmd ≠ 1 := by rwa [hsys]
  have hact : s.after abortBody = v.after (endJob 2 0) := after_three _ _ _ s
  dsimp only
  rw [hact]
  refine ⟨?_, ?_, ?_, endJob_status hmv hrv 2 0 (by decide)⟩
  · rw [endJob_hth hmv hrv, setVerified_hth]
  · exact (endJob_keeps hmv hrv 2 0 aloof_storePart fun _ _ => rfl).trans
      ((setVerified_keeps aloof_storePart.toWordless (fun _ _ => rfl) none).after hmc)
  · exact (endJob_code hmv hrv 2 0).trans ((setVerified_field (.inl (by decide)) none).after hmc)

theorem jobCurrent_idle {s : State} (h : s.hth.job = none) : s.after jobCurrent = s :=
  after_congr (s := s) (b := nop) (by rw [jobCurrent, h]; rfl)

/-- A WRITE still programs its current page. -/
theorem jobCurrent_write {s : State} {slot p0 i : Nat} {data : List Nat} (h : s.hth.job = some (.write slot p0 data none i)) :
    s.after jobCurrent = s.after (programPage slot (p0 + i) (pageBytes data i)) := after_congr (by
  rw [jobCurrent, h]
  rfl)

/-! ### Fuses (R539, R545) -/

/-- The fuses once i of n anti-rollback fuses and of the floor fuses after them are blown. -/
def fusesAfter (o : Otp) (n i : Nat) : Otp := { o with
  rollback := if min i n = 0 then o.rollback else min 64 (o.rollback + min i n), floorBlown := o.floorBlown + (i - n) }

theorem fusesAfter_zero (o : Otp) (n : Nat) : fusesAfter o n 0 = o := by
  rw [fusesAfter, Nat.zero_min, Nat.zero_sub, if_pos rfl, Nat.add_zero]

theorem fusesAfter_succ (o : Otp) (n i : Nat) :
    blow (fusesAfter o n i) (if i < n then .rollback else .floor) = fusesAfter o n (i + 1) := by
  by_cases h : i < n
  · have hi : min i n = i := by omega
    have hs : min (i + 1) n = i + 1 := by omega
    have hroll : min 64 ((if i = 0 then o.rollback else min 64 (o.rollback + i)) + 1) = min 64 (o.rollback + (i + 1)) := by
      split <;> omega
    have hfloor : i - n = i + 1 - n := by omega
    simp only [if_pos h, blow, fusesAfter, hi, hs, hroll, hfloor, Nat.succ_ne_zero, if_false]
  · have hi : min i n = n := by omega
    have hs : min (i + 1) n = n := by omega
    have hfloor : o.floorBlown + (i - n) + 1 = o.floorBlown + (i + 1 - n) := by omega
    simp only [if_neg h, blow, fusesAfter, hi, hs, hfloor]

/-- With every fuse blown the count is the image's version. -/
theorem fusesAfter_all {o : Otp} {version : Nat} (h : o.rollback < version) (f : Nat) :
    fusesAfter o (version - o.rollback) (version - o.rollback + f) =
      { o with rollback := min 64 version, floorBlown := o.floorBlown + f } := by
  have hcount : min (version - o.rollback + f) (version - o.rollback) = version - o.rollback := Nat.min_eq_right (Nat.le_add_right _ _)
  have hsum : o.rollback + (version - o.rollback) = version := by omega
  rw [fusesAfter, hcount, hsum, if_neg (by omega), Nat.add_sub_cancel_left]

theorem fusesAfter_some {o : Otp} {version : Nat} (h : o.rollback < version) (good : Nat) :
    fusesAfter o (version - o.rollback) good = { o with
      rollback := if good = 0 then o.rollback else min 64 (o.rollback + min good (version - o.rollback)),
      floorBlown := o.floorBlown + (good - (version - o.rollback)) } := by
  have hnone : min good (version - o.rollback) = 0 ↔ good = 0 := by omega
  rw [fusesAfter, if_congr hnone rfl rfl]

/-- The next fuse is blown and counted. -/
def blowNext (n i : Nat) : Act := seq [fun _ => [.fuse (if i < n then .rollback else .floor)], life 22 1]

/-- The command ends, followed by its snapshot. -/
def endFuses (st : Nat) : Act := seq [lifetimeSnapshot, endJob st 0]

/-- Another fuse is left to be blown. -/
def nextFuse (n f good i : Nat) : Act := onHth fun _ h => { h with job := some (.fuses n f good (i + 1)) }

/-- What follows fuse i: the end, or the next fuse. -/
def afterFuse (n f good i : Nat) : Act := if n + f ≤ i + 1 then endFuses 2 else nextFuse n f good i

theorem nextFuse_leaves (n f good i : Nat) (s : State) : let t := s.after (nextFuse n f good i)
    t.sys = s.sys ∧ t.otp = s.otp ∧ updCode t = updCode s := ⟨rfl, rfl, rfl⟩

section
variable {s : State} {n f good i : Nat} (hjob : s.hth.job = some (.fuses n f good i))
include hjob

theorem jobStep_fuse_fails (h : good ≤ i) : s.after jobStep = s.after (endFuses 9) := after_congr (by
  rw [jobStep, hjob]
  exact congrFun (if_pos h) s)

theorem jobStep_fuse (h : ¬ good ≤ i) : s.after jobStep = (s.after (blowNext n i)).after (afterFuse n f good i) := by
  have hact : jobStep s = seq [fun _ => [.fuse (if i < n then .rollback else .floor)], life 22 1, afterFuse n f good i] s := by
    rw [jobStep, hjob]
    exact congrFun (if_neg h) s
  rw [blowNext, after_two]
  exact (after_congr hact).trans (after_three _ _ _ s)
end

theorem blowNext_keeps {β : Sort _} {f : State → β} (hfuse : ∀ s v, f (applyEff s (.fuse v)) = f s)
    (hlife : ∀ s v, f (applyEff s (.life v)) = f s) (n i : Nat) : Keeps f (blowNext n i) :=
  keeps_acts ⟨fun _ _ => hfuse _ _, fun _ _ => hlife _ _⟩

theorem blowNext_otp {s : State} {o : Otp} {n i : Nat} (h : s.otp = fusesAfter o n i) :
    (s.after (blowNext n i)).otp = fusesAfter o n (i + 1) := by
  rw [← fusesAfter_succ, ← h, blowNext, after_two]
  rfl

theorem endFuses_leaves {s : State} (hm : s.memOk = true) (hretry : s.sys.busyCmd ≠ 1) {st : Nat} (hst : st < 16) :
    let t := s.after (endFuses st)
    updCode t = updCode s ∧ rdF t (HTH + 0x73) 3 0 = st ∧ t.hth.job = none ∧ t.otp = s.otp := by
  have hms := after_memOk lifetimeSnapshot hm
  have hsys : (s.after lifetimeSnapshot).sys = s.sys := (lifetimeSnapshot_keeps flash_sys life_sys cocoon_sys).after hm
  have hrs : (s.after lifetimeSnapshot).sys.busyCmd ≠ 1 := by rwa [hsys]
  dsimp only
  rw [endFuses, after_two]
  exact ⟨(endJob_code hms hrs st 0).trans (lifetimeSnapshot_code.after hm), endJob_status hms hrs st 0 hst,
    by rw [endJob_hth hms hrs],
    (endJob_keeps hms hrs st 0 aloof_otp hth_otp).trans ((lifetimeSnapshot_keeps flash_otp life_otp cocoon_otp).after hm)⟩

/-- The fuses are blown in order up to the last, or to the first that does not read back (R539). -/
theorem fuses_finish {o : Otp} {n f good : Nat} (k : Nat) : ∀ {s : State} {i : Nat}, s.memOk = true → s.sys.busyCmd ≠ 1 →
    s.hth.job = some (.fuses n f good i) → s.otp = fusesAfter o n i → i ≤ good → i < n + f → n + f ≤ i + k →
    let t := s.after (jobSteps k)
    updCode t = updCode s ∧ rdF t (HTH + 0x73) 3 0 = (if good < n + f then 9 else 2) ∧ t.hth.job = none ∧
      t.otp = fusesAfter o n (min good (n + f)) := by
  induction k with
  | zero => intro s i _ _ _ _ _ hlo hhi; omega
  | succ k ih =>
    intro s i hm hretry hjob hotp hgood hlo hhi
    dsimp only
    rw [after_jobSteps_succ]
    by_cases hstop : good ≤ i
    · have hat : min good (n + f) = i := by omega
      obtain ⟨hcode, hst, hnone, hkept⟩ := endFuses_leaves hm hretry (st := 9) (by decide)
      rw [jobStep_fuse_fails hjob hstop, after_jobSteps_idle hnone, if_pos (by omega), hat]
      exact ⟨hcode, hst, hnone, hkept.trans hotp⟩
    · have hmb := after_memOk (blowNext n i) hm
      have hblown := blowNext_otp hotp
      have hsys : (s.after (blowNext n i)).sys = s.sys := (blowNext_keeps fuse_sys life_sys n i).after hm
      have hrb : (s.after (blowNext n i)).sys.busyCmd ≠ 1 := by rwa [hsys]
      have hname : updCode (s.after (blowNext n i)) = updCode s := (updCode_aside (blowNext_keeps fuse_rd life_rd n i)).after hm
      rw [jobStep_fuse hjob hstop, afterFuse]
      by_cases hlast : n + f ≤ i + 1
      · have hat : min good (n + f) = i + 1 := by omega
        obtain ⟨hcode, hst, hnone, hkept⟩ := endFuses_leaves hmb hrb (st := 2) (by decide)
        rw [if_pos hlast, after_jobSteps_idle hnone, if_neg (by omega), hat]
        exact ⟨hcode.trans hname, hst, hnone, hkept.trans hblown⟩
      · rw [if_neg hlast]
        obtain ⟨hsys', hotp', hcode'⟩ := nextFuse_leaves n f good i (s.after (blowNext n i))
        obtain ⟨hcode, hrest⟩ := ih (after_memOk (nextFuse n f good i) hmb) (by rwa [hsys']) (by rw [nextFuse, onHth_hth])
          (by rw [hotp', hblown]) (by omega) (by omega) (by omega)
        exact ⟨hcode.trans (hcode'.trans hname), hrest⟩

/-- Where FUSE_ADVANCE is carried out (R539). -/
def MayAdvance (s : State) : Prop := (s.sys.state = .armed ∨ s.sys.state = .run) ∧ committedSlot s = some s.img.slot ∧
  s.otp.rollback < s.img.secVer ∧ vdd1Ok s = true

/-- The anti-rollback fuses to blow. -/
def rollbackFuses (s : State) : Nat := s.img.secVer - s.otp.rollback

/-- How far a FUSE_ADVANCE gets before a further command may come. -/
def fuseRun (s : State) (r : FuseRun) : Act := match r.upTo with
  | none => finishJob
  | some k => each (List.range (min k (rollbackFuses s + floorFuses s))) (fun _ => jobStep)

/-- What FUSE_ADVANCE does once it is heard. -/
def fuseBody (r : FuseRun) : Act := fun s =>
  if !((s.sys.state == .armed || s.sys.state == .run) && committedSlot s == some s.img.slot && s.otp.rollback < s.img.secVer && vdd1Ok s)
  then updDone 6 0 s
  else seq [startJob (.fuses (rollbackFuses s) (floorFuses s) r.good 0), fuseRun s r] s

theorem mayAdvance_iff (s : State) : ((s.sys.state == .armed || s.sys.state == .run) && committedSlot s == some s.img.slot &&
    decide (s.otp.rollback < s.img.secVer) && vdd1Ok s) = true ↔ MayAdvance s := by
  simp only [Bool.and_eq_true, Bool.or_eq_true, beq_iff_eq, decide_eq_true_eq, and_assoc, MayAdvance]

theorem fuseBody_refused {s : State} (h : ¬ MayAdvance s) (r : FuseRun) : s.after (fuseBody r) = s.after (updDone 6 0) := by
  rw [← mayAdvance_iff, Bool.not_eq_true] at h
  exact after_congr (if_pos (by rw [h]; rfl))

theorem after_fuseBody {s : State} (h : MayAdvance s) (r : FuseRun) : s.after (fuseBody r) =
    (s.after (startJob (.fuses (rollbackFuses s) (floorFuses s) r.good 0))).after (fuseRun s r) := by
  rw [← mayAdvance_iff] at h
  exact (after_congr (if_neg (by rw [h]; decide))).trans (after_two _ _ s)

theorem fuseRun_all (s : State) (good : Nat) : fuseRun s { good := good, upTo := none } = finishJob := rfl

theorem after_fuseRun_zero (s t : State) (good : Nat) : t.after (fuseRun s { good := good, upTo := some 0 }) = t := by
  have hnone : fuseRun s { good := good, upTo := some 0 } = seq [] := noSteps _ _
  rw [hnone, after_seq_nil]

/-- A FUSE_ADVANCE to its end. -/
theorem fuses_complete {s : State} (hm : s.memOk = true) (hretry : s.sys.busyCmd ≠ 1) {n f : Nat} (good : Nat) (hn : 0 < n)
    (hmax : n + f ≤ 128) : let t := (s.after (startJob (.fuses n f good 0))).after finishJob
    UpdateShows t (updCode s) (if good < n + f then 9 else 2) ∧ t.hth.job = none ∧ t.otp = fusesAfter s.otp n (min good (n + f)) := by
  have hmj := after_memOk (startJob (.fuses n f good 0)) hm
  have hsys : (s.after (startJob (.fuses n f good 0))).sys = s.sys := (startJob_keeps aloof_sys.toWordless hth_sys _).after hm
  have hotp : (s.after (startJob (.fuses n f good 0))).otp = s.otp := (startJob_keeps aloof_otp.toWordless hth_otp _).after hm
  obtain ⟨hcode, hst, hnone, hblown⟩ := fuses_finish (o := s.otp) (n := n) (f := f) (good := good) 128 (i := 0) hmj (by rwa [hsys])
    (by rw [startJob_hth]) (by rw [hotp, fusesAfter_zero]) (Nat.zero_le _) (by omega) (by omega)
  dsimp only
  rw [finishJob_eq]
  exact ⟨⟨hcode.trans ((startJob_code _).after hm), hst⟩, hnone, hblown⟩

end Sys2Proof.Machine

/-! SUPPORT. A WRITE that goes on by itself (R533, R534), and how each update command answers once it is heard. -/
namespace Sys2Proof.Machine
open Sys2Proof

/-! ### With no command waiting (R533; log entries 1, 55) -/

/-- A step of a WRITE whose pages do not fail: one page, then the end or the next page. -/
theorem jobStep_write_hth {s : State} (hm : s.memOk = true) (hretry : s.sys.busyCmd ≠ 1) {slot p0 i : Nat} {data : List Nat}
    (hjob : s.hth.job = some (.write slot p0 data none i)) : (s.after jobStep).hth.written = s.hth.written ++ [p0 + i] ∧
    (s.after jobStep).hth.job = if data.length ≤ 256 * (i + 1) then none else some (.write slot p0 data none (i + 1)) := by
  obtain ⟨erased, hpage⟩ := programPage_hth slot (p0 + i) (pageBytes data i) s
  have hm' := after_memOk (programPage slot (p0 + i) (pageBytes data i)) hm
  have hsys : (s.after (programPage slot (p0 + i) (pageBytes data i))).sys = s.sys :=
    (programPage_keeps flash_sys hth_sys life_sys _ _ _).after hm
  rw [jobStep_write hjob (by simp), afterPage]
  split
  next => rw [endJob_hth hm' (by rwa [hsys]), hpage]; exact ⟨rfl, rfl⟩
  next => rw [onHth_hth, hpage]; exact ⟨rfl, rfl⟩

/-- The pages written and the command in progress. -/
def writePart (s : State) := (s.hth.written, s.hth.job)

theorem wordless_writePart : Wordless writePart := ⟨fun s a w => congrArg (fun h : Hth => (h.written, h.job)) (mem_hth s a w)⟩

theorem secondPasses_writePart : Keeps writePart secondPasses := fun s => by
  unfold secondPasses
  split
  · exact keeps_nop (f := writePart) s
  · exact keeps_actsAt (f := writePart) s ⟨fun _ _ => rfl, fun _ _ => rfl, fun _ _ => rfl, wordless_writePart.pokeF, fun _ _ => rfl,
      fun _ _ => rfl, fun _ _ => rfl⟩

/-- The crystal's cycle leaves a WRITE as it is. -/
theorem calendarTick_writePart : Keeps writePart calendarTick := fun s => by
  unfold calendarTick
  split
  · exact keeps_nop (f := writePart) s
  · refine keeps_actsAt (f := writePart) s ⟨fun _ _ => rfl, fun u => ?_⟩
    dsimp only
    split
    · exact fun _ => rfl
    · exact keeps_actsAt (f := writePart) u ⟨fun _ _ => rfl, secondPasses_writePart⟩

theorem serveQueues_idle {s : State} (h : s.drc.queue = []) : s.after serveQueues = s :=
  after_congr (s := s) (b := nop) (by rw [serveQueues, h]; rfl)

theorem step_writes_page {s : State} (hm : s.memOk = true) (hretry : s.sys.busyCmd ≠ 1) (hfree : flashFree s = true) {slot p0 i : Nat}
    {data : List Nat} (hjob : s.hth.job = some (.write slot p0 data none i)) (hnone : s.pending = []) (hqueue : s.drc.queue = []) :
    ∃ t, step s = .next t ∧ t.hth.written = s.hth.written ++ [p0 + i] ∧
      t.hth.job = if data.length ≤ 256 * (i + 1) then none else some (.write slot p0 data none (i + 1)) := by
  have hm0 : s.begun.memOk = true := hm
  have hstep : step s = .next (s.begun.after (seq [serveQueues, jobIdle, calendarTick])) := by rw [step, hnone]; rfl
  have hact : s.begun.after (seq [serveQueues, jobIdle, calendarTick]) = (s.begun.after jobStep).after calendarTick := by
    have hidle : s.begun.after jobIdle = s.begun.after jobStep := after_congr (when_pos flashFree jobStep s.begun hfree)
    rw [after_three, serveQueues_idle (s := s.begun) hqueue, hidle]
  obtain ⟨hwritten, hnext⟩ := jobStep_write_hth (s := s.begun) hm0 hretry hjob
  have htick := calendarTick_writePart.after (after_memOk jobStep hm0)
  obtain ⟨hw, hj⟩ := Prod.ext_iff.1 htick
  exact ⟨_, hstep.trans (congrArg Host.Outcome.next hact), hw.trans hwritten, hj.trans hnext⟩

/-! ### Who is not heard -/

/-- Nothing is written in flash or fuses. -/
def StoreKept (s t : State) : Prop := t.flash = s.flash ∧ t.otp = s.otp

/-- An update command that is not carried out. -/
theorem exec_turned_away {s : State} (hm : s.memOk = true) {m key code : Nat} {c : Instr} {body : Act} (hst : stagedOf s m = none)
    (h : exec c s = done (writing m (updCmd m key code body)) s) (hcode : code < 16) :
    (m ≠ 1 → ∃ t, exec c s = .next t ∧ StoreKept s t ∧ SameBut s t [XBR, XBR + 1, XBR + 2]) ∧
    (m = 1 → s.hth.job.isSome = true → code ≠ 5 ∨ key % 4096 ≠ 0xC0C → ∃ t, exec c s = .next t ∧ StoreKept s t ∧ t.hth = s.hth ∧
      SameBut s t [HTH + 0x73] ∧ rdF t (HTH + 0x73) 35 28 = min 255 (rdF s (HTH + 0x73) 35 28 + 1)) ∧
    (m = 1 → s.hth.job = none →
      (s.sys.state = .load → ∃ t, exec c s = .next t ∧ StoreKept s t ∧ UpdateShows t code 3) ∧
      (UpdOpen s → key % 4096 ≠ 0xC0C → ∃ t, exec c s = .next t ∧ StoreKept s t ∧ t.hth = s.hth ∧ UpdateShows t code 4) ∧
      (s.sys.state ≠ .load → ¬ UpdOpen s → exec c s = .next s.begun)) := by
  have hexec := exec_update h hst
  obtain ⟨hforeign, hrunning, hidle⟩ := updCmd_turned_away (s := s.begun) hm m key code hcode body
  refine ⟨fun hne => ⟨_, hexec, hforeign hne⟩, fun h1 hjob hno => ⟨_, hexec, hrunning h1 hjob hno⟩, fun h1 hjob => ?_⟩
  obtain ⟨hload, hkey, helse⟩ := hidle h1 hjob
  exact ⟨fun hl => ⟨_, hexec, hload hl⟩, fun ho hk => ⟨_, hexec, hkey ho hk⟩,
    fun hl ho => hexec.trans (congrArg Host.Outcome.next (helse hl ho))⟩

/-! ### Who is heard -/

/-- The state in which the body of a command given to `s` runs. -/
def State.heard (s : State) (code : Nat) : State := s.begun.numbered code

section
variable {s : State} {key code : Nat} (hm : s.memOk = true)

@[simp] theorem heard_hth : (s.heard code).hth = s.hth := numbered_hth s.begun code
@[simp] theorem heard_sys : (s.heard code).sys = s.sys := numbered_sys s.begun code
@[simp] theorem heard_flash : (s.heard code).flash = s.flash := numbered_flash s.begun code
@[simp] theorem heard_otp : (s.heard code).otp = s.otp := numbered_otp s.begun code
@[simp] theorem heard_img : (s.heard code).img = s.img := numbered_img s.begun code
@[simp] theorem heard_life : (s.heard code).life = s.life := numbered_life s.begun code
@[simp] theorem heard_cocoon : (s.heard code).cocoon = s.cocoon := numbered_cocoon s.begun code
@[simp] theorem heard_committed : committedSlot (s.heard code) = committedSlot s := numbered_committed s.begun code
@[simp] theorem heard_vdd1Ok : vdd1Ok (s.heard code) = vdd1Ok s := numbered_vdd1Ok s.begun code
@[simp] theorem heard_floorFuses : floorFuses (s.heard code) = floorFuses s := numbered_floorFuses s.begun code
@[simp] theorem heard_storePart : storePart (s.heard code) = storePart s := by
  rw [storePart, heard_flash, heard_otp, storePart]

theorem heard_mayAdvance : MayAdvance (s.heard code) ↔ MayAdvance s := by
  simp only [MayAdvance, heard_sys, heard_committed, heard_img, heard_otp, heard_vdd1Ok]

include hm

theorem heard_memOk : (s.heard code).memOk = true := numbered_memOk (s := s.begun) code hm
theorem heard_code (hcode : code < 16) : updCode (s.heard code) = code := numbered_code (s := s.begun) code hm hcode

theorem heard_rd {b : Nat} (hb : b ≠ HTH + 0x73) : rd (s.heard code) b = rd s b := numbered_rd (s := s.begun) code hm hb
theorem heard_updBytes (n : Nat) : updBytes (s.heard code) n = updBytes s n := numbered_updBytes (s := s.begun) code hm n

/-- A command that ends at once with a status. -/
theorem heard_updDone (hcode : code < 16) {st : Nat} (hst : st < 16) : let t := (s.heard code).after (updDone st 0)
    StoreKept s t ∧ t.hth = s.hth ∧ UpdateShows t code st := by
  have hu := heard_memOk (code := code) hm
  exact ⟨storePart_kept (s := s) (((aloof_storePart.updDone st 0).after hu).trans heard_storePart),
    ((aloof_hth.updDone st 0).after hu).trans heard_hth,
    updDone_shows 0 hu hst (heard_code hm hcode)⟩
end

section
variable {s : State} {key : Nat} (hm : s.memOk = true) (hst : stagedOf s 1 = none) (hopen : UpdOpen s) (hkey : key % 4096 = 0xC0C)

section
variable {c : Instr} {code : Nat} {body : Act}
include hst hopen hkey

/-- A command that is heard is its body. -/
theorem exec_heard (h : exec c s = done (writing 1 (updCmd 1 key code body)) s) (hfree : s.hth.job = none ∨ code = 5) :
    exec c s = .next ((s.heard code).after body) := by
  have hact := updCmd_open (s := s.begun) (body := body) (hfree.imp_right fun h5 => ⟨h5, hkey⟩) hopen
  rw [if_neg (not_not.2 hkey)] at hact
  exact (exec_update h hst).trans (congrArg Host.Outcome.next hact)

include hm

/-- A command whose body ends at once with a status. -/
theorem exec_heard_done (h : exec c s = done (writing 1 (updCmd 1 key code body)) s) (hjob : s.hth.job = none) (hcode : code < 16)
    {st : Nat} (hlt : st < 16) (hbody : (s.heard code).after body = (s.heard code).after (updDone st 0)) :
    ∃ t, exec c s = .next t ∧ StoreKept s t ∧ t.hth = s.hth ∧ UpdateShows t code st := by
  refine ⟨_, exec_heard hst hopen hkey h (.inl hjob), ?_⟩
  rw [hbody]
  exact heard_updDone hm hcode hlt
end

variable (hjob : s.hth.job = none)
include hm hst hopen hkey hjob

/-- BEGIN (R534). -/
theorem exec_updBegin_heard (slot : Nat) :
    (committedSlot s = some (slot % 2) →
      ∃ t, exec (.updBegin 1 key slot) s = .next t ∧ StoreKept s t ∧ t.hth = s.hth ∧ UpdateShows t 1 6) ∧
    (committedSlot s ≠ some (slot % 2) → ∃ t, exec (.updBegin 1 key slot) s = .next t ∧ StoreKept s t ∧ UpdateShows t 1 2 ∧
      rdF t (HTH + 0x73) 19 18 = 0 ∧
      t.hth = { s.hth with beginSlot := some (slot % 2), written := [], erased := [], verified := none }) := by
  have hact : exec (.updBegin 1 key slot) s = done (writing 1 (updCmd 1 key 1 (beginBody slot))) s := rfl
  refine ⟨fun h => ?_, fun h => ?_⟩
  · exact exec_heard_done hm hst hopen hkey hact hjob (by decide) (by decide) (beginBody_committed (heard_committed.trans h))
  · obtain ⟨hstore, hshow, hfield, hhth⟩ := beginBody_opens (heard_memOk (code := 1) hm) (slot := slot) (by rwa [heard_committed])
    rw [heard_code hm (by decide)] at hshow
    rw [heard_hth] at hhth
    exact ⟨_, exec_heard hst hopen hkey hact (.inl hjob), storePart_kept (hstore.trans heard_storePart), hshow, hfield, hhth⟩

/-- WRITE and VERIFY without a BEGIN (log entry 56). -/
theorem exec_unbegun (r : FlashRun) (v : VerifyRun) (hbegin : s.hth.beginSlot = none) :
    (∃ t, exec (.updateWrite 1 key r) s = .next t ∧ StoreKept s t ∧ UpdateShows t 2 6) ∧
    ∃ t, exec (.updVerify 1 key v) s = .next t ∧ StoreKept s t ∧ UpdateShows t 3 6 := by
  obtain ⟨t, ht, hkept, -, hshow⟩ := exec_heard_done hm hst hopen hkey (c := .updateWrite 1 key r) (code := 2) (body := writeBody r) rfl
    hjob (by decide) (st := 6) (by decide) (writeBody_unbegun (by rwa [heard_hth]))
  obtain ⟨t', ht', hkept', -, hshow'⟩ := exec_heard_done hm hst hopen hkey (c := .updVerify 1 key v) (code := 3) (body := askVerify v) rfl
    hjob (by decide) (st := 6) (by decide) (askVerify_unbegun (by rwa [heard_hth]))
  exact ⟨⟨t, ht, hkept, hshow⟩, t', ht', hkept', hshow'⟩

/-- ABORT with nothing in progress (R537). -/
theorem exec_updAbort_idle (hretry : s.sys.busyCmd ≠ 1) : ∃ t, exec (.updAbort 1 key) s = .next t ∧ StoreKept s t ∧
    t.hth = { s.hth with verified := none } ∧ UpdateShows t 5 2 := by
  have hact : exec (.updAbort 1 key) s = done (writing 1 (updCmd 1 key 5 abortBody)) s := rfl
  have hidle : (s.heard 5).after jobCurrent = s.heard 5 := jobCurrent_idle (by rwa [heard_hth])
  have hends := abortBody_ends (s := s.heard 5) (heard_memOk hm) (by rwa [hidle, heard_sys])
  dsimp only at hends
  rw [hidle, heard_hth, heard_code hm (by decide)] at hends
  obtain ⟨hhth, hstore, hshow⟩ := hends
  exact ⟨_, exec_heard hst hopen hkey hact (.inl hjob), storePart_kept (hstore.trans heard_storePart), by rw [hhth, ← hjob], hshow⟩

/-- COMMIT (R536). -/
theorem exec_updCommit_heard :
    (s.hth.verified = none → ∃ t, exec (.updCommit 1 key) s = .next t ∧ StoreKept s t ∧ UpdateShows t 4 7) ∧
    ∀ k, s.hth.verified = some k → ∃ t, exec (.updCommit 1 key) s = .next t ∧ UpdateShows t 4 2 ∧
      t.life.snapSeq = s.life.snapSeq + 1 ∧ t.otp = s.otp ∧ t.flash.pages = s.flash.pages ∧
      t.flash.commits = sparsePut (keptCommits s.flash) (32 * commitSector s.flash + (nextCommit s.flash - 1) % 32)
        (commitBytes (nextCommit s.flash) k s.hth.verLen s.hth.verSec s.hth.verDigest s.cocoon.calSec) := by
  have hact : exec (.updCommit 1 key) s = done (writing 1 (updCmd 1 key 4 commitBody)) s := rfl
  refine ⟨fun h => ?_, fun k h => ?_⟩
  · obtain ⟨t, ht, hkept, -, hshow⟩ := exec_heard_done hm hst hopen hkey hact hjob (by decide) (st := 7) (by decide)
      (commitBody_unverified (by rwa [heard_hth]))
    exact ⟨t, ht, hkept, hshow⟩
  · have hcommit := commitBody_commits (heard_memOk (code := 4) hm) (slot := k) (by rwa [heard_hth])
    simp only [heard_code hm (show 4 < 16 by decide), heard_life, heard_otp, heard_flash, heard_hth, heard_cocoon] at hcommit
    exact ⟨_, exec_heard hst hopen hkey hact (.inl hjob), hcommit⟩

/-- FUSE_ADVANCE where it may not be carried out (R539). -/
theorem exec_fuseAdvance_refused (u : FuseRun) (h : ¬ MayAdvance s) :
    ∃ t, exec (.fuseAdvance 1 key u) s = .next t ∧ StoreKept s t ∧ UpdateShows t 6 6 := by
  obtain ⟨t, ht, hkept, -, hshow⟩ := exec_heard_done hm hst hopen hkey (c := .fuseAdvance 1 key u) (code := 6) (body := fuseBody u) rfl hjob
    (by decide) (st := 6) (by decide) (fuseBody_refused (by rwa [heard_mayAdvance]) u)
  exact ⟨t, ht, hkept, hshow⟩

variable (hretry : s.sys.busyCmd ≠ 1)
include hretry

/-- VERIFY (R535). -/
theorem exec_updVerify_heard (tos : List (Nat × Nat)) {k : Nat} (hbegin : s.hth.beginSlot = some k) :
    (∃ t, exec (.updVerify 1 key { timeouts := tos, waits := false }) s = .next t ∧ StoreKept s t ∧ t.hth.job = none ∧
      (UpdateShows t 3 2 ∧ t.hth.verified = some k ∨ UpdateShows t 3 8 ∧ t.hth.verified = none) ∧
      ((∀ e ∈ s.flash.pages, e.1 / 65536 ≠ k) → UpdateShows t 3 8) ∧
      (s.sys.state = .hold → rd t (HPT + 3) = 0 ∧ t.img.stagedDiscard = true)) ∧
    ∃ t, exec (.updVerify 1 key { timeouts := tos, waits := true }) s = .next t ∧ StoreKept s t ∧ UpdateShows t 3 1 ∧
      t.hth.verified = none ∧ t.hth.job = some (.verify k tos) := by
  have hact (v : VerifyRun) : exec (.updVerify 1 key v) s = done (writing 1 (updCmd 1 key 3 (askVerify v))) s := rfl
  have hheard (v : VerifyRun) := exec_heard hst hopen hkey (hact v) (.inl hjob)
  have hslot : (s.heard 3).hth.beginSlot = some k := by rwa [heard_hth]
  have hmh := heard_memOk (code := 3) hm
  have hname := heard_code hm (show 3 < 16 by decide)
  constructor
  · obtain ⟨hstore, hnone, hverdict, hblank, hhold⟩ := verify_completes hmh (by rwa [heard_sys]) k tos
    rw [hname] at hverdict hblank
    rw [heard_flash] at hblank
    rw [heard_sys] at hhold
    have hrun : ((s.heard 3).after (beginVerify k tos)).after (when (fun _ => !false) finishJob) =
        ((s.heard 3).after (beginVerify k tos)).after finishJob := after_congr (when_pos (fun _ => !false) finishJob _ rfl)
    refine ⟨_, hheard _, ?_⟩
    rw [after_askVerify hslot, hrun]
    exact ⟨storePart_kept (hstore.trans heard_storePart), hnone, hverdict, hblank, hhold⟩
  · obtain ⟨hhth, hstore, -, hcode, hbusy, -⟩ := beginVerify_leaves hmh k tos
    refine ⟨_, hheard _, ?_⟩
    rw [after_askVerify hslot, after_when_neg (u := (s.heard 3).after (beginVerify k tos)) rfl]
    exact ⟨storePart_kept (hstore.trans heard_storePart), ⟨hcode.trans hname, hbusy⟩, by rw [hhth], by rw [hhth]⟩

/-- FUSE_ADVANCE where it may be carried out: begun, to its last fuse, or to one that fails (R539, R545). -/
theorem exec_fuseAdvance_heard (good : Nat) (hmay : MayAdvance s) (hmax : rollbackFuses s + floorFuses s ≤ 128) :
    (∃ t, exec (.fuseAdvance 1 key { good := good, upTo := some 0 }) s = .next t ∧ StoreKept s t ∧ UpdateShows t 6 1 ∧
      t.hth.job = some (.fuses (rollbackFuses s) (floorFuses s) good 0)) ∧
    ∃ t, exec (.fuseAdvance 1 key { good := good, upTo := none }) s = .next t ∧
      UpdateShows t 6 (if good < rollbackFuses s + floorFuses s then 9 else 2) ∧ t.hth.job = none ∧
      t.otp = fusesAfter s.otp (rollbackFuses s) (min good (rollbackFuses s + floorFuses s)) := by
  have hact (u : FuseRun) : exec (.fuseAdvance 1 key u) s = done (writing 1 (updCmd 1 key 6 (fuseBody u))) s := rfl
  have hheard (u : FuseRun) := exec_heard hst hopen hkey (hact u) (.inl hjob)
  have hmh := heard_memOk (code := 6) hm
  have hname := heard_code hm (show 6 < 16 by decide)
  have hn : rollbackFuses (s.heard 6) = rollbackFuses s := by rw [rollbackFuses, heard_img, heard_otp, rollbackFuses]
  have hbody (u : FuseRun) : (s.heard 6).after (fuseBody u) =
      ((s.heard 6).after (startJob (.fuses (rollbackFuses s) (floorFuses s) u.good 0))).after (fuseRun (s.heard 6) u) := by
    rw [after_fuseBody (heard_mayAdvance.2 hmay), hn, heard_floorFuses]
  constructor
  · refine ⟨_, hheard _, ?_⟩
    rw [hbody, after_fuseRun_zero]
    refine ⟨storePart_kept (((startJob_keeps aloof_storePart.toWordless (fun _ _ => rfl) _).after hmh).trans heard_storePart),
      ⟨((startJob_code _).after hmh).trans hname, startJob_busy hmh _⟩, by rw [startJob_hth]⟩
  · obtain ⟨-, -, hbelow, -⟩ := hmay
    have hpos : 0 < rollbackFuses s := by unfold rollbackFuses; omega
    obtain ⟨hshow, hnone, hblown⟩ := fuses_complete hmh (by rwa [heard_sys]) good hpos hmax
    rw [hname] at hshow
    rw [heard_otp] at hblown
    refine ⟨_, hheard _, ?_⟩
    rw [hbody, fuseRun_all]
    exact ⟨hshow, hnone, hblown⟩

end

end Sys2Proof.Machine

/-! SUPPORT. How WRITE answers (R534, R537), and the update commands as a whole. -/
namespace Sys2Proof.Machine
open Sys2Proof

section
variable {s : State} {code : Nat} (hm : s.memOk = true)
include hm

theorem heard_offset : rdF (s.heard code) (HTH + 0x71) 24 0 = rdF s (HTH + 0x71) 24 0 := rdF_congr (heard_rd hm (by decide)) 24 0
theorem heard_writeLength : writeLength (s.heard code) = writeLength s := rdF_congr (heard_rd hm (by decide)) 24 0
theorem heard_firstPage : firstPage (s.heard code) = firstPage s := congrArg (· / 256) (heard_offset hm)
theorem heard_pageCount : pageCount (s.heard code) = pageCount s := congrArg (fun n => (n + 255) / 256) (heard_writeLength hm)
end

/-- ABORT ends a WRITE after its current page (R537). -/
theorem exec_updAbort_write {s : State} {key slot p0 i : Nat} {data : List Nat} (hm : s.memOk = true) (hst : stagedOf s 1 = none)
    (hopen : UpdOpen s) (hkey : key % 4096 = 0xC0C) (hjob : s.hth.job = some (.write slot p0 data none i)) (hretry : s.sys.busyCmd ≠ 1) :
    ∃ t, exec (.updAbort 1 key) s = .next t ∧ UpdateShows t 5 2 ∧ t.hth.job = none ∧ t.hth.verified = none ∧
      t.hth.written = s.hth.written ++ [p0 + i] := by
  have hact : exec (.updAbort 1 key) s = done (writing 1 (updCmd 1 key 5 abortBody)) s := rfl
  have hmh := heard_memOk (code := 5) hm
  have hpage : (s.heard 5).after jobCurrent = (s.heard 5).after (programPage slot (p0 + i) (pageBytes data i)) :=
    jobCurrent_write (by rwa [heard_hth])
  obtain ⟨erased, hhth⟩ := programPage_hth slot (p0 + i) (pageBytes data i) (s.heard 5)
  have hsys := (programPage_keeps flash_sys hth_sys life_sys slot (p0 + i) (pageBytes data i)).after hmh
  have hcode := (updCode_aside (programPage_keeps flash_rd hth_rd life_rd slot (p0 + i) (pageBytes data i))).after hmh
  have hends := abortBody_ends hmh (by rwa [hpage, hsys, heard_sys])
  dsimp only at hends
  rw [hpage, hhth, hcode, heard_code hm (by decide), heard_hth] at hends
  obtain ⟨hleft, -, hshow⟩ := hends
  exact ⟨_, exec_heard hst hopen hkey hact (.inr rfl), hshow, by rw [hleft], by rw [hleft], by rw [hleft]⟩

section
variable {s : State} {key k : Nat} (hm : s.memOk = true) (hst : stagedOf s 1 = none) (hopen : UpdOpen s) (hkey : key % 4096 = 0xC0C)
  (hjob : s.hth.job = none) (hbegin : s.hth.beginSlot = some k) (hcommit : committedSlot s ≠ some k)
include hm hst hopen hkey hjob hbegin hcommit

/-- WRITE refuses bad lengths and offsets (R534). -/
theorem exec_updateWrite_bad (r : FlashRun) (h : rdF s (HTH + 0x71) 24 0 % 256 ≠ 0 ∨ writeLength s = 0 ∨ 16384 < writeLength s) :
    ∃ t, exec (.updateWrite 1 key r) s = .next t ∧ StoreKept s t ∧ UpdateShows t 2 5 := by
  have hbad : (s.heard 2).after (writeBody r) = (s.heard 2).after (updDone 5 0) :=
    writeBody_bad (slot := k) (by rwa [heard_hth]) (by rwa [heard_committed]) (by rwa [heard_offset hm, heard_writeLength hm])
  obtain ⟨t, ht, hkept, -, hshow⟩ := exec_heard_done hm hst hopen hkey (c := .updateWrite 1 key r) rfl hjob (by decide) (by decide) hbad
  exact ⟨t, ht, hkept, hshow⟩

variable (haligned : rdF s (HTH + 0x71) 24 0 % 256 = 0) (hpos : 0 < writeLength s) (hmax : writeLength s ≤ 16384)
  (hend : 256 * firstPage s + writeLength s ≤ 16777216)
include haligned hpos hmax hend

/-- WRITE refuses a page that was programmed since BEGIN (R534). -/
theorem exec_updateWrite_again (r : FlashRun) (h : ∃ i, i < pageCount s ∧ firstPage s + i ∈ s.hth.written) :
    ∃ t, exec (.updateWrite 1 key r) s = .next t ∧ StoreKept s t ∧ UpdateShows t 2 5 := by
  have hagain : (s.heard 2).after (writeBody r) = (s.heard 2).after (updDone 5 0) :=
    writeBody_again (slot := k) (by rwa [heard_hth]) (by rwa [heard_committed]) (by rwa [heard_offset hm]) (by rwa [heard_writeLength hm])
      (by rwa [heard_writeLength hm]) (by rwa [heard_firstPage hm, heard_writeLength hm])
      (by rwa [heard_pageCount hm, heard_firstPage hm, heard_hth])
  obtain ⟨t, ht, hkept, -, hshow⟩ := exec_heard_done hm hst hopen hkey (c := .updateWrite 1 key r) rfl hjob (by decide) (by decide) hagain
  exact ⟨t, ht, hkept, hshow⟩

variable (hfresh : ∀ i, i < pageCount s → firstPage s + i ∉ s.hth.written)
include hfresh

omit hst hopen hkey hjob in
/-- A WRITE that is carried out begins, and runs. -/
theorem heard_writeBody (r : FlashRun) :
    (s.heard 2).after (writeBody r) = ((s.heard 2).after (beginWrite (s.heard 2) k r)).after (writeRun (s.heard 2) r) :=
  after_writeBody (by rwa [heard_hth]) (by rwa [heard_committed]) (by rwa [heard_offset hm]) (by rwa [heard_writeLength hm])
    (by rwa [heard_writeLength hm]) (by rwa [heard_firstPage hm, heard_writeLength hm])
    (by rwa [heard_pageCount hm, heard_firstPage hm, heard_hth])

/-- WRITE begun, where a further command may interrupt it (R533). -/
theorem exec_updateWrite_begins (fail : Option Nat) : ∃ t, exec (.updateWrite 1 key { fail := fail, upTo := some 0 }) s = .next t ∧
    StoreKept s t ∧ UpdateShows t 2 1 ∧ t.hth.job = some (.write k (firstPage s) (updBytes s (writeLength s)) fail 0) := by
  obtain ⟨hhth, hflash, hotp, -, hcode, hbusy⟩ :=
    beginWrite_leaves (heard_memOk (code := 2) hm) k { fail := fail, upTo := some 0 }
  refine ⟨_, exec_heard hst hopen hkey (code := 2) (body := writeBody { fail := fail, upTo := some 0 }) rfl (.inl hjob), ?_⟩
  rw [heard_writeBody hm hbegin hcommit haligned hpos hmax hend hfresh, after_writeRun_zero]
  refine ⟨⟨hflash.trans heard_flash, hotp.trans heard_otp⟩, ⟨hcode.trans (heard_code hm (by decide)), hbusy⟩, ?_⟩
  rw [hhth, heard_firstPage hm, heard_writeLength hm, heard_updBytes hm]

variable (hretry : s.sys.busyCmd ≠ 1)
include hretry

/-- WRITE whose first page fails (R534). -/
theorem exec_updateWrite_fails : ∃ t, exec (.updateWrite 1 key { fail := some 0, upTo := none }) s = .next t ∧
    StoreKept s t ∧ UpdateShows t 2 9 ∧ t.hth.job = none := by
  obtain ⟨hflash, hotp, hcode, hstatus, hnone⟩ := write_first_fails (heard_memOk (code := 2) hm) (by rwa [heard_sys]) k
  refine ⟨_, exec_heard hst hopen hkey (code := 2) (body := writeBody { fail := some 0, upTo := none }) rfl (.inl hjob), ?_⟩
  rw [heard_writeBody hm hbegin hcommit haligned hpos hmax hend hfresh, writeRun_all]
  exact ⟨⟨hflash.trans heard_flash, hotp.trans heard_otp⟩, ⟨hcode.trans (heard_code hm (by decide)), hstatus⟩, hnone⟩

/-- WRITE to its end (R534). -/
theorem exec_updateWrite_completes : ∃ t, exec (.updateWrite 1 key { fail := none, upTo := none }) s = .next t ∧
    UpdateShows t 2 2 ∧ t.otp = s.otp ∧ t.hth.verified = none ∧ t.hth.job = none ∧
    t.hth.written = s.hth.written ++ (List.range (pageCount s)).map (fun i => firstPage s + i) ∧
    (∀ e ∈ t.flash.pages, e ∈ s.flash.pages ∨ e.1 / 65536 = k) ∧ (∀ e ∈ s.flash.pages, e.1 / 65536 ≠ k → e ∈ t.flash.pages) ∧
    (pageCount s = 1 → sparseGet (fun _ => []) t.flash.pages (65536 * k + firstPage s) =
      updBytes s (writeLength s) ++ List.replicate (256 - writeLength s) 0xFF) := by
  have hmh := heard_memOk (code := 2) hm
  have hrh : (s.heard 2).sys.busyCmd ≠ 1 := by rwa [heard_sys]
  have hlen := heard_writeLength (code := 2) hm
  have hfirst := heard_firstPage (code := 2) hm
  have hcount := heard_pageCount (code := 2) hm
  obtain ⟨hcode, hstatus, hotp, hver, hnone, hwritten, hnew, hold⟩ :=
    write_completes hmh hrh k (by rwa [hlen]) (by rwa [hlen]) (by rwa [hfirst, hlen])
  rw [heard_hth, hcount, hfirst] at hwritten
  rw [heard_flash] at hnew hold
  refine ⟨_, exec_heard hst hopen hkey (code := 2) (body := writeBody { fail := none, upTo := none }) rfl (.inl hjob), ?_⟩
  rw [heard_writeBody hm hbegin hcommit haligned hpos hmax hend hfresh, writeRun_all]
  refine ⟨⟨hcode.trans (heard_code hm (by decide)), hstatus⟩, hotp.trans heard_otp, hver, hnone, hwritten, hnew, hold, fun hone => ?_⟩
  have hpage := write_one_page hmh hrh k (by rw [hfirst]; omega) (by rwa [hcount])
  rwa [hfirst, hlen, heard_updBytes hm] at hpage
end

section
variable {s : State} {key good : Nat} (hm : s.memOk = true) (hst : stagedOf s 1 = none) (hopen : UpdOpen s) (hkey : key % 4096 = 0xC0C)
  (hjob : s.hth.job = none) (hretry : s.sys.busyCmd ≠ 1) (hmay : MayAdvance s) (hmax : rollbackFuses s + floorFuses s ≤ 128)
include hm hst hopen hkey hjob hretry hmay hmax

/-- FUSE_ADVANCE with every fuse read back (R539). -/
theorem exec_fuseAdvance_done (hall : rollbackFuses s + floorFuses s ≤ good) :
    ∃ t, exec (.fuseAdvance 1 key { good := good, upTo := none }) s = .next t ∧ UpdateShows t 6 2 ∧ t.hth.job = none ∧
      t.otp = { s.otp with rollback := min 64 s.img.secVer, floorBlown := s.otp.floorBlown + floorFuses s } := by
  obtain ⟨-, t, ht, hshow, hnone, hblown⟩ := exec_fuseAdvance_heard hm hst hopen hkey hjob hretry good hmay hmax
  rw [if_neg (Nat.not_lt.2 hall)] at hshow
  rw [Nat.min_eq_right hall] at hblown
  obtain ⟨-, -, hbelow, -⟩ := hmay
  exact ⟨t, ht, hshow, hnone, hblown.trans (fusesAfter_all hbelow (floorFuses s))⟩

/-- FUSE_ADVANCE with a fuse that does not read back: the count reached stands (R539). -/
theorem exec_fuseAdvance_fails (hfew : good < rollbackFuses s + floorFuses s) :
    ∃ t, exec (.fuseAdvance 1 key { good := good, upTo := none }) s = .next t ∧ UpdateShows t 6 9 ∧ t.hth.job = none ∧
      t.otp = { s.otp with
        rollback := if good = 0 then s.otp.rollback else min 64 (s.otp.rollback + min good (rollbackFuses s)),
        floorBlown := s.otp.floorBlown + (good - rollbackFuses s) } := by
  obtain ⟨-, t, ht, hshow, hnone, hblown⟩ := exec_fuseAdvance_heard hm hst hopen hkey hjob hretry good hmay hmax
  rw [if_pos hfew] at hshow
  rw [Nat.min_eq_left (Nat.le_of_lt hfew)] at hblown
  obtain ⟨-, -, hbelow, -⟩ := hmay
  exact ⟨t, ht, hshow, hnone, hblown.trans (fusesAfter_some hbelow good)⟩
end

/-! ### The update commands -/

/-- Settles O55: an update command is refused, counted or turned away before anything is written (`exec_turned_away`); one that is heard is
its body in the state whose status word names it (`exec_heard`), and each body is followed to its end: a WRITE page by page
(`write_finishes`), a VERIFY through the stream of its slot (`verifySlot_ends`), a FUSE_ADVANCE fuse by fuse (`fuses_finish`). -/
theorem updatesGoThroughTheirSlots : Obligations.UpdatesGoThroughTheirSlots := by
  intro s m key slot r v u tos hm hst
  refine ⟨fun e he => ?_, ?_, ?_⟩
  · simp only [List.mem_cons, List.not_mem_nil, or_false] at he
    rcases he with rfl | rfl | rfl | rfl | rfl | rfl
    · exact exec_turned_away (code := 1) (body := beginBody slot) hm hst rfl (by decide)
    · exact exec_turned_away (code := 2) (body := writeBody r) hm hst rfl (by decide)
    · exact exec_turned_away (code := 3) (body := askVerify v) hm hst rfl (by decide)
    · exact exec_turned_away (code := 4) (body := commitBody) hm hst rfl (by decide)
    · exact exec_turned_away (code := 5) (body := abortBody) hm hst rfl (by decide)
    · exact exec_turned_away (code := 6) (body := fuseBody u) hm hst rfl (by decide)
  · intro hm1 hopen hkey hjob hretry
    subst hm1
    obtain ⟨hrefused, hopens⟩ := exec_updBegin_heard hm hst hopen hkey hjob slot
    obtain ⟨hunverified, hcommits⟩ := exec_updCommit_heard hm hst hopen hkey hjob
    refine ⟨hrefused, hopens, exec_unbegun hm hst hopen hkey hjob r v, fun k hbegin hcommit => ?_, fun k hbegin => ?_, hunverified, ?_, ?_,
      exec_fuseAdvance_refused hm hst hopen hkey hjob u, fun hmay hmax => ?_⟩
    · refine ⟨exec_updateWrite_bad hm hst hopen hkey hjob hbegin hcommit r, fun haligned hpos hmax hend => ⟨?_, fun hfresh => ⟨?_, ?_, ?_⟩⟩⟩
      · exact exec_updateWrite_again hm hst hopen hkey hjob hbegin hcommit haligned hpos hmax hend r
      · exact exec_updateWrite_completes hm hst hopen hkey hjob hbegin hcommit haligned hpos hmax hend hfresh hretry
      · exact exec_updateWrite_fails hm hst hopen hkey hjob hbegin hcommit haligned hpos hmax hend hfresh hretry
      · exact exec_updateWrite_begins hm hst hopen hkey hjob hbegin hcommit haligned hpos hmax hend hfresh r.fail
    · exact exec_updVerify_heard hm hst hopen hkey hjob hretry tos hbegin
    · exact hcommits
    · exact exec_updAbort_idle hm hst hopen hkey hjob hretry
    · exact ⟨(exec_fuseAdvance_heard hm hst hopen hkey hjob hretry u.good hmay hmax).1,
        exec_fuseAdvance_done hm hst hopen hkey hjob hretry hmay hmax, exec_fuseAdvance_fails hm hst hopen hkey hjob hretry hmay hmax⟩
  · intro k p0 data i hjob hretry hfree
    refine ⟨fun hopen hkey hm1 => ?_, step_writes_page hm hretry hfree hjob⟩
    subst hm1
    exact exec_updAbort_write hm hst hopen hkey hjob hretry

end Sys2Proof.Machine

/-! SUPPORT. Scene frames: what the host submits, and how the oldest frame of the queue is taken (R120-R125). -/
namespace Sys2Proof.Machine
open Sys2Proof

/-! ### The scene's block -/

/-- The scene's block: no report, count or frame sent reaches it. -/
def sceneOf (s : State) : Scene := s.scene

theorem quiet_sceneOf : Quiet sceneOf := quiet_of fun _ _ h => congrArg (fun x => x.2.2.2.2.1) h

/-! ### LOC_HOST_SUBMIT (R125) -/

theorem exec_locHostSubmit (m : Nat) (w : Word) (s : State) :
    exec (.locHostSubmit m w) s = .next (s.begun.after (writing m (locHostSubmit m w))) := rfl

/-- The frame that the host submits with word `w`. -/
def hostSubmission (s : State) (w : Word) : SceneIn :=
  { host := true, port := 0, srcIp := 0, srcPort := 0, bytes := hostFrameBytes s (fld w 12 0) }

/-- Its bytes are those of LOC_HOST_FRAME. -/
theorem hostSubmission_congr {s t : State} (w : Word) (h : t.scene = s.scene) : hostSubmission t w = hostSubmission s w := by
  rw [hostSubmission, hostFrameBytes, h, hostSubmission, hostFrameBytes]

theorem onScene_scene (s : State) (g : State → Scene → Scene) : (s.after (onScene g)).scene = g s s.scene := rfl

theorem onScene_rd (s : State) (g : State → Scene → Scene) : rd (s.after (onScene g)) = rd s := rfl

section
variable {s : State} (m : Nat) (w : Word)

/-- With no host frame BUSY: BUSY is shown, then the frame is queued. -/
theorem after_locHostSubmit_free (hfree : flag (rd s (LOC + 0x105)) 35 = false) : s.after (locHostSubmit m w) =
    (s.after (pokeF (LOC + 0x105) 35 35 (b2n true))).after (onScene fun s c =>
      { c with hostDirty := false, queue := c.queue ++ [hostSubmission s w] }) := by
  rw [← after_two]
  exact after_congr (by rw [locHostSubmit, hfree]; rfl)

theorem after_locHostSubmit_busy (hbusy : flag (rd s (LOC + 0x105)) 35 = true) :
    s.after (locHostSubmit m w) = s.after (bump (LOC + 0x105) 25 18 1) :=
  after_congr (by rw [locHostSubmit, hbusy]; rfl)

variable (hm : s.memOk = true)
include hm

theorem locHostSubmit_queues (hfree : flag (rd s (LOC + 0x105)) 35 = false) : let t := s.after (locHostSubmit m w)
    flag (rd t (LOC + 0x105)) 35 = true ∧ t.scene.queue = s.scene.queue ++ [hostSubmission s w] ∧ SameBut s t [LOC + 0x105] := by
  rw [after_locHostSubmit_free m w hfree]
  have hflag := flag_pokeF hm (LOC + 0x105) 35 true (by decide)
  have hscene : (s.after (pokeF (LOC + 0x105) 35 35 (b2n true))).scene = s.scene := quiet_sceneOf.pokeF.after hm
  refine ⟨by rw [onScene_rd]; exact hflag, by simp only [onScene_scene, hostSubmission_congr w hscene, hscene], fun b hb => ?_⟩
  rw [onScene_rd]
  exact (keeps_pokeF _ b _ _ _ (List.ne_of_not_mem_cons hb)).after hm

theorem locHostSubmit_discards (hbusy : flag (rd s (LOC + 0x105)) 35 = true) : let t := s.after (locHostSubmit m w)
    t.scene = s.scene ∧ rdF t (LOC + 0x105) 25 18 = min 255 (rdF s (LOC + 0x105) 25 18 + 1) ∧ SameBut s t [LOC + 0x105] := by
  rw [after_locHostSubmit_busy m w hbusy]
  refine ⟨rfl, rdF_bump hm (LOC + 0x105) 1 (by decide) (by decide), fun b hb => ?_⟩
  exact (keeps_bump _ b _ _ _ (List.ne_of_not_mem_cons hb)).after hm
end

/-! ### Words below those of the network ports, where the scene's registers lie -/

theorem tongsFrame_rd {c : Nat} {more : Bool} {bs : List Nat} : Keeps rd (tongsFrame c more bs) := fun s =>
  keeps_actsAt s ⟨fun _ _ => rfl, fun _ _ => rfl⟩

theorem tongsSend_rd {c : Nat} {bs : List Nat} : Keeps rd (tongsSend c bs) := keeps_each _ fun _ => tongsFrame_rd

theorem forward_rd {item : FwdItem} {ack : Option AckTo} : Keeps rd (forward item ack) :=
  keeps_when fun s => keeps_actsAt s ⟨tongsSend_rd, fun _ _ => rfl⟩

section
variable {b : Nat} (hb : b < MAC 0)
include hb

theorem ne_macWord (x off : Nat) : b ≠ MAC x + off := by unfold MAC at *; omega

theorem ring_rd_below {r bit : Nat} : Keeps (fun s => rd s b) (ring r bit) := ring_rd (by unfold MAC at hb; unfold MBX; omega)

theorem cnt_rd_below {x off n : Nat} : Keeps (fun s => rd s b) (cnt x off n) := fun s => keeps_actsAt (f := fun s => rd s b) s
  ⟨keeps_poke _ b _ (ne_macWord hb x off), keeps_when (keeps_acts ⟨keeps_setBits _ b _ (ne_macWord hb x _), ring_rd_below hb⟩)⟩

theorem enqueue_rd_below {x q : Nat} {fr : TxFrame} : Keeps (fun s => rd s b) (enqueue x q fr) := fun s => by
  unfold enqueue
  split
  · exact cnt_rd_below hb s
  · exact fun _ => rfl

/-- An acknowledgement shows in no register but those of its port and of the security block (R124, R557). -/
theorem sendAck_rd_below {port ip udp peer code index counter period : Nat} :
    Keeps (fun s => rd s b) (sendAck port ip udp peer code index counter period) := fun s => by
  unfold sendAck
  split
  · exact keeps_bump _ b _ _ _ (by unfold MAC at hb; unfold SEC; omega) s
  · exact keeps_actsAt (f := fun s => rd s b) s ⟨fun _ _ => rfl, enqueue_rd_below hb⟩
end

/-! ### A frame accepted, and a frame rejected -/

/-- The frames not yet taken, and the commands of those that wait for their boundary. -/
def waitingFrames (s : State) : List SceneIn × List (Nat × List SceneCmd) :=
  (s.scene.queue, s.scene.pending.map (fun p => (p.bnd, p.cmds)))

theorem quiet_waitingFrames : Quiet waitingFrames :=
  quiet_of fun _ _ h => congrArg (fun x => (x.2.2.2.2.1.queue, x.2.2.2.2.1.pending.map (fun p => (p.bnd, p.cmds)))) h

theorem Quiet.forward {β : Sort _} {f : State → β} (h : Quiet f) {item : FwdItem} {ack : Option AckTo} : Keeps f (forward item ack) :=
  keeps_when fun s => keeps_actsAt s ⟨h.tongsSend, h.onTwn⟩

/-- What all acts but the first keep is as the first leaves it. -/
theorem keeps_rest {β : Sort _} {f : State → β} {a : Act} {as : List Act} (s : State) (hm : s.memOk = true) (h : as.Forall (Keeps f)) :
    f (applyAll (seq (a :: as) s) s) = f (s.after a) :=
  (congrArg f (after_seq_cons s a as)).trans ((keeps_acts h).after (after_memOk a hm))

/-- A count that no other act of the list reaches. -/
theorem rdF_counted {before after : List Act} {s : State} {a hi lo : Nat} (n : Nat) (hm : s.memOk = true) (h : hi < 36) (hl : lo ≤ hi)
    (hbefore : Keeps (fun s => rd s a) (seq before)) (hafter : Keeps (fun s => rd s a) (seq after)) :
    rdF (applyAll (seq (before ++ bump a hi lo n :: after) s) s) a hi lo = min (2 ^ (hi + 1 - lo) - 1) (rdF s a hi lo + n) := by
  have hmid := after_memOk (seq before) hm
  rw [← State.after, after_seq_append, after_seq_cons, rdF_congr (hafter.after (after_memOk _ hmid)), rdF_bump hmid a n h hl,
    rdF_congr (hbefore.after hm)]

theorem hostResult_rd {b code index : Nat} {applied : Bool} (hb : b ≠ LOC + 0x105) :
    Keeps (fun s => rd s b) (hostResult applied code index) :=
  keeps_acts ⟨keeps_pokeF _ b _ _ _ hb, keeps_pokeF _ b _ _ _ hb, keeps_pokeF _ b _ _ _ hb⟩

/-- BUSY ends and the result shows, in one register (R125). -/
theorem hostOutcome_rd {b code index : Nat} {applied : Bool} (hb : b ≠ LOC + 0x105) :
    Keeps (fun s => rd s b) (seq [pokeF (LOC + 0x105) 35 35 0, hostResult applied code index]) :=
  keeps_acts ⟨keeps_pokeF _ b _ _ _ hb, hostResult_rd hb⟩

theorem showPending_rd {b : Nat} (hframes : b ≠ LOC + 0x101) (hcmds : b ≠ LOC + 0x102) : Keeps (fun s => rd s b) showPending := fun s =>
  keeps_actsAt (f := fun s => rd s b) s ⟨keeps_pokeF _ b _ _ _ hframes, keeps_pokeF _ b _ _ _ hcmds⟩

section
variable {s : State} (hm : s.memOk = true) (f : SceneIn)
include hm

theorem rejectFrame_scene (c i : Nat) : (s.after (rejectFrame f c i)).scene = s.scene := by
  have h := quiet_sceneOf
  have hkeeps : Keeps sceneOf (rejectFrame f c i) := fun s => keeps_actsAt s
    ⟨h.bump, keeps_when (keeps_acts ⟨h.pokeF, h.hostResult⟩), keeps_when h.sendAck, keeps_when (keeps_acts ⟨h.ring, h.report⟩)⟩
  exact hkeeps.after hm

theorem rejectFrame_counts (c i : Nat) :
    rdF (s.after (rejectFrame f c i)) (LOC + 0x103) 23 12 = min 4095 (rdF s (LOC + 0x103) 23 12 + 1) := by
  have hbelow : LOC + 0x103 < MAC 0 := by decide
  unfold State.after rejectFrame
  refine rdF_counted (before := []) 1 hm (by decide) (by decide) keeps_nil (keeps_acts ⟨?_, ?_, ?_⟩)
  · exact keeps_when (hostOutcome_rd (by decide))
  · exact keeps_when (sendAck_rd_below hbelow)
  · exact keeps_when (keeps_acts ⟨ring_rd_below hbelow, report_rd.map (· (LOC + 0x103))⟩)

theorem acceptFrame_waiting (b : Nat) (h : SceneHdr) : waitingFrames (s.after (acceptFrame f b h)) =
    (s.scene.queue, s.scene.pending.map (fun p => (p.bnd, p.cmds)) ++ [(b, h.cmds)]) := by
  have hq := quiet_waitingFrames
  unfold State.after acceptFrame
  dsimp only
  refine Eq.trans (keeps_rest s hm ⟨hq.showPending, hq.bump, hq.forward, ?_, ?_⟩) ?_
  · exact keeps_when (keeps_acts ⟨hq.pokeF, hq.hostResult⟩)
  · exact keeps_when hq.sendAck
  · exact Prod.ext rfl List.map_append

theorem acceptFrame_counts (b : Nat) (h : SceneHdr) :
    rdF (s.after (acceptFrame f b h)) (LOC + 0x103) 35 24 = min 4095 (rdF s (LOC + 0x103) 35 24 + 1) := by
  have hbelow : LOC + 0x103 < MAC 0 := by decide
  unfold State.after acceptFrame
  refine rdF_counted (before := [_, _]) 1 hm (by decide) (by decide)
    (keeps_acts ⟨fun _ _ => rfl, showPending_rd (by decide) (by decide)⟩) (keeps_acts ⟨?_, ?_, ?_⟩)
  · exact forward_rd.map (· (LOC + 0x103))
  · exact keeps_when (hostOutcome_rd (by decide))
  · exact keeps_when (sendAck_rd_below hbelow)
end

/-! ### SCENE_FRAME_TAKE (R121) -/

theorem exec_sceneFrameTake (s : State) : exec .sceneFrameTake s = .next (s.begun.after sceneFrameTake) := rfl

theorem after_sceneFrameTake_empty {s : State} (hq : s.scene.queue = []) : s.after sceneFrameTake = s := by
  rw [State.after, sceneFrameTake, hq]
  rfl

/-- The state as its oldest frame leaves the queue. -/
def State.unqueued (s : State) (r : List SceneIn) : State := s.after (onScene fun _ c => { c with queue := r })

/-- What follows a taken frame: a host frame may be written anew (R125). -/
def hostFrameTaken (f : SceneIn) : Act := when (fun _ => f.host) (onScene fun _ c => { c with hostDirty := false })

/-- The checks of R121 look at nothing of the queue. -/
theorem takeCheck_unqueued (s : State) (r : List SceneIn) (f : SceneIn) : takeCheck (s.unqueued r) f = takeCheck s f := rfl

theorem hostFrameTaken_queue {f : SceneIn} : Keeps (fun s => s.scene.queue) (hostFrameTaken f) := keeps_when fun _ _ => rfl

theorem hostFrameTaken_pending {f : SceneIn} : Keeps (fun s => s.scene.pending) (hostFrameTaken f) := keeps_when fun _ _ => rfl

theorem hostFrameTaken_rd {f : SceneIn} : Keeps rd (hostFrameTaken f) := keeps_when fun _ _ => rfl

section
variable {s : State} {f : SceneIn} {r : List SceneIn} (hq : s.scene.queue = f :: r) (hclean : (f.host && s.scene.hostDirty) = false)
include hq hclean

theorem after_sceneFrameTake : s.after sceneFrameTake = ((s.unqueued r).after (takeFrame f)).after (hostFrameTaken f) := by
  rw [State.unqueued, ← after_three]
  exact after_congr (by simp only [sceneFrameTake, hq, hclean]; rfl)

theorem sceneFrameTake_rejects (hm : s.memOk = true) {c i : Nat} (hcheck : takeCheck s f = .inl (c, i)) : let t := s.after sceneFrameTake
    t.scene.queue = r ∧ t.scene.pending = s.scene.pending ∧ rdF t (LOC + 0x103) 23 12 = min 4095 (rdF s (LOC + 0x103) 23 12 + 1) := by
  have htake : (s.unqueued r).after (takeFrame f) = (s.unqueued r).after (rejectFrame f c i) :=
    after_congr (by rw [takeFrame, takeCheck_unqueued, hcheck])
  have hm' : (s.unqueued r).memOk = true := hm
  have hrejected := after_memOk (rejectFrame f c i) hm'
  have hscene : _ = { s.scene with queue := r } := rejectFrame_scene hm' f c i
  rw [after_sceneFrameTake hq hclean, htake]
  refine ⟨?_, ?_, ?_⟩
  · exact (hostFrameTaken_queue.after hrejected).trans (by rw [hscene])
  · exact (hostFrameTaken_pending.after hrejected).trans (by rw [hscene])
  · exact (rdF_congr (congrFun (hostFrameTaken_rd.after hrejected) _) 23 12).trans (rejectFrame_counts hm' f c i)

theorem sceneFrameTake_accepts (hm : s.memOk = true) {b : Nat} {h : SceneHdr} (hcheck : takeCheck s f = .inr (b, h)) :
    let t := s.after sceneFrameTake
    t.scene.queue = r ∧
    t.scene.pending.map (fun p => (p.bnd, p.cmds)) = s.scene.pending.map (fun p => (p.bnd, p.cmds)) ++ [(b, h.cmds)] ∧
    rdF t (LOC + 0x103) 35 24 = min 4095 (rdF s (LOC + 0x103) 35 24 + 1) := by
  have htake : (s.unqueued r).after (takeFrame f) = (s.unqueued r).after (acceptFrame f b h) :=
    after_congr (by rw [takeFrame, takeCheck_unqueued, hcheck])
  have hm' : (s.unqueued r).memOk = true := hm
  have haccepted := after_memOk (acceptFrame f b h) hm'
  have hwaiting := acceptFrame_waiting hm' f b h
  rw [after_sceneFrameTake hq hclean, htake]
  refine ⟨?_, ?_, ?_⟩
  · exact (hostFrameTaken_queue.after haccepted).trans (congrArg Prod.fst hwaiting)
  · rw [hostFrameTaken_pending.after haccepted]
    exact congrArg Prod.snd hwaiting
  · exact (rdF_congr (congrFun (hostFrameTaken_rd.after haccepted) _) 35 24).trans (acceptFrame_counts hm' f b h)
end

/-! ### The checks that come first (R121) -/

theorem takeCheck_outside_run {s : State} (f : SceneIn) (h : s.sys.state ≠ .run) : takeCheck s f = .inl (0x17, 0xFFFF) := by
  rw [takeCheck, if_pos (bne_iff_ne.2 h)]

theorem takeCheck_not_active {s : State} (f : SceneIn) (hrun : s.sys.state = .run) (h : authoritative s = false) :
    takeCheck s f = .inl (0x19, 0xFFFF) := by
  rw [takeCheck, hrun, h]
  rfl

/-- Settles O17: a submission is its one branch of LOC_HOST_SUBMIT; a take is what `takeCheck` answers in the state without the frame,
whose acceptance or rejection moves the waiting frames once and its count once. -/
theorem sceneFramesAreTakenOneAtATime : Obligations.SceneFramesAreTakenOneAtATime := by
  intro s m w f r hm hst
  have hstaged : stagedOf s.begun m = none := hst
  have hm' : s.begun.memOk = true := hm
  refine ⟨fun hfree => ?_, fun hbusy => ?_, fun hq => ?_, fun hq hclean => ⟨fun c i hcheck => ?_, fun b h hcheck => ?_⟩,
    takeCheck_outside_run f, takeCheck_not_active f⟩
  · exact ⟨_, exec_locHostSubmit m w s, by rw [after_writing hstaged]; exact locHostSubmit_queues m w hm' hfree⟩
  · exact ⟨_, exec_locHostSubmit m w s, by rw [after_writing hstaged]; exact locHostSubmit_discards m w hm' hbusy⟩
  · rw [exec_sceneFrameTake, after_sceneFrameTake_empty (s := s.begun) hq]
  · exact ⟨_, exec_sceneFrameTake s, sceneFrameTake_rejects (s := s.begun) hq hclean hm' hcheck⟩
  · exact ⟨_, exec_sceneFrameTake s, sceneFrameTake_accepts (s := s.begun) hq hclean hm' hcheck⟩

end Sys2Proof.Machine

/-! SUPPORT. Changes asked for at a named period: the checks that come first, the register that shows their outcome, and the partner told
(R202, R205, R206, R353). -/
namespace Sys2Proof.Machine
open Sys2Proof

/-! ### The checks (R202 steps 1-5, R205) -/

section
variable {s : State} {held : Bool} {p : Nat}

theorem commitCheck_outside_run (h : s.sys.state ≠ .run) : commitCheck s held p = .inl 0x0B := if_pos (bne_iff_ne.2 h)

section
variable (hrun : s.sys.state = .run) (hauth : authoritative s = true)
include hrun hauth

theorem commitCheck_pending : commitCheck s true p = .inl 7 := by
  simp only [commitCheck, hrun, hauth]
  rfl

/-- A period that is named is checked as it stands: P = 0 alone is replaced (R202). -/
theorem commitCheck_named (hp : 0 < p) : commitCheck s false p =
    if p < s.wav.n + 32 then .inl 3 else if s.wav.n + 2 ^ 24 < p then .inl 4 else .inr p := by
  have hzero : (s.sys.role == .solo && p == 0) = false := by
    rw [beq_eq_false_iff_ne.2 (Nat.ne_of_gt hp), Bool.and_false]
  simp only [commitCheck, hrun, hauth, hzero, bne_self_eq_false, Bool.not_true, Bool.false_eq_true, if_false]

theorem commitCheck_late (hp : 0 < p) (hlate : p < s.wav.n + 32) : commitCheck s false p = .inl 3 := by
  rw [commitCheck_named hrun hauth hp, if_pos hlate]

theorem commitCheck_far (hfar : s.wav.n + 2 ^ 24 < p) : commitCheck s false p = .inl 4 := by
  rw [commitCheck_named hrun hauth (by omega), if_neg (by omega), if_pos hfar]

theorem commitCheck_inTime (hnear : s.wav.n + 32 ≤ p) (hfar : p ≤ s.wav.n + 2 ^ 24) : commitCheck s false p = .inr p := by
  rw [commitCheck_named hrun hauth (by omega), if_neg (by omega), if_neg (by omega)]
end

theorem cancelCheck_standby (pend : Option Nat) (h : s.sys.role = .standby) : cancelCheck s pend = 6 :=
  if_pos (beq_iff_eq.2 h)

section
variable (h : s.sys.role ≠ .standby)
include h

theorem cancelCheck_none : cancelCheck s none = 0x0A := if_neg (mt beq_iff_eq.1 h)

theorem cancelCheck_some : cancelCheck s (some p) = if s.wav.n + 32 ≤ p then 8 else 9 := if_neg (mt beq_iff_eq.1 h)

theorem cancelCheck_inTime (hp : s.wav.n + 32 ≤ p) : cancelCheck s (some p) = 8 := by rw [cancelCheck_some h, if_pos hp]

theorem cancelCheck_late (hp : p < s.wav.n + 32) : cancelCheck s (some p) = 9 := by rw [cancelCheck_some h, if_neg (by omega)]
end
end

/-! ### The status register (R206), and what does not see it -/

/-- A reading of the state that looks at no word, at no report, not at the queues of the DRAM channels, and not at Tongs. -/
structure Unshown {β : Sort _} (f : State → β) : Prop extends Aloof f where
  twn : ∀ s v, f (applyEff s (.twn v)) = f s

theorem unshown_cru : Unshown (·.cru) := ⟨⟨⟨mem_cru⟩, out_cru, log_cru, drc_cru⟩, twn_cru⟩
theorem unshown_lan : Unshown (·.lan) := ⟨⟨⟨mem_lan⟩, out_lan, log_lan, drc_lan⟩, twn_lan⟩
theorem unshown_bel : Unshown (·.bel) := ⟨⟨⟨mem_bel⟩, out_bel, log_bel, drc_bel⟩, twn_bel⟩
theorem unshown_qch : Unshown (·.qch) := ⟨⟨⟨mem_qch⟩, out_qch, log_qch, drc_qch⟩, twn_qch⟩
theorem unshown_feeds : Unshown (·.feeds) := ⟨⟨⟨mem_feeds⟩, out_feeds, log_feeds, drc_feeds⟩, twn_feeds⟩

namespace Unshown
variable {β : Sort _} {f : State → β} (h : Unshown f)
include h

theorem badIndex {a i} : Keeps f (badIndex a i) := h.pokeF

theorem commitStatus {a code pending} : Keeps f (commitStatus a code pending) := keeps_acts ⟨h.pokeF, h.pokeF, keeps_when h.report⟩

theorem tongsSend {c b} : Keeps f (tongsSend c b) :=
  keeps_each _ fun _ s => keeps_actsAt s ⟨fun _ _ => h.out _ _, fun _ _ => h.twn _ _⟩

theorem forward {item ack} : Keeps f (forward item ack) :=
  keeps_when fun s => keeps_actsAt s ⟨h.tongsSend, fun _ _ => h.twn _ _⟩

end Unshown

/-- A commit status register shows a code, and whether a change is held (R206). -/
def CommitShows (t : State) (a code pend : Nat) : Prop := rdF t a 7 0 = code ∧ rdF t a 35 35 = pend

/-- Of the words of `s`, `t` differs at most in the status register at `a`, which shows an outcome; its BAD_INDEX stands. -/
structure Answered (s t : State) (a code : Nat) (pending : Bool) : Prop where
  shows : CommitShows t a code (b2n pending)
  index : rdF t a 19 10 = rdF s a 19 10
  same : SameBut s t [a]

theorem Answered.congr {s s' t t' : State} {a code : Nat} {pending : Bool} (h : Answered s t a code pending) (hs : rd s' = rd s)
    (ht : rd t' = rd t) : Answered s' t' a code pending := by
  obtain ⟨⟨hcode, hpend⟩, hindex, hsame⟩ := h
  have hword : rd t' a = rd t a := congrFun ht a
  refine ⟨⟨(rdF_congr hword 7 0).trans hcode, (rdF_congr hword 35 35).trans hpend⟩, ?_, fun b hb => ?_⟩
  · rw [rdF_congr hword, rdF_congr (congrFun hs a), hindex]
  · rw [ht, hs, hsame b hb]

/-- An act alone. -/
theorem after_one (a : Act) (s : State) : s.after (seq [a]) = s.after a := by rw [after_seq_cons, after_seq_nil]

theorem SameBut.trans {s t u : State} {as : List Nat} (h : SameBut s t as) (h' : SameBut t u as) : SameBut s u as := fun b hb =>
  (h' b hb).trans (h b hb)

section
variable {s : State} (hm : s.memOk = true) (a : Nat)
include hm

theorem commitStatus_answers {code : Nat} (hcode : code < 256) (pending : Bool) :
    Answered s (s.after (commitStatus a code pending)) a code pending := by
  have hm₁ := after_memOk (pokeF a 7 0 code) hm
  have hm₂ := after_memOk (pokeF a 35 35 (b2n pending)) hm₁
  have hreport (c : State → Bool) (hi lo : Nat) : Keeps (fun s => rdF s a hi lo) (when c (report (srcOf a) .commitEnd code a)) :=
    keeps_when fun _ _ => rfl
  have hpend : b2n pending % 2 = b2n pending := by cases pending <;> rfl
  rw [commitStatus, after_three]
  refine ⟨⟨?_, ?_⟩, ?_, fun b hb => ?_⟩
  · rw [(hreport _ 7 0).after hm₂, (keeps_field (by decide) (by decide) (.inl (by decide))).after hm₁,
      rdF_pokeF hm a code (by decide) (by decide)]
    exact Nat.mod_eq_of_lt hcode
  · rw [(hreport _ 35 35).after hm₂, rdF_pokeF hm₁ a _ (by decide) (by decide)]
    exact hpend
  · rw [(hreport _ 19 10).after hm₂, (keeps_field (by decide) (by decide) (.inl (by decide))).after hm₁,
      (keeps_field (by decide) (by decide) (.inr (by decide))).after hm]
  · have hne : b ≠ a := List.ne_of_not_mem_cons hb
    rw [(keeps_when (report_rd.map (· b))).after hm₂, (keeps_pokeF a b _ _ _ hne).after hm₁, (keeps_pokeF a b _ _ _ hne).after hm]

theorem badIndex_shows {i : Nat} (hi : i < 1024) : rdF (s.after (badIndex a i)) a 19 10 = i :=
  (rdF_pokeF hm a i (by decide) (by decide)).trans (Nat.mod_eq_of_lt hi)

theorem badIndex_same (i : Nat) : SameBut s (s.after (badIndex a i)) [a] := fun b hb =>
  (keeps_pokeF a b _ _ _ (List.ne_of_not_mem_cons hb)).after hm

/-- A change that is held or dropped without a word of its own: the outcome shows, and the partner is told of it. -/
theorem change_answers {hold : Act} (item : FwdItem) {code : Nat} (hcode : code < 256) (pending : Bool) (hrd : rd (s.after hold) = rd s) :
    Answered s (s.after (seq [hold, commitStatus a code pending, forward item none])) a code pending := by
  have hmh := after_memOk hold hm
  rw [after_three]
  exact (commitStatus_answers hmh a hcode pending).congr hrd.symm (forward_rd.after (after_memOk _ hmh))

theorem change_keeps {β : Sort _} {f : State → β} (h : Unshown f) {hold : Act} (item : FwdItem) (code : Nat) (pending : Bool) :
    f (s.after (seq [hold, commitStatus a code pending, forward item none])) = f (s.after hold) :=
  keeps_rest s hm ⟨h.commitStatus, h.forward⟩
end

/-! ### Requests that name their bad entries in BAD_INDEX (R202) -/

/-- The state as such a request begins: no entry is named. -/
def State.asked (s : State) (a : Nat) : State := s.after (badIndex a 0x3FF)

section
variable {s : State} (hm : s.memOk = true) (a : Nat) {β : Type _} {f : State → β} (h : Unshown f)
include hm

theorem asked_memOk : (s.asked a).memOk = true := after_memOk _ hm

theorem asked_index : rdF (s.asked a) a 19 10 = 0x3FF := badIndex_shows hm a (by decide)

theorem asked_same : SameBut s (s.asked a) [a] := badIndex_same hm a _

include h

theorem asked_keeps : f (s.asked a) = f s := h.badIndex.after hm

/-- A request that a check turns away holds nothing new. -/
theorem asked_refused {code : Nat} (hcode : code < 256) (pending : Bool) : let t := (s.asked a).after (commitStatus a code pending)
    f t = f s ∧ CommitShows t a code (b2n pending) := by
  have hma := asked_memOk hm a
  exact ⟨(h.commitStatus.after hma).trans (asked_keeps hm a h), (commitStatus_answers hma a hcode pending).shows⟩

/-- Nor does one with a bad entry, which is named. -/
theorem asked_bad {i : Nat} (hi : i < 1024) : let t := (s.asked a).after (seq [badIndex a i, commitStatus a 5 false])
    f t = f s ∧ CommitShows t a 5 0 ∧ rdF t a 19 10 = i ∧ SameBut s t [a] := by
  have hma := asked_memOk hm a
  have hmi := after_memOk (badIndex a i) hma
  rw [after_two]
  obtain ⟨hshows, hindex, hsame⟩ := commitStatus_answers hmi a (code := 5) (by decide) false
  exact ⟨(h.commitStatus.after hmi).trans ((h.badIndex.after hma).trans (asked_keeps hm a h)), hshows,
    hindex.trans (badIndex_shows hma a hi), ((asked_same hm a).trans (badIndex_same hma a i)).trans hsame⟩

/-- One that passes is held, PENDING, and goes to the partner. -/
theorem asked_held {hold : Act} (hrd : ∀ u, rd (u.after hold) = rd u) (item : FwdItem) :
    let t := (s.asked a).after (seq [hold, commitStatus a 1 true, forward item none])
    f t = f ((s.asked a).after hold) ∧ CommitShows t a 1 1 ∧ rdF t a 19 10 = 0x3FF ∧ SameBut s t [a] := by
  have hma := asked_memOk hm a
  obtain ⟨hshows, hindex, hsame⟩ := change_answers hma a item (code := 1) (by decide) true (hrd _)
  exact ⟨change_keeps hma a h item 1 true, hshows, hindex.trans (asked_index hm a), (asked_same hm a).trans hsame⟩
end

/-! ### A pair of registers (24: Two-word values) -/

theorem fld_wd_low (n : Nat) : fld (wd n) 31 0 = n % 2 ^ 32 := by
  simp only [fld, bits, wd, BitVec.toNat_ofNat, Nat.shiftRight_zero]
  omega

theorem pokePair_rdPair {s : State} (hm : s.memOk = true) (a : Nat) {v : Nat} (hv : v < 2 ^ 64) :
    rdPair (s.after (pokePair a v)) a = v := by
  have hm₁ := after_memOk (poke a (wd (bits v 63 32))) hm
  have hlow : rd (s.after (pokePair a v)) (a + 1) = wd (bits v 31 0) := by
    rw [pokePair, after_two, poke_rd hm₁]
  have hhigh : rd (s.after (pokePair a v)) a = wd (bits v 63 32) := by
    rw [pokePair, after_two, (keeps_poke (a + 1) a _ (by omega)).after hm₁, poke_rd hm]
  rw [rdPair, rdF, rdF, hlow, hhigh, fld_wd_low, fld_wd_low]
  simp only [bits, Nat.shiftRight_eq_div_pow]
  omega

theorem pokePair_same {s : State} (hm : s.memOk = true) (a v : Nat) : SameBut s (s.after (pokePair a v)) [a, a + 1] := fun b hb => by
  simp only [List.mem_cons, List.not_mem_nil, or_false, not_or] at hb
  obtain ⟨h0, h1⟩ := hb
  rw [pokePair, after_two, (keeps_poke (a + 1) b _ h1).after (after_memOk _ hm), (keeps_poke a b _ h0).after hm]

end Sys2Proof.Machine

/-! SUPPORT. Route commits: captured whole or not at all, cancelled, and applied (R201-R206). -/
namespace Sys2Proof.Machine
open Sys2Proof

/-! ### ROUTE_COMMIT (R202, R206) -/

theorem routeMaster_of_le {m : Nat} (h : m ≤ 2) : routeMaster m = true := decide_eq_true h

theorem exec_routeCommit {s : State} {m : Nat} (count : Nat) (h : stagedOf s m = none) :
    exec (.routeCommit m count) s = .next (s.begun.after (routeCommit m count)) :=
  congrArg Host.Outcome.next (after_writing (s := s.begun) h _)

theorem exec_routeCommitCancel {s : State} {m : Nat} (h : stagedOf s m = none) :
    exec (.routeCommitCancel m) s = .next (s.begun.after (routeCommitCancel m)) :=
  congrArg Host.Outcome.next (after_writing (s := s.begun) h _)

/-- The entries that a commit of `count` entries takes from the stage. -/
def stagedEntries (s : State) (count : Nat) : List StageEntry := (List.range count).map (stageEntry (rd s))

/-- The commit that replaces what waits, or empties its place. -/
def holdRoutes (v : Option (Pending (List StageEntry))) : Act := onCru fun _ c => { c with pend := v }

theorem holdRoutes_cru (s : State) (v : Option (Pending (List StageEntry))) : (s.after (holdRoutes v)).cru = { s.cru with pend := v } := rfl

theorem holdRoutes_rd (v : Option (Pending (List StageEntry))) (s : State) : rd (s.after (holdRoutes v)) = rd s := rfl

section
variable {s : State} {m count : Nat} (hm : s.memOk = true) (hmaster : m ≤ 2)
include hm hmaster

theorem routeCommit_refused {code p : Nat} {held : Bool} (hcode : code < 256) (hheld : s.cru.pend.isSome = held)
    (hat : atOf s (CRU + 0x10) = p) (h : commitCheck s held p = .inl code) : let t := s.after (routeCommit m count)
    t.cru = s.cru ∧ CommitShows t (CRU + 0x13) code (b2n held) := by
  have hact : s.after (routeCommit m count) = (s.asked (CRU + 0x13)).after (commitStatus (CRU + 0x13) code held) := by
    rw [State.asked, ← after_two]
    exact after_congr (by simp only [routeCommit, routeMaster_of_le hmaster, hheld, hat, h]; rfl)
  rw [hact]
  exact asked_refused hm _ unshown_cru hcode _

section
variable {p : Nat} (hnone : s.cru.pend = none) (hat : atOf s (CRU + 0x10) = p) (hcheck : commitCheck s false p = .inr p)
  (hpos : 1 ≤ count) (hmax : count ≤ 512)
include hnone hat hcheck hpos hmax

theorem routeCommit_captures (hgood : badEntry (rd s) 0 [] (stagedEntries s count) = none) : let t := s.after (routeCommit m count)
    t.cru = { s.cru with pend := some { at' := p, what := stagedEntries s count } } ∧ CommitShows t (CRU + 0x13) 1 1 ∧
    rdF t (CRU + 0x13) 19 10 = 0x3FF ∧ SameBut s t [CRU + 0x13] := by
  have hcount : (decide (count = 0) || decide (512 < count)) = false := by simp; omega
  have hact : s.after (routeCommit m count) = (s.asked (CRU + 0x13)).after (seq [
      holdRoutes (some { at' := p, what := stagedEntries s count }),
      commitStatus (CRU + 0x13) 1 true, forward (.routeCommit p (stagedEntries s count)) none]) := by
    rw [State.asked, ← after_two]
    refine after_congr ?_
    rw [stagedEntries] at hgood ⊢
    simp only [routeCommit, routeMaster_of_le hmaster, hnone, Option.isSome_none, hat, hcheck, hcount, hgood]
    rfl
  have hcru : (s.asked (CRU + 0x13)).cru = s.cru := asked_keeps hm _ unshown_cru
  obtain ⟨hheld, hshows⟩ := asked_held hm (CRU + 0x13) unshown_cru
    (holdRoutes_rd (some { at' := p, what := stagedEntries s count })) (.routeCommit p (stagedEntries s count))
  rw [hact]
  exact ⟨by rw [hheld, holdRoutes_cru, hcru], hshows⟩

theorem routeCommit_bad_entry {i : Nat} (hbad : badEntry (rd s) 0 [] (stagedEntries s count) = some i) (hi : i < 1023) :
    let t := s.after (routeCommit m count)
    t.cru = s.cru ∧ CommitShows t (CRU + 0x13) 5 0 ∧ rdF t (CRU + 0x13) 19 10 = i ∧ SameBut s t [CRU + 0x13] := by
  have hcount : (decide (count = 0) || decide (512 < count)) = false := by simp; omega
  have hact : s.after (routeCommit m count) =
      (s.asked (CRU + 0x13)).after (seq [badIndex (CRU + 0x13) i, commitStatus (CRU + 0x13) 5 false]) := by
    rw [State.asked, ← after_two]
    refine after_congr ?_
    rw [stagedEntries] at hbad
    simp only [routeCommit, routeMaster_of_le hmaster, hnone, Option.isSome_none, hat, hcheck, hcount, hbad]
    rfl
  rw [hact]
  exact asked_bad hm _ unshown_cru (by omega)
end

/-! ### ROUTE_COMMIT_CANCEL (R205) -/

theorem routeCommitCancel_removes {x : Pending (List StageEntry)} (hx : s.cru.pend = some x) (h : cancelCheck s (some x.at') = 8) :
    let t := s.after (routeCommitCancel m)
    t.cru = { s.cru with pend := none } ∧ CommitShows t (CRU + 0x13) 8 0 ∧ SameBut s t [CRU + 0x13] := by
  have hact : s.after (routeCommitCancel m) = s.after (seq [holdRoutes none,
      commitStatus (CRU + 0x13) 8 false, forward .routeCancel none]) := by
    refine Eq.trans (after_congr ?_) (after_one _ s)
    simp only [routeCommitCancel, routeMaster_of_le hmaster, hx, Option.map_some, h]
    rfl
  rw [hact]
  obtain ⟨hshows, -, hsame⟩ := change_answers hm (CRU + 0x13) .routeCancel (code := 8) (by decide) false (holdRoutes_rd none s)
  exact ⟨change_keeps hm (CRU + 0x13) unshown_cru _ 8 false, hshows, hsame⟩

theorem routeCommitCancel_refused {code : Nat} {pend : Option (Pending (List StageEntry))} (hne : code ≠ 8) (hcode : code < 256)
    (hpend : s.cru.pend = pend) (h : cancelCheck s (pend.map (·.at')) = code) : let t := s.after (routeCommitCancel m)
    t.cru = s.cru ∧ CommitShows t (CRU + 0x13) code (b2n pend.isSome) := by
  have hact : s.after (routeCommitCancel m) = s.after (commitStatus (CRU + 0x13) code pend.isSome) := by
    refine Eq.trans (after_congr ?_) (after_one _ s)
    simp only [routeCommitCancel, routeMaster_of_le hmaster, hpend, h, if_neg hne]
    rfl
  rw [hact]
  exact ⟨unshown_cru.commitStatus.after hm, (commitStatus_answers hm _ hcode _).shows⟩
end

/-! ### ROUTE_COMMIT_APPLY (R203) -/

theorem exec_routeCommitApply (s : State) : exec .routeCommitApply s = .next (s.begun.after routeCommitApply) := rfl

theorem StageEntry.index_lt (e : StageEntry) : e.index < 4096 := fld_lt e.word0 11 0

/-- Entries applied go to the tables, and count the ones that R208 refuses; no block takes part. -/
theorem Aloof.applyEntries {β : Sort _} {f : State → β} (h : Aloof f) {es : List StageEntry} : Keeps f (applyEntries es) :=
  keeps_each _ fun e => by
    split
    · intro s
      unfold putDest
      split
      · exact h.poke s
      · exact keeps_actsAt s ⟨h.bump, h.report⟩
    · exact keeps_acts ⟨h.poke, h.poke⟩

/-- A word of neither table, and not the count of refused destinations. -/
structure OffTables (b : Nat) : Prop where
  count : b ≠ CRU + 2
  route : b < tblRoute ∨ tblRoute + 8192 ≤ b
  dest : b < tblDest ∨ tblDest + 4096 ≤ b

theorem applyEntries_rd {b : Nat} (hb : OffTables b) {es : List StageEntry} : Keeps (fun s => rd s b) (applyEntries es) :=
  keeps_each _ fun e => by
    obtain ⟨hcount, hroute, hdest⟩ := hb
    have hi := e.index_lt
    split
    · intro s
      unfold putDest
      split
      · exact keeps_poke _ b _ (by omega) s
      · exact keeps_actsAt (f := fun s => rd s b) s ⟨keeps_bump _ b _ _ _ hcount, report_rd.map (· b)⟩
    · exact keeps_acts ⟨keeps_poke _ b _ (by omega), keeps_poke _ b _ (by omega)⟩

/-- One valid route entry is written whole. -/
theorem applyEntries_route {s : State} (hm : s.memOk = true) {e : StageEntry} (hvalid : e.valid = true) (hroute : e.isDest = false) :
    let t := s.after (applyEntries [e])
    rd t (tblRoute + 2 * e.index) = e.v0 ∧ rd t (tblRoute + 2 * e.index + 1) = e.v1 := by
  have hact : s.after (applyEntries [e]) =
      (s.after (poke (tblRoute + 2 * e.index) e.v0)).after (poke (tblRoute + 2 * e.index + 1) e.v1) := by
    rw [← after_two, applyEntries, List.filter_cons_of_pos hvalid, List.filter_nil, each, List.map_singleton, hroute, after_seq_cons,
      after_seq_nil]
    rfl
  have hm₁ := after_memOk (poke (tblRoute + 2 * e.index) e.v0) hm
  rw [hact]
  exact ⟨((keeps_poke _ _ _ (by omega)).after hm₁).trans (poke_rd hm _ _), poke_rd hm₁ _ _⟩

section
variable {s : State} {x : Pending (List StageEntry)} (hpend : s.cru.pend = some x)
include hpend

theorem routeCommitApply_waits (h : x.at' ≠ renderN s + 1) : s.after routeCommitApply = s := by
  simp only [State.after, routeCommitApply, hpend, if_neg h, applyAll_nil]

theorem after_routeCommitApply (hnow : x.at' = renderN s + 1) : s.after routeCommitApply =
    (((s.after (applyEntries x.what)).after (holdRoutes none)).after
      (commitStatus (CRU + 0x13) 2 false)).after (pokePair (CRU + 0x14) x.at') := by
  rw [← after_four]
  exact after_congr (by simp only [routeCommitApply, hpend, if_pos hnow]; rfl)

variable (hm : s.memOk = true) (hnow : x.at' = renderN s + 1)
include hm hnow

/-- The boundary of P leaves the entries in the tables, and says so in the commit registers alone. -/
theorem routeCommitApply_leaves (hlt : x.at' < 2 ^ 64) : let t := s.after routeCommitApply
    t.cru = { s.cru with pend := none } ∧ CommitShows t (CRU + 0x13) 2 0 ∧ rdPair t (CRU + 0x14) = x.at' ∧
    SameBut (s.after (applyEntries x.what)) t [CRU + 0x13, CRU + 0x14, CRU + 0x15] := by
  rw [after_routeCommitApply hpend hnow]
  generalize he : s.after (applyEntries x.what) = u
  generalize hd : u.after (holdRoutes none) = v
  have hmu : u.memOk = true := he ▸ after_memOk _ hm
  have hmv : v.memOk = true := hd ▸ after_memOk _ hmu
  have hms := after_memOk (commitStatus (CRU + 0x13) 2 false) hmv
  have hcru : u.cru = s.cru := he ▸ unshown_cru.applyEntries.after hm
  have hvcru : v.cru = { s.cru with pend := none } := by rw [← hcru, ← hd]; rfl
  have hvrd : rd v = rd u := by rw [← hd]; rfl
  obtain ⟨⟨hcode, hflag⟩, -, hsame⟩ := commitStatus_answers hmv (CRU + 0x13) (code := 2) (by decide) false
  have hpair := pokePair_same hms (CRU + 0x14) x.at'
  have hstatus := hpair (CRU + 0x13) (by decide)
  refine ⟨?_, ⟨(rdF_congr hstatus 7 0).trans hcode, (rdF_congr hstatus 35 35).trans hflag⟩, pokePair_rdPair hms _ hlt, fun b hb => ?_⟩
  · have hkept : Keeps (·.cru) (pokePair (CRU + 0x14) x.at') := keeps_acts ⟨unshown_cru.poke, unshown_cru.poke⟩
    rw [hkept.after hms, unshown_cru.commitStatus.after hmv, hvcru]
  · rw [hpair b (mt (List.mem_cons_of_mem _) hb), hsame b (mt (fun h => List.mem_singleton.1 h ▸ List.mem_cons_self) hb), hvrd]
end

/-- Settles O19: a request is its checks in order and one capture; a cancel is one check; at the boundary the entries go to the tables and
the commit registers say so. -/
theorem routeCommitsAreAllOrNothing : Obligations.RouteCommitsAreAllOrNothing := by
  intro s m count p hm hmaster hst
  have hm' : s.begun.memOk = true := hm
  have hask := exec_routeCommit count hst
  have hcancel := exec_routeCommitCancel hst
  refine ⟨fun hrun hauth hnone hat hnear hfar hpos hmax => ?_, fun hrun hauth hnone hat hpos hlate => ⟨_, hask, ?_⟩,
    fun hrun hauth hnone hat hfar => ⟨_, hask, ?_⟩, fun hrun hauth hsome => ⟨_, hask, ?_⟩, fun hrun hnone => ⟨_, hask, ?_⟩,
    fun x hx hrole => ⟨fun hnear => ⟨_, hcancel, ?_⟩, fun hlate => ⟨_, hcancel, ?_⟩⟩, fun hnone hrole => ⟨_, hcancel, ?_⟩,
    fun hnone hrole => ⟨_, hcancel, ?_⟩, fun x hx hnow hlt => ⟨_, exec_routeCommitApply s, ?_⟩, fun x hx hne => ?_⟩
  · have hcheck := commitCheck_inTime (s := s.begun) hrun hauth hnear hfar
    exact ⟨fun hgood => ⟨_, hask, routeCommit_captures hm' hmaster hnone hat hcheck hpos hmax hgood⟩,
      fun i hbad hi => ⟨_, hask, routeCommit_bad_entry hm' hmaster hnone hat hcheck hpos hmax hbad hi⟩⟩
  · exact routeCommit_refused hm' hmaster (by decide) (congrArg Option.isSome hnone) hat
      (commitCheck_late (s := s.begun) hrun hauth hpos hlate)
  · exact routeCommit_refused hm' hmaster (by decide) (congrArg Option.isSome hnone) hat (commitCheck_far (s := s.begun) hrun hauth hfar)
  · exact routeCommit_refused hm' hmaster (by decide) hsome rfl (commitCheck_pending (s := s.begun) hrun hauth)
  · exact routeCommit_refused hm' hmaster (by decide) (congrArg Option.isSome hnone) rfl (commitCheck_outside_run (s := s.begun) hrun)
  · exact routeCommitCancel_removes hm' hmaster hx (cancelCheck_inTime (s := s.begun) hrole hnear)
  · exact routeCommitCancel_refused hm' hmaster (by decide) (by decide) hx (cancelCheck_late (s := s.begun) hrole hlate)
  · exact routeCommitCancel_refused hm' hmaster (by decide) (by decide) hnone (cancelCheck_none (s := s.begun) hrole)
  · exact routeCommitCancel_refused hm' hmaster (by decide) (by decide) hnone (cancelCheck_standby (s := s.begun) none hrole)
  · obtain ⟨hcru, hshows, hpair, hsame⟩ := routeCommitApply_leaves (s := s.begun) hx hm' hnow hlt
    refine ⟨hcru, hshows, hpair, fun e he hvalid hroute => ?_, fun a ha hr hd => ?_⟩
    · obtain ⟨hctrl, hgain⟩ := applyEntries_route (s := s.begun) hm' hvalid hroute
      have hi := e.index_lt
      rw [he] at hsame
      have hoff (k : Nat) (hk : k < 2) : tblRoute + 2 * e.index + k ∉ [CRU + 0x13, CRU + 0x14, CRU + 0x15] := by
        simp [tblRoute, CRU]
        omega
      exact ⟨(hsame _ (hoff 0 (by decide))).trans hctrl, (hsame _ (hoff 1 (by decide))).trans hgain⟩
    · have hoff : OffTables a := ⟨List.ne_of_not_mem_cons ha, hr, hd⟩
      exact (hsame a (List.not_mem_of_not_mem_cons ha)).trans ((applyEntries_rd hoff).after hm')
  · exact congrArg Host.Outcome.next (routeCommitApply_waits (s := s.begun) hx hne)

end Sys2Proof.Machine

/-! SUPPORT. Argument commits: the words captured, and written in every lane that serves the pair (R205, R237, R262). -/
namespace Sys2Proof.Machine
open Sys2Proof

/-! ### ARGUMENT_COMMIT and its CANCEL -/

theorem exec_argumentCommit {s : State} {m : Nat} (p first count : Nat) (h : stagedOf s m = none) :
    exec (.argumentCommit m p first count) s = .next (s.begun.after (argumentCommit m p first count)) :=
  congrArg Host.Outcome.next (after_writing (s := s.begun) h _)

theorem exec_argumentCommitCancel {s : State} {m : Nat} (p : Nat) (h : stagedOf s m = none) :
    exec (.argumentCommitCancel m p) s = .next (s.begun.after (argumentCommitCancel m p)) :=
  congrArg Host.Outcome.next (after_writing (s := s.begun) h _)

/-- The commits that wait, changed. -/
def holdArgs (g : Sparse (Pending (Nat × List Word)) → Sparse (Pending (Nat × List Word))) : Act := onLan fun _ l => { l with args := g l.args }

section
variable (g : Sparse (Pending (Nat × List Word)) → Sparse (Pending (Nat × List Word))) (s : State)

theorem holdArgs_lan : (s.after (holdArgs g)).lan = { s.lan with args := g s.lan.args } := rfl
theorem holdArgs_rd : rd (s.after (holdArgs g)) = rd s := rfl
end

/-- What a commit of `count` words from word `first` on holds for a period: the words as the commit buffer has them. -/
def heldWords (s : State) (p first count at' : Nat) : Pending (Nat × List Word) :=
  { at' := at', what := (first, rdList s (LAN (2 * p) + 0x400 + first) count) }

section
variable {s : State} {m p : Nat} (hm : s.memOk = true) (hmaster : m ≤ 1) (hp : p < 36)

theorem argumentMaster (hmaster : m ≤ 1) (hp : p < 36) : (decide (1 < m) || decide (36 ≤ p)) = false := by simp; omega

include hm hmaster hp

section
variable {first count at' : Nat} (hnone : sparseFind s.lan.args p = none) (hat : atOf s (LAN (2 * p) + 0x20) = at')
  (hcheck : commitCheck s false at' = .inr at') (hpos : 1 ≤ count) (hend : first + count ≤ 1024)
include hnone hat hcheck hpos hend

theorem argumentCommit_captures
    (hgood : ∀ i, i < count → isArgument (blocks (rd s) (firstLane s p)) (0x1C00 + first + i) = true) :
    let t := s.after (argumentCommit m p first count)
    t.lan = { s.lan with args := sparsePut s.lan.args p (heldWords s p first count at') } ∧
    CommitShows t (LAN (2 * p) + 0x23) 1 1 ∧ SameBut s t [LAN (2 * p) + 0x23] := by
  have hcount : (decide (count = 0) || decide (1024 < first + count)) = false := by simp; omega
  have hfind : (List.range count).find? (fun i => !isArgument (blocks (rd s) (firstLane s p)) (0x1C00 + first + i)) = none :=
    List.find?_range_eq_none.2 fun i hi => by rw [hgood i hi]; rfl
  have hact : s.after (argumentCommit m p first count) = (s.asked (LAN (2 * p) + 0x23)).after (seq [
      holdArgs (sparsePut · p (heldWords s p first count at')), commitStatus (LAN (2 * p) + 0x23) 1 true,
      forward (.args p at' first (heldWords s p first count at').what.2) none]) := by
    rw [State.asked, ← after_two]
    refine after_congr ?_
    simp only [argumentCommit, argumentMaster hmaster hp, hnone, Option.isSome_none, hat, hcheck, hcount, hfind]
    rfl
  have hlan : (s.asked (LAN (2 * p) + 0x23)).lan = s.lan := asked_keeps hm _ unshown_lan
  obtain ⟨hheld, hshows, -, hsame⟩ := asked_held hm (LAN (2 * p) + 0x23) unshown_lan
    (holdArgs_rd (sparsePut · p (heldWords s p first count at'))) (.args p at' first (heldWords s p first count at').what.2)
  rw [hact]
  exact ⟨by rw [hheld, holdArgs_lan, hlan], hshows, hsame⟩

theorem argumentCommit_bad_word {i : Nat} (hi : i < count)
    (hbad : isArgument (blocks (rd s) (firstLane s p)) (0x1C00 + first + i) = false)
    (hgood : ∀ j, j < i → isArgument (blocks (rd s) (firstLane s p)) (0x1C00 + first + j) = true) :
    let t := s.after (argumentCommit m p first count)
    t.lan = s.lan ∧ CommitShows t (LAN (2 * p) + 0x23) 5 0 ∧ rdF t (LAN (2 * p) + 0x23) 19 10 = first + i := by
  have hcount : (decide (count = 0) || decide (1024 < first + count)) = false := by simp; omega
  have hfind : (List.range count).find? (fun i => !isArgument (blocks (rd s) (firstLane s p)) (0x1C00 + first + i)) = some i :=
    List.find?_range_eq_some.2 ⟨by rw [hbad]; rfl, List.mem_range.2 hi, fun j hj => by rw [hgood j hj]; rfl⟩
  have hact : s.after (argumentCommit m p first count) = (s.asked (LAN (2 * p) + 0x23)).after (seq [
      badIndex (LAN (2 * p) + 0x23) (first + i), commitStatus (LAN (2 * p) + 0x23) 5 false]) := by
    rw [State.asked, ← after_two]
    refine after_congr ?_
    simp only [argumentCommit, argumentMaster hmaster hp, hnone, Option.isSome_none, hat, hcheck, hcount, hfind]
    rfl
  obtain ⟨hlan, hshows, hindex, -⟩ := asked_bad hm (LAN (2 * p) + 0x23) unshown_lan (i := first + i) (by omega)
  rw [hact]
  exact ⟨hlan, hshows, hindex⟩
end

section
variable {x : Pending (Nat × List Word)} (hx : sparseFind s.lan.args p = some x)
include hx

theorem argumentCommitCancel_removes (h : cancelCheck s (some x.at') = 8) : let t := s.after (argumentCommitCancel m p)
    t.lan = { s.lan with args := sparseDrop s.lan.args p } ∧ CommitShows t (LAN (2 * p) + 0x23) 8 0 := by
  have hact : s.after (argumentCommitCancel m p) = s.after (seq [holdArgs (sparseDrop · p),
      commitStatus (LAN (2 * p) + 0x23) 8 false, forward (.argsCancel p) none]) := by
    refine Eq.trans (after_congr ?_) (after_one _ s)
    simp only [argumentCommitCancel, argumentMaster hmaster hp, hx, Option.map_some, h]
    rfl
  rw [hact]
  exact ⟨change_keeps hm _ unshown_lan _ 8 false,
    (change_answers hm _ (.argsCancel p) (by decide) false (holdArgs_rd (sparseDrop · p) s)).shows⟩

theorem argumentCommitCancel_late (h : cancelCheck s (some x.at') = 9) : let t := s.after (argumentCommitCancel m p)
    t.lan = s.lan ∧ CommitShows t (LAN (2 * p) + 0x23) 9 1 := by
  have hact : s.after (argumentCommitCancel m p) = s.after (commitStatus (LAN (2 * p) + 0x23) 9 true) := by
    refine Eq.trans (after_congr ?_) (after_one _ s)
    simp only [argumentCommitCancel, argumentMaster hmaster hp, hx, Option.map_some, h]
    rfl
  rw [hact]
  exact ⟨unshown_lan.commitStatus.after hm, (commitStatus_answers hm _ (by decide) true).shows⟩
end
end

/-! ### Words of the argument area (R242) -/

/-- A word of Y memory lies below the registers. -/
theorem yW_below {l : Nat} (hl : l < 72) (i : Nat) : yW l i < 0x30000000 := by unfold yW laneMem; omega

/-- Words of different numbers lie at different addresses, whichever their lanes. -/
theorem yW_ne {i j : Nat} (hi : i < 8192) (hj : j < 8192) (hne : i ≠ j) (k l : Nat) : yW k i ≠ yW l j := by unfold yW laneMem; omega

/-- Which lanes a pair's commits go to rests on Lanes, on Bellows, and on its node table. -/
theorem commitLanes_congr {s t : State} (hlan : t.lan = s.lan) (hbel : t.bel = s.bel) (hrd : ∀ a, 0x30000000 ≤ a → rd t a = rd s a)
    (p : Nat) : commitLanes t p = commitLanes s p := by
  have hnode (k j hi lo : Nat) : rdF t (nodeA k j) hi lo = rdF s (nodeA k j) hi lo :=
    rdF_congr (hrd _ (by unfold nodeA BEL; omega)) hi lo
  have hother : nodeOther t = nodeOther s := funext fun k => hnode k 2 22 16
  simp only [commitLanes, lanesOf, mirrors, nodeKind, nodeParam, nodeTarget, hnode, hother, hlan, hbel]

/-- Word `base + e.2` of a pair becomes `e.1`, in its memories and in what a reload restores (R308). -/
def putArg (base p : Nat) (e : Word × Nat) : Act := seq [putY p (base + e.2) e.1, keepArg p (base + e.2) e.1]

theorem after_putArg (base p : Nat) (e : Word × Nat) (s : State) : s.after (putArg base p e) =
    (applyAll ((commitLanes s p).map (·, e.1) |>.map fun f => .mem (yW f.1 (base + e.2)) f.2) s).after (keepArg p (base + e.2) e.1) := by
  rw [putArg, after_two, List.map_map]
  rfl

theorem keepArg_rd (p i : Nat) (v : Word) (s : State) : rd (s.after (keepArg p i v)) = rd s := rfl

/-- A reading that looks at no word and not at what a load restores is kept. -/
theorem putArg_keeps {β : Sort _} {f : State → β} (h : Wordless f) (himg : ∀ s v, f (applyEff s (.img v)) = f s) (base p : Nat)
    (e : Word × Nat) : Keeps f (putArg base p e) := fun s _ => by
  rw [← State.after, after_putArg]
  exact (himg _ _).trans (h.stores _ (yW · (base + e.2)) s)

section
variable {s : State} (hm : s.memOk = true) (base p : Nat) (e : Word × Nat)
include hm

theorem putArg_rd_same {l : Nat} (hl : l ∈ commitLanes s p) : rd (s.after (putArg base p e)) (yW l (base + e.2)) = e.1 := by
  rw [after_putArg, keepArg_rd]
  refine rd_stores (yW · (base + e.2)) (fun f hf _ => ?_) hm (.inr ⟨(l, e.1), List.mem_map_of_mem hl, rfl⟩)
  obtain ⟨_, _, rfl⟩ := List.mem_map.1 hf
  rfl

theorem putArg_rd_other {a : Nat} (h : ∀ l ∈ commitLanes s p, yW l (base + e.2) ≠ a) : rd (s.after (putArg base p e)) a = rd s a := by
  rw [after_putArg, keepArg_rd]
  refine rd_stores (yW · (base + e.2)) (fun f hf hplace => ?_) hm (.inl rfl)
  obtain ⟨l, hl, rfl⟩ := List.mem_map.1 hf
  exact absurd hplace (h l hl)

theorem putArg_lanes (hlanes : ∀ l ∈ commitLanes s p, l < 72) : commitLanes (s.after (putArg base p e)) p = commitLanes s p := by
  refine commitLanes_congr ((putArg_keeps unshown_lan.toWordless img_lan base p e).after hm)
    ((putArg_keeps unshown_bel.toWordless img_bel base p e).after hm) (fun a ha => ?_) p
  refine putArg_rd_other hm base p e fun l hl heq => ?_
  have := yW_below (hlanes l hl) (base + e.2)
  omega
end

/-- Words put in order, from word `n` of the area on: every lane holds them, and words of other numbers are as they were. -/
theorem putArgs_leaves {base p : Nat} (ws : List Word) (n : Nat) {s : State} (hm : s.memOk = true)
    (hlanes : ∀ l ∈ commitLanes s p, l < 72) (hend : base + n + ws.length ≤ 8192) :
    let t := s.after (each (ws.zipIdx n) (putArg base p))
    (∀ l ∈ commitLanes s p, ∀ k w, ws[k]? = some w → rd t (yW l (base + n + k)) = w) ∧
    ∀ a, (∀ l ∈ commitLanes s p, ∀ k, n ≤ k → k < n + ws.length → yW l (base + k) ≠ a) → rd t a = rd s a := by
  induction ws generalizing n s with
  | nil => exact ⟨fun l _ k w hk => by simp at hk, fun _ _ => rfl⟩
  | cons v ws ih =>
    rw [List.length_cons] at hend
    have hm₁ := after_memOk (putArg base p (v, n)) hm
    have hsame := putArg_lanes hm base p (v, n) hlanes
    have hact : s.after (each ((v :: ws).zipIdx n) (putArg base p)) =
        (s.after (putArg base p (v, n))).after (each (ws.zipIdx (n + 1)) (putArg base p)) := by
      rw [List.zipIdx_cons, each, List.map_cons, after_seq_cons, each]
    obtain ⟨hin, hout⟩ := ih (n + 1) hm₁ (by rwa [hsame]) (by omega)
    rw [hsame] at hin hout
    rw [hact]
    refine ⟨fun l hl k w hk => ?_, fun a ha => ?_⟩
    · cases k with
      | zero =>
        obtain rfl : v = w := by simpa using hk
        refine (hout _ fun l' _ j hj hlt => ?_).trans (putArg_rd_same hm base p (v, n) hl)
        exact yW_ne (by omega) (by omega) (by omega) l' l
      | succ k =>
        rw [show base + n + (k + 1) = base + (n + 1) + k by omega]
        exact hin l hl k w (by simpa using hk)
    · rw [List.length_cons] at ha
      rw [hout a fun l hl k hk hlt => ha l hl k (by omega) (by omega)]
      exact putArg_rd_other hm base p (v, n) fun l hl => ha l hl n (Nat.le_refl n) (by omega)

/-! ### ARGUMENT_COMMIT_APPLY -/

theorem exec_argumentCommitApply (p : Nat) (s : State) :
    exec (.argumentCommitApply p) s = .next (s.begun.after (argumentCommitApply p)) := rfl

section
variable {s : State} {p : Nat} {x : Pending (Nat × List Word)} (hx : sparseFind s.lan.args p = some x)
include hx

theorem argumentCommitApply_waits (h : x.at' ≠ renderN s + 1) : s.after (argumentCommitApply p) = s := by
  simp only [State.after, argumentCommitApply, hx, if_neg h, applyAll_nil]

theorem after_argumentCommitApply (hnow : x.at' = renderN s + 1) : s.after (argumentCommitApply p) =
    ((s.after (each x.what.2.zipIdx (putArg (0x1C00 + x.what.1) p))).after (holdArgs (sparseDrop · p))).after
      (commitStatus (LAN (2 * p) + 0x23) 2 false) := by
  rw [← after_three]
  exact after_congr (by simp only [argumentCommitApply, hx, if_pos hnow]; rfl)

theorem argumentCommitApply_leaves (hm : s.memOk = true) (hnow : x.at' = renderN s + 1) (hend : x.what.1 + x.what.2.length ≤ 1024)
    (hlanes : ∀ l ∈ commitLanes s p, l < 72) : let t := s.after (argumentCommitApply p)
    t.lan = { s.lan with args := sparseDrop s.lan.args p } ∧ CommitShows t (LAN (2 * p) + 0x23) 2 0 ∧
    ∀ l ∈ commitLanes s p, ∀ k w, x.what.2[k]? = some w → rd t (yW l (0x1C00 + x.what.1 + k)) = w := by
  rw [after_argumentCommitApply hx hnow]
  have hwords := (putArgs_leaves (base := 0x1C00 + x.what.1) (p := p) x.what.2 0 hm hlanes (by omega)).1
  have hkept : Keeps (·.lan) (each x.what.2.zipIdx (putArg (0x1C00 + x.what.1) p)) :=
    keeps_each _ fun e => putArg_keeps unshown_lan.toWordless img_lan _ p e
  have hlan := hkept.after hm
  have hmu := after_memOk (each x.what.2.zipIdx (putArg (0x1C00 + x.what.1) p)) hm
  have hmh := after_memOk (holdArgs (sparseDrop · p)) hmu
  obtain ⟨hshows, -, hsame⟩ := commitStatus_answers hmh (LAN (2 * p) + 0x23) (code := 2) (by decide) false
  refine ⟨?_, hshows, fun l hl k w hk => ?_⟩
  · rw [unshown_lan.commitStatus.after hmh, holdArgs_lan, hlan]
  · have hbelow := yW_below (hlanes l hl) (0x1C00 + x.what.1 + k)
    rw [hsame _ (by rw [List.mem_singleton]; unfold LAN; omega), holdArgs_rd]
    exact hwords l hl k w hk
end

/-- Settles O21: a request is its checks and one capture, a cancel is one check; at the launch the words go into every lane of
`commitLanes`, one number after the other. -/
theorem argumentCommitsChangeBothLanes : Obligations.ArgumentCommitsChangeBothLanes := by
  intro s m p first count at' hm hmaster hp hst
  have hm' : s.begun.memOk = true := hm
  have hask := exec_argumentCommit p first count hst
  have hcancel := exec_argumentCommitCancel p hst
  refine ⟨fun hrun hauth hnone hat hnear hfar hpos hend => ?_,
    fun x hx hrole => ⟨fun hnear => ⟨_, hcancel, ?_⟩, fun hlate => ⟨_, hcancel, ?_⟩⟩,
    fun x hx hnow hend hlanes => ⟨_, exec_argumentCommitApply p s, argumentCommitApply_leaves (s := s.begun) hx hm' hnow hend hlanes⟩,
    fun x hx hne => congrArg Host.Outcome.next (argumentCommitApply_waits (s := s.begun) hx hne)⟩
  · have hcheck := commitCheck_inTime (s := s.begun) hrun hauth hnear hfar
    exact ⟨fun hgood => ⟨_, hask, argumentCommit_captures hm' hmaster hp hnone hat hcheck hpos hend hgood⟩,
      fun i hi hbad hgood => ⟨_, hask, argumentCommit_bad_word hm' hmaster hp hnone hat hcheck hpos hend hi hbad hgood⟩⟩
  · exact argumentCommitCancel_removes hm' hmaster hp hx (cancelCheck_inTime (s := s.begun) hrole hnear)
  · exact argumentCommitCancel_late hm' hmaster hp hx (cancelCheck_late (s := s.begun) hrole hlate)

end Sys2Proof.Machine

/-! SUPPORT. Latches cleared by a write (R320), and quench latches cleared at a named period (R205, R325). -/
namespace Sys2Proof.Machine
open Sys2Proof

/-! ### QCH_FAULT and QCH_WARN (R319, R320) -/

theorem exec_latchClear {s : State} {m : Nat} (isFault : Bool) (w : Word) (h : stagedOf s m = none) :
    exec (.latchClear m isFault w) s = .next (s.begun.after (latchClear m isFault w)) :=
  congrArg Host.Outcome.next (after_writing (s := s.begun) h _)

/-- A mask of one bit asks for one latch, which is cleared, or refused, or not set. -/
theorem clearable_bit (present : Nat → Bool) (set b n : Nat) : clearable present set (2 ^ b) n =
    if b < n ∧ set.testBit b = true then (if present b then (0, 1) else (2 ^ b, 0)) else (0, 0) := by
  induction n with
  | zero => rfl
  | succ n ih =>
    have hstep : clearable present set (2 ^ b) (n + 1) =
        if (2 ^ b).testBit n && set.testBit n then
          (if present n then ((clearable present set (2 ^ b) n).1, (clearable present set (2 ^ b) n).2 + 1)
           else ((clearable present set (2 ^ b) n).1 ||| 2 ^ n, (clearable present set (2 ^ b) n).2))
        else clearable present set (2 ^ b) n := by
      rw [clearable, List.range_succ, List.foldl_append]
      rfl
    rw [hstep, ih, Nat.testBit_two_pow]
    by_cases hb : b = n
    · subst hb
      simp
    · have hlt : b < n + 1 ↔ b < n := by omega
      simp [hb, hlt]

section
variable {present : Nat → Bool} {set b n : Nat}

theorem clearable_unset (hset : set.testBit b = false) : clearable present set (2 ^ b) n = (0, 0) := by
  rw [clearable_bit, if_neg (by simp [hset])]

variable (hb : b < n)
include hb

theorem clearable_absent (hset : set.testBit b = true) (h : present b = false) : clearable present set (2 ^ b) n = (2 ^ b, 0) := by
  rw [clearable_bit, if_pos ⟨hb, hset⟩, h]
  rfl

theorem clearable_present (hset : set.testBit b = true) (h : present b = true) : clearable present set (2 ^ b) n = (0, 1) := by
  rw [clearable_bit, if_pos ⟨hb, hset⟩, h]
  rfl
end

/-- The latches of QCH_FAULT, or of QCH_WARN, without `v`. -/
def Qch.without (q : Qch) (isFault : Bool) (v : Nat) : Qch :=
  if isFault then { q with fault := q.fault - v } else { q with warn := q.warn - v }

theorem Qch.without_zero (q : Qch) (isFault : Bool) : q.without isFault 0 = q := by cases isFault <;> rfl

/-- What a write asks to clear and what of it is refused, of QCH_FAULT or of QCH_WARN. -/
def clearOutcome (s : State) (isFault : Bool) (w : Word) : Nat × Nat :=
  if isFault then clearable (faultPresent s) s.qch.fault (fld w 31 0) 9 else clearable (warnPresent s) s.qch.warn (fld w 31 0) 4

section
variable {s : State} {m : Nat} {isFault : Bool} {w : Word}

theorem after_latchClear (hmaster : m ≤ 1) : s.after (latchClear m isFault w) =
    (applyEff s (.qch (s.qch.without isFault (clearOutcome s isFault w).1))).after
      (when (fun _ => (clearOutcome s isFault w).2 != 0) (bump (QCH + 4) 23 12 1)) := by
  have hact : s.after (latchClear m isFault w) = s.after (seq [
      onQch fun _ q => q.without isFault (clearOutcome s isFault w).1,
      when (fun _ => (clearOutcome s isFault w).2 != 0) (bump (QCH + 4) 23 12 1)]) := by
    refine after_congr ?_
    rw [latchClear, if_neg (Nat.not_lt.2 hmaster)]
    cases isFault <;> rfl
  rw [hact, after_two]
  rfl

theorem latchClear_clears (hmaster : m ≤ 1) {v : Nat} (h : clearOutcome s isFault w = (v, 0)) :
    s.after (latchClear m isFault w) = applyEff s (.qch (s.qch.without isFault v)) := by
  rw [after_latchClear hmaster, h]
  exact after_when_neg rfl

theorem latchClear_unset (hmaster : m ≤ 1) (h : clearOutcome s isFault w = (0, 0)) : s.after (latchClear m isFault w) = s := by
  rw [latchClear_clears hmaster h, Qch.without_zero]
  rfl

theorem latchClear_present (hm : s.memOk = true) (hmaster : m ≤ 1) (h : clearOutcome s isFault w = (0, 1)) :
    let t := s.after (latchClear m isFault w)
    t.qch = s.qch ∧ SameBut s t [QCH + 4] ∧ rdF t (QCH + 4) 23 12 = min 4095 (rdF s (QCH + 4) 23 12 + 1) := by
  have hact : s.after (latchClear m isFault w) = s.after (bump (QCH + 4) 23 12 1) := by
    rw [after_latchClear hmaster, h, Qch.without_zero]
    rfl
  rw [hact]
  exact ⟨unshown_qch.bump.after hm, fun b hb => (keeps_bump _ b _ _ _ (List.ne_of_not_mem_cons hb)).after hm,
    rdF_bump hm (QCH + 4) 1 (by decide) (by decide)⟩

theorem latchClear_foreign (hm : s.memOk = true) (hmaster : 1 < m) : let t := s.after (latchClear m isFault w)
    t.qch = s.qch ∧ SameBut s t [XBR, XBR + 1, XBR + 2] := by
  have hact : s.after (latchClear m isFault w) = s.after (refused m (QCH + (if isFault then 1 else 2)) true) :=
    after_congr (if_pos hmaster)
  rw [hact]
  exact ⟨(unshown_qch.refused hth_qch _ _ true).after hm, refused_same hm _ _ true⟩
end

/-! ### QUENCH_CLEAR and its CANCEL (R205, R325) -/

theorem exec_quenchClear {s : State} {m : Nat} (ctl : Word) (h : stagedOf s m = none) :
    exec (.quenchClear m ctl) s = .next (s.begun.after (quenchClear m ctl)) :=
  congrArg Host.Outcome.next (after_writing (s := s.begun) h _)

theorem exec_quenchClearCancel {s : State} {m : Nat} (h : stagedOf s m = none) :
    exec (.quenchClearCancel m) s = .next (s.begun.after (quenchClearCancel m)) :=
  congrArg Host.Outcome.next (after_writing (s := s.begun) h _)

/-- The clear that waits, or none. -/
def holdClear (v : Option (Pending (Option Nat))) : Act := onQch fun _ q => { q with clear := v }

theorem holdClear_qch (s : State) (v : Option (Pending (Option Nat))) : (s.after (holdClear v)).qch = { s.qch with clear := v } := rfl

theorem holdClear_rd (v : Option (Pending (Option Nat))) (s : State) : rd (s.after (holdClear v)) = rd s := rfl

/-- The feed that a control word names; none stands for all (R325). -/
def clearedFeed (ctl : Word) : Option Nat := if flag ctl 33 then none else some (fld ctl 9 0)

section
variable {s : State} {m : Nat} (hm : s.memOk = true) (hmaster : m ≤ 2)
include hm hmaster

theorem quenchClear_held {p : Nat} (ctl : Word) (hnone : s.qch.clear = none) (hat : atOf s (QCH + 0x10) = p)
    (hcheck : commitCheck s false p = .inr p) : let t := s.after (quenchClear m ctl)
    t.qch = { s.qch with clear := some { at' := p, what := clearedFeed ctl } } ∧ CommitShows t (QCH + 0x13) 1 1 ∧
    SameBut s t [QCH + 0x13] := by
  have hact : s.after (quenchClear m ctl) = s.after (seq [holdClear (some { at' := p, what := clearedFeed ctl }),
      commitStatus (QCH + 0x13) 1 true, forward (.clear p ctl) none]) := by
    refine Eq.trans (after_congr ?_) (after_one _ s)
    simp only [quenchClear, routeMaster_of_le hmaster, hnone, Option.isSome_none, hat, hcheck]
    rfl
  obtain ⟨hshows, -, hsame⟩ := change_answers hm (QCH + 0x13) (.clear p ctl) (code := 1) (by decide) true
    (holdClear_rd (some { at' := p, what := clearedFeed ctl }) s)
  rw [hact]
  exact ⟨change_keeps hm _ unshown_qch _ 1 true, hshows, hsame⟩

section
variable {x : Pending (Option Nat)} (hx : s.qch.clear = some x)
include hx

theorem quenchClearCancel_removes (h : cancelCheck s (some x.at') = 8) : let t := s.after (quenchClearCancel m)
    t.qch = { s.qch with clear := none } ∧ CommitShows t (QCH + 0x13) 8 0 := by
  have hact : s.after (quenchClearCancel m) = s.after (seq [holdClear none,
      commitStatus (QCH + 0x13) 8 false, forward .clearCancel none]) := by
    refine Eq.trans (after_congr ?_) (after_one _ s)
    simp only [quenchClearCancel, routeMaster_of_le hmaster, hx, Option.map_some, h]
    rfl
  rw [hact]
  exact ⟨change_keeps hm _ unshown_qch _ 8 false, (change_answers hm _ .clearCancel (by decide) false (holdClear_rd none s)).shows⟩

theorem quenchClearCancel_late (h : cancelCheck s (some x.at') = 9) : let t := s.after (quenchClearCancel m)
    t.qch = s.qch ∧ CommitShows t (QCH + 0x13) 9 1 := by
  have hact : s.after (quenchClearCancel m) = s.after (commitStatus (QCH + 0x13) 9 true) := by
    refine Eq.trans (after_congr ?_) (after_one _ s)
    simp only [quenchClearCancel, routeMaster_of_le hmaster, hx, Option.map_some, h]
    rfl
  rw [hact]
  exact ⟨unshown_qch.commitStatus.after hm, (commitStatus_answers hm _ (by decide) true).shows⟩
end
end

/-! ### QUENCH_CLEAR_APPLY (R325) -/

theorem exec_quenchClearApply (s : State) : exec .quenchClearApply s = .next (s.begun.after quenchClearApply) := rfl

/-- A feed at the boundary of a clear for the feed `named`, or for all. -/
def clearNamed (named : Option Nat) (k : Nat) (d : Feed) : Feed :=
  if (named = none ∨ named = some k) ∧ d.cause ≠ 0 then { d with e := 0, cause := 0, ck := 0 } else d

theorem clearNamed_none (k : Nat) (d : Feed) : clearNamed none k d = clearFeed d := by
  by_cases hc : d.cause = 0 <;> simp [clearNamed, clearFeed, hc]

theorem clearNamed_some (f k : Nat) (d : Feed) : clearNamed (some f) k d = if f = k then clearFeed d else d := by
  by_cases hf : f = k
  · by_cases hc : d.cause = 0 <;> simp [clearNamed, clearFeed, hf, hc]
  · simp [clearNamed, hf]

/-- An entry of a table whose values are changed by their keys. -/
theorem sparseFind_mapped {α : Type} (g : Nat → α → α) {t : Sparse α} {k : Nat} {d : α} (h : sparseFind t k = some d) :
    sparseFind (t.map fun e => (e.1, g e.1 e.2)) k = some (g k d) := by
  obtain ⟨e, he, rfl⟩ := Option.map_eq_some_iff.1 h
  have hk : e.1 = k := beq_iff_eq.1 (List.find?_some (p := fun e : Nat × α => e.1 == k) he)
  have hfind : (t.map fun e => (e.1, g e.1 e.2)).find? (fun e => e.1 == k) = some (e.1, g e.1 e.2) := by
    rw [List.find?_map]
    exact congrArg (Option.map _) he
  rw [sparseFind, hfind, Option.map_some, hk]

/-- The feeds as a clear leaves them. -/
def clearFeeds (named : Option Nat) : Act := onFeeds fun _ t => t.map fun e => (e.1, clearNamed named e.1 e.2)

theorem clearFeeds_qch (named : Option Nat) (s : State) : (s.after (clearFeeds named)).qch = s.qch := rfl

theorem clearFeeds_rd (named : Option Nat) (s : State) : rd (s.after (clearFeeds named)) = rd s := rfl

section
variable {s : State} {x : Pending (Option Nat)} (hx : s.qch.clear = some x)
include hx

theorem quenchClearApply_waits (h : x.at' ≠ renderN s + 1) : s.after quenchClearApply = s := by
  simp only [State.after, quenchClearApply, hx, if_neg h, applyAll_nil]

theorem after_quenchClearApply (hnow : x.at' = renderN s + 1) : s.after quenchClearApply =
    ((s.after (clearFeeds x.what)).after (holdClear none)).after (commitStatus (QCH + 0x13) 2 false) := by
  rw [← after_three]
  refine after_congr ?_
  cases hnamed : x.what <;>
    simp only [quenchClearApply, hx, if_pos hnow, hnamed, clearFeeds, clearNamed_none, clearNamed_some] <;> rfl

theorem quenchClearApply_leaves (hm : s.memOk = true) (hnow : x.at' = renderN s + 1) : let t := s.after quenchClearApply
    t.qch = { s.qch with clear := none } ∧ CommitShows t (QCH + 0x13) 2 0 ∧ SameBut s t [QCH + 0x13] ∧
    ∀ k d, sparseFind s.feeds k = some d → sparseFind t.feeds k = some (clearNamed x.what k d) := by
  rw [after_quenchClearApply hx hnow]
  have hmh : ((s.after (clearFeeds x.what)).after (holdClear none)).memOk = true := after_memOk _ (after_memOk _ hm)
  obtain ⟨hshows, -, hsame⟩ := commitStatus_answers hmh (QCH + 0x13) (code := 2) (by decide) false
  refine ⟨?_, hshows, fun b hb => ?_, fun k d hd => ?_⟩
  · rw [unshown_qch.commitStatus.after hmh, holdClear_qch, clearFeeds_qch]
  · rw [hsame b hb, holdClear_rd, clearFeeds_rd]
  · rw [unshown_feeds.commitStatus.after hmh]
    exact sparseFind_mapped (clearNamed x.what) hd
end

/-- Settles O37: a mask of one bit has one outcome (`clearable_bit`); a clear is its checks and one capture, and at its boundary goes over
the feeds one by one. -/
theorem latchesClearOnlyWithoutTheirCondition : Obligations.LatchesClearOnlyWithoutTheirCondition := by
  refine ⟨fun s m b w hm hst hbit => ?_, fun s m p ctl hm hmaster hst => ?_⟩
  · have hm' : s.begun.memOk = true := hm
    have hexec (f : Bool) := exec_latchClear f w hst
    have hfault : clearOutcome s.begun true w = clearable (faultPresent s) s.qch.fault (2 ^ b) 9 := by rw [← hbit]; rfl
    have hwarn : clearOutcome s.begun false w = clearable (warnPresent s) s.qch.warn (2 ^ b) 4 := by rw [← hbit]; rfl
    refine ⟨fun hmaster hb => ⟨fun hset habsent => ⟨_, hexec true, ?_⟩, fun hset hpresent => ⟨_, hexec true, ?_⟩, fun hset => ?_⟩,
      fun hmaster hb => ⟨fun hset habsent => ⟨_, hexec false, ?_⟩, fun hset hpresent => ⟨_, hexec false, ?_⟩, fun hset => ?_⟩,
      fun hmaster f => ⟨_, hexec f, latchClear_foreign hm' hmaster⟩⟩
    · exact latchClear_clears hmaster (hfault.trans (clearable_absent hb hset habsent))
    · exact latchClear_present hm' hmaster (hfault.trans (clearable_present hb hset hpresent))
    · rw [hexec true, latchClear_unset hmaster (hfault.trans (clearable_unset hset))]
    · exact latchClear_clears hmaster (hwarn.trans (clearable_absent hb hset habsent))
    · exact latchClear_present hm' hmaster (hwarn.trans (clearable_present hb hset hpresent))
    · rw [hexec false, latchClear_unset hmaster (hwarn.trans (clearable_unset hset))]
  · have hm' : s.begun.memOk = true := hm
    have hcancel := exec_quenchClearCancel hst
    refine ⟨fun hrun hauth hnone hat hnear hfar => ⟨_, exec_quenchClear ctl hst, ?_⟩,
      fun x hx hrole => ⟨fun hnear => ⟨_, hcancel, ?_⟩, fun hlate => ⟨_, hcancel, ?_⟩⟩,
      fun x hx hnow => ⟨_, exec_quenchClearApply s, quenchClearApply_leaves (s := s.begun) hx hm' hnow⟩,
      fun x hx hne => congrArg Host.Outcome.next (quenchClearApply_waits (s := s.begun) hx hne)⟩
    · exact quenchClear_held hm' hmaster ctl hnone hat (commitCheck_inTime (s := s.begun) hrun hauth hnear hfar)
    · exact quenchClearCancel_removes hm' hmaster hx (cancelCheck_inTime (s := s.begun) hrole hnear)
    · exact quenchClearCancel_late hm' hmaster hx (cancelCheck_late (s := s.begun) hrole hlate)

end Sys2Proof.Machine

/-! SUPPORT. Temper's bank swaps: requested, held and cancelled, started at their boundary, and the end of a fade (R228-R233). -/
namespace Sys2Proof.Machine
open Sys2Proof

/-! ### Temper's block, and TPR_SWAP_STATUS (R230) -/

theorem quiet_tpr : Quiet (·.tpr) := quiet_of fun _ _ h => congrArg (fun (_, _, tpr, _) => tpr) h

theorem unshown_tpr : Unshown (·.tpr) := ⟨⟨⟨mem_tpr⟩, out_tpr, log_tpr, drc_tpr⟩, twn_tpr⟩

theorem sendSum_rd {k : Nat} : Keeps rd (sendSum k) := keeps_when fun s => keeps_actsAt s ⟨tongsSend_rd, fun _ _ => rfl⟩

/-- `t` has the swaps `v`; of the words of `s` it differs at most in TPR_SWAP_STATUS, which shows a code. -/
structure SwapAnswered (s t : State) (v : Tpr) (code : Nat) : Prop where
  tpr : t.tpr = v
  shows : rdF t (TPR + 0x13) 7 0 = code
  same : SameBut s t [TPR + 0x13]

section
variable {s : State} (hm : s.memOk = true) {code : Nat} (hcode : code < 256)

theorem SwapAnswered.forward {t : State} {v : Tpr} (h : SwapAnswered s t v code) (ht : t.memOk = true) (item : FwdItem) :
    SwapAnswered s (t.after (Machine.forward item none)) v code := by
  have hrd : rd (t.after (Machine.forward item none)) = rd t := forward_rd.after ht
  exact ⟨(quiet_tpr.forward.after ht).trans h.tpr, (rdF_congr (congrFun hrd _) 7 0).trans h.shows,
    fun b hb => (congrFun hrd b).trans (h.same b hb)⟩

include hm hcode

theorem swapStatus_answers : SwapAnswered s (s.after (swapStatus code)) s.tpr code := by
  have hmp := after_memOk (pokeF (TPR + 0x13) 7 0 code) hm
  have hreport (c : State → Bool) : Keeps rd (when c (report (srcOf TPR) .commitEnd code TPR)) := keeps_when report_rd
  have hwords : rd (s.after (swapStatus code)) = rd (s.after (pokeF (TPR + 0x13) 7 0 code)) := by
    rw [swapStatus, after_two]
    exact (hreport _).after hmp
  refine ⟨quiet_tpr.swapStatus.after hm, ?_, fun b hb => ?_⟩
  · rw [rdF_congr (congrFun hwords _), rdF_pokeF hm _ code (by decide) (by decide)]
    exact Nat.mod_eq_of_lt hcode
  · rw [hwords]
    exact (keeps_pokeF _ b _ _ _ (List.ne_of_not_mem_cons hb)).after hm

/-- The swaps are changed, and the outcome shows. -/
theorem swapChange_answers (g : State → Tpr → Tpr) : SwapAnswered s (s.after (seq [onTpr g, swapStatus code])) (g s s.tpr) code := by
  obtain ⟨htpr, hshows, hsame⟩ := swapStatus_answers (after_memOk (onTpr g) hm) hcode
  rw [after_two]
  exact ⟨htpr, hshows, hsame⟩
end

/-! ### BANK_SWAP_REQUEST (R228, R230) -/

theorem exec_bankSwapRequest (m : Nat) (ctl : Word) (s : State) :
    exec (.bankSwapRequest m ctl) s = .next (s.begun.after (bankSwapRequest m ctl)) := rfl

theorem swapMaster_static {s : State} {m : Nat} (hmaster : m < 2) (h : staticOf s secEq = true) : swapMaster s m = false := by
  have hne : (m == 2) = false := beq_eq_false_iff_ne.2 (Nat.ne_of_lt hmaster)
  rw [swapMaster, h, hne, Bool.not_true, Bool.or_self, Bool.and_false]

/-- An act that does not run is as if it were not there. -/
theorem after_seq_when_neg {s : State} {c : State → Bool} {a : Act} {as : List Act} (h : c s = false) :
    s.after (seq (when c a :: as)) = s.after (seq as) := by
  rw [after_seq_cons, after_when_neg h]

section
variable {s : State} (hm : s.memOk = true) {q : SwapReq} (hpend : s.tpr.pend = none)
include hm hpend

theorem holdSwap_pends (hfade : s.tpr.fade = none) : SwapAnswered s (s.after (holdSwap q)) { s.tpr with pend := some q } 1 := by
  have hact : s.after (holdSwap q) = s.after (seq [onTpr fun _ t => { t with pend := some q }, swapStatus 1]) := by
    have hnone : s.tpr.pend.isSome = false := congrArg Option.isSome hpend
    refine Eq.trans (after_congr ?_) (after_seq_when_neg (c := fun s => s.tpr.pend.isSome) (a := swapStatus 6) hnone)
    simp only [holdSwap, hfade, Option.isSome_none, Bool.false_and, Bool.false_eq_true, if_false]
  rw [hact]
  exact swapChange_answers hm (by decide) _

theorem holdSwap_queues (hqueued : s.tpr.queued = none) (hfade : s.tpr.fade.isSome = true) :
    SwapAnswered s (s.after (holdSwap q)) { s.tpr with queued := some q } 2 := by
  have hact : s.after (holdSwap q) = s.after (seq [onTpr fun _ t => { t with queued := some q }, swapStatus 2]) := by
    have hnone : s.tpr.queued.isSome = false := congrArg Option.isSome hqueued
    refine Eq.trans (after_congr ?_) (after_seq_when_neg (c := fun s => s.tpr.queued.isSome) (a := swapStatus 6) hnone)
    simp only [holdSwap, hfade, hpend, Option.isNone_none, Bool.and_self, if_true]
  rw [hact]
  exact swapChange_answers hm (by decide) _
end

section
variable {s : State} {m : Nat} (hst : stagedOf s m = none)
include hst

theorem bankSwapRequest_refused (ctl : Word) (hmaster : swapMaster s m = false) :
    s.after (bankSwapRequest m ctl) = s.after (refused m (TPR + 0x12) true) :=
  (after_congr (if_pos (by rw [hmaster]; rfl))).trans (after_writing hst _)

/-- A request that passes its checks is held, and goes to the partner. -/
theorem bankSwapRequest_held {ctl : Word} {p : Nat} (hmaster : swapMaster s m = true) (hat : atOf s (TPR + 0x10) = p)
    (hcheck : commitCheck s false p = .inr p) (hfade : flag ctl 1 = true → 4 ≤ fld ctl 7 4 ∧ fld ctl 7 4 ≤ 14) :
    s.after (bankSwapRequest m ctl) = (s.after (holdSwap (swapReq ctl p))).after (forward (.swap p ctl) none) := by
  have hlog : (flag ctl 1 && (decide (fld ctl 7 4 < 4) || decide (14 < fld ctl 7 4))) = false := by
    cases hflag : flag ctl 1 with
    | false => rfl
    | true =>
      obtain ⟨hlo, hhi⟩ := hfade hflag
      simp only [Bool.true_and, Bool.or_eq_false_iff, decide_eq_false_iff_not]
      omega
  rw [← after_two]
  refine Eq.trans (after_congr ?_) (after_writing hst _)
  simp only [bankSwapRequest, hmaster, hat, hcheck, hlog, Bool.not_true, Bool.false_eq_true, if_false]
  rfl
end

/-! ### BANK_SWAP_CANCEL (R205, R233) -/

theorem exec_bankSwapCancel (m : Nat) (s : State) : exec (.bankSwapCancel m) s = .next (s.begun.after (bankSwapCancel m)) := rfl

theorem swapStartOf_pending {s : State} {q : SwapReq} (h : s.tpr.pend = some q) : swapStartOf s = some q.at' := by
  simp only [swapStartOf, h]

theorem swapStartOf_none {s : State} (hpend : s.tpr.pend = none) (hqueued : s.tpr.queued = none) : swapStartOf s = none := by
  simp only [swapStartOf, hpend, hqueued]

theorem dropSwap_pending {s : State} {q : SwapReq} (h : s.tpr.pend = some q) :
    s.after dropSwap = s.after (onTpr fun _ t => { t with pend := none }) := by
  have hsome : s.tpr.pend.isSome = true := congrArg Option.isSome h
  exact after_congr (by simp only [dropSwap, onTpr, hsome, if_true])

/-- TPR_SWAP_STATUS for a cancel that the check of R205 answers with `c`, and not with CANCELLED. -/
def cancelRefusal (c : Nat) : Nat := if c = 6 then 0x0A else if c = 9 then 0x0D else 0x0E

theorem cancelRefusal_lt (c : Nat) : cancelRefusal c < 256 := by unfold cancelRefusal; split_ifs <;> decide

section
variable {s : State} {m : Nat} (hst : stagedOf s m = none) (hm : s.memOk = true) (hmaster : swapMaster s m = true)
include hst hm hmaster

theorem bankSwapCancel_removes {q : SwapReq} (hpend : s.tpr.pend = some q) (h : cancelCheck s (some q.at') = 8) :
    SwapAnswered s (s.after (bankSwapCancel m)) { s.tpr with pend := none } 0x0C := by
  have hact : s.after (bankSwapCancel m) =
      (s.after (seq [onTpr fun _ t => { t with pend := none }, swapStatus 0x0C])).after (forward .swapCancel none) := by
    rw [after_two, ← dropSwap_pending hpend, ← after_three]
    refine Eq.trans (after_congr ?_) (after_writing hst _)
    simp only [bankSwapCancel, hmaster, swapStartOf_pending hpend, h, Bool.not_true, Bool.false_eq_true, if_false, if_true]
    rfl
  rw [hact]
  exact (swapChange_answers hm (by decide) _).forward (after_memOk _ hm) .swapCancel

theorem bankSwapCancel_refused {p : Option Nat} {c : Nat} (hstart : swapStartOf s = p) (h : cancelCheck s p = c) (hne : c ≠ 8) :
    SwapAnswered s (s.after (bankSwapCancel m)) s.tpr (cancelRefusal c) := by
  have hact : s.after (bankSwapCancel m) = s.after (swapStatus (cancelRefusal c)) := by
    refine Eq.trans (after_congr ?_) (after_writing hst _)
    simp only [bankSwapCancel, hmaster, hstart, h, hne, Bool.not_true, Bool.false_eq_true, if_false]
    rfl
  rw [hact]
  exact swapStatus_answers hm (cancelRefusal_lt c)
end

/-! ### BANK_SWAP_START (R231) -/

theorem exec_bankSwapStart (s : State) : exec .bankSwapStart s = .next (s.begun.after bankSwapStart) := rfl

/-- Temper's block once a swap to another bank starts at boundary `b`: a hard one is done with, a fading one has begun. -/
def SwapReq.starts (q : SwapReq) (b : Nat) (t : Tpr) : Tpr :=
  match q.fade with
  | none => { t with cur := q.target }
  | some lg => { t with fade := some (b, lg, q.target) }

/-- APPLIED or FADING. -/
def SwapReq.startCode (q : SwapReq) : Nat := if q.fade.isSome then 3 else 4

section
variable {q : SwapReq}

theorem SwapReq.starts_hard (h : q.fade = none) (b : Nat) : q.starts b = fun t => { t with cur := q.target } := by
  funext t
  rw [SwapReq.starts, h]

theorem SwapReq.starts_fading {lg : Nat} (h : q.fade = some lg) (b : Nat) :
    q.starts b = fun t => { t with fade := some (b, lg, q.target) } := by
  funext t
  rw [SwapReq.starts, h]

theorem SwapReq.startCode_hard (h : q.fade = none) : q.startCode = 4 := by rw [SwapReq.startCode, h]; rfl

theorem SwapReq.startCode_fading {lg : Nat} (h : q.fade = some lg) : q.startCode = 3 := by rw [SwapReq.startCode, h]; rfl
end

theorem SwapReq.startCode_lt (q : SwapReq) : q.startCode < 256 := by unfold SwapReq.startCode; split <;> decide

section
variable {s : State} {q : SwapReq}

theorem startSwap_same_bank (hm : s.memOk = true) (b : Nat) (h : q.target = s.tpr.cur) :
    SwapAnswered s (s.after (startSwap q b)) s.tpr 5 := by
  have hact : s.after (startSwap q b) = s.after (swapStatus 5) := after_congr (if_pos h.symm)
  rw [hact]
  exact swapStatus_answers hm (by decide)

/-- With no sum of the partner's to compare, a swap to another bank stores its boundary, sends its own sum and takes its course. -/
theorem after_startSwap (b : Nat) (h : q.target ≠ s.tpr.cur) (hsum : s.tpr.partnerSum = none) : s.after (startSwap q b) =
    ((s.after (pokePair (TPR + 0x14) b)).after (sendSum q.target)).after (seq [onTpr fun _ => q.starts b, swapStatus q.startCode]) := by
  have hact : s.after (startSwap q b) = s.after (seq [pokePair (TPR + 0x14) b, sendSum q.target, nop,
      seq [onTpr fun _ => q.starts b, swapStatus q.startCode]]) := by
    refine after_congr ?_
    cases hfade : q.fade with
    | none => simp only [startSwap, if_neg (Ne.symm h), hsum, hfade, SwapReq.starts_hard hfade, SwapReq.startCode_hard hfade]
    | some lg => simp only [startSwap, if_neg (Ne.symm h), hsum, hfade, SwapReq.starts_fading hfade, SwapReq.startCode_fading hfade]
  rw [hact, after_four]
  rfl

theorem startSwap_other_bank (hm : s.memOk = true) {b : Nat} (hb : b < 2 ^ 64) (h : q.target ≠ s.tpr.cur)
    (hsum : s.tpr.partnerSum = none) : let t := s.after (startSwap q b)
    t.tpr = q.starts b s.tpr ∧ rdF t (TPR + 0x13) 7 0 = q.startCode ∧ rdPair t (TPR + 0x14) = b := by
  have hmp := after_memOk (pokePair (TPR + 0x14) b) hm
  have hms := after_memOk (sendSum q.target) hmp
  obtain ⟨htpr, hshows, hsame⟩ := swapChange_answers hms q.startCode_lt fun _ => q.starts b
  have hkept : ((s.after (pokePair (TPR + 0x14) b)).after (sendSum q.target)).tpr = s.tpr :=
    (quiet_tpr.sendSum.after hmp).trans (quiet_tpr.pokePair.after hm)
  have hsent : rd ((s.after (pokePair (TPR + 0x14) b)).after (sendSum q.target)) = rd (s.after (pokePair (TPR + 0x14) b)) :=
    sendSum_rd.after hmp
  have hpair (a : Nat) (ha : a ≠ TPR + 0x13) := (hsame a (mt List.mem_singleton.1 ha)).trans (congrFun hsent a)
  rw [after_startSwap b h hsum]
  refine ⟨by rw [htpr, hkept], hshows, ?_⟩
  rw [rdPair, rdF_congr (hpair _ (by decide)), rdF_congr (hpair _ (by decide))]
  exact pokePair_rdPair hm _ hb

section
variable (hpend : s.tpr.pend = some q)
include hpend

theorem bankSwapStart_waits (h : q.at' ≠ renderN s + 1) : s.after bankSwapStart = s := by
  simp only [State.after, bankSwapStart, hpend, if_neg h, applyAll_nil]

/-- A swap that starts no longer waits. -/
theorem after_bankSwapStart (hnow : q.at' = renderN s + 1) :
    s.after bankSwapStart = (applyEff s (.tpr { s.tpr with pend := none })).after (startSwap q q.at') := by
  have hact : s.after bankSwapStart = s.after (seq [onTpr fun _ t => { t with pend := none }, startSwap q q.at']) :=
    after_congr (by simp only [bankSwapStart, hpend, if_pos hnow])
  rw [hact, after_two]
  rfl
end
end

/-! ### FADE_END (R231) -/

theorem exec_fadeEnd (s : State) : exec .fadeEnd s = .next (s.begun.after fadeEnd) := rfl

/-- The target of a fade becomes current, and nothing is queued any more. -/
def endFade (tg : Nat) : Act := onTpr fun _ t => { t with fade := none, cur := tg, queued := none }

theorem endFade_answers {s : State} (hm : s.memOk = true) (tg : Nat) :
    SwapAnswered s (s.after (seq [endFade tg, swapStatus 4])) { s.tpr with fade := none, cur := tg, queued := none } 4 :=
  swapChange_answers hm (by decide) _

section
variable {s : State} {st lg tg : Nat} (hfade : s.tpr.fade = some (st, lg, tg))
include hfade

theorem fadeEnd_goes_on (h : renderN s + 1 ≠ st + 2 ^ lg) : s.after fadeEnd = s := by
  simp only [State.after, fadeEnd, hfade, if_pos h, applyAll_nil]

variable (hm : s.memOk = true) (hnow : renderN s + 1 = st + 2 ^ lg)
include hm hnow

theorem fadeEnd_alone (hqueued : s.tpr.queued = none) :
    SwapAnswered s (s.after fadeEnd) { s.tpr with fade := none, cur := tg } 4 := by
  have hact : s.after fadeEnd = s.after (seq [endFade tg, swapStatus 4]) := by
    have hbody : s.after fadeEnd = s.after (seq [endFade tg, swapStatus 4, nop]) := by
      refine after_congr ?_
      simp only [fadeEnd, hfade, hqueued, if_neg (not_not_intro hnow)]
      rfl
    rw [hbody, after_three, after_two]
    rfl
  have hsame : { s.tpr with fade := none, cur := tg, queued := none } = { s.tpr with fade := none, cur := tg } :=
    congrArg (fun v => { s.tpr with fade := none, cur := tg, queued := v }) hqueued.symm
  rw [hact, ← hsame]
  exact endFade_answers hm tg

theorem fadeEnd_next_waits {q : SwapReq} (hqueued : s.tpr.queued = some q) (hlater : renderN s + 1 < q.at') :
    SwapAnswered s (s.after fadeEnd) { s.tpr with fade := none, cur := tg, queued := none, pend := some q } 1 := by
  have hact : s.after fadeEnd = (s.after (seq [endFade tg, swapStatus 4])).after
      (seq [onTpr fun _ t => { t with pend := some q }, swapStatus 1]) := by
    rw [after_two (endFade tg), ← after_three]
    refine after_congr ?_
    simp only [fadeEnd, hfade, hqueued, if_neg (not_not_intro hnow), if_neg (Nat.not_le.2 hlater)]
    rfl
  obtain ⟨hended, -, hfirst⟩ := endFade_answers hm tg
  obtain ⟨hnext, hshows, hsecond⟩ := swapChange_answers (after_memOk (seq [endFade tg, swapStatus 4]) hm) (code := 1) (by decide)
    fun _ t => { t with pend := some q }
  rw [hact]
  exact ⟨by rw [hnext, hended], hshows, hfirst.trans hsecond⟩
end

/-- Settles O20: a request is its checks and one hold, a cancel is one check; at its boundary a swap takes one of three courses
(`startSwap_same_bank`, `startSwap_other_bank`), and a fade's end releases what is queued. -/
theorem bankSwapsStartAndFadeAtTheirPeriods : Obligations.BankSwapsStartAndFadeAtTheirPeriods := by
  intro s m p ctl q hm _ hst
  have hm' : s.begun.memOk = true := hm
  have hst' : stagedOf s.begun m = none := hst
  have hask := exec_bankSwapRequest m ctl s
  have hcancel := exec_bankSwapCancel m s
  refine ⟨fun hlow hstatic => ⟨_, hask, ?_⟩, fun hmay hrun hauth hat hnear hfar hpend hqueued hlog => ?_,
    fun hmay hrole => ⟨fun hpend hnear => ⟨_, hcancel, ?_⟩, fun hpend hlate => ⟨_, hcancel, ?_⟩,
      fun hpend hqueued => ⟨_, hcancel, ?_⟩⟩,
    fun hmay hrole => ⟨_, hcancel, ?_⟩, fun hpend hnow hlt hsum => ?_,
    fun hpend hne => congrArg Host.Outcome.next (bankSwapStart_waits (s := s.begun) hpend hne),
    fun st lg tg hfade => ⟨fun hnow hqueued => ⟨_, exec_fadeEnd s, ?_⟩, fun hnow hqueued hlater => ⟨_, exec_fadeEnd s, ?_⟩,
      fun hne => congrArg Host.Outcome.next (fadeEnd_goes_on (s := s.begun) hfade hne)⟩⟩
  · rw [bankSwapRequest_refused hst' ctl (swapMaster_static (s := s.begun) hlow hstatic)]
    exact ⟨(unshown_tpr.refused hth_tpr _ _ true).after hm', refused_same hm' _ _ true⟩
  · have hcheck := commitCheck_inTime (s := s.begun) hrun hauth hnear hfar
    rw [hask, bankSwapRequest_held hst' hmay hat hcheck hlog]
    refine ⟨fun hfade => ⟨_, rfl, ?_⟩, fun hfade => ⟨_, rfl, ?_⟩⟩
    · obtain ⟨htpr, hshows, hsame⟩ :=
        (holdSwap_pends hm' (q := swapReq ctl p) hpend hfade).forward (after_memOk _ hm') (.swap p ctl)
      exact ⟨htpr, hshows, hsame⟩
    · obtain ⟨htpr, hshows, hsame⟩ :=
        (holdSwap_queues hm' (q := swapReq ctl p) hpend hqueued hfade).forward (after_memOk _ hm') (.swap p ctl)
      exact ⟨htpr, hshows, hsame⟩
  · have h := bankSwapCancel_removes hst' hm' hmay hpend (cancelCheck_inTime (s := s.begun) hrole hnear)
    exact ⟨h.tpr, h.shows⟩
  · have hstart : swapStartOf s.begun = some q.at' := swapStartOf_pending hpend
    have h := bankSwapCancel_refused hst' hm' hmay hstart (cancelCheck_late (s := s.begun) hrole hlate) (by decide)
    exact ⟨h.tpr, h.shows⟩
  · have hstart : swapStartOf s.begun = none := swapStartOf_none hpend hqueued
    have h := bankSwapCancel_refused hst' hm' hmay hstart (cancelCheck_none (s := s.begun) hrole) (by decide)
    exact ⟨h.tpr, h.shows⟩
  · have h := bankSwapCancel_refused hst' hm' hmay rfl (cancelCheck_standby (s := s.begun) _ hrole) (by decide)
    exact ⟨h.tpr, h.shows⟩
  · let u := applyEff s.begun (.tpr { s.tpr with pend := none })
    have hmu : u.memOk = true := hm
    have hmove (hne : q.target ≠ s.tpr.cur) := startSwap_other_bank (s := u) hmu hlt hne hsum
    rw [exec_bankSwapStart, after_bankSwapStart (s := s.begun) hpend hnow]
    refine ⟨fun hne hhard => ⟨_, rfl, ?_⟩, fun lg hne hfade => ⟨_, rfl, ?_⟩, fun heq => ⟨_, rfl, ?_⟩⟩
    · have h := hmove hne
      rw [SwapReq.starts_hard hhard, SwapReq.startCode_hard hhard] at h
      exact h
    · have h := hmove hne
      rw [SwapReq.starts_fading hfade, SwapReq.startCode_fading hfade] at h
      exact h
    · have h := startSwap_same_bank (s := u) hmu q.at' heq
      exact ⟨h.tpr, h.shows⟩
  · obtain ⟨htpr, hshows, hsame⟩ := fadeEnd_alone (s := s.begun) hfade hm' hnow hqueued
    exact ⟨htpr, hshows, hsame⟩
  · have h := fadeEnd_next_waits (s := s.begun) hfade hm' hnow hqueued hlater
    exact ⟨h.tpr, h.shows⟩

end Sys2Proof.Machine

/-! SUPPORT. How an instruction issues whatever its body does, and the bodies that change at most the run of their context (R254, R266). -/
namespace Sys2Proof.Machine
open Sys2Proof

/-! ### Issue, whatever the body does -/

theorem after_setRun {s : State} {c : Nat} {f : LaneRun → LaneRun} {r : LaneRun} (h : runOf s c = some r) :
    s.after (setRun c f) = s.withRun c (f r) := setRun_after s c f r h

/-- An instruction that issues leaves what its body leaves, with its slot marked in the run, and the bundle's close. -/
theorem run_issue {s : State} {c : Nat} {k : LSlot} {enc : Option Nat} {body : LaneRun → Act} {r q : LaneRun} (h : Issues s c k enc r)
    (hq : runOf (s.begun.after (body r)) c = some q) : run (issue c k enc body) s =
      ((s.begun.after (body r)).withRun c { q with issued := q.issued ||| 2 ^ k.bit }).after (close c) := by
  obtain ⟨hrun, hloop, hgoing, hslot, henc, hgate, hsoft⟩ := h
  have hrun' : runOf s.begun c = some r := hrun
  have hgate' : gate s.begun c r (bundleAt (rd s.begun) (ctxLanes s.begun c).1 r.pc) = none := hgate
  have henc' : enc = some (slotOf (bundleAt (rd s.begun) (ctxLanes s.begun c).1 r.pc) k) := henc
  have hsoft' : softFetch s.begun c r = [] := hsoft
  have hissue : issue c k enc body s.begun =
      seq [body r, setRun c fun r => { r with issued := r.issued ||| 2 ^ k.bit }, close c] s.begun := by
    simp only [issue, hrun', hgate', hloop, hgoing, hslot, henc', hsoft']
    simp [each, seq]
  calc run (issue c k enc body) s
      = s.begun.after (seq [body r, setRun c fun r => { r with issued := r.issued ||| 2 ^ k.bit }, close c]) :=
        congrArg (applyAll · s.begun) hissue
    _ = _ := by rw [after_seq_cons, after_seq_cons, after_seq_cons, after_seq_nil, after_setRun hq]

/-- A bundle with a slot still to issue does not close (R266). -/
theorem close_open {s : State} {c : Nat} {r : LaneRun} (h : runOf s c = some r) (hopen : r.issued ≠ 15) : s.after (close c) = s := by
  simp [State.after, close, h, hopen]

/-! ### Acts that change at most a run and the count of free values -/

/-- From `s` to `t` nothing changes but the run of context c, whose issued slots stay, and the count of free values. -/
def OnlyRunMoves (c : Nat) (s t : State) : Prop :=
  ∃ r q f, runOf s c = some r ∧ runOf t c = some q ∧ q.issued = r.issued ∧ ∀ p, t.withRun c p = (s.drawn f).withRun c p

theorem OnlyRunMoves.refl {c : Nat} {s : State} {r : LaneRun} (h : runOf s c = some r) : OnlyRunMoves c s s :=
  ⟨r, r, s.free, h, h, rfl, fun _ => rfl⟩

theorem OnlyRunMoves.trans {c : Nat} {s t u : State} (hst : OnlyRunMoves c s t) (htu : OnlyRunMoves c t u) : OnlyRunMoves c s u := by
  obtain ⟨r, q, f, hr, hq, hissued, hs⟩ := hst
  obtain ⟨q', x, f', hq', hx, hissued', ht⟩ := htu
  obtain rfl : q = q' := Option.some.inj (hq.symm.trans hq')
  refine ⟨r, x, f', hr, hx, hissued'.trans hissued, fun p => ?_⟩
  calc u.withRun c p = (t.withRun c p).drawn f' := ht p
    _ = ((s.drawn f).withRun c p).drawn f' := by rw [hs]
    _ = (s.drawn f').withRun c p := rfl

theorem OnlyRunMoves.put {c : Nat} {s : State} {r q : LaneRun} (h : runOf s c = some r) (hq : q.issued = r.issued) :
    OnlyRunMoves c s (s.withRun c q) :=
  ⟨r, q, s.free, h, withRun_runOf _ _ _, hq, fun _ => withRun_withRun _ _ _ _⟩

theorem OnlyRunMoves.draw {c : Nat} {s : State} {r : LaneRun} (h : runOf s c = some r) (f : Nat) : OnlyRunMoves c s (s.drawn f) :=
  ⟨r, r, f, h, h, rfl, fun _ => rfl⟩

/-- The act, in a state where context c runs an item, moves only that run. -/
def MovesRun (c : Nat) (a : Act) : Prop := ∀ s r, runOf s c = some r → OnlyRunMoves c s (s.after a)

section
variable {c : Nat}

theorem movesRun_nop : MovesRun c nop := fun _ _ h => .refl h

theorem movesRun_seq {as : List Act} (h : ∀ a ∈ as, MovesRun c a) : MovesRun c (seq as) := by
  induction as with
  | nil => exact fun _ _ hr => .refl hr
  | cons a as ih =>
    intro s r hr
    have hfirst := h a List.mem_cons_self s r hr
    obtain ⟨-, q, -, -, hq, -⟩ := id hfirst
    rw [after_seq_cons]
    exact hfirst.trans (ih (fun b hb => h b (List.mem_cons_of_mem a hb)) _ q hq)

theorem movesRun_acts {as : List Act} (h : as.Forall (MovesRun c)) : MovesRun c (seq as) :=
  movesRun_seq (List.forall_iff_forall_mem.1 h)

theorem movesRun_each {α : Type} {l : List α} {f : α → Act} (h : ∀ x, MovesRun c (f x)) : MovesRun c (each l f) :=
  movesRun_seq fun a ha => by
    obtain ⟨x, -, rfl⟩ := List.mem_map.1 ha
    exact h x

theorem movesRun_if {p : Prop} [Decidable p] {a b : Act} (ha : MovesRun c a) (hb : MovesRun c b) : MovesRun c (if p then a else b) := by
  split
  · exact ha
  · exact hb

theorem movesRun_draw {tag : Nat} {k : Nat → Act} (h : ∀ v, MovesRun c (k v)) : MovesRun c (draw tag k) := fun s _ hr =>
  (OnlyRunMoves.draw hr (s.free + 1)).trans (h (Config.freeNat tag s.free) (s.drawn (s.free + 1)) _ hr)

theorem movesRun_setRun {f : LaneRun → LaneRun} (h : ∀ r, (f r).issued = r.issued) : MovesRun c (setRun c f) := fun s r hr => by
  rw [after_setRun hr]
  exact .put hr (h r)

theorem movesRun_lands (ls : List Landing) : MovesRun c (lands c ls) := movesRun_setRun fun _ => rfl

theorem movesRun_landsFree (reg : LReg) (v lat : Nat) : MovesRun c (landsFree c reg v lat) := fun s r hr => by
  have h : landsFree c reg v lat s = (if r.fly.any (fun f => f.reg == reg && f.due == r.step + lat) then
      draw 279 (fun k => lands c [(reg, v, lat, if k % 2 = 0 then 0 else 2)]) else lands c [(reg, v, lat, 0)]) s := by
    simp only [landsFree, hr]
    split <;> rfl
  rw [State.after, h]
  exact movesRun_if (movesRun_draw fun _ => movesRun_lands _) (movesRun_lands _) s r hr

theorem movesRun_result (r : LaneRun) (k : LSlot) (dd lat : Nat) (v : Flagged Word) : MovesRun c (result c r k dd lat v) :=
  movesRun_acts ⟨movesRun_lands _, movesRun_lands _⟩

theorem movesRun_setAccs (vs : List (Nat × Flagged Int)) : MovesRun c (setAccs c vs) :=
  movesRun_each fun _ => movesRun_acts ⟨movesRun_setRun fun _ => rfl, movesRun_lands _⟩

/-- A post-modification lands the value of R244, or where R245 leaves it open a free one. -/
theorem modify_eq_lands {r : LaneRun} {k v : Nat} {m : Int} (y : Bool)
    (h : postMod (amOf r k) (bReg r k) (lReg r k) (aReg r k) m = some v) :
    modify c r y k m = lands c [(.a k, v, 1, if y then 2 else 1)] := by rw [modify, h]

theorem modify_eq_draw {r : LaneRun} {k : Nat} {m : Int} (y : Bool) (h : postMod (amOf r k) (bReg r k) (lReg r k) (aReg r k) m = none) :
    modify c r y k m = draw 245 fun v => lands c [(.a k, v % 2 ^ 32, 1, if y then 2 else 1)] := by rw [modify, h]

theorem movesRun_modify (r : LaneRun) (y : Bool) (k : Nat) (m : Int) : MovesRun c (modify c r y k m) := by
  cases h : postMod (amOf r k) (bReg r k) (lReg r k) (aReg r k) m with
  | some v => rw [modify_eq_lands y h]; exact movesRun_lands _
  | none => rw [modify_eq_draw y h]; exact movesRun_draw fun _ => movesRun_lands _

end

/-- An instruction whose body moves only the run, in a bundle with a slot still to issue, changes only that run. -/
theorem issue_frame {s : State} {c : Nat} {k : LSlot} {enc : Option Nat} {body : LaneRun → Act} {r : LaneRun} {i : Instr}
    (hi : exec i s = done (issue c k enc body) s) (hbody : MovesRun c (body r)) (h : Issues s c k enc r)
    (hopen : r.issued ||| 2 ^ k.bit ≠ 15) : ∃ t, exec i s = .next t ∧ OnlyRunChanges s t c := by
  obtain ⟨r', q, f, hr, hq, hissued, hmoves⟩ := hbody s.begun r h.1
  obtain rfl : r' = r := Option.some.inj (hr.symm.trans h.1)
  refine ⟨_, hi.trans (congrArg Host.Outcome.next (run_issue h hq)), { q with issued := q.issued ||| 2 ^ k.bit }, f, ?_⟩
  rw [close_open (withRun_runOf _ _ _) (by rw [hissued]; exact hopen), hmoves]

/-- Settles O30: the body of each instruction moves only the run of its context, and the bundle stays open. -/
theorem laneInstructionsTouchOnlyTheirRun : Obligations.LaneInstructionsTouchOnlyTheirRun := by
  intro s p dd ds g imm n ra rb ac aln neg agree y a m k r hr
  have halu (i : Instr) (op dd ds : Nat) (f : LaneRun → Flagged Word) (hi : exec i s = done (alu p op dd ds g f) s) :=
    issue_frame hi (r := r) (movesRun_if (movesRun_result r .g dd 1 (f r)) movesRun_nop)
  have hcmp (i : Instr) (op : Nat) (f : LaneRun → Bool) (hi : exec i s = done (cmp p op dd ds g f) s) :=
    issue_frame hi (r := r) (movesRun_if movesRun_nop (movesRun_landsFree _ _ _))
  have hctl (i : Instr) (op dd ds : Nat) (f : LaneRun → List Landing) (hi : exec i s = done (ctl p op dd ds g f) s) :=
    issue_frame hi (r := r) (movesRun_if (movesRun_lands (f r)) movesRun_nop)
  have hend (i : Instr) (op : Nat) (yield : Bool) (hi : exec i s = done (endItem p op g yield agree) s) :=
    issue_frame hi (r := r) (movesRun_if (movesRun_setRun fun _ => rfl) movesRun_nop)
  have hbranch (i : Instr) (kind : Nat) (taken : LaneRun → Bool) (target : LaneRun → Nat)
      (hi : exec i s = done (branch p kind g n taken target) s) := issue_frame hi (r := r) (movesRun_setRun fun _ => rfl)
  have hloop (i : Instr) (sub : Nat) (rot : Bool) (count : LaneRun → Nat) (hi : exec i s = done (loop p sub m n rot count) s) :=
    issue_frame hi (r := r) (movesRun_acts ⟨movesRun_setRun fun _ => rfl, movesRun_landsFree _ _ _, movesRun_landsFree _ _ _,
      movesRun_landsFree _ _ _⟩)
  have haccs (i : Instr) (enc : Option Nat) (f : LaneRun → List (Nat × Flagged Int))
      (hi : exec i s = done (issue p .m enc fun r => setAccs p (f r)) s) := issue_frame hi (r := r) (movesRun_setAccs (f r))
  have hread (i : Instr) (enc : Option Nat) (f : LaneRun → Flagged Word)
      (hi : exec i s = done (issue p .m enc fun r => result p r .m ra 2 (f r)) s) :=
    issue_frame hi (r := r) (movesRun_result r .m ra 2 (f r))
  have hnop : exec (.laneNop p k 0) s = done (issue p k (some 0) fun _ => nop) s := by cases k <;> rfl
  refine List.forall_iff_forall_mem.1 ⟨issue_frame hnop movesRun_nop, halu _ 1 dd ds _ rfl, halu _ 2 dd ds _ rfl, halu _ 3 dd ds _ rfl,
    halu _ 4 dd ds _ rfl, halu _ 5 dd ds _ rfl, halu _ 6 dd ds _ rfl, halu _ 7 dd ds _ rfl, halu _ 8 dd ds _ rfl, halu _ 9 dd ds _ rfl,
    halu _ 10 dd ds _ rfl, halu _ 11 dd ds _ rfl, halu _ 12 dd ds _ rfl, halu _ 13 dd ds _ rfl, halu _ 14 dd ds _ rfl,
    halu _ 15 dd ds _ rfl, halu _ 16 dd ds _ rfl, halu _ 17 dd ds _ rfl, halu _ 18 dd ds _ rfl, halu _ 19 dd ds _ rfl,
    hcmp _ 20 _ rfl, hcmp _ 21 _ rfl, hcmp _ 22 _ rfl, hcmp _ 23 _ rfl,
    hctl _ 24 dd ds _ rfl, halu _ 25 dd ds _ rfl, hctl _ 26 0 ds _ rfl, hctl _ 27 0 0 _ rfl, hctl _ 28 0 0 _ rfl,
    hend _ 29 _ rfl, hend _ 30 _ rfl, issue_frame rfl (movesRun_result r .g dd 1 _), hbranch _ 0 _ _ rfl, hbranch _ 1 _ _ rfl,
    hbranch _ 2 _ _ rfl, hloop _ 0 _ _ rfl, hloop _ 1 _ _ rfl, hloop _ 2 _ _ rfl, hloop _ 3 _ _ rfl,
    haccs _ _ _ rfl, haccs _ _ _ rfl, haccs _ _ _ rfl, haccs _ _ _ rfl, haccs _ _ _ rfl, haccs _ _ _ rfl, haccs _ _ _ rfl,
    haccs _ _ _ rfl, haccs _ _ _ rfl, haccs _ _ _ rfl, haccs _ _ _ rfl, haccs _ _ _ rfl, haccs _ _ _ rfl, haccs _ _ _ rfl,
    haccs _ _ _ rfl, haccs _ _ _ rfl, haccs _ _ _ rfl, haccs _ _ _ rfl, haccs _ _ _ rfl, hread _ _ _ rfl, hread _ _ _ rfl,
    haccs _ _ _ rfl, issue_frame rfl (movesRun_modify r y a _)⟩

end Sys2Proof.Machine

/-! SUPPORT. The ALU form of the G slot (R269): the model's results as the table writes them. -/
namespace Sys2Proof.Machine
open Sys2Proof

/-! ### Words as integers -/

theorem wdI_toInt (w : Word) : wdI w.toInt = w := BitVec.ofInt_toInt

theorem wdI_add (a b : Word) : wdI (a.toInt + b.toInt) = a + b := by
  rw [wdI, BitVec.ofInt_add, BitVec.ofInt_toInt, BitVec.ofInt_toInt]

theorem wdI_neg (a : Word) : wdI (-a.toInt) = -a := by rw [wdI, BitVec.ofInt_neg, BitVec.ofInt_toInt]

theorem wdI_sub (a b : Word) : wdI (a.toInt - b.toInt) = a - b := by
  rw [Int.sub_eq_add_neg, wdI, BitVec.ofInt_add, BitVec.ofInt_neg, BitVec.ofInt_toInt, BitVec.ofInt_toInt, BitVec.sub_eq_add_neg]

/-- A floor division by a power of two is the arithmetic shift. -/
theorem wdI_floorShift (a : Word) (n : Nat) : wdI (floorShift a.toInt n) = a.sshiftRight n := by
  rw [floorShift, Int.fdiv_eq_ediv_of_nonneg _ (by positivity), wdI, BitVec.sshiftRight, Int.shiftRight_eq_div_pow]
  rfl

theorem shiftLeft_eq_wd (a : Word) (n : Nat) : a <<< n = wd (a.toNat * 2 ^ n) :=
  BitVec.eq_of_toNat_eq (by rw [BitVec.toNat_shiftLeft, Nat.shiftLeft_eq]; rfl)

theorem shiftRight_eq_wd (a : Word) (n : Nat) : a >>> n = wd (a.toNat / 2 ^ n) := BitVec.eq_of_toNat_eq (by
  have hlt : a.toNat / 2 ^ n < 2 ^ 36 := Nat.lt_of_le_of_lt (Nat.div_le_self _ _) a.isLt
  rw [BitVec.toNat_ushiftRight, Nat.shiftRight_eq_div_pow, wd, BitVec.toNat_ofNat, Nat.mod_eq_of_lt hlt])

/-- A signed field is the two's-complement value of its bits. -/
theorem signedN_eq_toInt (v : Nat) : signedN 5 v = (BitVec.ofNat 5 v).toInt := by
  rw [signedN, BitVec.toInt_eq_toNat_cond, BitVec.toNat_ofNat]
  simp only [Nat.reducePow, Nat.reduceSub]
  split <;> split <;> omega

theorem wdI_min (a b : Word) : wdI (min a.toInt b.toInt) = if a.toInt < b.toInt then a else b := by
  split
  · rw [min_eq_left (by omega), wdI_toInt]
  · rw [min_eq_right (by omega), wdI_toInt]

theorem wdI_max (a b : Word) : wdI (max a.toInt b.toInt) = if a.toInt < b.toInt then b else a := by
  split
  · rw [max_eq_right (by omega), wdI_toInt]
  · rw [max_eq_left (by omega), wdI_toInt]

theorem abs_eq_ite (z : Int) : |z| = if z < 0 then -z else z := by
  split
  · exact abs_of_neg ‹_›
  · exact abs_of_nonneg (by omega)

/-! ### What an operation sends -/

theorem satResult_val (z : Int) : (satResult z).val = wdI (sat36 z) := by rw [satResult, saturate36_eq]

/-- FSAT is set where the clamp changes the value (R269). -/
theorem satResult_sets (z : Int) : (satResult z).sets = if sat36 z = z then [] else [2] := by
  rw [satResult, saturate36_eq]
  by_cases h : sat36 z = z
  · rw [if_pos h, decide_eq_false (not_not_intro h)]; rfl
  · rw [if_neg h, decide_eq_true h]; rfl

section
variable {s : State} {p op dd ds g : Nat} {r : LaneRun} {i : Instr}

/-- An operation whose flagged result is `w` with the flags `fs`, under its guard. -/
theorem exec_alu (f : LaneRun → Flagged Word) (hi : exec i s = done (alu p op dd ds g f) s) {w : Word} {fs : List Nat}
    (hw : (f r).val = w) (hfs : (f r).sets = fs) (h : Issues s p .g (encAlu op dd ds g) r) :
    exec i s = .next (s.issuedAs p .g (if predOf r g then r.sendingG dd w fs else r)) := by
  rw [hi, done, alu_run s p op dd ds g r f h, hw, hfs]

/-- A compare writes its predicate, and nothing where it names P0 (R269). -/
theorem exec_cmp (f : LaneRun → Bool) (hi : exec i s = done (cmp p op dd ds g f) s) {b : Bool} (hb : f r = b)
    (h : Issues s p .g (encAlu op dd ds g) r) (hfree : r.fly.any (fun e => e.reg == .pred g && e.due == r.step + 1) = false) :
    exec i s = .next (s.issuedAs p .g (if g = 0 then r else r.sending [(.pred g, b2n b, 1, 0)])) := by
  rw [hi, done, cmp]
  by_cases hg : g = 0
  · rw [if_pos hg, issue_run_nop s p .g _ _ r h (by rw [if_pos hg]; rfl)]
  · rw [if_neg hg, issue_run s p .g _ _ r _ h (by rw [if_neg hg]; exact landsFree_after _ p _ _ 1 r h.1 hfree), hb]

/-- An operation on the control registers, under its guard. -/
theorem exec_ctl (f : LaneRun → List Landing) (hi : exec i s = done (ctl p op dd ds g f) s)
    (h : Issues s p .g (encAlu op dd ds g) r) : exec i s = .next (s.issuedAs p .g (if predOf r g then r.sending (f r) else r)) := by
  rw [hi, done, ctl]
  by_cases hg : predOf r g = true
  · rw [if_pos hg, issue_run s p .g _ _ r _ h (by rw [if_pos hg]; exact lands_after _ p _ r h.1)]
  · rw [if_neg hg, issue_run_nop s p .g _ _ r h (by rw [if_neg hg]; rfl)]

end

/-- Settles O22: each operation is one result under its guard, and the results are those of the table of R269. -/
theorem laneIntegerOperationsGiveTheirResults : Obligations.LaneIntegerOperationsGiveTheirResults := by
  intro s p dd ds g r res sat prd ctl
  have hsat {i : Instr} {op : Nat} (z : LaneRun → Int) (hi : exec i s = done (alu p op dd ds g (fun r => satResult (z r))) s)
      (h : Issues s p .g (encAlu op dd ds g) r) : exec i s = sat (z r) :=
    exec_alu _ hi (satResult_val _) (satResult_sets _) h
  refine ⟨exec_alu _ rfl rfl rfl, exec_alu _ rfl (wdI_add _ _) rfl, exec_alu _ rfl (wdI_sub _ _) rfl,
    hsat (fun r => sD r dd + sD r ds) rfl,
    hsat (fun r => sD r dd - sD r ds) rfl,
    exec_alu _ rfl rfl rfl, exec_alu _ rfl rfl rfl, exec_alu _ rfl rfl rfl, exec_alu _ rfl rfl rfl, exec_alu _ rfl (wdI_neg _) rfl,
    fun h => ?_, exec_alu _ rfl (wdI_min _ _).symm rfl, exec_alu _ rfl (wdI_max _ _).symm rfl,
    exec_alu _ rfl (shiftLeft_eq_wd (rdD r dd) (uD r ds % 64)) rfl,
    exec_alu _ rfl (shiftRight_eq_wd (rdD r dd) (uD r ds % 64)) rfl, exec_alu _ rfl (wdI_floorShift _ _) rfl,
    exec_alu _ rfl (shiftLeft_eq_wd (rdD r dd) ds) rfl, exec_alu _ rfl (wdI_floorShift _ _) rfl, exec_alu _ rfl ?_ rfl,
    exec_cmp _ rfl rfl, exec_cmp _ rfl rfl, exec_cmp _ rfl rfl, exec_cmp _ rfl rfl, exec_alu _ rfl rfl rfl,
    exec_ctl (fun r => [(.rrb, uD r ds % 16, 2, 0)]) rfl, exec_ctl (fun _ => [(.im, 1, 1, 0)]) rfl,
    exec_ctl (fun _ => [(.im, 0, 1, 0)]) rfl⟩
  · rw [abs_eq_ite]
    exact hsat (fun r => if sD r ds < 0 then -(sD r ds) else sD r ds) rfl h
  · rw [signedN_eq_toInt]
    exact (BitVec.ofInt_add _ _).trans (congrArg (· + _) BitVec.ofInt_toInt)

end Sys2Proof.Machine

/-! SUPPORT. The X and Y slots (R275, R276): what a body stores or corrects beside the run, and what its post-modification leaves. -/
namespace Sys2Proof.Machine
open Sys2Proof

/-! ### Acts on words alone -/

/-- The act changes words alone: no run and no free value, and it does not look at the outputs. -/
structure OnWords (a : Act) : Prop where
  begun : ∀ s : State, s.begun.after a = (s.after a).begun
  lan : ∀ s : State, (s.after a).lan = s.lan
  free : ∀ s : State, (s.after a).free = s.free

theorem onWords_seq {as : List Act} (h : ∀ a ∈ as, OnWords a) : OnWords (seq as) := by
  induction as with
  | nil => exact ⟨fun _ => rfl, fun _ => rfl, fun _ => rfl⟩
  | cons a as ih =>
    have ha := h a List.mem_cons_self
    have has := ih fun b hb => h b (List.mem_cons_of_mem a hb)
    exact ⟨fun s => by rw [after_seq_cons, after_seq_cons, ha.begun, has.begun],
      fun s => by rw [after_seq_cons, has.lan, ha.lan], fun s => by rw [after_seq_cons, has.free, ha.free]⟩

theorem onWords_each {α : Type} {l : List α} {f : α → Act} (h : ∀ x, OnWords (f x)) : OnWords (each l f) :=
  onWords_seq fun a ha => by
    obtain ⟨x, -, rfl⟩ := List.mem_map.1 ha
    exact h x

@[simp] theorem after_nop (s : State) : s.after nop = s := rfl

theorem onWords_nop : OnWords nop := ⟨fun _ => rfl, fun _ => rfl, fun _ => rfl⟩
theorem onWords_poke (a : Nat) (w : Word) : OnWords (poke a w) := ⟨fun _ => rfl, fun _ => rfl, fun _ => rfl⟩
theorem onWords_bump (a hi lo n : Nat) : OnWords (bump a hi lo n) := ⟨fun _ => rfl, fun _ => rfl, fun _ => rfl⟩

theorem onWords_eccFix (a : Nat) : OnWords (eccFix a) := by
  unfold eccFix
  refine onWords_seq (List.forall_iff_forall_mem.1 ⟨?_, ⟨fun _ => rfl, fun _ => rfl, fun _ => rfl⟩⟩)
  split
  · exact onWords_bump _ _ _ _
  · exact onWords_nop

theorem onWords_eccRead (as : List Nat) : OnWords (eccRead as) :=
  have h (s : State) : OnWords (each (as.filter (fun a => s.soft.contains a)) eccFix) := onWords_each onWords_eccFix
  ⟨fun s => (h s).begun s, fun s => (h s).lan s, fun s => (h s).free s⟩

/-- Stores of one word in several places. -/
theorem onWords_stores {α : Type} (l : List α) (f : α → Nat) (w : Word) : OnWords (fun _ => l.map fun x => .mem (f x) w) := by
  induction l with
  | nil => exact onWords_nop
  | cons x l ih =>
    have h (s : State) : s.after (fun _ => (x :: l).map fun x => .mem (f x) w) =
      (s.after (poke (f x) w)).after (fun _ => l.map fun x => .mem (f x) w) := rfl
    exact ⟨fun s => by rw [h, h, (onWords_poke _ w).begun, ih.begun], fun s => by rw [h, ih.lan, (onWords_poke _ w).lan],
      fun s => by rw [h, ih.free, (onWords_poke _ w).free]⟩

/-- The lanes whose memories a store of context c goes to (R237). -/
def storeLanes (s : State) (c : Nat) : List Nat := if c < 32 then commitLanes s c else [(ctxLanes s c).1, (ctxLanes s c).2]

theorem onWords_putCtx (c o : Nat) (w : Word) : OnWords (putCtx c o w) :=
  have h (s : State) : OnWords (fun _ => (storeLanes s c).map fun l => .mem (laneW l o) w) := onWords_stores _ _ w
  ⟨fun s => (h s).begun s, fun s => (h s).lan s, fun s => (h s).free s⟩

/-! ### Post-modification, and what issues with it -/

theorem after_lands {s : State} {c : Nat} {ls : List Landing} {r : LaneRun} (h : runOf s c = some r) :
    s.after (lands c ls) = s.withRun c (r.sending ls) := lands_after s c ls r h

/-- A post-modification is on its way from the run as it stands (R244, R245). -/
theorem after_modify {s : State} {c : Nat} {q : LaneRun} (r : LaneRun) (y : Bool) (a : Nat) (m : Int) (h : runOf s c = some q) :
    ∃ v f, Modifies s r a m v f ∧
      s.after (modify c r y a m) = (s.drawn f).withRun c (q.sending [(.a a, v, 1, if y then 2 else 1)]) := by
  cases hm : postMod (amOf r a) (bReg r a) (lReg r a) (aReg r a) m with
  | some v => exact ⟨v, s.free, .inl ⟨hm, rfl⟩, by rw [modify_eq_lands y hm, after_lands h]; rfl⟩
  | none =>
    exact ⟨Config.freeNat 245 s.free % 2 ^ 32, s.free + 1, .inr ⟨hm, Nat.mod_lt _ (by decide), rfl⟩,
      (congrArg s.after (modify_eq_draw y hm)).trans (after_lands (s := s.drawn (s.free + 1)) h)⟩

/-- The act makes the run `q` of context c from the run `r`, and nothing else. -/
def MakesRun (c : Nat) (r q : LaneRun) (a : Act) : Prop :=
  ∀ t, runOf t c = some r → runOf (t.after a) c = some q ∧ ∀ p, (t.after a).withRun c p = t.withRun c p

theorem makesRun_nop (c : Nat) (r : LaneRun) : MakesRun c r r nop := fun _ h => ⟨h, fun _ => rfl⟩

theorem makesRun_setRun (c : Nat) (r : LaneRun) (f : LaneRun → LaneRun) : MakesRun c r (f r) (setRun c f) := fun t h => by
  rw [after_setRun h]
  exact ⟨withRun_runOf _ _ _, fun _ => withRun_withRun _ _ _ _⟩

theorem makesRun_lands (c : Nat) (r : LaneRun) (ls : List Landing) : MakesRun c r (r.sending ls) (lands c ls) :=
  makesRun_setRun c r _

section
variable {s : State} {c : Nat} {k : LSlot} {enc : Option Nat} {body : LaneRun → Act} {r q : LaneRun} {i : Instr}

/-- An instruction whose body leaves the state `u`, its outputs cleared, with the run `q`. -/
theorem exec_issuedAs {u : State} (hi : exec i s = done (issue c k enc body) s) (h : Issues s c k enc r)
    (hbody : s.begun.after (body r) = u.begun.withRun c q) : exec i s = .next (u.issuedAs c k q) := by
  rw [hi, done, run_issue h (by rw [hbody, withRun_runOf]), hbody, withRun_withRun]
  rfl

/-- An instruction whose body acts on words, makes the run `q` and post-modifies Ak. -/
theorem exec_modifies {y : Bool} {a : Nat} {m : Int} {act put : Act} (hi : exec i s = done (issue c k enc body) s)
    (h : Issues s c k enc r) (hbody : s.begun.after (body r) = s.begun.after (seq [act, put, modify c r y a m])) (hact : OnWords act)
    (hput : MakesRun c r q put) : ∃ v f, Modifies s r a m v f ∧
      exec i s = .next (((s.after act).drawn f).issuedAs c k (q.sending [(.a a, v, 1, if y then 2 else 1)])) := by
  have hrun : runOf (s.after act).begun c = some r := (congrArg (fun l : Lan => sparseFind l.run c) (hact.lan s)).trans h.1
  obtain ⟨hq, hover⟩ := hput (s.after act).begun hrun
  obtain ⟨v, f, hmod, hafter⟩ := after_modify r y a m hq
  refine ⟨v, f, ?_, exec_issuedAs hi h ?_⟩
  · have hfree : ((s.after act).begun.after put).free = s.free := (congrArg State.free (hover q)).trans (hact.free s)
    unfold Modifies at hmod ⊢
    rwa [hfree] at hmod
  · calc s.begun.after (body r) = ((s.after act).begun.after put).after (modify c r y a m) := by
          rw [hbody, after_seq_cons, after_seq_cons, after_seq_cons, after_seq_nil, hact.begun]
      _ = (((s.after act).begun.after put).withRun c (q.sending [(.a a, v, 1, if y then 2 else 1)])).drawn f := hafter
      _ = ((s.after act).drawn f).begun.withRun c (q.sending [(.a a, v, 1, if y then 2 else 1)]) := by rw [hover]; rfl

end

/-! ### Loads and stores (R257, R258, R275) -/

section
variable {s : State} {p d a : Nat} {y corr : Bool} {enc : Option Nat} {mod : LaneRun → Int} {r : LaneRun} {i : Instr}

theorem bankSlot_rank (y : Bool) : (bankSlot y).rank = if y then 3 else 2 := by cases y <;> rfl

/-- The word a bank's access by A(a) reaches, in its lane's window. -/
def reached (r : LaneRun) (y : Bool) (a : Nat) : Nat := bankOff y + aReg r a % 8192

/-- The item's own buffered store to the word it loads. -/
def bufferedAt (r : LaneRun) (o : Nat) : Option (Nat × Word) := r.buf.find? fun e => e.1 == o

/-- What a load of word o reads: the item's own buffered store, or the first lane's memory (R257). -/
def loaded (s : State) (p : Nat) (r : LaneRun) (o : Nat) : Word :=
  match bufferedAt r o with
  | some e => e.2
  | none => rd s (laneW (ctxLanes s p).1 o)

/-- What a load that reads the memories corrects and counts (R242). -/
def loadFixes (s : State) (p o : Nat) (corr : Bool) : Act :=
  seq [when (fun _ => corr) (bump (LAN (ctxLanes s p).1 + 2) 11 0 1), eccRead (bothLanes s p o)]

theorem onWords_loadFixes (s : State) (p o : Nat) (corr : Bool) : OnWords (loadFixes s p o corr) :=
  onWords_seq (List.forall_iff_forall_mem.1 ⟨by cases corr; exacts [onWords_nop, onWords_bump _ _ _ _], onWords_eccRead _⟩)

theorem load_buffered {e : Nat × Word} (hi : exec i s = done (loadOp p y enc d a mod corr) s) (h : Issues s p (bankSlot y) enc r)
    (hcheck : accessCheck s p r y (aReg r a % 8192) false = none) (hit : bufferedAt r (reached r y a) = some e) :
    ∃ v f, Modifies s r a (mod r) v f ∧ exec i s = .next ((s.drawn f).issuedAs p (bankSlot y)
      ((r.sending [(.d (phys r d), e.2.toNat, 3, (bankSlot y).rank)]).sending [(.a a, v, 1, if y then 2 else 1)])) := by
  have hcheck' : accessCheck s.begun p r y (aReg r a % 8192) false = none := hcheck
  have hit' : r.buf.find? (fun e => e.1 == bankOff y + aReg r a % 8192) = some e := hit
  refine exec_modifies (act := nop) hi h ?_ onWords_nop (makesRun_lands p r _)
  simp only [State.after, hcheck', hit', seq_cons, seq_nil]
  rfl

theorem load_memory (hi : exec i s = done (loadOp p y enc d a mod corr) s) (h : Issues s p (bankSlot y) enc r)
    (hcheck : accessCheck s p r y (aReg r a % 8192) false = none) (hmiss : bufferedAt r (reached r y a) = none)
    (hgood : badLane s p (reached r y a) = none) :
    ∃ v f, Modifies s r a (mod r) v f ∧
      exec i s = .next (((s.after (loadFixes s p (reached r y a) corr)).drawn f).issuedAs p (bankSlot y)
      ((r.sending [(.d (phys r d), (rd s (laneW (ctxLanes s p).1 (reached r y a))).toNat, 3, (bankSlot y).rank)]).sending
        [(.a a, v, 1, if y then 2 else 1)])) := by
  have hcheck' : accessCheck s.begun p r y (aReg r a % 8192) false = none := hcheck
  have hmiss' : r.buf.find? (fun e => e.1 == bankOff y + aReg r a % 8192) = none := hmiss
  have hgood' : badLane s.begun p (bankOff y + aReg r a % 8192) = none := hgood
  refine exec_modifies hi h ?_ (onWords_loadFixes s p (reached r y a) corr) (makesRun_lands p r _)
  simp only [State.after, hcheck', hmiss', hgood', loadFixes, seq_cons, seq_nil]
  rfl

/-- The state a load leaves beside its run: as it was where its own store is read,
else with what reading the memories corrects and counts. -/
def loadState (s : State) (p : Nat) (r : LaneRun) (o : Nat) (corr : Bool) : State :=
  if (bufferedAt r o).isSome then s
  else (if corr then s.after (bump (LAN (ctxLanes s p).1 + 2) 11 0 1) else s).after (eccRead (bothLanes s p o))

theorem after_loadFixes (s : State) (p o : Nat) (corr : Bool) : s.after (loadFixes s p o corr) =
    (if corr then s.after (bump (LAN (ctxLanes s p).1 + 2) 11 0 1) else s).after (eccRead (bothLanes s p o)) := by
  rw [loadFixes, after_seq_cons, after_seq_cons, after_seq_nil]
  cases corr <;> rfl

/-- A load within the item's reach, of a word that its own store or its first lane's memory gives (R257, R275). -/
theorem load_modifies (hi : exec i s = done (loadOp p y enc d a mod corr) s) (h : Issues s p (bankSlot y) enc r)
    (hcheck : accessCheck s p r y (aReg r a % 8192) false = none)
    (hgood : bufferedAt r (reached r y a) = none → badLane s p (reached r y a) = none) :
    ∃ v f, Modifies s r a (mod r) v f ∧ exec i s = .next (((loadState s p r (reached r y a) corr).drawn f).issuedAs p (bankSlot y)
      (r.sending ([(.d (phys r d), (loaded s p r (reached r y a)).toNat, 3, if y then 3 else 2)] ++
        [(.a a, v, 1, if y then 2 else 1)]))) := by
  rw [loadState, loaded, ← bankSlot_rank]
  cases hit : bufferedAt r (reached r y a) with
  | some e =>
    obtain ⟨v, f, hmod, hexec⟩ := load_buffered hi h hcheck hit
    exact ⟨v, f, hmod, by rw [hexec, sending_sending]; rfl⟩
  | none =>
    obtain ⟨v, f, hmod, hexec⟩ := load_memory hi h hcheck hit (hgood hit)
    exact ⟨v, f, hmod, by rw [hexec, sending_sending, after_loadFixes]; rfl⟩

/-- A store of a background item goes into the memories at once (R258). -/
theorem store_background (hi : exec i s = done (storeOp p y enc d a mod true) s) (h : Issues s p (bankSlot y) enc r)
    (hcheck : accessCheck s p r y (aReg r a % 8192) true = none) (hcls : r.cls = 2) :
    ∃ v f, Modifies s r a (mod r) v f ∧
      exec i s = .next (((s.after (putCtx p (reached r y a) (rdD r d))).drawn f).issuedAs p (bankSlot y)
      (r.sending [(.a a, v, 1, if y then 2 else 1)])) := by
  have hcheck' : accessCheck s.begun p r y (aReg r a % 8192) true = none := hcheck
  refine exec_modifies hi h ?_ (onWords_putCtx p (reached r y a) (rdD r d)) (makesRun_nop p r)
  simp only [State.after, hcheck', hcls, Bool.not_true, Bool.false_eq_true, if_true, if_false, seq_cons, seq_nil]
  rfl

/-- A store of a period item goes into its commit buffer (R257). -/
theorem store_period (hi : exec i s = done (storeOp p y enc d a mod true) s) (h : Issues s p (bankSlot y) enc r)
    (hcheck : accessCheck s p r y (aReg r a % 8192) true = none) (hcls : r.cls ≠ 2) (hroom : r.buf.length < 512) :
    ∃ v f, Modifies s r a (mod r) v f ∧ exec i s = .next ((s.drawn f).issuedAs p (bankSlot y)
      (LaneRun.sending { r with buf := (reached r y a, rdD r d) :: r.buf } [(.a a, v, 1, if y then 2 else 1)])) := by
  have hcheck' : accessCheck s.begun p r y (aReg r a % 8192) true = none := hcheck
  refine exec_modifies (act := nop) hi h ?_ onWords_nop
    (makesRun_setRun p r fun q => { q with buf := (reached r y a, rdD r d) :: q.buf })
  simp only [State.after, hcheck', hcls, Nat.not_le.2 hroom, Bool.not_true, Bool.false_eq_true, if_false, seq_cons, seq_nil]
  rfl

theorem amod_modifies (hi : exec i s = done (issue p (bankSlot y) enc fun r => modify p r y a (mod r)) s)
    (h : Issues s p (bankSlot y) enc r) : ∃ v f, Modifies s r a (mod r) v f ∧
      exec i s = .next ((s.drawn f).issuedAs p (bankSlot y) (r.sending [(.a a, v, 1, if y then 2 else 1)])) :=
  exec_modifies (act := nop) hi h (by simp only [after_seq_cons, after_seq_nil, after_nop]) onWords_nop (makesRun_nop p r)

end

/-! ### Crossbar loads and stores (R247, R261, R276) -/

section
variable {s : State} {p d a n : Nat} {r : LaneRun}

/-- A background item's crossbar access within its pair's windows is its own act and the post-modification. -/
theorem xbar_modifies {op : Nat} {body : LaneRun → Nat → Act} {act put : Act} {q : LaneRun} {i : Instr}
    (hi : exec i s = done (xbarOp p op d a n true body) s) (h : Issues s p .x (encXY op d a n) r) (hcls : r.cls = 2)
    (hwindow : xbarOk (rd s) p (aReg r a) (op == 7) = true)
    (hbody : s.begun.after (body r (aReg r a)) = s.begun.after (seq [act, put])) (hact : OnWords act) (hput : MakesRun p r q put) :
    ∃ v f, Modifies s r a (signedN 5 n) v f ∧
      exec i s = .next (((s.after act).drawn f).issuedAs p .x (q.sending [(.a a, v, 1, 1)])) := by
  have hwindow' : xbarOk (rd s.begun) p (aReg r a) (op == 7) = true := hwindow
  refine exec_modifies (y := false) hi h ?_ hact hput
  have hseq : s.begun.after (seq [body r (aReg r a), modify p r false a (signedN 5 n)]) =
      s.begun.after (seq [act, put, modify p r false a (signedN 5 n)]) := by
    simp only [after_seq_cons, after_seq_nil] at hbody ⊢
    rw [hbody]
  rw [← hseq]
  simp only [State.after, hwindow', hcls, Bool.not_true, Bool.false_eq_true, ne_eq, not_true, if_false]

theorem xld_outstanding (h : Issues s p .x (encXY 6 d a n) r) (hcls : r.cls = 2) (hwindow : xbarOk (rd s) p (aReg r a) false = true) :
    ∃ v f, Modifies s r a (signedN 5 n) v f ∧ exec (.laneXld p d a n true) s = .next ((s.drawn f).issuedAs p .x
      ({ r with xld := some (phys r d, aReg r a) }.sending [(.a a, v, 1, 1)])) :=
  xbar_modifies (act := nop) rfl h hcls hwindow (by simp only [after_seq_cons, after_seq_nil, after_nop]) onWords_nop
    (makesRun_setRun p r fun q => { q with xld := some (phys r d, aReg r a) })

theorem xst_stored (h : Issues s p .x (encXY 7 d a n) r) (hcls : r.cls = 2) (hwindow : xbarOk (rd s) p (aReg r a) true = true)
    (hbelow : aReg r a < 0x40000000) (hmay : writeStatus s (0x10 + 2 * p) (aReg r a) = 0) :
    ∃ v f, Modifies s r a (signedN 5 n) v f ∧ exec (.laneXst p d a n true) s = .next
      (((s.after (poke (aReg r a) (rdD r d))).drawn f).issuedAs p .x (r.sending [(.a a, v, 1, 1)])) := by
  have hmay' : writeStatus s.begun (ctxMaster p) (aReg r a) = 0 := hmay
  refine xbar_modifies rfl h hcls hwindow ?_ (onWords_poke _ _) (makesRun_nop p r)
  simp only [State.after, xbarPut, hmay', Nat.not_le.2 hbelow, if_false]
  rfl

end

/-! ### Results that land (R277, R279) -/

theorem landOne_step (r : LaneRun) (f : Fly) : (landOne r f).step = r.step := by unfold landOne; split <;> rfl
theorem landOne_xld (r : LaneRun) (f : Fly) : (landOne r f).xld = r.xld := by unfold landOne; split <;> rfl
theorem landOne_fly (r : LaneRun) (f : Fly) : (landOne r f).fly = r.fly := by unfold landOne; split <;> rfl

theorem landOne_d (r : LaneRun) (f : Fly) :
    (landOne r f).d = r.d ∨ ∃ n, f.reg = .d n ∧ (landOne r f).d = sparseSet (fun _ => 0) r.d n (wd f.val) := by
  unfold landOne
  split
  case h_1 n hreg => exact .inr ⟨n, hreg, rfl⟩
  all_goals exact .inl rfl

theorem landOne_wf {r : LaneRun} (f : Fly) (h : sparseWf (fun _ => 0) r.d = true) : sparseWf (fun _ => 0) (landOne r f).d = true := by
  obtain hd | ⟨n, -, hd⟩ := landOne_d r f
  · rwa [hd]
  · rw [hd]; exact sparseWf_set _ _ _ _ h

theorem landOne_same {r : LaneRun} {f : Fly} {n : Nat} (h : sparseWf (fun _ => 0) r.d = true) (hreg : f.reg = .d n) :
    sparseGet (fun _ => 0) (landOne r f).d n = wd f.val := by
  have hd : (landOne r f).d = sparseSet (fun _ => 0) r.d n (wd f.val) := by rw [landOne, hreg]
  rw [hd, sparseGet_set_same _ _ _ _ h]

theorem landOne_other {r : LaneRun} {f : Fly} {n : Nat} (h : sparseWf (fun _ => 0) r.d = true) (hreg : f.reg ≠ .d n) :
    sparseGet (fun _ => 0) (landOne r f).d n = sparseGet (fun _ => 0) r.d n := by
  obtain hd | ⟨k, hk, hd⟩ := landOne_d r f
  · rw [hd]
  · have hne : n ≠ k := fun he => hreg (by rw [hk, he])
    rw [hd, sparseGet_set_other _ _ _ _ _ h hne]

theorem landAll_wf {r : LaneRun} (l : List Fly) (h : sparseWf (fun _ => 0) r.d = true) :
    sparseWf (fun _ => 0) (l.foldl landOne r).d = true := by
  induction l generalizing r with
  | nil => exact h
  | cons f l ih => exact ih (landOne_wf f h)

/-- Among results that land together, the only one for a data register is what the register holds. -/
theorem landAll_only {r : LaneRun} {l : List Fly} {f : Fly} {n : Nat} (h : sparseWf (fun _ => 0) r.d = true) (hf : f ∈ l)
    (hreg : f.reg = .d n) (honly : ∀ g ∈ l, g.reg = .d n → g = f) : sparseGet (fun _ => 0) (l.foldl landOne r).d n = wd f.val := by
  induction l using List.reverseRecOn with
  | nil => exact absurd hf List.not_mem_nil
  | append_singleton l g ih =>
    rw [List.foldl_append, List.foldl_cons, List.foldl_nil]
    by_cases hg : g.reg = .d n
    · rw [landOne_same (landAll_wf l h) hg, honly g (by simp) hg]
    · have hfl : f ∈ l := by
        rcases List.mem_append.1 hf with hf | hf
        · exact hf
        · exact absurd (List.mem_singleton.1 hf ▸ hreg) hg
      rw [landOne_other (landAll_wf l h) hg]
      exact ih hfl fun x hx => honly x (List.mem_append_left _ hx)

theorem landAll_keeps {β : Type} (g : LaneRun → β) (h : ∀ r f, g (landOne r f) = g r) (r : LaneRun) (l : List Fly) :
    g (l.foldl landOne r) = g r := by
  induction l generalizing r with
  | nil => rfl
  | cons f l ih => exact (ih _).trans (h r f)

/-- What lands in the next step, the lower ranks first. -/
def landing (r : LaneRun) : List Fly :=
  (List.range 4).flatMap fun k => (r.fly.filter fun f => f.due ≤ r.step + 1).filter fun f => f.rank == k

theorem mem_landing {r : LaneRun} {f : Fly} : f ∈ landing r ↔ f ∈ r.fly ∧ f.due ≤ r.step + 1 ∧ f.rank < 4 := by
  simp only [landing, List.mem_flatMap, List.mem_range, List.mem_filter, decide_eq_true_eq, beq_iff_eq]
  constructor
  · rintro ⟨k, hk, ⟨hf, hdue⟩, rfl⟩
    exact ⟨hf, hdue, hk⟩
  · rintro ⟨hf, hdue, hrank⟩
    exact ⟨_, hrank, ⟨hf, hdue⟩, rfl⟩

theorem stepOn_eq (r : LaneRun) :
    stepOn r = (landing r).foldl landOne { r with step := r.step + 1, fly := r.fly.filter fun f => r.step + 1 < f.due } := rfl

theorem stepOn_step (r : LaneRun) : (stepOn r).step = r.step + 1 := by rw [stepOn_eq, landAll_keeps (·.step) landOne_step]

theorem stepOn_fly (r : LaneRun) : (stepOn r).fly = r.fly.filter fun f => r.step + 1 < f.due := by
  rw [stepOn_eq, landAll_keeps (·.fly) landOne_fly]

theorem stepOn_xld (r : LaneRun) : (stepOn r).xld = r.xld := by rw [stepOn_eq, landAll_keeps (·.xld) landOne_xld]

theorem stepOn_wf {r : LaneRun} (h : sparseWf (fun _ => 0) r.d = true) : sparseWf (fun _ => 0) (stepOn r).d = true := by
  rw [stepOn_eq]
  exact landAll_wf _ h

theorem stepsOn_step (n : Nat) (r : LaneRun) : (stepsOn n r).step = r.step + n := by
  induction n generalizing r with
  | zero => rfl
  | succ n ih => rw [stepsOn, ih, stepOn_step]; omega

theorem stepsOn_xld (n : Nat) (r : LaneRun) : (stepsOn n r).xld = r.xld := by
  induction n generalizing r with
  | zero => rfl
  | succ n ih => rw [stepsOn, ih, stepOn_xld]

/-- A result that alone is on its way to a data register is there once the step it is due in has come. -/
theorem stepsOn_lands {f : Fly} {k : Nat} (hreg : f.reg = .d k) (hrank : f.rank < 4) (n : Nat) {r : LaneRun}
    (hwf : sparseWf (fun _ => 0) r.d = true) (hf : f ∈ r.fly) (honly : ∀ g ∈ r.fly, g.reg = .d k → g = f)
    (hdue : f.due = r.step + (n + 1)) : sparseGet (fun _ => 0) (stepsOn (n + 1) r).d k = wd f.val := by
  induction n generalizing r with
  | zero =>
    rw [stepsOn, stepsOn, stepOn_eq]
    exact landAll_only hwf (mem_landing.2 ⟨hf, by omega, hrank⟩) hreg fun g hg => honly g (mem_landing.1 hg).1
  | succ n ih =>
    rw [stepsOn]
    refine ih (stepOn_wf hwf) ?_ (fun g hg => honly g ?_) (by rw [stepOn_step]; omega)
    · rw [stepOn_fly, List.mem_filter]; exact ⟨hf, by simp; omega⟩
    · rw [stepOn_fly] at hg; exact (List.mem_filter.1 hg).1

/-! ### The arrival of a load's data (R266, R276, R279) -/

theorem arrived_xld (r : LaneRun) (held : Bool) (waited k : Nat) (w : Word) : (r.arrived held waited k w).xld = none := stepsOn_xld _ _

/-- A run that does not wait has the word on its way, to be there in the next step. -/
theorem arrived_going (r : LaneRun) (waited k : Nat) (w : Word) :
    r.arrived false waited k w = { r with xld := none }.sending [(.d k, w.toNat, 1, 2)] := rfl

/-- A run that waited has passed its steps and holds the word. -/
theorem arrived_held {r : LaneRun} (waited : Nat) {k : Nat} (w : Word) (hwf : sparseWf (fun _ => 0) r.d = true)
    (hnone : ∀ f ∈ r.fly, f.reg ≠ .d k) : sparseGet (fun _ => 0) (r.arrived true waited k w).d k = w ∧
      (r.arrived true waited k w).step = r.step + max 1 waited := by
  obtain ⟨n, hn⟩ : ∃ n, max 1 waited = n + 1 := ⟨max 1 waited - 1, by omega⟩
  let f : Fly := { reg := .d k, val := w.toNat, due := r.step + (n + 1), rank := 2 }
  let q : LaneRun := { r with xld := none, fly := r.fly ++ [f] }
  have h : r.arrived true waited k w = stepsOn (n + 1) q := by
    simp only [LaneRun.arrived, if_true, hn, Nat.max_eq_right (Nat.le_add_left 1 n)]
    rfl
  have honly : ∀ g ∈ q.fly, g.reg = .d k → g = f := fun g hg hreg => by
    rcases List.mem_append.1 hg with hg | hg
    · exact absurd hreg (hnone g hg)
    · exact List.mem_singleton.1 hg
  rw [h]
  refine ⟨?_, by rw [stepsOn_step, hn]⟩
  have hf : f ∈ q.fly := List.mem_append_right _ (List.mem_singleton_self f)
  rw [stepsOn_lands (r := q) (f := f) rfl (Nat.lt_of_sub_eq_succ rfl) n hwf hf honly rfl]
  exact (BitVec.ofNat_toNat 36 w).trans (BitVec.setWidth_eq w)

/-- The arrival of a word that shared SRAM or another on-die memory gives its reader whole. -/
theorem exec_laneXldArrival {s : State} {p fault waited k x : Nat} {r : LaneRun} (hrun : runOf s p = some r) (hxld : r.xld = some (k, x))
    (hmay : readStatus s (0x10 + 2 * p) x = 0) (hbelow : x < 0x40000000) (hgood : s.bad.contains x = false)
    (hwhole : s.soft.contains x = false) (hgoing : ended r = false) :
    exec (.laneXldArrival p fault waited) s = .next (s.begun.withRun p (r.arrived (heldByXld s p r) waited k (rd s x))) := by
  have hget : xbarGet s.begun p x fault = (eccRead [x], some (rd s x)) := by
    have hmay' : readStatus s.begun (ctxMaster p) x = 0 := hmay
    have hgood' : s.begun.bad.contains x = false := hgood
    simp only [xbarGet, hmay', Nat.not_le.2 hbelow, hgood', Bool.false_eq_true, if_false]
    rfl
  have hread : s.begun.after (eccRead [x]) = s.begun := by
    have hnone : [x].filter (fun a => s.begun.soft.contains a) = [] := List.filter_eq_nil_iff.2 fun a ha => by
      rw [List.mem_singleton.1 ha, show s.begun.soft.contains x = false from hwhole]
      exact Bool.false_ne_true
    simp only [State.after, eccRead, hnone]
    rfl
  have hrun' : runOf s.begun p = some r := hrun
  have hact : s.begun.after (xldArrival p fault waited) = s.begun.after (seq [eccRead [x],
      setRun p fun q => q.arrived (heldByXld s.begun p r) waited k (rd s x), when (fun _ => ended r) (finish p)]) := by
    simp only [State.after, xldArrival, hrun', hxld, hget]
  have hwhen : when (fun _ => ended r) (finish p) = nop := by rw [hgoing]; rfl
  exact congrArg Host.Outcome.next (hact.trans (by
    rw [after_seq_cons, after_seq_cons, after_seq_cons, after_seq_nil, hread, hwhen, after_nop, after_setRun hrun']
    rfl))

/-- With no load outstanding an arrival does nothing. -/
theorem exec_laneXldArrival_none {s : State} {p fault waited : Nat} {r : LaneRun} (hrun : runOf s p = some r) (hxld : r.xld = none) :
    exec (.laneXldArrival p fault waited) s = .next s.begun := by
  have hrun' : runOf s.begun p = some r := hrun
  have hact : xldArrival p fault waited s.begun = [] := by simp only [xldArrival, hrun', hxld]
  exact congrArg Host.Outcome.next (congrArg (applyAll · s.begun) hact)

/-- Settles O29: a local access is its store or its reading with the post-modification, a crossbar access the same over the windows, and
an arrival the word in the run. -/
theorem laneLoadsAndStoresReachTheirMemories : Obligations.LaneLoadsAndStoresReachTheirMemories := by
  refine ⟨fun s p y d a n r m => ?_, fun s p d a n fault waited r => ⟨fun hcls hwindow h => xld_outstanding h hcls hwindow,
    fun hcls hwindow h hbelow hmay => xst_stored h hcls hwindow hbelow hmay, fun k x hrun hxld hmay hbelow hgood hwhole hgoing =>
      ⟨_, exec_laneXldArrival hrun hxld hmay hbelow hgood hwhole hgoing, arrived_xld _ _ _ _ _, fun hheld => ?_,
      fun hheld hwf hnone => ?_⟩,
    exec_laneXldArrival_none⟩⟩
  · intro k rank w o lane hit data stepTo load store
    have hload (i : Instr) {enc : Option Nat} (mod : LaneRun → Int) {corr : Bool} (hi : exec i s = done (loadOp p y enc d a mod corr) s)
        (hm : m = mod r) (h : Issues s p k enc r) : load i corr := fun hcheck hgood => by
      subst hm
      exact load_modifies hi h hcheck hgood
    have hstore (i : Instr) {enc : Option Nat} (mod : LaneRun → Int) (hi : exec i s = done (storeOp p y enc d a mod true) s)
        (hm : m = mod r) (h : Issues s p k enc r) : store i := fun hcheck => by
      subst hm
      exact ⟨fun hcls => store_background hi h hcheck hcls, fun hcls hroom => store_period hi h hcheck hcls hroom⟩
    exact ⟨fun hm h corr => hload (.laneLd p y d a n corr) (immMod n) rfl hm h,
      fun hm h corr => hload (.laneLdr p y d a n corr) (regMod n) rfl hm h,
      fun hm h => hstore (.laneSt p y d a n true) (immMod n) rfl hm h, fun hm h => hstore (.laneStr p y d a n true) (regMod n) rfl hm h,
      fun hm h => by subst hm; exact amod_modifies (mod := fun _ => signedN 5 n) rfl h⟩
  · rw [hheld, arrived_going]
  · rw [hheld]
    exact arrived_held waited _ hwf hnone

end Sys2Proof.Machine

/-! SUPPORT. Runs of items (R241, R285-R290, R294-R298): how a run starts, how a fault or the watchdog
ends it, how it takes a request. -/
namespace Sys2Proof.Machine
open Sys2Proof

/-- Words read what the memory holds. -/
theorem rd_of_mem {s t : State} (h : t.mem = s.mem) : rd t = rd s := funext fun a => by rw [rd, rd, h]

/-! ### A run that starts -/

theorem startRun_runOf (s : State) (c i n : Nat) (node : Option Nat) :
    runOf (s.after (startRun c i n node)) c = some (newRun (rd s) i n node) := sparseFind_put _ _ _

theorem startRun_mem (s : State) (c i n : Nat) (node : Option Nat) : (s.after (startRun c i n node)).mem = s.mem := rfl
theorem startRun_bel (s : State) (c i n : Nat) (node : Option Nat) : (s.after (startRun c i n node)).bel = s.bel := rfl

section
variable {s : State} {i : Nat}

theorem itemDispatch_starts {f : Flight} (hf : s.wav.flight = some f) (h : mayDispatch s i = true) : s.after (itemDispatch i) =
    (s.after (startRun (itemOf (rd s) i).pair i f.n none)).after (itemEnd i .running) := by
  rw [← after_two]
  exact after_congr (by simp [itemDispatch, hf, h])

theorem itemDispatch_waits (h : mayDispatch s i = false) : s.after (itemDispatch i) = s := by
  unfold State.after itemDispatch
  split
  · rfl
  · rw [h]; rfl

/-! ### Background items -/

theorem startRun_bgOf (s : State) (c i n : Nat) (node : Option Nat) (j : Nat) : bgOf (s.after (startRun c i n node)) j = bgOf s j := rfl

/-- A background item changed to one that is not as an item never touched. -/
theorem bgOf_setBg {g : BgItem → BgItem} (h : g (bgOf s i) ≠ BgItem.init) : bgOf (s.after (setBg i g)) i = g (bgOf s i) := by
  have hput : (s.after (setBg i g)).bel.bg = sparsePut s.bel.bg i (g (bgOf s i)) := if_neg h
  rw [bgOf, hput, sparseGet_put_same]

theorem bgState_st {st : Nat} (h : st ≠ 0) : (bgOf (s.after (bgState i st)) i).st = st := by
  have hset : s.after (bgState i st) = (s.after (onBel fun _ b => { b with order := b.order + 1 })).after
      (setBg i fun b => { b with st := st, since := s.bel.order + 1, again := false }) := rfl
  rw [hset, bgOf_setBg]
  exact fun hinit => h (congrArg BgItem.st hinit)

theorem bgState_mark (st : Nat) : (s.after (bgState i st)).bel.mark = s.bel.mark := rfl

theorem bgState_mem (st : Nat) : (s.after (bgState i st)).mem = s.mem := rfl

theorem bgAgain_mem : (s.after (bgAgain i)).mem = s.mem := rfl

theorem bgAgain_st : (bgOf (s.after (bgAgain i)) i).st = 1 := by
  have hst : (bgOf (s.after (bgState i 1)) i).st = 1 := bgState_st Nat.one_ne_zero
  rw [bgAgain, after_two, bgOf_setBg]
  · exact hst
  · exact fun hinit => Bool.noConfusion (congrArg BgItem.again hinit)

end

/-- Every key of a list is marked with the value that all of them receive. -/
theorem sparseFind_putAll {α : Type} {l : List Nat} {k : Nat} (v : α) (t : Sparse α) (h : sparseFind t k = some v ∨ k ∈ l) :
    sparseFind (l.foldl (fun t k => sparsePut t k v) t) k = some v := by
  induction l generalizing t with
  | nil => exact h.resolve_right List.not_mem_nil
  | cons j l ih =>
    refine ih _ ?_
    by_cases hkj : k = j
    · exact .inl (hkj ▸ sparseFind_put t k v)
    · rw [sparseFind_put_other _ _ _ _ hkj]
      exact h.imp_right fun hk => (List.mem_cons.1 hk).resolve_left hkj

theorem releaseSlots_mark (s : State) (i : Nat) :
    (s.after (releaseSlots i)).bel.mark = (bgOf s i).slots.foldl (fun t k => sparsePut t k 1) s.bel.mark := rfl

theorem releaseSlots_mem (s : State) (i : Nat) : (s.after (releaseSlots i)).mem = s.mem := rfl

section
variable {s : State} {p : Nat} (hn : nodeOn s p = none)
include hn

theorem backgroundItemStart_starts {i : Nat} (hs : slackOpen s p = true) (hi : nextBackground s p = some i) :
    s.after (backgroundItemStart p) = ((s.after (releaseSlots i)).after (bgState i 2)).after (startRun p i s.wav.n none) := by
  rw [← after_three]
  exact after_congr (by simp [backgroundItemStart, hn, hs, hi])

theorem backgroundItemStart_waits (hs : slackOpen s p = false) : s.after (backgroundItemStart p) = s := by
  simp [State.after, backgroundItemStart, hn, hs]
end

/-! ### A run that ends -/

theorem sparseDrop_put {α : Type} (t : Sparse α) (k : Nat) (v : α) : sparseDrop (sparsePut t k v) k = sparseDrop t k := by
  induction t with
  | nil => simp [sparsePut, sparseDrop]
  | cons e t ih =>
    obtain ⟨j, w⟩ := e
    by_cases hjk : j = k
    · simp [sparsePut, sparseDrop, hjk]
    · by_cases hlt : k < j
      · simp [sparsePut, sparseDrop, hjk, hlt]
      · simp [sparsePut, sparseDrop, hjk, hlt, ih]

theorem withRun_drop (s : State) (c : Nat) (q : LaneRun) : sparseDrop (s.withRun c q).lan.run c = sparseDrop s.lan.run c :=
  sparseDrop_put _ _ _

/-- The runs in progress. -/
def runsOf (s : State) : Sparse LaneRun := s.lan.run

theorem quiet_runsOf : Quiet runsOf := quiet_of fun _ _ h => congrArg (fun (_, _, _, lan, _) => lan.run) h

theorem dropRun_mem (s : State) (c : Nat) : (s.after (dropRun c)).mem = s.mem := rfl
theorem dropRun_runsOf (s : State) (c : Nat) : runsOf (s.after (dropRun c)) = sparseDrop (runsOf s) c := rfl

/-- How a fault ends a run, before what the fault means to its item (R256, R260). -/
def endRun (c cause hi lo d0 : Nat) (e : Event) (r : LaneRun) : Act := seq [
  laneFault c cause r hi lo, report (srcOf (LAN 0)) e d0 c, ringLane, dropRun c]

theorem endRun_runsOf {s : State} (hm : s.memOk = true) (c cause hi lo d0 : Nat) (e : Event) (r : LaneRun) :
    runsOf (s.after (endRun c cause hi lo d0 e r)) = sparseDrop (runsOf s) c := by
  have h := quiet_runsOf
  have hshown : Keeps runsOf (seq [laneFault c cause r hi lo, report (srcOf (LAN 0)) e d0 c, ringLane]) :=
    keeps_acts ⟨keeps_eachOf fun _ _ => keeps_acts ⟨h.poke, h.bump⟩, h.report, h.ringLane⟩
  have hkeep := hshown.after hm
  rw [after_three] at hkeep
  rw [endRun, after_four, dropRun_runsOf, hkeep]

theorem after_endRun (s : State) (c cause hi lo d0 : Nat) (e : Event) (r : LaneRun) (x y : Act) :
    s.after (seq [laneFault c cause r hi lo, report (srcOf (LAN 0)) e d0 c, ringLane, dropRun c, x, y]) =
      (s.after (endRun c cause hi lo d0 e r)).after (seq [x, y]) := by
  rw [endRun, after_four, after_seq_cons, after_seq_cons, after_seq_cons, after_seq_cons]

theorem onBel_runsOf (g : State → Bel → Bel) : Keeps runsOf (onBel g) := fun _ _ => rfl
theorem freeCtx_runsOf (c : Nat) : Keeps runsOf (freeCtx c) := keeps_when fun _ _ => rfl
theorem bgStates_runsOf (is : List Nat) (st : Nat) : Keeps runsOf (bgStates is st) :=
  keeps_acts ⟨onBel_runsOf _, keeps_eachOf fun _ _ => onBel_runsOf _⟩

/-- Every run is one of a list. -/
def RunsIn (l : Sparse LaneRun) (s : State) : Prop := ∀ e ∈ runsOf s, e ∈ l

theorem Keeps.runsIn {a : Act} {l : Sparse LaneRun} (h : Keeps runsOf a) : Preserves (RunsIn l) a := fun s hm hs =>
  show ∀ e ∈ runsOf (s.after a), e ∈ l from (h.after hm).symm ▸ hs

section
variable {s : State} (hm : s.memOk = true) (c cause hi lo d0 : Nat) (e : Event) (r : LaneRun) {x y : Act}
include hm

theorem runsOf_endRun_then (hx : Keeps runsOf x) (hy : Keeps runsOf y) :
    runsOf (s.after (seq [laneFault c cause r hi lo, report (srcOf (LAN 0)) e d0 c, ringLane, dropRun c, x, y])) =
      sparseDrop (runsOf s) c := by
  have hxy : Keeps runsOf (seq [x, y]) := keeps_acts ⟨hx, hy⟩
  rw [after_endRun]
  exact (hxy.after (after_memOk _ hm)).trans (endRun_runsOf hm c cause hi lo d0 e r)

theorem runsIn_endRun_then (hx : ∀ l, Preserves (RunsIn l) x) (hy : Keeps runsOf y) : RunsIn (sparseDrop (runsOf s) c)
    (s.after (seq [laneFault c cause r hi lo, report (srcOf (LAN 0)) e d0 c, ringLane, dropRun c, x, y])) := by
  have hxy (l : Sparse LaneRun) : Preserves (RunsIn l) (seq [x, y]) := preserves_acts ⟨hx l, hy.runsIn⟩
  rw [after_endRun]
  exact hxy _ _ (after_memOk _ hm) fun e' he => endRun_runsOf hm c cause hi lo d0 e r ▸ he
end

/-! Leaving RUN for a fault ends runs and starts none. -/

theorem dropDelay_runsIn (l : Sparse LaneRun) : Preserves (RunsIn l) dropDelay := fun s hm hs =>
  have hdrop : Preserves (RunsIn l) (onLan fun _ l => { l with run := l.run.filter fun e => e.2.cls != 2 }) :=
    fun _ _ ht e he => ht e (List.mem_filter.1 he).1
  preserves_actsAt s ⟨(onBel_runsOf _).runsIn, hdrop, Keeps.runsIn (fun t => bgStates_runsOf _ 1 t), quiet_runsOf.report.runsIn⟩ hm hs

theorem losePending_runsOf : Keeps runsOf losePending := fun s => by
  have h := quiet_runsOf
  unfold losePending
  split
  · exact keeps_nop s
  · refine keeps_actsAt s ⟨keeps_each _ fun x => ?_, fun _ _ => rfl, h.pokeF, h.pokeF, h.report, h.ring⟩
    split
    · exact h.hostResult
    · exact keeps_when h.sendAck

theorem loseCommits_runsOf : Keeps runsOf loseCommits :=
  have h := quiet_runsOf
  keeps_acts ⟨keeps_when (keeps_acts ⟨fun _ _ => rfl, h.commitStatus⟩), keeps_when (keeps_acts ⟨fun _ _ => rfl, h.commitStatus⟩),
    keeps_when (keeps_acts ⟨fun _ _ => rfl, h.pokeF, h.report⟩)⟩

theorem loseArgs_runsOf : Keeps runsOf loseArgs := fun s =>
  keeps_actsAt s ⟨keeps_each _ fun _ => quiet_runsOf.commitStatus, keeps_when fun _ _ => rfl⟩

theorem leaveRun_runsIn (l : Sparse LaneRun) : Preserves (RunsIn l) leaveRun :=
  have h := quiet_runsOf
  preserves_acts ⟨losePending_runsOf.runsIn, loseCommits_runsOf.runsIn, loseArgs_runsOf.runsIn, dropDelay_runsIn l,
    h.stopCapture.runsIn, Keeps.runsIn (keeps_acts ⟨h.pokeF, h.onTwn⟩)⟩

theorem setState_runsOf (d : DevState) : Keeps runsOf (setState d) :=
  have h := quiet_runsOf
  keeps_acts ⟨fun _ _ => rfl, h.ring, h.report, keeps_when h.lifeCount, keeps_when h.lifeCount⟩

theorem enterSafe_runsIn (l : Sparse LaneRun) (fault : Bool) : Preserves (RunsIn l) (enterSafe fault) := fun s hm hs => by
  have hsys {g} : Keeps runsOf (onSys g) := fun _ _ => rfl
  have hqch {g} : Keeps runsOf (onQch g) := fun _ _ => rfl
  unfold State.after enterSafe
  split
  · exact preserves_actsAt s ⟨(setState_runsOf _).runsIn, hsys.runsIn, hqch.runsIn⟩ hm hs
  · exact preserves_actsAt s ⟨leaveRun_runsIn l, (setState_runsOf _).runsIn, hsys.runsIn, hqch.runsIn,
      Keeps.runsIn (keeps_when (keeps_acts ⟨quiet_runsOf.pokeF, hsys⟩))⟩ hm hs
  · exact hsys.runsIn s hm hs
  · exact hs

theorem deviceFault_runsIn (l : Sparse LaneRun) (bit : Nat) : Preserves (RunsIn l) (deviceFault bit) :=
  preserves_acts ⟨(quiet_runsOf.latchFault fun _ _ => rfl).runsIn, enterSafe_runsIn l true⟩

theorem countFailure_runsIn (l : Sparse LaneRun) (p : Nat) : Preserves (RunsIn l) (countFailure p) :=
  preserves_when fun s hm _ hs =>
    preserves_actsAt s ⟨(onBel_runsOf _).runsIn, preserves_when fun t htm _ ht => by
      unfold State.after
      dsimp only
      split
      · exact preserves_actsAt t ⟨quiet_runsOf.report.runsIn, deviceFault_runsIn l 0⟩ htm ht
      · exact (keeps_each _ fun _ => bgStates_runsOf _ 4).runsIn t htm ht⟩ hm hs

section
variable {s : State} {c : Nat} {r : LaneRun} (hm : s.memOk = true) (h : runOf s c = some r)
include hm h

/-- A program fault ends the run of its context and no other (R260). -/
theorem progFault_runsOf (cause : Nat) : runsOf (s.after (progFault c cause)) = sparseDrop (runsOf s) c := by
  rw [State.after, progFault, h]
  refine runsOf_endRun_then hm _ _ _ _ _ _ _ ?_ (freeCtx_runsOf c)
  split
  · exact onBel_runsOf _
  · split
    · exact bgStates_runsOf _ 4
    · exact keeps_acts ⟨onBel_runsOf _, fun _ _ => rfl⟩

/-- A compare failure of a background item ends the run of its context, and at most others with it (R256, R298, R310). -/
theorem compareFail_runsIn (cause : Nat) (hcls : r.cls = 2) : RunsIn (sparseDrop (runsOf s) c) (s.after (compareFail c cause)) := by
  have hsuspect (l : Sparse LaneRun) : Preserves (RunsIn l) (seq [setBits (BEL + 2) (2 ^ c), countFailure c]) :=
    preserves_acts ⟨quiet_runsOf.setBits.runsIn, countFailure_runsIn l c⟩
  rw [State.after, compareFail, h]
  refine runsIn_endRun_then hm _ _ _ _ _ _ _ (fun l => preserves_when fun t htm _ => hsuspect l t htm) ?_
  split
  · exact keeps_acts ⟨onBel_runsOf _, freeCtx_runsOf c⟩
  · rw [if_pos hcls]
    exact keeps_acts ⟨keeps_when (keeps_acts ⟨bgStates_runsOf _ 1, onBel_runsOf _⟩), quiet_runsOf.bump⟩
end

/-! ### Stores of a context (R237) -/

section
variable {s : State} (hm : s.memOk = true) {c o : Nat} {w : Word}
include hm

theorem putCtx_rd_same {l : Nat} (hl : l ∈ storeLanes s c) : rd (s.after (putCtx c o w)) (laneW l o) = w := by
  have h : rd (applyAll (((storeLanes s c).map (·, w)).map fun f => .mem (laneW f.1 o) f.2) s) (laneW l o) = w :=
    rd_stores (laneW · o) (fun f hf _ => by obtain ⟨_, _, rfl⟩ := List.mem_map.1 hf; rfl) hm
      (.inr ⟨(l, w), List.mem_map_of_mem hl, rfl⟩)
  rwa [List.map_map] at h

theorem putCtx_sameBut : SameBut s (s.after (putCtx c o w)) ((storeLanes s c).map (laneW · o)) := fun b hb => by
  have h : rd (applyAll (((storeLanes s c).map (·, w)).map fun f => .mem (laneW f.1 o) f.2) s) b = rd s b :=
    rd_stores (laneW · o) (fun f hf hfb => by
      obtain ⟨l, hl, rfl⟩ := List.mem_map.1 hf
      exact absurd (List.mem_map.2 ⟨l, hl, hfb⟩) hb) hm (.inl rfl)
  rwa [List.map_map] at h
end

/-! ### Pre-emption (R286, R287) -/

theorem landOne_cls (r : LaneRun) (f : Fly) : (landOne r f).cls = r.cls := by unfold landOne; split <;> rfl

theorem drain_cls (r : LaneRun) : (drain r).cls = r.cls := by
  simp only [drain, stepsOn, stepOn_eq, landAll_keeps (·.cls) landOne_cls]

/-- The run once it has taken a request: what has issued is complete, further requests are masked (R286). -/
def taken (r : LaneRun) : LaneRun := { drain r with im := true, request := false, taken := true }

/-- Where the link word stands: the last word of a block's Y range (R287). -/
def linkAt (b : Block) : Nat := 0x10000 + b.y + b.yLen - 1

theorem taken_cls (r : LaneRun) : (taken r).cls = r.cls := by simp only [taken, drain_cls]

theorem withRun_memOk {s : State} (hm : s.memOk = true) (c : Nat) (r : LaneRun) : (s.withRun c r).memOk = true := after_memOk _ hm

section
variable {s : State} {c : Nat} {r : LaneRun} (h : runOf s c = some r)
include h

theorem preemptionEntry_waits (agree : Bool) (hdue : entryDue r = false) : s.after (preemptionEntry c agree) = s := by
  simp [State.after, preemptionEntry, h, hdue]

variable (hdue : entryDue r = true) (hx : r.xld = none)
include hdue hx

/-- A request that is due is taken before anything else. -/
theorem preemptionEntry_due (agree : Bool) : s.after (preemptionEntry c agree) = (s.withRun c (taken r)).after
    (if (runBlock s c r).yLen = 0 then progFault c 3
      else if agree = false then compareFail c 1
      else seq [putCtx c (linkAt (runBlock s c r)) (wd (2 ^ 35 + r.pc)), setRun c fun q => { q with pc := (runBlock s c r).code }]) := by
  rw [taken, ← after_setRun (f := fun q => { drain q with im := true, request := false, taken := true }) h, ← after_two]
  exact after_congr (by simp [preemptionEntry, h, hdue, hx, linkAt])

theorem preemptionEntry_takes (hy : (runBlock s c r).yLen ≠ 0) : s.after (preemptionEntry c true) =
    ((s.withRun c (taken r)).after (putCtx c (linkAt (runBlock s c r)) (wd (2 ^ 35 + r.pc)))).after
      (setRun c fun q => { q with pc := (runBlock s c r).code }) := by
  rw [preemptionEntry_due h hdue hx, if_neg hy, if_neg Bool.noConfusion, after_two]

theorem preemptionEntry_faults (agree : Bool) (hy : (runBlock s c r).yLen = 0) :
    s.after (preemptionEntry c agree) = (s.withRun c (taken r)).after (progFault c 3) := by
  rw [preemptionEntry_due h hdue hx, if_pos hy]

theorem preemptionEntry_disagrees (hy : (runBlock s c r).yLen ≠ 0) :
    s.after (preemptionEntry c false) = (s.withRun c (taken r)).after (compareFail c 1) := by
  rw [preemptionEntry_due h hdue hx, if_neg hy, if_pos rfl]

theorem preemptionEntry_faults_runsOf (hm : s.memOk = true) (agree : Bool) (hy : (runBlock s c r).yLen = 0) :
    runsOf (s.after (preemptionEntry c agree)) = sparseDrop (runsOf s) c := by
  rw [preemptionEntry_faults h hdue hx agree hy, progFault_runsOf (withRun_memOk hm c _) (withRun_runOf s c _)]
  exact withRun_drop s c _

theorem preemptionEntry_disagrees_runsIn (hm : s.memOk = true) (hy : (runBlock s c r).yLen ≠ 0) :
    RunsIn (sparseDrop (runsOf s) c) (s.after (preemptionEntry c false)) := by
  have hcls : r.cls = 2 := by
    simp only [entryDue, Bool.and_eq_true, beq_iff_eq] at hdue
    tauto
  have hend := compareFail_runsIn (withRun_memOk hm c _) (withRun_runOf s c (taken r)) 1 ((taken_cls r).trans hcls)
  rw [preemptionEntry_disagrees h hdue hx hy]
  exact fun e he => withRun_drop s c (taken r) ▸ hend e he
end

/-- The request stores the link word in every lane that serves the pair, and the run goes on at CODE_START. -/
theorem preemptionEntry_links {s : State} {c : Nat} {r : LaneRun} (h : runOf s c = some r) (hdue : entryDue r = true) (hx : r.xld = none)
    (hm : s.memOk = true) (hc : c < 32) (hy : (runBlock s c r).yLen ≠ 0) :
    let t := s.after (preemptionEntry c true)
    runOf t c = some { taken r with pc := (runBlock s c r).code } ∧
      (∀ l ∈ commitLanes s c, rd t (laneW l (linkAt (runBlock s c r))) = wd (2 ^ 35 + r.pc)) ∧
      SameBut s t ((commitLanes s c).map (laneW · (linkAt (runBlock s c r)))) := by
  intro t
  have hmq : (s.withRun c (taken r)).memOk = true := withRun_memOk hm c _
  have hlanes : storeLanes (s.withRun c (taken r)) c = commitLanes s c := if_pos hc
  have hrun : runOf ((s.withRun c (taken r)).after (putCtx c (linkAt (runBlock s c r)) (wd (2 ^ 35 + r.pc)))) c = some (taken r) := by
    rw [runOf, (onWords_putCtx c _ _).lan]
    exact withRun_runOf s c _
  rw [show t = _ from (preemptionEntry_takes h hdue hx hy).trans (after_setRun hrun), withRun_runOf, withRun_rd]
  refine ⟨rfl, fun l hl => putCtx_rd_same hmq (hlanes ▸ hl), fun b hb => ?_⟩
  rw [withRun_rd]
  exact putCtx_sameBut hmq b (hlanes ▸ hb)

/-! ### The Bellows watchdog (R290) -/

section
variable {s : State} {c : Nat} {r : LaneRun} (h : runOf s c = some r)
include h

theorem bellowsWatchdog_waits (hlim : maskLimit r = false) : s.after (bellowsWatchdog c) = s := by
  simp [State.after, bellowsWatchdog, when, h, hlim]

theorem bellowsWatchdog_stops (hlim : maskLimit r = true) (hi : r.issued = 0) : s.after (bellowsWatchdog c) =
    ((s.after (dropRun c)).after (bgAgain r.item)).after (seq [bump (BEL + 3) 23 12 1, report (srcOf BEL) .bgStop r.item c]) := by
  rw [← after_seq_cons, ← after_seq_cons]
  exact after_congr (by simp [bellowsWatchdog, when, stopBackground, h, hlim, hi])
end

theorem stopped_lan (s : State) (c i d : Nat) :
    (((s.after (dropRun c)).after (bgAgain i)).after (seq [bump (BEL + 3) 23 12 1, report (srcOf BEL) .bgStop i d])).lan =
      { s.lan with run := sparseDrop s.lan.run c } := rfl

theorem stopped_bgOf (t : State) (i d j : Nat) :
    bgOf (t.after (seq [bump (BEL + 3) 23 12 1, report (srcOf BEL) .bgStop i d])) j = bgOf t j := rfl

/-! ### The obligation -/

theorem exec_itemDispatch (i : Nat) (s : State) : exec (.itemDispatch i) s = .next (s.begun.after (itemDispatch i)) := rfl
theorem exec_backgroundItemStart (p : Nat) (s : State) :
    exec (.backgroundItemStart p) s = .next (s.begun.after (backgroundItemStart p)) := rfl
theorem exec_preemptionPoint (s : State) : exec .preemptionPoint s = .next (s.begun.after preemptionPoint) := rfl
theorem exec_preemptionEntry (c : Nat) (agree : Bool) (s : State) :
    exec (.preemptionEntry c agree) s = .next (s.begun.after (preemptionEntry c agree)) := rfl
theorem exec_bellowsWatchdog (c : Nat) (s : State) : exec (.bellowsWatchdog c) s = .next (s.begun.after (bellowsWatchdog c)) := rfl

/-- An item whose turn has come starts on its home pair with the dispatch values (R241, R294). -/
theorem itemDispatch_runs {s : State} {i : Nat} {f : Flight} (hf : s.wav.flight = some f) (h : mayDispatch s i = true) :
    let t := s.after (itemDispatch i)
    runOf t (itemOf (rd s) i).pair = some (newRun (rd s) i f.n none) ∧ endOf t i = some .running ∧ t.mem = s.mem := by
  intro t
  have hrun := startRun_runOf s (itemOf (rd s) i).pair i f.n none
  rw [show t = _ from itemDispatch_starts hf h]
  exact ⟨hrun, sparseFind_put _ _ _, rfl⟩

/-- The pair's next background item starts in the slack, RUNNING, and the slots it kept are free (R297, R302). -/
theorem backgroundItemStart_runs {s : State} {p i : Nat} (hs : slackOpen s p = true) (hn : nodeOn s p = none)
    (hi : nextBackground s p = some i) :
    let t := s.after (backgroundItemStart p)
    runOf t p = some (newRun (rd s) i s.wav.n none) ∧ (bgOf t i).st = 2 ∧
      (∀ k ∈ (bgOf s i).slots, sparseFind t.bel.mark k = some 1) ∧ t.mem = s.mem := by
  intro t
  have hmem : ((s.after (releaseSlots i)).after (bgState i 2)).mem = s.mem := by rw [bgState_mem, releaseSlots_mem]
  have hrun := startRun_runOf ((s.after (releaseSlots i)).after (bgState i 2)) p i s.wav.n none
  rw [rd_of_mem hmem] at hrun
  have hst : (bgOf ((s.after (releaseSlots i)).after (bgState i 2)) i).st = 2 := bgState_st (Nat.succ_ne_zero 1)
  rw [show t = _ from backgroundItemStart_starts hn hs hi]
  refine ⟨hrun, ?_, fun k hk => ?_, ?_⟩
  · rw [startRun_bgOf]
    exact hst
  · rw [startRun_bel, bgState_mark, releaseSlots_mark]
    exact sparseFind_putAll 1 _ (.inr hk)
  · rw [startRun_mem, hmem]

/-- A masked run at its limit is stopped, and its item is READY again, counted (R290, R297). -/
theorem bellowsWatchdog_counts {s : State} {c : Nat} {r : LaneRun} (hm : s.memOk = true) (h : runOf s c = some r)
    (hlim : maskLimit r = true) (hi : r.issued = 0) :
    let t := s.after (bellowsWatchdog c)
    t.lan = { s.lan with run := sparseDrop s.lan.run c } ∧ (bgOf t r.item).st = 1 ∧
      rdF t (BEL + 3) 23 12 = min 4095 (rdF s (BEL + 3) 23 12 + 1) ∧ SameBut s t [BEL + 3] := by
  intro t
  have hrd : rd ((s.after (dropRun c)).after (bgAgain r.item)) = rd s := rd_of_mem (by rw [bgAgain_mem, dropRun_mem])
  obtain ⟨hsame, hcount⟩ := bump_report (s := (s.after (dropRun c)).after (bgAgain r.item)) (after_memOk _ (after_memOk _ hm)) (BEL + 3)
    (srcOf BEL) r.item c .bgStop (hi := 23) (lo := 12) (by decide) (by decide)
  rw [show t = _ from bellowsWatchdog_stops h hlim hi]
  simp only [SameBut, rdF, hrd] at hsame hcount
  refine ⟨stopped_lan s c r.item c, ?_, hcount, hsame⟩
  rw [stopped_bgOf, bgAgain_st]

/-- Settles O32, command by command: each starts, ends or redirects one run, and every reading of the next state is of the act that
wrote it last; a disagreement may end other background runs with the device's own fault, so it is followed as an invariant of the runs. -/
theorem itemsStartWhenTheirTurnComes : Obligations.ItemsStartWhenTheirTurnComes := by
  unfold Obligations.ItemsStartWhenTheirTurnComes
  refine ⟨fun s i p f _ => ⟨fun hf h => ?_, fun h => ?_, fun hs hn hi => ?_, fun hs hn => ?_, ?_⟩, fun s c r hm hc h => ?_⟩
  · exact ⟨_, exec_itemDispatch i s, itemDispatch_runs (s := s.begun) hf h⟩
  · exact (exec_itemDispatch i s).trans (congrArg _ (itemDispatch_waits (s := s.begun) h))
  · exact ⟨_, exec_backgroundItemStart p s, backgroundItemStart_runs (s := s.begun) hs hn hi⟩
  · exact (exec_backgroundItemStart p s).trans (congrArg _ (backgroundItemStart_waits (s := s.begun) hn hs))
  · exact ⟨_, exec_preemptionPoint s, rfl, rfl, fun c r h =>
      sparseFind_mapped (fun _ (r : LaneRun) => if r.cls = 2 then { r with request := true } else r) h⟩
  · have hm' : s.begun.memOk = true := hm
    have h' : runOf s.begun c = some r := h
    refine ⟨fun hdue hx hy => ?_, fun hdue hx hy => ?_, fun hdue hx => ?_, fun hdue => ?_, fun hlim hi => ?_, fun hlim => ?_⟩
    · obtain ⟨hrun, hlink, hsame⟩ := preemptionEntry_links h' hdue hx hm' hc hy
      exact ⟨_, _, exec_preemptionEntry c true s, hrun, rfl, rfl, rfl, rfl, hlink, hsame⟩
    · exact ⟨_, exec_preemptionEntry c true s, preemptionEntry_faults_runsOf h' hdue hx hm' true hy⟩
    · refine ⟨_, exec_preemptionEntry c false s, ?_⟩
      by_cases hy : (runBlock s c r).yLen = 0
      · have hrun := preemptionEntry_faults_runsOf h' hdue hx hm' false hy
        exact fun e he => hrun ▸ he
      · exact preemptionEntry_disagrees_runsIn h' hdue hx hm' hy
    · exact (exec_preemptionEntry c true s).trans (congrArg _ (preemptionEntry_waits h' true hdue))
    · exact ⟨_, exec_bellowsWatchdog c s, bellowsWatchdog_counts hm' h' hlim hi⟩
    · exact (exec_bellowsWatchdog c s).trans (congrArg _ (bellowsWatchdog_waits h' hlim))

end Sys2Proof.Machine
